-- ==== Sys2Proof/Word.lean ====
section
/-! DEFINITION. The scalar types of the PT-40: bytes, register words, the FP32 and 16-bit float codes, and the sorted table that holds sparse state. -/

namespace Sys2Proof

/-- One byte of a container, a datagram, a frame or the HBM. -/
abbrev Byte := BitVec 8

/-- A register value: all registers are 32 bits wide (chapter 00, Registers). -/
abbrev Word := BitVec 32

/-- The code of an FP32 value (R44). -/
abbrev F32 := BitVec 32

/-- The code of a 16-bit float (BF16 or FP16, R44). -/
abbrev F16 := BitVec 16

/-- A string of bytes, first byte at the lowest offset. -/
abbrev Bytes := List (BitVec 8)

/-- A sparse table: keys strictly rising, an absent key reads as the reader's default. -/
abbrev Tab (α : Type) := List (Nat × α)

end Sys2Proof
end

