-- ==== Sys2Proof/Syntax.lean ====
section
/-! DEFINITION. The commands of the PT-40: one constructor per row of spec/opcode_table.json, in the table's order, with the operands its rule needs. The operand structures stand first. -/

namespace Sys2Proof

/-- An HXP datagram as it reaches the port (R303, R305): IPv6 source and destination, UDP destination and source port, the header fields in header order, the payload; the VID and PCP of its 802.1Q tag, where it has one, and whether its packet was a fragment or had an extension header (R301). `trailer` is empty on the wire: the machine moves the COUNTER and TAG of a tagged message other than CRITICAL there (R306). -/
structure Dgram where
  src : Nat := 0
  dst : Nat := 0
  port : Nat := 46912
  sport : Nat := 46912
  ver : Nat := 1
  typ : Nat := 0
  flags : Nat := 0
  session : Nat := 0
  length : Nat := 0
  xid : Nat := 0
  frag : Nat := 0
  frags : Nat := 1
  round : Nat := 0
  status : Nat := 0
  crc : Nat := 0
  payload : Bytes := []
  vlan : Option (Nat × Nat) := none
  ext : Bool := false
  trailer : Bytes := []
  deriving DecidableEq, Repr, Inhabited

/-- A field-bus frame (R262, R281). `fmt`: 0 classical, 1 FD, 2 XL. -/
structure BusFrame where
  fmt : Nat := 0
  remote : Bool := false
  xtd : Bool := false
  id : Nat := 0
  brs : Bool := false
  esi : Bool := false
  sdt : Nat := 0
  vcid : Nat := 0
  sec : Bool := false
  af : Nat := 0
  data : Bytes := []
  deriving DecidableEq, Repr, Inhabited

/-- A party of the stitch counters (R334). -/
inductive Party where
  | tile (i : Nat)
  | engine (i : Nat)
  | supervisor
  | peer (i : Nat)
  deriving DecidableEq, Repr, Inhabited

/-- One stitch-counter operation (R323, R334). For a host peer, `session`, `xid` and `last` tell the SC message the record belongs to and whether it is its last record; `records` is how many records the message carries, `sport` its source port (R305), `tag` the COUNTER of a tagged message and whether its TAG verifies (R324). `forecast`: a tile's forecast work (R337, R339). `limitUs`: the supervisor's TAKE limit. -/
structure ScCall where
  party : Party := .supervisor
  counter : Nat := 0
  n : Nat := 0
  flags : Nat := 0
  xfer : Nat := 0
  len : Nat := 0
  session : Nat := 0
  xid : Nat := 0
  last : Bool := true
  records : Nat := 1
  sport : Nat := 46912
  tag : Option (Bytes × Bool) := none
  forecast : Bool := true
  limitUs : Nat := 1000000
  deriving DecidableEq, Repr, Inhabited

/-- One completed conversion at a tick (R135): the input, the raw value in the pin's unit (R438, R439) and the raw converter code that FROZEN_RAW compares. -/
structure Conv where
  input : Nat
  raw : F32
  code : Nat
  deriving DecidableEq, Repr, Inhabited

/-- The self-plate's own sensors at ingest close (R86), as FP16 in ring units. -/
structure SelfSens where
  die : List F16 := []
  hbmT : List F16 := []
  inlet : F16 := 0x7E00#16
  outlet : F16 := 0x7E00#16
  power : F16 := 0x7E00#16
  deriving DecidableEq, Repr, Inhabited

/-- How a transmit attempt ended (R288). -/
inductive AttemptEnd where
  | sent
  | lostArb
  | error (kind : Nat)
  deriving DecidableEq, Repr, Inhabited

/-- Which of a controller's three sources attempted: urgent slot, reference message, transmit queue (R276, R290). -/
inductive TxSource where
  | urgent
  | reference
  | queue
  deriving DecidableEq, Repr, Inhabited

/-- What is seen to hold through its filter time (R197): a comparator with its raw reading (R199), or a row whose condition already stands in the selvedge's state (rope, advisory, unknown). -/
inductive SvCond where
  | cmp (k reading : Nat)
  | row (r : Nat)
  deriving DecidableEq, Repr, Inhabited

/-- An advisory latch of R202 or R221. -/
inductive SvLatch where
  | trip (k : Nat)
  | unknown (k : Nat)
  | row (r : Nat)
  deriving DecidableEq, Repr, Inhabited

/-- Who writes a register (R391, R427): a host peer, or a firmware part of R390. -/
inductive Writer where
  | peer (p : Nat)
  | part (k : Nat)
  deriving DecidableEq, Repr, Inhabited

/-- What the supplies and straps show when a power-on reset is released (R408, R234). -/
structure PorInfo where
  orderFault : Bool := false
  vmain : Nat := 5600
  vfield : Nat := 2400
  vsafe : Nat := 1200
  straps : Nat := 2
  deriving DecidableEq, Repr, Inhabited

/-- The CDU identity store as a module reads it (R399): header, digest blocks, slot data (TARGET, cast-ons seen), gauge table. -/
structure IdsStore where
  header : Bytes := []
  blk0 : Option Bytes := none
  blk1 : Option Bytes := none
  slotA : Bytes × Nat := ([], 0)
  slotB : Bytes × Nat := ([], 0)
  gauge : Bytes := []
  deriving DecidableEq, Repr, Inhabited

/-- What the hardware shows during one cast-on (`ids`: the identity store, where it is not the one seen last, or nobody's; none: unchanged) (R399, R415, R416): PLL lock attempts needed (above 3: none locked), images that fail verification, self-test failures, the engines that take the channels of a failed one (R162), stack training failures, the last phase it reaches before it stalls (6: it completes), and the time taken. -/
structure CastInfo where
  pllAttempts : Nat := 1
  castBankBad : Bool := false
  partsBad : List Nat := []
  tilesBad : List Nat := []
  storesBad : List Nat := []
  enginesBad : List Nat := []
  busesBad : List Nat := []
  scBad : Bool := false
  stacksBad : List Nat := []
  ids : Option (Option IdsStore) := none
  moves : List (Nat × Nat) := []
  reach : Nat := 6
  timeMs : Nat := 700
  deriving DecidableEq, Repr, Inhabited

/-- The commands: one constructor per row of spec/opcode_table.json, in its order. -/
inductive Instr where
  | roundBoundary
  | ingestClose (sens : SelfSens)
  | forecastStart
  | residualGuard (late : List Nat)
  | allocator (runNs : Nat) (ecapLow : Bool)
  | capacityShortClear (kind index : Nat)
  | policyConflict (kind object : Nat) (clear : Bool)
  | leaseOut
  | leaseKeeperIssue
  | leaseKeeperLimit
  | adaptationSlice (region pos : Nat) (completed : Bool)
  | mirrorSweep
  | warmHoldEnd
  | loopTick (convs : List Conv)
  | inputRangeTimeout (n : Nat)
  | inputStale (n : Nat)
  | frozenWindowEnd (n : Nat)
  | inputRecovered (n : Nat)
  | sensorDisagree (g : Nat)
  | sensorDisagreeClear (g : Nat)
  | followingError (ch : Nat)
  | outputFault (m : Nat)
  | swap (ch : Nat)
  | bankSwapped (ch : Nat)
  | tripReset (ch : Nat)
  | loopRestart (cause : Nat)
  | engineQuarantined (e : Nat) (moves : List (Nat × Nat))
  | swatchArm (k : Nat)
  | swatchAbort (k : Nat)
  | swatchTrigger (k : Nat)
  | swatchDone (k : Nat)
  | traceEnable (b : Nat)
  | traceStopped (b : Nat)
  | cellParityError (kind index retries attempts : Nat) (pastGuard : Bool)
  | blockCrcMismatch (kind index attempts : Nat)
  | tileRemap
  | hbmUe (addr : Nat)
  | stackLost (stack cause : Nat)
  | regionOffline (region cause : Nat)
  | regionReset (region : Nat)
  | regionRestored (region : Nat) (failed : List Nat)
  | forceDemoted (plate : Nat)
  | plateRelease (plate : Nat)
  | modelActivate (d : Dgram)
  | modelFitTrialEnd (tRoll tStall : Nat)
  | telemetryFragment (d : Dgram)
  | bundleIncomplete (rack tag : Nat)
  | conditionPresent (c : SvCond)
  | comparatorUnknown (k reading : Nat)
  | ropeStateChange (z : Nat) (new : Nat × Nat)
  | rowHolding (r flow : Nat)
  | rowDelayExpiry (r flow : Nat)
  | rowClearHold (r : Nat)
  | dpArmed (k : Nat)
  | advisoryLapse (l : SvLatch)
  | drefStale
  | selvedgeFrameRepeat (kind : Nat)
  | massBalanceSecond
  | localiserTrigger (hpin : Nat × Nat)
  | leakLocated (result : Option (Nat × Nat × Nat))
  | selvedgeReset (d : Dgram)
  | isolate (d : Dgram)
  | isolateRelease (d : Dgram)
  | selvedgeRelock (d : Dgram)
  | relockDeadline
  | svSectionSwitched
  | chainWordSend
  | chainWordReceive (w : Word)
  | heartbeatSend
  | heartbeatReceive (bus : Nat) (f : BusFrame)
  | hbPathLost (path : Nat)
  | hbPathRestored (path : Nat)
  | claimIssued (reason : Nat)
  | claimPulse (us : Nat)
  | releasePulse (us : Nat)
  | claimHeldOff (us : Nat)
  | claimTimeout
  | claimLineFault (lowMs : Nat)
  | takeover
  | takeoverWatchEnd
  | dualActiveAbort (trigger object : Nat)
  | foreignDrive (m : Nat)
  | standbyQualified
  | qualificationLost (criterion : Nat)
  | handoverFailed
  | startupListenEnd
  | referenceMessage (bus : Nat) (f : BusFrame) (sof : Int)
  | mirrorReceive (d : Dgram)
  | mirrorLost (clear : Bool)
  | frameReceive (bus : Nat) (f : BusFrame × Nat)
  | pmLock (bus n : Nat)
  | pmRelease (bus n : Nat)
  | pmLockTimeout (bus n : Nat)
  | txMessageMark (m : Nat)
  | txAttemptEnd (bus : Nat) (src : TxSource) (res : AttemptEnd) (delay : Nat)
  | idConflict (bus id : Nat) (xtd : Bool)
  | txCommit (bus : Nat) (host : Bool)
  | txCancel (bus tag : Nat) (started : Bool)
  | idReleased (bus id : Nat) (xtd : Bool)
  | busOff (bus kind : Nat)
  | recover (bus : Nat)
  | busRecovered (bus : Nat)
  | autoRestart (bus : Nat)
  | autoDwellEnd (bus : Nat)
  | ttSyncLost (bus : Nat)
  | sleep (bus : Nat)
  | idleSleep (bus : Nat)
  | busSleep (bus : Nat)
  | wake (bus : Nat)
  | busWake (bus cause : Nat) (f : BusFrame)
  | busCtrlQuarantined (bus cause : Nat)
  | linkUp (rate ifaces : Nat)
  | linkDown (cause corr uncorr : Nat)
  | linkRateAttempt
  | reg (d : Dgram)
  | bulkWrite (d : Dgram)
  | bulkStatus (d : Dgram)
  | bulkRead (d : Dgram)
  | doorbell (d : Dgram)
  | dataBoundComplete (peer xfer : Nat)
  | dataLate (peer xfer : Nat)
  | notify
  | retransmit (peer xid : Nat)
  | ack (d : Dgram)
  | attestReport (d : Dgram)
  | attestChain (d : Dgram)
  | roleSwap (d : Dgram)
  | reknit (d : Dgram)
  | reknitFull (d : Dgram)
  | reknitApplied
  | trialAccept (d : Dgram)
  | trialAccepted
  | frogBack (d : Dgram)
  | froggedBack
  | idsWritten
  | firmwareCommit (d : Dgram)
  | firmwareActivate
  | firmwareReverted (part : Nat)
  | rollbackFloorRise (part : Nat)
  | firewallBlocked (part addr : Nat)
  | keySet (d : Dgram)
  | swatchStart (d : Dgram)
  | post (c : ScCall)
  | take (c : ScCall)
  | try_ (c : ScCall)
  | dec (c : ScCall)
  | read (c : ScCall)
  | set (c : ScCall)
  | scRelease (c : ScCall)
  | scTakeTimeout (counter : Nat) (party : Party)
  | scBlockQuarantined
  | eventsDropped
  | persistentProgram
  | wallSet (peer : Nat)
  | wallSlew (peer : Nat)
  | wallSlewed
  | pstPageLoad (page : Nat)
  | eventExport (peer : Nat)
  | powerOnReset (p : PorInfo)
  | brownOutReset
  | resetN (lowUs : Nat)
  | castOn (c : CastInfo)
  | reset (d : Dgram)
  | supervisorRestart (d : Dgram)
  | ctlReset
  | hstReset
  | blockReset (kind index : Nat) (pass : Bool)
  | supplyDip (vmain : Nat)
  | dipShed
  | supplyDipEnd (vmain vmin : Nat)
  | vsafeLow (v : Nat)
  | vsafeRecover (v : Nat)
  | vfieldLow (v : Nat) (clear : Bool)
  | vfieldOverload (p : Nat) (clear : Bool)
  | vmainHigh (v : Nat) (clear : Bool)
  | clockFault (clk : Nat)
  | referenceLoss
  | oscTolerance (dev : Int) (clear : Bool)
  | watchdogExpiry
  | thermalShed (stage temp : Nat)
  | thermalShedExit (temp : Nat)
  | selfCoolantHigh (inlet : Nat) (clear : Bool)
  | fabricFault (unit cls addr : Nat)
  | coreLockstep (stage : Nat)
  | freeze (d : Dgram)
  | freezeNFall (lowNs : Nat)
  | freezePoint
  | thaw (d : Dgram)
  | freezeNRise
  | tapThaw
  | idcode
  | frzStatus
  | scanSel (dr : BitVec 64)
  | scanData
  | scanCrc
  | bypass (scan : Nat × Bool)
  | cntClear
  | registerWrite (w : Writer) (addr : Nat) (value : Word)
  | comparatorClears (k reading : Nat)
  | svInputUnknownClear (k reading : Nat)
  | dpDisarmed (k : Nat)
  | claimWithdrawn
  | claimLineFaultClear
  | transferForgotten (peer xfer : Nat)
  | trstN
  deriving DecidableEq, Repr, Inhabited

end Sys2Proof
end

