-- ==== Sys2Proof/Decode.lean ====
section
/-! DEFINITION. The command that a table word spells. No row of spec/opcode_table.json gives a command bits (each row's field list is empty), so no word spells one. -/

namespace Sys2Proof

/-- The command that the low `nbits` bits of `w` spell: none, for no row has bits. -/
def decodeTableWord (_nbits _w : Nat) : Option Instr := none

end Sys2Proof
end

