-- ==== Sys2Proof/Config.lean ====
section
/-! DEFINITION. What an implementation fixes and the spec leaves open: free values (opaque, no body) and the public-key primitives that the spec names by standard only. -/

namespace Sys2Proof

/-- A value that the spec leaves open: applied to the free-value counter of State, a fresh value each time. Nothing constrains it. -/
opaque Config.freeWord : Nat → BitVec 32

/-- As `freeWord`, for a number without a stated range. -/
opaque Config.freeNat : Nat → Nat

/-- Falcon-1024 verification (R373, R392): public key, message digest, signature. The spec names the standard and gives no algorithm. -/
opaque Config.falconVerify : Bytes → Bytes → Bytes → Bool

/-- Falcon-1024 signing with the identity key (R397): the signature over a digest. The private key is in no state (R396). -/
opaque Config.falconSign : Bytes → Bytes

/-- The Falcon-1024 public key of a certificate of the chain (R396): 1 root, 2 manufacturing, 3 module. -/
opaque Config.identityKey : Nat → Bytes

/-- The name in a certificate's subject, the module's serial number for kind 3 (R396). -/
opaque Config.certName : Nat → Bytes

/-- Not before and not after of a certificate (R396). -/
opaque Config.certValidity : Nat → Bytes

/-- The issuer's signature in a certificate (R396). -/
opaque Config.certSignature : Nat → Bytes

/-- The two Elvael firmware key digests held in ROM (R392). -/
opaque Config.fwKeyDigest : Nat → Bytes

/-- How long a container takes to be written to a pattern slot, in ns (R377, R383: within 2 s): slot, 1 CURRENT or 2 NEXT, and free-value count. -/
opaque Config.slotWriteNs : Nat → Nat → Nat

/-- An attribute of an operator as a number: opcode, attribute bytes, which attribute (R76 gives the attribute area, and no layout of it). -/
opaque Config.attrNat : Nat → Bytes → Nat → Nat

/-- An attribute of an operator as an FP32 value: as `attrNat` (R78, R79). -/
opaque Config.attrF32 : Nat → Bytes → Nat → F32

/-- A table of the TABLES section (R78 gives its contents, and no layout): section bytes, table number; lower and upper end, reciprocal step, values. -/
opaque Config.tableAt : Bytes → Nat → F32 × F32 × F32 × List F32

/-- The temperature of IEC 60751 for a resistance (R439, R441): whether the element is a Pt1000, corrected resistance in Ω. The spec names the standard and gives no formula. -/
opaque Config.rtdTemp : Bool → F32 → F32

/-- The resistance of IEC 60751 for a temperature, the inverse that R199 needs: Pt1000, °C. -/
opaque Config.rtdOhm : Bool → F32 → F32

/-- A forecast by one of Elvael's own models (R73, R86), whose contents the spec does not give: round, step and output. -/
opaque Config.selfModel : Nat → Nat → Nat → F16

/-- The set-point trims that the forecasts of a round write for a channel (R34, R147): the spec gives no rule for them. -/
opaque Config.trims : Nat → Nat → List (BitVec 16)

/-- The gradient of a slice's squared error by one adapter element (R98, R99: not part of the bit-exact commitment): plate, round, element; the squared error. -/
opaque Config.gradient : Nat → Nat → Nat → F32 → F32

/-- What kind 4 read-out segments hold (R462: the scan map of the die revision): segment index, word. -/
opaque Config.unitChain : Nat → Nat → BitVec 32

/-- Length in words of a unit's flip-flop chain (R462: per unit, by the scan map). -/
opaque Config.unitWords : Nat → Nat

/-- Contents of a tile store or region store word that no rule of the spec fixes (R462): segment kind, index, word, free-value count. -/
opaque Config.storeWord : Nat → Nat → Nat → Nat → BitVec 32

/-- Measured draw of a supply, 0 VMAIN in W and 1 VFIELD in 0.1 W (R430): supply, instant, free-value count. No command brings these. -/
opaque Config.draw : Nat → Nat → Nat → BitVec 16

/-- The loop layer's command of a DIO output (R212, R456): no rule says what commands it. Tick, pin. -/
opaque Config.dioCommand : Nat → Nat → Bool

/-- The ECAP_N line at an instant, true where either module asserts it, as the lease keeper reads it (R123, R217): LEASE_KEEPER_ISSUE has no operand for it. -/
opaque Config.ecapLine : Nat → Bool

/-- The head entry of an idle bus's queue is on the wire, its SOF bit begun (R280, R292): bus, instant, tag. No command brings a SOF bit. -/
opaque Config.headStarted : Nat → Nat → Nat → Bool

end Sys2Proof
end

