-- ==== Sys2Proof/Machine/Bytes.lean ====
section
/-! DEFINITION. Sparse tables, bit fields, byte strings in little-endian order, CRCs: the plain operations on data that every block uses. -/

namespace Sys2Proof.Machine

/-- Value of a sparse table at a key. -/
def tget {α : Type} : Tab α → Nat → Option α
  | [], _ => none
  | (k', v) :: t, k => if k' = k then some v else tget t k

/-- Value of a sparse table, with the default of an absent key. -/
def tgetD {α : Type} (t : Tab α) (k : Nat) (d : α) : α := (tget t k).getD d

/-- Sets a key of a sparse table, keeping keys strictly rising. -/
def tset {α : Type} : Tab α → Nat → α → Tab α
  | [], k, v => [(k, v)]
  | (k', v') :: t, k, v =>
    if k = k' then (k, v) :: t
    else if k < k' then (k, v) :: (k', v') :: t
    else (k', v') :: tset t k v

/-- Removes a key. -/
def tdel {α : Type} (t : Tab α) (k : Nat) : Tab α := t.filter (fun e => e.1 != k)

/-- Changes the value at a key, from a default where absent. -/
def tmod {α : Type} (t : Tab α) (k : Nat) (d : α) (f : α → α) : Tab α := tset t k (f (tgetD t k d))

/-- Maps a function over every listed value. -/
def tmap {α β : Type} (t : Tab α) (f : α → β) : Tab β := t.map (fun e => (e.1, f e.2))

/-- The i-th element, or a default. -/
def nth {α : Type} (l : List α) (i : Nat) (d : α) : α := (l[i]?).getD d

/-- Replaces the i-th element where it exists. -/
def setNth {α : Type} (l : List α) (i : Nat) (v : α) : List α := l.set i v

/-- Bit `i` of a number. -/
def bitOf (n i : Nat) : Bool := n / 2 ^ i % 2 = 1

/-- A Bool as the bit it is. -/
def b2n (b : Bool) : Nat := if b then 1 else 0

/-- Bits [lo + w − 1 : lo] of a number. -/
def bits (n lo w : Nat) : Nat := n / 2 ^ lo % 2 ^ w

/-- A value cut to `w` bits in two's complement. -/
def twos (w : Nat) (i : Int) : Nat := (i % (2 ^ w : Nat)).toNat

/-- The signed value of a `w`-bit two's complement code. -/
def sgn (w : Nat) (n : Nat) : Int :=
  let m := n % 2 ^ w
  if m < 2 ^ (w - 1) then (m : Int) else (m : Int) - (2 ^ w : Nat)

/-- Saturation of an exact integer to [lo, hi]. -/
def clampI (lo hi x : Int) : Int := if x < lo then lo else if hi < x then hi else x

/-- Saturating increment of a counter with largest value `top`. -/
def satAdd (top n k : Nat) : Nat := if n + k ≤ top then n + k else top

/-- `n` little-endian in `k` bytes (R11). -/
def le : Nat → Nat → Bytes
  | _, 0 => []
  | n, k + 1 => BitVec.ofNat 8 n :: le (n / 256) k

/-- The number that little-endian bytes hold (R11). -/
def unLe : Bytes → Nat
  | [] => 0
  | b :: t => b.toNat + 256 * unLe t

/-- `n` bytes of a string from offset `o`; bytes past its end read as zero. -/
def slice (bs : Bytes) (o n : Nat) : Bytes :=
  let x := (bs.drop o).take n
  x ++ List.replicate (n - x.length) 0#8

/-- Little-endian field of `n` bytes at offset `o`. -/
def fld (bs : Bytes) (o n : Nat) : Nat := unLe (slice bs o n)

/-- The byte at offset `o`. -/
def byteAt (bs : Bytes) (o : Nat) : Nat := (nth bs o 0#8).toNat

/-- Every byte is zero. -/
def allZero (bs : Bytes) : Bool := bs.all (· == 0#8)

/-- Bytes [o, o + n) of a string are zero. -/
def zeroAt (bs : Bytes) (o n : Nat) : Bool := allZero (slice bs o n)

/-- Big-endian number of a string of bytes: the IPv6 addresses of R304 are in network order. -/
def unBe (bs : Bytes) : Nat := bs.foldl (fun a b => a * 256 + b.toNat) 0

/-- One bit step of the reflected CRC-32C (R25). -/
def crcStep (c : BitVec 32) : BitVec 32 :=
  if c.getLsbD 0 then (c >>> 1) ^^^ 0x82F63B78#32 else c >>> 1

/-- The CRC register after one byte. -/
def crcByte (c : BitVec 32) (b : BitVec 8) : BitVec 32 :=
  let x := c ^^^ b.setWidth 32
  crcStep (crcStep (crcStep (crcStep (crcStep (crcStep (crcStep (crcStep x)))))))

/-- The CRC register after a string, from a given register. -/
def crcFrom (c : BitVec 32) (bs : Bytes) : BitVec 32 := bs.foldl crcByte c

/-- CRC-32C of R25. -/
def crc32c (bs : Bytes) : Nat := (crcFrom 0xFFFFFFFF#32 bs ^^^ 0xFFFFFFFF#32).toNat

/-- One step of the CRC-4 of R239. -/
def crc4Step (crc : Nat) (b : Bool) : Nat :=
  let fb := bitOf crc 3 != b
  let c := crc * 2 % 16
  if fb then Nat.xor c 3 else c

/-- CRC-4 over bits 31 to 4 of a chain word (R239). -/
def crc4 (w : Nat) : Nat :=
  ((List.range 28).map (fun i => bitOf w (31 - i))).foldl crc4Step 0xF

end Sys2Proof.Machine
end

