-- ==== Sys2Proof/Machine/PatternTypes.lean ====
section
/-! DEFINITION. The pattern and model containers as parsed data: one structure per record layout of the chapters that R372 names. -/

namespace Sys2Proof.Machine

/-- Fabric section (R376). -/
structure FabricRec where
  weights : List Nat := [1, 1, 1, 1, 1, 1, 2, 1, 1]
  seed : Nat := 0
  deriving DecidableEq, Repr, Inhabited

/-- Forecast model binding record (R103). Fields default to the record's own defaults. -/
structure BindRec where
  expDigest : Bytes := []
  keyRef : Nat := 0
  mode : Nat := 2
  horizon : Nat := 24
  period : Nat := 1000
  minRate : Nat := 500
  band : Nat := 250
  demote : Nat := 3
  promote : Nat := 200
  confMin : Nat := 0
  warmHold : Nat := 4800
  mirrorS : Nat := 10
  adaptEn : Bool := true
  learnRate : F32 := 0x39800000#32
  srSeed : Nat := 1
  plates : Nat := 1
  deriving DecidableEq, Repr, Inhabited

/-- One channel entry of a plate record (R85): kind, index in the kind, number in the bundle. -/
structure PlateChan where
  kind : Nat
  index : Nat
  num : Nat
  deriving DecidableEq, Repr, Inhabited

/-- One plate-table skeleton record (R85). -/
structure PlateRec where
  plate : Nat := 0
  rack : Nat := 255
  manifold : Nat := 0
  position : Nat := 0
  chans : List PlateChan := []
  rated : Nat := 0
  floor : Nat := 0
  band : Nat := 0
  fcEnable : Bool := false
  adaptEnable : Bool := false
  selfPlate : Bool := false
  nHot : Nat := 0
  nStack : Nat := 0
  estCh : Nat := 0
  addr : Nat := 0
  limHot : Nat := 0
  limStack : Nat := 0
  limOut : Nat := 0
  deriving DecidableEq, Repr, Inhabited

/-- Rack budget and margin (R130, 0x40 + r × 8), in W. -/
structure RackRec where
  budget : Nat
  margin : Nat
  deriving DecidableEq, Repr, Inhabited

/-- Manifold entry of the allocator section (R130). Channel 0xFFFF is none. -/
structure ManifoldRec where
  flowCh : Nat
  valveCh : Nat
  dt : Nat
  supplyCh : Nat
  deriving DecidableEq, Repr, Inhabited

/-- Heat-exchanger train entry (R130). -/
structure TrainRec where
  ua : F32
  statusCh : Nat
  deriving DecidableEq, Repr, Inhabited

/-- Allocator and leases record (R130). -/
structure AllocRec where
  validity : Nat := 20
  bisect : Nat := 20
  passes : Nat := 2
  cv : F32 := 0x4581B000#32
  capture : Nat := 950
  demandHead : Nat := 50
  rampUp : Nat := 10
  provEn : Nat := 1
  ackLag : Nat := 10
  provMinStep : Nat := 10
  fbMargin : Nat := 200
  rowDt : Nat := 1000
  rowRetMax : Nat := 5500
  fwRetMax : Nat := 5000
  defaultClass : Nat := 0
  classWeight : List F32 := [0x3F800000#32, 0x3F800000#32, 0x3F800000#32, 0x3F800000#32]
  allowFail : F32 := 0x7F800000#32
  rowLimit : Nat := 0xFFFFFFFF
  rowFlowCh : Nat := 0xFFFF
  speedCh : Nat := 0xFFFF
  tfwCh : Nat := 0xFFFF
  allowCh : Nat := 0xFFFF
  racks : List RackRec := []
  manifolds : List ManifoldRec := []
  trains : List TrainRec := []
  deriving DecidableEq, Repr, Inhabited

/-- Loop channel record (R167). The two banks are the eight raw words of R168 each. -/
structure ChanRec where
  ch : Nat := 0
  engine : Nat := 0
  enable : Bool := false
  action : Bool := false
  spSafe : Bool := false
  extSp : Bool := false
  trims : Bool := false
  cascInner : Bool := false
  bankB : Bool := false
  period : Nat := 1
  phase : Nat := 0
  pv : Nat := 0
  outMap : Nat := 0xFFFF
  outer : Nat := 0xFFFF
  unkAction : Nat := 1
  spLoss : Nat := 0
  sp : Int := 0
  spLo : Int := 0
  spHi : Int := 0
  spRate : Int := 0x7FFF
  extIn : Nat := 0xFFFF
  extOff : Int := 0
  extGain : Int := 0
  extShift : Nat := 0
  spFail : Int := 0
  cascOff : Int := 0
  cascGain : Int := 0
  cascShift : Nat := 0
  feAction : Nat := 0
  initOut : Int := 0
  bankA : List Nat := []
  bankBw : List Nat := []
  deriving DecidableEq, Repr, Inhabited

/-- Input health record (R169). -/
structure InputRec where
  input : Nat := 0
  source : Nat := 0
  subst : Bool := false
  frozenRaw : Bool := false
  frozenRef : Bool := false
  zero : F32 := 0#32
  invFs : F32 := 0#32
  rangeLo : Int := 0
  rangeHi : Int := 0
  rangeTime : Nat := 100
  staleTime : Nat := 0
  frozenTime : Nat := 100
  frozenDelta : Int := 0
  refInput : Nat := 0xFFFF
  refDelta : Int := 0
  recoverTime : Nat := 1000
  substGroup : Nat := 0
  deriving DecidableEq, Repr, Inhabited

/-- Vote group record (R170). -/
structure GroupRec where
  group : Nat := 0
  three : Bool := false
  safeHigh : Bool := false
  fcVoter : Bool := false
  members : List Nat := []
  disBand : Int := 0
  disTime : Nat := 100
  fcPlate : Nat := 0
  fcKind : Nat := 0
  fcIndex : Nat := 0
  deriving DecidableEq, Repr, Inhabited

/-- Output map record (R171). Target 1 AOUT, 2 PWM, 3 field-bus signal. -/
structure MapRec where
  num : Nat := 0
  target : Nat := 0
  piecewise : Bool := false
  index : Nat := 0
  readback : Nat := 0xFFFF
  rbTol : Int := 0
  rbTime : Nat := 0
  y : List F32 := []
  deriving DecidableEq, Repr, Inhabited

/-- Fallback estimator slot record (R172). -/
structure EstRec where
  slot : Nat := 0
  a : Int := 0
  kH : Int := 0
  kS : Int := 0
  kO : Int := 0
  initS : Int := 0x4000
  deriving DecidableEq, Repr, Inhabited

/-- Comparator record of the selvedge section (R231). `input` 0xFFFF is internal. -/
structure CmpRec where
  enable : Bool := false
  above : Bool := false
  pulse : Bool := false
  input : Nat := 0xFFFF
  thr : F32 := 0#32
  hyst : F32 := 0#32
  filt : Nat := 1
  deriving DecidableEq, Repr, Inhabited

/-- Rope record (R231). -/
structure RopeRec where
  enable : Bool := false
  racks : Nat := 0
  valves : Nat := 0
  deriving DecidableEq, Repr, Inhabited

/-- Matrix row record (R231, R208). Action sets are the bit masks of R208. -/
structure RowRec where
  imm : Nat := 0
  delayed : Nat := 0
  delay : Nat := 0
  racks : Nat := 0
  valves : Nat := 0
  deriving DecidableEq, Repr, Inhabited

/-- Mass-balance record (R231). -/
structure MbRec where
  enable : Bool := false
  sup : Nat := 0
  ret : Nat := 0
  gauge : Nat := 0
  deriving DecidableEq, Repr, Inhabited

/-- Substitute group record (R231, R224). -/
structure SubstRec where
  group : Nat := 0
  safeHigh : Bool := false
  offset : Int := 0
  limit : Int := 0
  deriving DecidableEq, Repr, Inhabited

/-- Localiser sensor (R231). -/
structure LocRec where
  manifold : Nat := 0
  branch : Nat := 0
  pos : Nat := 0
  deriving DecidableEq, Repr, Inhabited

/-- Selvedge section (R231), with its 2688 raw bytes for the digest of R17. -/
structure SvSection where
  raw : Bytes := []
  ecapLevel : Nat := 40
  tripFrac : Nat := 20
  recoverFrac : Nat := 50
  standby : Nat := 0
  clearHold : Nat := 2000
  dpGrace : Nat := 3000
  mbThresh : Nat := 50
  subOffset : Nat := 300
  locDrop : Nat := 50
  flMin : F32 := 0#32
  dStatic : F32 := 0#32
  plateLo : Nat := 500
  plateHi : Nat := 15000
  buses : Nat := 0xFFFF
  waveSpeed : Nat := 1200
  lvArea : F32 := 0#32
  makeupIn : Nat := 0xFFFF
  drefCh : Nat := 0
  busIds : List Nat := []
  pumpDio : List Nat := []
  isoOut : List Nat := []
  cmps : List CmpRec := []
  ropes : List RopeRec := []
  rows : List RowRec := []
  mb : List MbRec := []
  subst : List SubstRec := []
  loc : List LocRec := []
  deriving DecidableEq, Repr, Inhabited

/-- Redundancy record (R259). `hbIds`: bus 0 slot A, bus 0 slot B, bus 8 slot A, bus 8 slot B. -/
structure RedRec where
  hot : Bool := true
  partner : Nat := 0
  hbIds : List Nat := []
  deriving DecidableEq, Repr, Inhabited

/-- Bus record (R298). -/
structure BusRec where
  enable : Bool := false
  restricted : Bool := false
  auto : Bool := false
  tt : Bool := false
  sleepOk : Bool := false
  large : Bool := false
  autoRecover : Bool := false
  triple : Bool := false
  dataFmt : Nat := 0
  modeSw : Bool := false
  nbrp : Nat := 0
  ntseg1 : Nat := 0
  ntseg2 : Nat := 0
  nsjw : Nat := 0
  dbrp : Nat := 0
  dtseg1 : Nat := 0
  dtseg2 : Nat := 0
  dsjw : Nat := 0
  tdcOff : Nat := 0
  maxAttempts : Nat := 8
  refId : Nat := 0
  idleSleep : Nat := 0
  lockMax : Nat := 20
  firstFilter : Nat := 0
  filterCount : Nat := 0
  wakeId : Nat := 0
  wakeMask : Nat := 0
  wakeDlc : Nat := 0
  wakeData : Nat := 0
  cands : List (Nat × Nat) := []
  autoFrames : Nat := 4
  autoDwell : Nat := 10
  pmReaders : Nat := 0
  deriving DecidableEq, Repr, Inhabited

/-- Filter entry (R298, R281). -/
structure FilterRec where
  id : Nat := 0
  xtd : Bool := false
  mask : Nat := 0
  fmts : Nat := 0
  prio : Bool := false
  dest : Nat := 0
  index : Nat := 0
  vcid : Nat := 0xFFFF
  poff : Nat := 0
  cap : Nat := 0
  deriving DecidableEq, Repr, Inhabited

/-- Transmit message (R298, R286). -/
structure TxMsgRec where
  msg : Nat := 0
  bus : Nat := 0
  owner : Nat := 0
  idA : Nat := 0
  idB : Nat := 0
  fmt : Nat := 0
  len : Nat := 0
  pr : Nat := 1
  ph : Nat := 0
  mark : Nat := 0
  sdt : Nat := 0
  vcid : Nat := 0
  sec : Nat := 0
  af : Nat := 0
  deriving DecidableEq, Repr, Inhabited

/-- Receive signal (R298, R285). -/
structure RxSigRec where
  sig : Nat := 0
  filter : Nat := 0
  start : Nat := 0
  len : Nat := 1
  signed : Bool := false
  factor : F32 := 0#32
  offset : F32 := 0#32
  period : Nat := 0
  deriving DecidableEq, Repr, Inhabited

/-- Transmit signal (R298, R287). -/
structure TxSigRec where
  target : Nat := 0
  msg : Nat := 0
  start : Nat := 0
  len : Nat := 1
  signed : Bool := false
  factor : F32 := 0#32
  offset : F32 := 0#32
  init : Nat := 0
  deriving DecidableEq, Repr, Inhabited

/-- Field-bus section (R298). -/
structure FbSection where
  buses : List BusRec := []
  filters : List FilterRec := []
  txMsgs : List TxMsgRec := []
  rxSigs : List RxSigRec := []
  txSigs : List TxSigRec := []
  deriving DecidableEq, Repr, Inhabited

/-- Peer record (R304). -/
structure PeerRec where
  index : Nat := 0
  kind : Nat := 0
  rack : Nat := 0
  rights : Nat := 0
  keyRef : Nat := 0xFFFF
  addr : Nat := 0
  deriving DecidableEq, Repr, Inhabited

/-- Key reference record (R304) with its key data. -/
structure KeyRec where
  ref : Nat := 0
  kind : Nat := 0
  data : Bytes := []
  deriving DecidableEq, Repr, Inhabited

/-- Host peers and key references section (R304). -/
structure PeerSection where
  port : Nat := 46912
  vid : Nat := 0
  unicast : Nat := 0
  telGroup : Nat := 0
  svGroup : Nat := 0
  peers : List PeerRec := []
  keys : List KeyRec := []
  deriving DecidableEq, Repr, Inhabited

/-- One code record of the event rate limits (R368). -/
structure RateRec where
  code : Nat
  r : Nat
  b : Nat
  deriving DecidableEq, Repr, Inhabited

/-- Event rate limits section (R368). -/
structure RateSection where
  r : Nat := 100
  b : Nat := 20
  recMin : Nat := 1
  codes : List RateRec := []
  deriving DecidableEq, Repr, Inhabited

/-- I/O map record (R441). Kind 1 AIN, 2 HPIN, 3 AOUT, 4 PIN, 5 PWM, 6 LEAK, 7 DIO. -/
structure IoRec where
  kind : Nat := 0
  index : Nat := 0
  mode : Nat := 0
  enable : Bool := false
  a : F32 := 0#32
  b : F32 := 0#32
  param : Nat := 0
  deriving DecidableEq, Repr, Inhabited

/-- Gauge record (R400). -/
structure GaugeRec where
  index : Nat := 0
  kind : Nat := 0
  gain : F32 := 0x3F800000#32
  offset : F32 := 0#32
  tol : F32 := 0#32
  deriving DecidableEq, Repr, Inhabited

/-- A pattern (R371, R372): header fields and the fifteen configuration sections, already decoded. -/
structure Pattern where
  serial : Nat := 0
  version : Nat := 1
  digest : Bytes := []
  nextAnchor : Bytes := []
  signerDigest : Bytes := []
  fabric : FabricRec := {}
  io : List IoRec := []
  inputs : List InputRec := []
  groups : List GroupRec := []
  maps : List MapRec := []
  chans : List ChanRec := []
  est : List EstRec := []
  sv : SvSection := {}
  fb : FbSection := {}
  plates : List PlateRec := []
  bind : BindRec := {}
  alloc : AllocRec := {}
  red : RedRec := {}
  peers : PeerSection := {}
  rates : RateSection := {}
  deriving DecidableEq, Repr, Inhabited

/-- Tensor descriptor (R76, GRAPH). -/
structure TensorRec where
  fmt : Nat := 0
  dims : List Nat := []
  scale : F32 := 0#32
  kind : Nat := 0
  scaleId : Nat := 0xFFFF
  off : Nat := 0
  len : Nat := 0
  deriving DecidableEq, Repr, Inhabited

/-- Operator record (R76, GRAPH) with its attribute bytes. -/
structure OpRec where
  opcode : Nat := 0
  inputs : List Nat := []
  out : Nat := 0
  attr : Bytes := []
  deriving DecidableEq, Repr, Inhabited

/-- Binding entry (R80). -/
structure BindEntry where
  tensor : Nat := 0
  kind : Nat := 0
  index : Nat := 0
  window : Nat := 1
  stride : Nat := 1
  offset : F32 := 0#32
  scale : F32 := 0#32
  deriving DecidableEq, Repr, Inhabited

/-- ADAPTER_SCHEMA entry (R74): operator index, rank, offsets of the two factors in the adapter. -/
structure SchemaEntry where
  op : Nat := 0
  rank : Nat := 1
  aOff : Nat := 0
  bOff : Nat := 0
  deriving DecidableEq, Repr, Inhabited

/-- A model container (R74) as the loader reads it; `raw` is the container's bytes. -/
structure ModelC where
  raw : Bytes := []
  cls : Nat := 1
  mode : Nat := 2
  baseSize : Nat := 0
  adapterSize : Nat := 0
  minRuntime : Nat := 0
  digest : Bytes := []
  schemaDigest : Bytes := []
  keyRef : Nat := 0
  version : Nat := 0
  stateSize : Nat := 0
  tensors : List TensorRec := []
  ops : List OpRec := []
  data : Bytes := []
  tables : Bytes := []
  binds : List BindEntry := []
  schema : List SchemaEntry := []
  deriving DecidableEq, Repr, Inhabited

/-- A firmware image (R392) as the commit reads it. -/
structure FwImage where
  part : Nat := 0
  version : Nat := 0
  rollback : Nat := 0
  requires : List Nat := []
  digest : Bytes := []
  deriving DecidableEq, Repr, Inhabited

end Sys2Proof.Machine
end

