-- ==== Sys2Proof/Machine/ArrayTypes.lean ====
section
/-! DEFINITION. State of the forecast array (chapter 02), of the models and the round (chapter 03), and of the allocator and lease engine (chapter 04). Sample times are µs on the round-time axis (R312). -/

namespace Sys2Proof.Machine

/-- A tile position of a region (R71). `phys`: the physical tile that serves it; `quar`: the physical tile originally here is quarantined; `fresh`: a quarantine waits for its remap at the next t0; `down`: the position has no serving tile. `st` as FC_TILE_STATUS.STATE. `halves`: the plates whose adapters the two halves of the adapter buffer hold (R42). `lfsr` before its first load: DESIGN CHOICE 1 (R57 loads it at each adaptation phase). -/
structure TileSt where
  phys : Nat := 0
  st : Nat := 0
  quar : Bool := false
  fresh : Bool := false
  down : Bool := false
  err : Nat := 0
  cell : Nat := 0
  resend : Nat := 0
  lfsr : BitVec 32 := 1#32
  lfsrAt : Option Nat := none
  halves : Option Nat × Option Nat := (none, none)
  deriving DecidableEq, Repr, Inhabited

/-- A forecast region. `st`: 0 OFF, 1 LOADING, 2 SERVICE, 3 OFFLINE, 4 RESETTING. `move`: its plates wait to be placed elsewhere (R69). `out`: plates moved out under R69 with the position each had. -/
structure RegionSt where
  st : Nat := 0
  stackLost : Bool := false
  tiles : Tab TileSt := []
  ce : Nat := 0
  ue : Nat := 0
  cell : Nat := 0
  resend : Nat := 0
  move : Bool := false
  out : List (Nat × Nat) := []
  modelKb : Nat := 0
  deriving DecidableEq, Repr, Inhabited

/-- A spare of the pool (R39, R64). -/
structure SpareSt where
  bound : Option (Nat × Nat) := none
  quar : Bool := false
  home : Option Nat := none
  deriving DecidableEq, Repr, Inhabited

/-- A tensor while a model runs: format number of R76, dimensions, per-tensor scale, element codes, MX block scales. -/
structure TVal where
  fmt : Nat := 1
  dims : List Nat := []
  scale : F32 := 0x3F800000#32
  codes : List Nat := []
  mx : List Nat := []
  deriving DecidableEq, Repr, Inhabited

/-- A forecast of a plate (R90 to R94): its origin, the round that made it, its 24 steps of 82 FP16 values; `st`: 1 pending, 2 confirmed, 3 withdrawn. -/
structure FcRec where
  origin : Nat := 0
  round : Nat := 0
  st : Nat := 1
  steps : List (List F16) := []
  deriving DecidableEq, Repr, Inhabited

/-- A plate's acknowledgement block (R120). -/
structure AckSt where
  slot : Nat := 0xFF
  st : Nat := 0
  seq : Nat := 0
  cap : Nat := 0
  deriving DecidableEq, Repr, Inhabited

/-- A plate in the forecast round. `st`: 0 UNBOUND, 1 DEMOTED, 2 PROMOTED. `hist`: newest valid samples of each bundle channel, newest first; `meas`: each channel's newest sample of this round, a flagged one as its substitute (`hist` holds flagged ones at key 0x10000 + channel); `inlets`, `powers`: the round's valid inlet and package-power samples; `promAt`: the round whose guard promoted it; `noFcUntil`: first round in which a moved plate forecasts again; `traj`: the last trajectory of its slot (R84); `staged`: its windows in the input staging (R89); `fallback`: it uses the fallback estimator in this round (R33); `fromReg`: the region that could not place it. -/
structure PlateRun where
  st : Nat := 0
  forced : Bool := false
  place : Option (Nat × Nat) := none
  fromReg : Nat := 0
  noFcUntil : Nat := 0
  exc : Nat := 0
  inband : Nat := 0
  resid : F16 := 0#16
  tau0 : Option Nat := none
  rstate : Tab TVal := []
  fcs : List FcRec := []
  run : Option FcRec := none
  hist : Tab (List (Nat × F16)) := []
  meas : Tab F16 := []
  inlets : List F16 := []
  promAt : Option Nat := none
  powers : List F16 := []
  pbar : Option F32 := none
  lastIn : Tab F32 := []
  traj : List (List F16) := []
  staged : List F16 := []
  q : Nat := 0
  fallback : Bool := true
  ackNew : Bool := false
  ack : AckSt := {}
  lag : Nat := 0
  unacked : Bool := false
  floorSeen : Bool := false
  deriving DecidableEq, Repr, Inhabited

/-- A complete bundle waiting for ingest close (R87): its tag, its plate entries (position, acknowledgement bytes, samples of (time, channel values)). -/
structure BundleIn where
  tag : Nat := 0
  plates : List (Nat × Bytes × List (Int × List F16)) := []
  deriving DecidableEq, Repr, Inhabited

/-- A rack in the round (R87, R88). -/
structure RackRun where
  stale : Nat := 0
  lastTag : Option Nat := none
  ready : List BundleIn := []
  deriving DecidableEq, Repr, Inhabited

/-- The loaded model (R76 to R83). `st` as FC_MDL_STATUS.STATE; `next`: the model to be activated at the next t0, `begun` once its activation has begun; `cmd` the command that waits for the trial's end. -/
structure MdlSt where
  st : Nat := 0
  active : Option ModelC := none
  prev : Option ModelC := none
  lastCheck : Nat := 0
  k : Nat := 0
  rate : Nat := 0
  shortUs : Nat := 0
  shortB : Nat := 0
  startRound : Nat := 0
  keepAdapters : Bool := true
  fitDegraded : Bool := false
  streamed : Nat := 0
  prevFit : Nat × Nat × Bool := (0, 0, false)
  next : Option ModelC := none
  begun : Bool := false
  cmd : Option Dgram := none
  deriving DecidableEq, Repr, Inhabited

/-- The forecast array and the round. `held`: the container read from its copies before the interleave is re-formed (R67); `adLost`: plates whose adapter waits for the partner's mirror (R59, R67). `degraded` is FC_DEGRADED; `substA`, `substB` the latched counts (R97): late, stale, fallback, discarded, stale-5; `totals` their 60 s sums. -/
structure ArrSt where
  regions : Tab RegionSt := []
  spares : Tab SpareSt := []
  lostStacks : List Nat := []
  laidOut : List Nat := []
  unitsLost : List (Nat × Nat × Nat) := []
  reform : Bool := false
  held : Option Bytes := none
  adLost : List Nat := []
  plates : Tab PlateRun := []
  racks : Tab RackRun := []
  mdl : MdlSt := {}
  srSeed : Word := 1#32
  band : Nat := 0
  pause : Bool := false
  slices : Nat := 0
  slicePos : Tab Nat := []
  mirrorBad : Nat := 0
  mirrorApplied : Nat := 0
  sweepApplied : Nat := 0
  sweepBad : Nat := 0
  degraded : Nat := 0
  warmHold : Bool := false
  warmFrom : Nat := 0
  late : Nat := 0
  staleN : Nat := 0
  fallbackN : Nat := 0
  discarded : Nat := 0
  discardNow : Nat := 0
  stale5 : Nat := 0
  totals : List Nat := [0, 0, 0, 0, 0]
  lastSweep : Nat := 0
  unplaced : Bool := false
  deriving DecidableEq, Repr, Inhabited

/-- A statistics block's accumulation (R127 to R129): words 0 to 5 and 7, and the running window. Rack and row values in W, plate values in 0.1 W. -/
structure StatBlk where
  val : Nat := 0
  peak : Nat := 0
  avg1 : Nat := 0
  peak1 : Nat := 0
  avg60 : Nat := 0
  peak60 : Nat := 0
  miss1 : Nat := 0
  miss60 : Nat := 0
  stamp : Nat := 0
  sum1 : Nat := 0
  n1 : Nat := 0
  pk1 : Nat := 0
  m1 : Nat := 0
  sum60 : Nat := 0
  n60 : Nat := 0
  pk60 : Nat := 0
  m60 : Nat := 0
  deriving DecidableEq, Repr, Inhabited

/-- A plate in the lease engine. `kind`: 0 none, 1 FIRM, 2 PROVISIONAL, 3 RETRACT; `provRound`: the round whose forecast the outstanding provisional lease rests on; `provCap`: the provisional cap of R118 in this round. Caps in 0.1 W. -/
structure PlateLs where
  limit : Nat := 0
  firm : Nat := 0
  prev : Nat := 0
  kind : Nat := 0
  keeper : Bool := false
  cap : Nat := 0
  seq : Nat := 0
  flags : Nat := 0
  provRound : Nat := 0
  provCap : Option Nat := none
  kCap : Nat := 0
  kRamp : Nat := 0
  kSeq : Nat := 0
  kFlags : Nat := 0
  cls : Option Nat := none
  pcap : Nat := 0xFFFFFF
  theta : Nat := 0
  lo : Nat := 0
  ecap : Option Nat := none
  stat : StatBlk := {}
  deriving DecidableEq, Repr, Inhabited

/-- The allocator and lease engine. `allocQuar`, `leaseQuar`: the block is quarantined (R24, R421). `unk`: capacity inputs unknown, by (kind, index); `lastGood`: last valid value of a capacity input by kind × 64 + index; `rowMod`, `allowV`: the module's own row limit in W and allowance input in L/min (R126); `short`: constraints of an open CAPACITY_SHORT episode, with the last time each was short; `shortKeys`: those that the last allocation found short. `cons` keys: kind × 64 + index, kinds 1 rack, 2 manifold, 3 row. -/
structure AlSt where
  plates : Tab PlateLs := []
  racks : Tab StatBlk := []
  row : StatBlk := {}
  rackBud : Tab Nat := []
  rowLimit : Nat := 0xFFFFFFFF
  allowOvr : Nat := 0xFFFFFFFF
  provOff : Bool := false
  ran : Option Nat := none
  late : Bool := false
  timeLast : Nat := 0
  timeMax : Nat := 0
  rowCap : Nat := 0
  allow : Nat := 0
  shortW : Nat := 0
  shortNow : Bool := false
  shortKeys : List Nat := []
  rowMod : Nat := 0xFFFFFFFF
  allowV : Option F32 := none
  rowSrc : Nat := 0
  lims : List Nat := [0, 0, 0, 0, 0, 0, 0, 0, 0, 0]
  unk : List Nat := []
  lastGood : Tab F32 := []
  supply : Tab F32 := []
  short : Tab Nat := []
  first : Bool := true
  cntProv : Nat := 0
  cntRetract : Nat := 0
  armed : Bool := false
  done : Option Nat := none
  restarted : Option Nat := none
  keepOn : Bool := false
  keepRounds : Nat := 0
  keepAsked : Bool := false
  keepStop : Bool := false
  lastFirm : Nat := 0
  conflicts : List Nat := []
  allocQuar : Bool := false
  leaseQuar : Bool := false
  deriving DecidableEq, Repr, Inhabited

end Sys2Proof.Machine
end

