-- ==== Sys2Proof/Machine/FbTypes.lean ====
section
/-! DEFINITION. State of the field-bus controllers (chapter 09). Identifier keys are identifier + 2^29 for the extended format. -/

namespace Sys2Proof.Machine

/-- An entry of a transmit queue (R288). `owner`: 0 staged, 1 DRIVE, 2 SLOT; `noRetry`: cancelled while on the wire (R292); `flush`: removed while on the wire (R280). -/
structure TxEnt where
  tag : Nat := 0
  f : BusFrame := {}
  owner : Nat := 0
  msg : Option Nat := none
  attempts : Nat := 0
  noRetry : Bool := false
  flush : Bool := false
  deriving DecidableEq, Repr, Inhabited

/-- A receive buffer or the content of a priority buffer (R282, R284). -/
structure RxBuf where
  seq : Nat := 0
  f : BusFrame := {}
  cycle : Nat := 0
  time : Nat := 0
  deriving DecidableEq, Repr, Inhabited

/-- A priority buffer (R284). -/
structure PmSt where
  buf : RxBuf := {}
  locked : Bool := false
  lockAt : Nat := 0
  shadow : Option RxBuf := none
  lost : Nat := 0
  stale : Bool := false
  deriving DecidableEq, Repr, Inhabited

/-- The frame in the urgent slot: its place in R290's order (even numbers assert, odd ones clear, 6 the heartbeat), its FB_URGENT.CONTENT code, its error-ended attempts (R290). -/
structure UrgSt where
  key : Nat := 0
  content : Nat := 0
  f : BusFrame := {}
  attempts : Nat := 0
  deriving DecidableEq, Repr, Inhabited

/-- A controller's error and detection state. `candAt`: the instant at which the present candidate was set (R271). -/
structure BusErr where
  tec : Nat := 0
  recCnt : Nat := 0
  epass : Bool := false
  lastKind : Nat := 0
  offAt : Nat := 0
  recovering : Bool := false
  autoSt : Nat := 0
  cand : Nat := 0
  candAt : Nat := 0
  passes : Nat := 0
  frames : Nat := 0
  dataSeen : Bool := false
  lockPend : Bool := false
  locked : Option (Nat × Nat) := none
  conflicts : Tab Nat := []
  quar : List Nat := []
  idcClass : Nat := 0
  idcKey : Nat := 0
  cntRx : Nat := 0
  cntTx : Nat := 0
  noMatch : Nat := 0
  tooLong : Nat := 0
  lateUpd : Nat := 0
  lateFull : Nat := 0
  deriving DecidableEq, Repr, Inhabited

/-- A controller (R264; `refLast`: the reference message on the wire is not retried, R280): 0 OFF, 1 AUTO, 2 NORMAL, 3 RESTRICTED, 4 SLEEP, 5 BUS_OFF, 6 QUARANTINED. `pend`: urgent frames waiting for the slot, by R290's order. `held`: whose attempt may have begun before a frame that goes ahead of it entered: 1 the reference message, 2 the queue's head (R276). -/
structure BusSt where
  st : Nat := 0
  er : BusErr := {}
  tdcMeas : Nat := 0
  cycle : Nat := 0
  delay : Nat := 0
  ttRound : Nat := 0
  ttSync : Bool := false
  ttLost : Bool := false
  q : List TxEnt := []
  nextTag : Nat := 1
  tagS : Nat := 0
  outS : Nat := 0
  tagH : Nat := 0
  outH : Nat := 0
  lastTag : Nat := 0
  lastOut : Nat := 0
  urg : Option UrgSt := none
  pend : Tab UrgSt := []
  skipped : Nat := 0
  ref : Option BusFrame := none
  refLast : Bool := false
  held : Nat := 0
  rxNew : Nat := 0
  rxOvr : Nat := 0
  deriving DecidableEq, Repr, Inhabited

/-- A controller's buffers, its receive store by byte offset, staging areas, sleep state, and the frames it has put on the wire (`wire`). Staging words are keyed by byte offset in the area. -/
structure BusBuf where
  bufs : Tab RxBuf := []
  store : Tab (BitVec 8) := []
  pms : Tab PmSt := []
  stageS : Tab Nat := []
  stageH : Tab Nat := []
  wakeCause : Nat := 0
  sleeps : Nat := 0
  sleepReq : Option (Nat × Nat) := none
  waking : Bool := false
  lastTraffic : Nat := 0
  lateAt : Tab Nat := []
  wire : List BusFrame := []
  deriving DecidableEq, Repr, Inhabited

/-- A receive signal's newest frame (R285): its raw field, its value, the SOF instant. -/
structure SigSt where
  raw : Nat := 0
  value : F32 := 0#32
  time : Nat := 0
  deriving DecidableEq, Repr, Inhabited

/-- The field buses. `txVals`: newest values of the transmit signals by target index. -/
structure FbSt where
  bus : Tab BusSt := []
  buf : Tab BusBuf := []
  sigs : Tab SigSt := []
  txVals : Tab F32 := []
  deriving DecidableEq, Repr, Inhabited

end Sys2Proof.Machine
end

