-- ==== Sys2Proof/Machine/Keccak.lean ====
section
/-! DEFINITION. SHAKE256 and KMAC256 as FIPS 202 and NIST SP 800-185 give them: the spec names them by standard (R17, R324, R373) and shows their use in the example of R326. -/

namespace Sys2Proof.Machine

/-- Lane (x, y) of a Keccak state of 25 lanes, index x + 5y. -/
def lane (a : List (BitVec 64)) (x y : Nat) : BitVec 64 := nth a (x % 5 + 5 * (y % 5)) 0#64

/-- Rotation offsets of the rho step, lane order. -/
def rhoOff : List Nat :=
  [0, 1, 62, 28, 27, 36, 44, 6, 55, 20, 3, 10, 43] ++ [25, 39, 41, 45, 15, 21, 8, 18, 2, 61, 56, 14]

/-- Round constants of the iota step. -/
def iotaRc : List (BitVec 64) :=
  [0x0000000000000001#64, 0x0000000000008082#64, 0x800000000000808A#64, 0x8000000080008000#64,
   0x000000000000808B#64, 0x0000000080000001#64, 0x8000000080008081#64, 0x8000000000008009#64] ++
  [0x000000000000008A#64, 0x0000000000000088#64, 0x0000000080008009#64, 0x000000008000000A#64,
   0x000000008000808B#64, 0x800000000000008B#64, 0x8000000000008089#64, 0x8000000000008003#64] ++
  [0x8000000000008002#64, 0x8000000000000080#64, 0x000000000000800A#64, 0x800000008000000A#64,
   0x8000000080008081#64, 0x8000000000008080#64, 0x0000000080000001#64, 0x8000000080008008#64]

/-- Column parities. -/
def keccakC (a : List (BitVec 64)) : List (BitVec 64) :=
  (List.range 5).map (fun x => lane a x 0 ^^^ lane a x 1 ^^^ lane a x 2 ^^^ lane a x 3 ^^^ lane a x 4)

/-- The theta step. -/
def keccakTheta (a : List (BitVec 64)) : List (BitVec 64) :=
  let c := keccakC a
  (List.range 25).map (fun i =>
    nth a i 0#64 ^^^ nth c ((i + 4) % 5) 0#64 ^^^ (nth c ((i + 1) % 5) 0#64).rotateLeft 1)

/-- The rho and pi steps: lane (x, y) of the result is lane (x + 3y, x) rotated. -/
def keccakRhoPi (a : List (BitVec 64)) : List (BitVec 64) :=
  (List.range 25).map (fun i =>
    let x := i % 5
    let y := i / 5
    let j := (x + 3 * y) % 5 + 5 * x
    (nth a j 0#64).rotateLeft (nth rhoOff j 0))

/-- The chi step. -/
def keccakChi (a : List (BitVec 64)) : List (BitVec 64) :=
  (List.range 25).map (fun i =>
    let x := i % 5
    let y := i / 5
    lane a x y ^^^ (~~~ (lane a (x + 1) y) &&& lane a (x + 2) y))

/-- One round. -/
def keccakRound (a : List (BitVec 64)) (rc : BitVec 64) : List (BitVec 64) :=
  match keccakChi (keccakRhoPi (keccakTheta a)) with
  | [] => []
  | h :: t => (h ^^^ rc) :: t

/-- Keccak-f[1600]. -/
def keccakF (a : List (BitVec 64)) : List (BitVec 64) := iotaRc.foldl keccakRound a

/-- A 64-bit lane from 8 bytes, first byte lowest. -/
def laneOf (bs : Bytes) : BitVec 64 := BitVec.ofNat 64 (unLe bs)

/-- Takes one block of 136 bytes into the state. -/
def absorbBlock (a : List (BitVec 64)) (b : Bytes) : List (BitVec 64) :=
  keccakF ((List.range 25).map (fun i =>
    if i < 17 then nth a i 0#64 ^^^ laneOf (slice b (i * 8) 8) else nth a i 0#64))

/-- Takes `n` blocks. -/
def absorb : Nat → List (BitVec 64) → Bytes → List (BitVec 64)
  | 0, a, _ => a
  | n + 1, a, bs => absorb n (absorbBlock a (bs.take 136)) (bs.drop 136)

/-- The first 136 bytes of a state. -/
def squeeze (a : List (BitVec 64)) : Bytes := ((a.take 17).map (fun l => le l.toNat 8)).flatten

/-- Padding to whole blocks of 136 bytes with a domain byte. -/
def keccakPad (bs : Bytes) (dom : BitVec 8) : Bytes :=
  let k := 136 - bs.length % 136
  if k = 1 then bs ++ [dom ||| 0x80#8] else bs ++ [dom] ++ List.replicate (k - 2) 0#8 ++ [0x80#8]

/-- A sponge of rate 136 bytes with at most 136 bytes of output. -/
def sponge (dom : BitVec 8) (bs : Bytes) (n : Nat) : Bytes :=
  let p := keccakPad bs dom
  (squeeze (absorb (p.length / 136) (List.replicate 25 0#64) p)).take n

/-- SHAKE256 with an output of 512 bits (R17, R373). -/
def shake256 (bs : Bytes) : Bytes := sponge 0x1F#8 bs 64

/-- Number of bytes that hold `n`, at least 1. -/
def byteLen (n : Nat) : Nat := if n < 256 then 1 else if n < 65536 then 2 else if n < 16777216 then 3 else 4

/-- left_encode of SP 800-185. -/
def leftEncode (n : Nat) : Bytes := BitVec.ofNat 8 (byteLen n) :: (le n (byteLen n)).reverse

/-- right_encode of SP 800-185. -/
def rightEncode (n : Nat) : Bytes := (le n (byteLen n)).reverse ++ [BitVec.ofNat 8 (byteLen n)]

/-- encode_string of SP 800-185. -/
def encodeString (bs : Bytes) : Bytes := leftEncode (bs.length * 8) ++ bs

/-- bytepad to 136 bytes of SP 800-185. -/
def bytepad (bs : Bytes) : Bytes :=
  let x := leftEncode 136 ++ bs
  x ++ List.replicate ((136 - x.length % 136) % 136) 0#8

/-- KMAC256(K, X, L bits, S) of SP 800-185 (R324). -/
def kmac256 (k x : Bytes) (l : Nat) (s : Bytes) : Bytes :=
  sponge 0x04#8
    (bytepad (encodeString [0x4B#8, 0x4D#8, 0x41#8, 0x43#8] ++ encodeString s) ++ bytepad (encodeString k) ++ x ++ rightEncode l)
    (l / 8)

end Sys2Proof.Machine
end

