-- ==== Sys2Proof/Machine/SysTypes.lean ====
section
/-! DEFINITION. State of the system blocks: global and power, redundancy, freeze, event recorder, host link, pattern and firmware, stitch counters. Times are instants of `State.clock` in ns. -/

namespace Sys2Proof.Machine

/-- Where the chip stands: held in reset, reset released and cast-on not yet run, running, or frozen (R408, R416, R456). -/
inductive Life where
  | inReset
  | rom
  | up
  | frozen
  deriving DecidableEq, Repr, Inhabited

/-- The roles of R235; `none` before cast-on completes. -/
inductive Role where
  | none
  | held
  | standby
  | active
  | alone
  | safe
  deriving DecidableEq, Repr, Inhabited

/-- What identifies this module and its CDU and no reset changes: variant (R4), identity (R396), gauge and identity store contents (R399). `repair`: rows scheduled for repair at the next cast-on (R59), as (stack, unit of 4 KB in it). -/
structure HwSt where
  variantH : Bool := false
  target : Bytes := List.replicate 8 0#8
  romDigest : Bytes := List.replicate 64 0#8
  fwKeyDigests : List Bytes := []
  certs : List Bytes := []
  idsAnswers : Bool := false
  idsHeader : Bytes := []
  idsBlk0 : Option Bytes := none
  idsBlk1 : Option Bytes := none
  idsSlotA : Bytes × Nat := ([], 0)
  idsSlotB : Bytes × Nat := ([], 0)
  idsGauge : Bytes := []
  repair : List (Nat × Nat) := []
  deriving DecidableEq, Repr, Inhabited

/-- Global block: resets, supplies, clocks, cast-on, thermal (chapter 14). -/
structure GlbSt where
  life : Life := .rom
  role : Role := .none
  heldCause : Nat := 0
  phase : Nat := 0
  castonTime : Nat := 0
  rstCause : Nat := 1
  wdPhase : Nat := 0
  wdCount : Nat := 0
  slotLoaded : Nat := 0
  supplyOrder : Option Nat := none
  ovr : Tab Word := []
  ovrLatch : Nat := 0
  ovrLastCleared : Nat := 0
  cast : CastInfo := {}
  blkBusy : Option (Nat × Nat × Bool) := none
  blkResult : Nat := 0
  clkRef : Bool := false
  clkMain : Bool := false
  clkSerdes : Bool := false
  clkFb : Bool := false
  oscOk : Bool := false
  oscDev : Int := 0
  oscBad : Bool := false
  supRestarted : Nat := 0
  rstPend : Nat := 0
  deriving DecidableEq, Repr, Inhabited

/-- Supplies and shedding (R407 to R413, R428, R429). Voltages in 10 mV, temperatures in 0.1 °C, `vfieldP` in 0.1 W. `vsafeLow`: the role as VSAFE fell low. -/
structure PwrSt where
  vmain : Nat := 0
  vmainMin : Option Nat := none
  vfield : Nat := 0
  vfieldMin : Option Nat := none
  vsafe : Nat := 0
  vsafeMin : Option Nat := none
  vfieldP : Nat := 0
  vmainOk : Bool := false
  vfieldOk : Bool := false
  vsafeOk : Bool := false
  vsafeLow : Option Nat := none
  vfieldLow : Bool := false
  vmainHigh : Bool := false
  vfieldOver : Bool := false
  dip : Bool := false
  dipStart : Nat := 0
  dipMin : Nat := 0
  dipStage : Nat := 0
  dipStageMax : Nat := 0
  lastDipDur : Nat := 0
  lastDipMin : Nat := 0
  dieMax : Nat := 0
  inlet : Nat := 0
  outlet : Nat := 0
  thermStage : Nat := 0
  shed : Nat := 0
  leave2 : Option Nat := none
  coolantHigh : Bool := false
  deriving DecidableEq, Repr, Inhabited

/-- Where a claim stands (R243). -/
inductive ClaimSt where
  | idle
  | watching (tc : Nat)
  deriving DecidableEq, Repr, Inhabited

/-- A loop snapshot record of the mirror stream (R317, subtype 2). -/
structure SnapRec where
  law : Nat := 0
  tripped : Bool := false
  approach : Bool := false
  cnt : Nat := 0
  spEff : Int := 0
  acc : Int := 0
  fe : Nat := 0
  tick : Nat := 0
  deriving DecidableEq, Repr, Inhabited

/-- What waits on a planned handover (R250), by its HCAUSE; a command keeps its datagram for the response. -/
structure HandoverSt where
  cause : Nat := 0
  since : Nat := 0
  firstWord : Option Nat := none
  cmd : Option Dgram := none
  arg : Nat := 0
  deriving DecidableEq, Repr, Inhabited

/-- Redundancy state (chapter 08). `txWord`: the last chain word sent; `wordTick`, `hbTick`: the ticks of the last word and of the last heartbeat frame; `hreqAt`: when the partner's first word with HREQ came; `chainT`, `fb0T`, `fb8T`: when the last word of a route passed SYNC, CRC and SLOT; `chainDown`, `fbDown`: a loss of the path has been recorded. -/
structure RedSt where
  hoNext : List HandoverSt := []
  straps : Nat := 2
  strapFault : Bool := false
  driving : Bool := false
  timeMaster : Bool := false
  watch : Bool := false
  firstDrive : Nat := 0
  mode : Nat := 0
  partnerWord : Word := 0#32
  txWord : Word := 0#32
  seqChain : Option Nat := none
  seqFb0 : Option Nat := none
  seqFb8 : Option Nat := none
  chainLast : Option Nat := none
  fb0Last : Option Nat := none
  fb8Last : Option Nat := none
  chainT : Nat := 0
  fb0T : Nat := 0
  fb8T : Nat := 0
  chainDown : Bool := false
  fbDown : Bool := false
  chainOk : Bool := false
  fbOk : Bool := false
  chainSince : Option Nat := none
  fbSince : Option Nat := none
  lost : Bool := false
  lostAt : Nat := 0
  hbSeq : Nat := 0
  wordTick : Option Nat := none
  hbTick : Option Nat := none
  hreqAt : Option Nat := none
  ho : Option HandoverSt := none
  deriving DecidableEq, Repr, Inhabited

/-- The claim line, alignment, qualification and mirror state (R242 to R255). `lowStart`: start of the low of a line fault; `lastPulse`, `partnerTc`: end and start of the partner's last claim pulse heard while not driving; `highAt`: when the line last went high after a pulse of the partner; `relSince`: since when both conditions of a re-claim hold (R248); `pulses`: pulses of this module (kind, start, end); `mustStep`: the next reference message steps the timer (R459); `claimDeferred`: a start-up claim is due (R252). -/
structure LinkSt where
  lineLow : Bool := false
  lowStart : Nat := 0
  lastPulse : Option Nat := none
  partnerTc : Option Nat := none
  highAt : Nat := 0
  relSince : Option Nat := none
  fault : Bool := false
  mustStep : Bool := false
  claim : ClaimSt := .idle
  reason : Nat := 0
  result : Nat := 0
  claims : Nat := 0
  driveAt : Option Nat := none
  tc : Nat := 0
  pulses : List (Nat × Nat × Nat) := []
  claimDeferred : Bool := false
  releaseEnd : Nat := 0
  takeovers : Nat := 0
  takeoverLast : Nat := 0
  listenSince : Option Nat := none
  listenSecond : Bool := false
  aborted : Bool := false
  aligned : Bool := false
  offset : Int := 0
  alignRounds : Nat := 0
  roundTaken : Bool := false
  snapAge : Nat := 0xFFFF
  leaseAge : Nat := 0xFFFF
  staleRounds : Nat := 0
  mirrorLost : Bool := false
  deriving DecidableEq, Repr, Inhabited

/-- What the mirror stream has brought (R254, R317). -/
structure MirSt where
  snaps : Tab SnapRec := []
  snapPart : Tab SnapRec := []
  snapFrags : Nat × Nat × Nat := (0, 0, 0)
  est : Tab Int := []
  estReady : Tab Int := []
  estPart : Tab Int := []
  estFrags : Nat × Nat × Nat := (0, 0, 0)
  snapRound : Nat := 0
  estRound : Nat := 0
  leases : Tab Bytes := []
  leaseRound : Nat := 0
  patDigest : Bytes := []
  modelDigest : Bytes := []
  adParts : List (Nat × Nat × Nat × Bytes) := []
  relock : Option (Bytes × Nat × Bool) := none
  lastRound : Tab Nat := []
  deriving DecidableEq, Repr, Inhabited

/-- The states of the test access port's controller (IEEE 1149.1, R461). -/
inductive TapSt where
  | reset | idle | selDr | capDr | shiftDr | exit1Dr | pauseDr | exit2Dr | updDr | selIr | capIr | shiftIr | exit1Ir | pauseIr | exit2Ir | updIr
  deriving DecidableEq, Repr, Inhabited

/-- Freeze and diagnostics (chapter 16). `pend`: 1 the accepted freeze waits for its freeze point, 2 it waits for its handover. `freezeNArmed`: FREEZE_N has been high for 1 ms since the reset (R453). `tdo`: what the last data register shifted out. -/
structure DgSt where
  tap : TapSt := .reset
  irTdo : Nat := 0
  pend : Nat := 0
  source : Nat := 0
  outcome : Nat := 0
  frozenMs : Nat := 0
  frzCmd : Option Dgram := none
  frozenAt : Nat := 0
  frozenRole : Role := .none
  thawRefused : Bool := false
  freezeN : Bool := true
  freezeNSince : Nat := 0
  freezeNArmed : Bool := false
  byReset : Option (Nat × Nat) := none
  ir : Nat := 1
  scanKind : Nat := 0
  scanIdx : Nat := 0
  scanOff : Nat := 0
  scanEnd : Bool := false
  scanCrc : Word := 0xFFFFFFFF#32
  tdo : BitVec 64 := 0#64
  safe : Bool := false
  cause : Nat := 0
  handover : Nat := 0
  unit : Nat := 0
  cntCell : Nat := 0
  cntResend : Nat := 0
  cntQuar : Nat := 0
  cntRemap : Nat := 0
  regCell : Tab Nat := []
  regResend : Tab Nat := []
  deriving DecidableEq, Repr, Inhabited

/-- One event record (R350), without the generation words of the slot that holds it. -/
structure EvRec where
  code : Nat := 0
  sev : Nat := 0
  flags : Nat := 0
  seq : Nat := 0
  uptime : Nat := 0
  wall : Nat := 0
  source : Nat := 0
  suppressed : Nat := 0
  args : List (BitVec 32) := []
  deriving DecidableEq, Repr, Inhabited

/-- A slot of a storage tier: its generation word and the record it holds (R355). -/
structure EvSlot where
  gen : Nat := 0
  r : EvRec := {}
  deriving DecidableEq, Repr, Inhabited

/-- Token bucket of one code (R361), in units of 2^-16 token, as of uptime `at_`. -/
structure Bucket where
  tokens : Nat := 0
  at_ : Nat := 0
  rem : Nat := 0
  deriving DecidableEq, Repr, Inhabited

/-- Event recorder (chapter 12). Persistent parts: `boot`, `pst`, `pstGens` of its slots, tier 2 drops. -/
structure EvSt where
  boot : Nat := 0
  seqNext : Nat := 0
  seqLast : Nat := 0
  bootFirst : Nat := 0
  buckets : Tab Bucket := []
  supp : Tab Nat := []
  ring : Tab EvSlot := []
  hbm : Tab EvSlot := []
  hbmOk : Bool := false
  hbmCap : Nat := 16777216
  pst : Tab EvSlot := []
  staging : List EvRec := []
  pstDefer : Bool := false
  drops : Tab Nat := []
  dropsNew : Tab Nat := []
  dropAt : Tab Nat := []
  ringLast : Nat := 0
  hbmLast : Nat := 0
  pstPage : Nat := 0
  pstReady : Bool := false
  pageBuf : Tab EvSlot := []
  quar : Bool := false
  held : List EvRec := []
  cursors : Tab Nat := []
  curStage : Tab Nat := []
  resumeAt : Tab Nat := []
  expMin : Nat := 2
  expRound : Tab Nat := []
  deriving DecidableEq, Repr, Inhabited

/-- Wall clock (R365): offset, slew in progress (difference, start uptime), staged value. -/
structure WallSt where
  off : Int := 0
  set : Bool := false
  slew : Option (Int × Nat) := none
  stageLo : Word := 0#32
  stageHi : Word := 0#32
  deriving DecidableEq, Repr, Inhabited

/-- A class 1 request of the module that awaits its answer (R309). `seqEnd`: the cursor an EVENT sets when answered. -/
structure OutReq where
  peer : Nat := 0
  d : Dgram := {}
  sends : Nat := 1
  sentAt : Nat := 0
  seqEnd : Nat := 0
  deriving DecidableEq, Repr, Inhabited

/-- A remembered class 1 request of a peer (R309): its response once complete. -/
structure SeenReq where
  session : Nat := 0
  xid : Nat := 0
  resp : List Dgram := []
  done : Bool := false
  at_ : Nat := 0
  deriving DecidableEq, Repr, Inhabited

/-- A bulk transfer being tracked (R319): committed ranges (start, end), rising and apart; the newest ROUND used (R308). -/
structure XferSt where
  id : Nat := 0
  base : Nat := 0
  ranges : List (Nat × Nat) := []
  denied : Bool := false
  newest : Nat := 0
  last : Nat := 0
  deriving DecidableEq, Repr, Inhabited

/-- A signal waiting on its data (R321): the request, the round it arrived in, what it does. `behind`: a critical command that waits behind an earlier one (R329). -/
structure WaitSig where
  peer : Nat := 0
  xfer : Nat := 0
  len : Nat := 0
  round : Nat := 0
  d : Dgram := {}
  sc : Option ScCall := none
  op : Nat := 0
  behind : Bool := false
  deriving DecidableEq, Repr, Inhabited

/-- A telemetry bundle being put together (R314). -/
structure BundleSt where
  rack : Nat := 0
  tag : Nat := 0
  frags : Nat := 1
  got : List (Nat × Bytes) := []
  firstRound : Nat := 0
  deriving DecidableEq, Repr, Inhabited

/-- What the keyed check remembers of one peer (R325, R326): its counter floor, the mark Fm, the last accepted command and its response. -/
structure CtrSt where
  floor : Nat := 0
  mark : Nat := 0
  lastCmd : Option Dgram := none
  lastResp : List Dgram := []
  deriving DecidableEq, Repr, Inhabited

/-- Host link (chapter 10). -/
structure HlSt where
  linkUp : Bool := false
  rate : Nat := 0
  tryRate : Nat := 2
  tryAt : Nat := 0
  fecLock : Bool := false
  optic : Bool := false
  opticBad : Bool := false
  opticTemp : Nat := 0
  ifaces : Nat := 0
  upSince : Nat := 0
  fecCorr : Nat := 0
  fecUncorr : Nat := 0
  dropRej : Nat := 0
  dropCrc : Nat := 0
  latMax : Nat := 0
  latLast : Nat := 0
  telDone : Nat := 0
  telBad : Nat := 0
  session : Nat := 0
  nextXid : Nat := 0
  seen : Tab (List SeenReq) := []
  sessions : Tab Nat := []
  xfers : Tab (List XferSt) := []
  waits : List WaitSig := []
  reqs : List OutReq := []
  newErr : Tab (List Nat) := []
  sentErr : Tab (List Nat) := []
  bundles : List BundleSt := []
  telDone1 : Tab Nat := []
  deriving DecidableEq, Repr, Inhabited

/-- The keyed-check engine and key slots (R324 to R330); the keys by key reference and the marks by peer are flash. Key reference 0 holds the commissioning key set at manufacture (R330): its value is a DESIGN CHOICE. -/
structure KeyStore where
  keys : Tab Bytes := [(0, List.replicate 32 0#8)]
  ctrs : Tab CtrSt := []
  tagFail : Tab Nat := []
  replay : Tab Nat := []
  quar : Bool := false
  deriving DecidableEq, Repr, Inhabited

/-- A firmware part (R390 to R395). `st` is PF_PART.STATE; `since`: activation in uptime; `restartAt`: its last restart; `bootBank`: the other bank is active from the next chip reset; `young`: a cast-on image that has not completed a cast-on; `byFilter`: restarted by the access filter. -/
structure PartSt where
  bank : Nat := 0
  banks : List (Option FwImage) := [none, none]
  floor : Nat := 0
  st : Nat := 0
  since : Nat := 0
  restartAt : Nat := 0
  lastBlock : Option Nat := none
  bootBank : Bool := false
  young : Bool := false
  byFilter : Bool := false
  raised : Bool := false
  deriving DecidableEq, Repr, Inhabited

/-- What the flash held at the start of a dip, which defers writes of it (R413): the slots, anchor and trial mark, the parts with their floors, the keys. -/
structure FlashSt where
  current : Option Pattern := none
  lifeline : Option Pattern := none
  nextP : Option Pattern := none
  anchor : Option Bytes := none
  changeTrial : Bool := false
  parts : Tab PartSt := []
  keys : Tab Bytes := []
  deriving DecidableEq, Repr, Inhabited

/-- A re-knit SCHEDULED (R381). -/
structure SchedSt where
  pat : Pattern := {}
  na : Nat := 0
  trial : Bool := false
  window : Nat := 0
  flags : Nat := 0
  deriving DecidableEq, Repr, Inhabited

/-- Pattern and firmware (chapter 13). The slots, anchor and parts are flash; `flashAt` is what the flash holds while a dip defers its writes. `slotEnd`: the instants at which the containers of slots 1 CURRENT and 2 NEXT are complete in flash. `idsFaults`: causes of IDS_FAULT that have not cleared. -/
structure PfSt where
  flashAt : Option FlashSt := none
  slotEnd : Tab Nat := []
  idsFaults : List Nat := []
  st : Nat := 0
  current : Option Pattern := none
  lifeline : Option Pattern := none
  nextP : Option Pattern := none
  anchor : Option Bytes := none
  changeTrial : Bool := false
  force : Pattern := {}
  sched : Option SchedSt := none
  applyRound : Nat := 0
  trialStart : Nat := 0
  trialWindow : Nat := 0
  trialFlags : Nat := 0
  frog : Option (Nat × Nat) := none
  lastCheck : Nat := 0
  relockPend : Bool := false
  deferred : Bool := false
  idsOk : Bool := false
  idsPresent : Bool := false
  idsMatch : Bool := false
  idsBlock : Nat := 0
  gaugeOk : Bool := false
  gauge : List GaugeRec := []
  idsWrite : Bool := false
  parts : Tab PartSt := []
  commit : Option (Nat × FwImage × Option Dgram) := none
  deriving DecidableEq, Repr, Inhabited

/-- A queued TAKE or a data-bound operation (R336, R341). -/
structure ScWaiter where
  call : ScCall := {}
  op : Nat := 2
  since : Nat := 0
  ends : Nat := 0
  deriving DecidableEq, Repr, Inhabited

/-- A stitch counter (R333): 0 FREE, 1 LIVE, 2 DROPPED. -/
structure ScCtr where
  st : Nat := 0
  val : Nat := 0
  owner : Party := .supervisor
  owned : Bool := false
  adapt : Bool := false
  cause : Nat := 0
  queue : List ScWaiter := []
  deriving DecidableEq, Repr, Inhabited

/-- A watch (R343). -/
structure ScWatch where
  enable : Bool := false
  consume : Bool := false
  rep : Bool := false
  peer : Nat := 0
  counter : Nat := 0
  thr : Nat := 1
  ntf : Nat := 0
  deriving DecidableEq, Repr, Inhabited

/-- An SC message in progress (R323): answered records (status, value), records still to execute. `blocked`: its present record waits; `acked`: an ACK was sent (R309); `sport` and `ctr`: the source port, and the COUNTER of a tagged message, for the answer. -/
structure ScMsg where
  sport : Nat := 46912
  ctr : Bytes := []
  acked : Bool := false
  peer : Nat := 0
  session : Nat := 0
  xid : Nat := 0
  results : List (Nat × ScCall × Nat × Nat × Nat) := []
  todo : List (Nat × ScCall) := []
  blocked : Bool := false
  lastIn : Bool := false
  deriving DecidableEq, Repr, Inhabited

/-- Stitch counters (chapter 11). `local_` is the status word each on-module party last received. -/
structure ScSt where
  ctrs : Tab ScCtr := []
  watches : Tab ScWatch := []
  quar : Bool := false
  ops : Nat := 0
  spin : Nat := 0
  spinFrom : Nat := 0
  full : Bool := false
  msgs : List ScMsg := []
  localRes : List (Party × Nat × Nat × Nat) := []
  ntfPend : Tab (List Bytes) := []
  deriving DecidableEq, Repr, Inhabited

end Sys2Proof.Machine
end

