-- ==== Sys2Proof/Machine/Identity.lean ====
section
/-! DEFINITION. What manufacture leaves in the module (R392, R396): the certificate chain, TARGET, the digests of the firmware keys. The keys, names, validities and signatures are free values. -/

namespace Sys2Proof.Machine

/-- Bytes brought to a length, padded with zeros. -/
def padTo (n : Nat) (b : Bytes) : Bytes := slice b 0 n

/-- The Falcon-1024 public key of a certificate: 1 Elvael root, 2 Elvael manufacturing, 3 module (R396). -/
def identityKey (kind : Nat) : Bytes := padTo 1793 (Config.identityKey kind)

/-- TARGET (R396). -/
def targetMade : Bytes := (shake256 (identityKey 3)).take 8

/-- The subject of a certificate: for the module, TARGET and its serial number. -/
def certSubject (kind : Nat) : Bytes := padTo 64 ((if kind = 3 then targetMade else []) ++ Config.certName kind)

/-- A certificate of the chain (R396): the issuer of each is the one before it, the root's is itself. -/
def certOf (kind : Nat) : Bytes :=
  let head := [0x45#8, 0x43#8, 0x52#8, 0x54#8] ++ le 1 2 ++ le kind 1 ++ [0#8] ++ certSubject kind ++ shake256 (identityKey (max 1 (kind - 1))) ++
    padTo 16 (Config.certValidity kind) ++ padTo 1802 (le 1793 2 ++ identityKey kind)
  let sig := Config.certSignature kind
  padTo 4096 (head ++ padTo 1538 (le sig.length 2 ++ sig))

/-- The module as made: certificates with the module's own first (R397), TARGET, the two firmware key digests in ROM (R392). -/
def hwMade : HwSt :=
  { target := targetMade, fwKeyDigests := [padTo 64 (Config.fwKeyDigest 0), padTo 64 (Config.fwKeyDigest 1)], certs := [certOf 3, certOf 2, certOf 1] }

end Sys2Proof.Machine
end

