-- ==== Sys2Proof/Machine/LoopTypes.lean ====
section
/-! DEFINITION. State of the loop engines (chapter 05) and of the swatch slots and trace buffers (chapter 06). Times are instants of `State.clock` in ns. -/

namespace Sys2Proof.Machine

/-- An input (R140). `deliv`: the value it delivered last (R142, R184). `conv`: a conversion has been latched; `rangeSince`, `recSince`: since when it is out of range, since when every cause is absent; `wLo`, `wHi` its extremes in the running window of R141, `rLo`, `rHi` those of its reference input. -/
structure InputSt where
  conv : Bool := false
  code : Int := 0
  raw : Nat := 0
  x : F32 := 0#32
  lastAt : Nat := 0
  isOpen : Bool := false
  unknown : Bool := false
  cause : Nat := 0
  unkSince : Nat := 0
  rangeSince : Option Nat := none
  recSince : Option Nat := none
  rawSince : Nat := 0
  wLo : Int := 0
  wHi : Int := 0
  rLo : Int := 0
  rHi : Int := 0
  wAny : Bool := false
  rAny : Bool := false
  refBad : Bool := false
  frozenBad : Bool := false
  deliv : Int := 0
  deriving DecidableEq, Repr, Inhabited

/-- A vote group (R143, R144). -/
structure GroupSt where
  mode : Nat := 4
  value : Int := 0
  hasValue : Bool := false
  used : Nat := 0
  disagree : Bool := false
  disSince : Option Nat := none
  agreeSince : Option Nat := none
  episode : Bool := false
  fcCounted : Bool := false
  fcVal : Option Int := none
  deriving DecidableEq, Repr, Inhabited

/-- A loop channel (R145 to R163). `reinit`: moved to another engine, to be initialised at its first sample there; `missAt`: the tick of an engine's fault, whose sample it misses (R162). Law state 0 HOLD, 1 UP1, 2 UP2, 3 DN1, 4 DN2. `banks` are the eight words of bank A, then of bank B. -/
structure ChanSt where
  law : Nat := 0
  cnt : Nat := 0
  acc : Int := 0
  spEff : Option Int := none
  spUsed : Int := 0
  pv : Int := 0
  pvUsed : Int := 0
  e : Int := 0
  u : Int := 0
  fe : Nat := 0
  feGrace : Nat := 0
  feDone : Bool := false
  tripped : Bool := false
  approach : Bool := false
  appCnt : Nat := 0
  cascHold : Bool := false
  pvUnk : Bool := false
  satHi : Bool := false
  satLo : Bool := false
  bankB : Bool := false
  swapPend : Bool := false
  swapAt : Nat := 0
  engine : Nat := 0
  placed : Bool := true
  init : Bool := false
  reinit : Bool := false
  missAt : Option Nat := none
  deriving DecidableEq, Repr, Inhabited

/-- Set-point sources and banks of a channel (R34, R145, R146, R159). -/
structure ChanSp where
  spExt : Option Int := none
  spLost : Bool := false
  host : Word := 0#32
  man : Word := 0#32
  trims : List Int := []
  trimsNext : List Int := []
  bankA : List Nat := []
  bankBw : List Nat := []
  deriving DecidableEq, Repr, Inhabited

/-- An output map (R151 to R153, R248, R249). `fSince`: since when the readback exceeds the command; `lowSince`: since when it lies below. -/
structure MapSt where
  u : Int := 0
  y : F32 := 0#32
  valid : Bool := false
  lowSince : Option Nat := none
  lowDone : Bool := false
  fSince : Option Nat := none
  fDone : Bool := false
  deriving DecidableEq, Repr, Inhabited

/-- An estimator slot (R165). -/
structure EstSt where
  sacc : Int := 0
  pw : Int := 0
  tin : Int := 0
  tH : Int := 0
  tS : Int := 0
  tO : Int := 0
  deriving DecidableEq, Repr, Inhabited

/-- Loop engines (chapter 05). `st`: 0 OFF, 1 INIT, 2 RUN, 3 RESTART. Pin values: `aout` in the target's unit, `pwm` as duty; `next` those to be applied at the next tick. -/
structure LpSt where
  inputs : Tab InputSt := []
  leakN : Tab Nat := []
  groups : Tab GroupSt := []
  chans : Tab ChanSt := []
  sps : Tab ChanSp := []
  maps : Tab MapSt := []
  est : Tab EstSt := []
  load : Nat := 0
  st : Nat := 0
  engBad : List Nat := []
  cellCnt : Nat := 0
  phase6At : Nat := 0
  aout : Tab F32 := []
  pwm : Tab F32 := []
  next : List (Nat × F32) := []
  fromRb : Nat := 0
  fromSnap : Nat := 0
  fromInit : Nat := 0
  deriving DecidableEq, Repr, Inhabited

/-- A swatch slot (R175 to R188). `regs` are the thirteen registers DG_SW_CFG to DG_SW_SEL3, `capRegs` as they stood when the capture opened, `capCause` the abort cause of its run. `st`: 0 IDLE, 1 ARMED, 2 RUNNING, 3 DONE, 4 ABORTED. -/
structure SwSt where
  regs : List Nat := [0x100, 0, 0, 0, 0, 0x7FFF0000, 0x7FFF8000, 0x00000101, 0, 0, 0, 0, 0]
  st : Nat := 0
  cause : Nat := 0
  samples : Nat := 0
  goAt : Option Nat := none
  startAcc : Int := 0
  phase : Nat := 0
  inc : Nat := 0
  prbs : Nat := 0
  d : Int := 0
  injecting : Bool := false
  hostAbort : Bool := false
  capOpen : Bool := false
  trigged : Bool := false
  hostTrig : Bool := false
  decim : Nat := 0
  preCnt : Nat := 0
  postCnt : Nat := 0
  trigRound : Nat := 0
  tail : Option Nat := none
  tailEnd : Nat := 0
  endCode : Nat := 0
  prev : Option Int := none
  capRegs : List Nat := []
  capCause : Nat := 0
  capN : Nat := 0
  words : Tab Nat := []
  deriving DecidableEq, Repr, Inhabited

/-- A trace buffer (R189 to R191). Entries are four words each. -/
structure TrSt where
  cfg : Nat := 0x100
  trig : Nat := 0
  wr : Nat := 0
  decim : Nat := 0
  stopped : Bool := false
  trigBit : Option Nat := none
  postLeft : Nat := 0
  entries : Tab (List Nat) := []
  deriving DecidableEq, Repr, Inhabited

/-- Swatch slots and trace buffers. -/
structure SwtSt where
  sw : Tab SwSt := []
  tr : Tab TrSt := []
  deriving DecidableEq, Repr, Inhabited

end Sys2Proof.Machine
end

