-- ==== Sys2Proof/Machine/SvTypes.lean ====
section
/-! DEFINITION. State of the selvedge, mass balance and localisation (chapter 07). Times are instants of `State.clock` in ns. -/

namespace Sys2Proof.Machine

/-- A comparator (R198 to R203): its own result, its last reading as raw code, the two UNKNOWN causes, the advisory latches, the latched thresholds. `up`: it trips at codes from `tripLim` up, and may clear from `clearLim` down, the nearest codes inside the tolerance of R199; else the other way round. `unkLim`: the codes of R203's limits. -/
structure CmpSt where
  own : Bool := false
  reading : Nat := 0
  unkOwn : Bool := false
  advTrip : Bool := false
  advUnk : Bool := false
  advTripAt : Nat := 0
  advUnkAt : Nat := 0
  armed : Bool := false
  thrTrip : Nat := 0
  thrClear : Nat := 0
  up : Bool := false
  tripLim : Nat := 0
  clearLim : Nat := 0
  unkLim : Option (Nat × Nat) := none
  deriving DecidableEq, Repr, Inhabited

/-- A rope (R204): 0 DISABLED, 1 DRY, 2 WET, 3 OPEN, 4 SHORT; Z in 0.1 kΩ. -/
structure RopeSt where
  st : Nat := 0
  z : Nat := 0
  deriving DecidableEq, Repr, Inhabited

/-- A matrix row (R209): 0 IDLE, 1 ACTIVE, 2 HOLDING, 3 LATCHED. `fired`: its delayed actions have fired; `latch`: its latching actions in force; `delayFrom`: start of the delay timer; `adv`: its advisory condition. -/
structure RowSt where
  st : Nat := 0
  fired : Bool := false
  latch : Nat := 0
  delayFrom : Option Nat := none
  activeAt : Nat := 0
  holdAt : Nat := 0
  adv : Bool := false
  advAt : Nat := 0
  deriving DecidableEq, Repr, Inhabited

/-- Mass balance of a manifold or of the reservoir (R220, R222): the second under way, the last 60 bins. `st`: 0 OFF, 1 WATCH, 2 CONFIRMED, 3 UNKNOWN. -/
structure MbSt where
  sum : F32 := 0#32
  n : Nat := 0
  ok : Bool := true
  bad : Nat := 0
  bins : List (F32 × Bool) := []
  st : Nat := 0
  mean : F32 := 0#32
  deriving DecidableEq, Repr, Inhabited

/-- A selvedge transition logged while the CTL region is down (R233). -/
structure SvLog where
  code : Nat := 0
  args : List (BitVec 32) := []
  uptime : Nat := 0
  clear : Bool := false
  deriving DecidableEq, Repr, Inhabited

/-- A relock under way (R228): `ready` once the shadow latches hold the section. -/
structure RelockSt where
  digest : Bytes := []
  nt : Nat := 0
  accepted : Bool := false
  ready : Bool := false
  shadow : SvSection := {}
  deriving DecidableEq, Repr, Inhabited

/-- The ROM set of R230 as a section: FL and every rope disabled, DIOk as pump k's enable, every row with ALARM and ECAP_LINE only. -/
def romSection : SvSection :=
  { buses := 0
    pumpDio := [0, 1, 2, 3, 4, 5, 6, 7]
    cmps := [
      { enable := true, above := true, input := 0, filt := 10 }, { enable := true, above := true, input := 1, filt := 10 },
      { enable := false },
      { enable := true, above := true, input := 2, filt := 5 }, { enable := true, above := true, input := 3, filt := 5 },
      { enable := true, input := 4, filt := 14 },
      { enable := true, input := 8, filt := 5 }, { enable := true, input := 9, filt := 5 }, { enable := true, input := 10, filt := 5 },
      { enable := true, input := 11, filt := 5 }, { enable := true, input := 12, filt := 5 }, { enable := true, input := 13, filt := 5 },
      { enable := true, input := 14, filt := 5 }, { enable := true, input := 15, filt := 5 },
      { enable := true, above := true, filt := 10 }, { enable := true, above := true, filt := 10 }]
    rows := List.replicate 64 { imm := 3 } }

/-- A ROM comparator from its two levels, its tolerance in codes and its limits of R203. -/
def romCmp (up : Bool) (trip clear tol : Nat) (unk : Nat × Nat) : CmpSt :=
  { thrTrip := trip
    thrClear := clear
    up := up
    tripLim := if up then trip - tol else trip + tol
    clearLim := if up then clear + tol else clear - tol
    unkLim := some unk }

/-- The comparators under the ROM set: its trip and clearing levels (R230), the limits of R203 and the tolerance of R199 as codes. The tolerance is 0.25 % of 16 mA, of 250 °C at 0.39 Ω/°C as the two levels of ST0 give it, and of 250 °C. -/
def romCmps : Tab CmpSt :=
  let loop := (9437, 55049)
  [(0, romCmp true 19246 19182 40 (9830, 65535)), (1, romCmp true 19246 19182 40 (9830, 65535)), (3, romCmp true 48234 46346 105 loop),
   (4, romCmp true 48234 46346 105 loop), (5, romCmp false 18874 19713 105 loop)] ++
  (List.range 8).map (fun k => (6 + k, romCmp false 14680 15728 105 loop)) ++
  [(14, romCmp true 40632 39321 164 (2621, 52428)), (15, romCmp true 36700 35389 164 (2621, 52428))]

/-- The selvedge (chapter 07). `ecapSeen`: its EMERGENCY_CAP mask as last recorded, not empty since `ecapAt` (R233). -/
structure SvSt where
  sec : SvSection := romSection
  patternSet : Bool := false
  digest : Bytes := []
  cmps : Tab CmpSt := romCmps
  ropes : Tab RopeSt := []
  rows : Tab RowSt := []
  isoCmd : Nat := 0
  dref : F32 := 0#32
  drefAt : Option Nat := none
  dEntry : F32 := 0#32
  ecapLine : Bool := false
  ecapSeen : Nat := 0
  ecapAt : Nat := 0
  svLog : List SvLog := []
  relock : Option RelockSt := none
  deriving DecidableEq, Repr, Inhabited

/-- Selvedge frames, mass balance and localisation (R214 to R223). `masks` are the last masks sent of kinds 1 to 3; `clears` the clear frames still to send (kind, mask, times). -/
structure SvfSt where
  masks : List Nat := [0, 0, 0]
  clears : List (Nat × Nat × Nat) := []
  seq : Nat := 0
  frmFb : Nat := 0
  frmEth : Nat := 0
  mb : Tab MbSt := []
  res : MbSt := {}
  levels : List F32 := []
  makeup : List F32 := []
  locA : Nat := 0
  locB : Nat := 0
  locC : Nat := 0
  locQueue : List (Nat × Nat × Nat) := []
  locLast : Option Nat := none
  deriving DecidableEq, Repr, Inhabited

end Sys2Proof.Machine
end

