-- ==== Sys2Proof/Machine/State.lean ====
section
/-! DEFINITION. The state of the module, its fault and refusal names, and the state after a power-on reset. -/

namespace Sys2Proof.Machine

/-- No command of this block ends in a fault: the type is a closed inductive whose one constructor is reserved for a read of storage that the spec says does not exist; nobody raises it (safe). -/
inductive Fault where
  /-- Raised by nobody: every unmapped address completes with a status (R36). Safe. -/
  | noSuchStorage
  deriving DecidableEq, Repr

/-- Why a command has no meaning. -/
inductive Refusal where
  /-- A command without a meaning yet, by its mnemonic (safe). -/
  | notModelled (mnemonic : String)
  deriving DecidableEq, Repr

/-- The PT-40. `pending` is the queue of commands, first in, first out; `began`: a round boundary has come since cast-on (R31). `freeCtr` counts the free values used (the model's own field). -/
structure State where
  hw : HwSt := {}
  glb : GlbSt := {}
  pwr : PwrSt := {}
  red : RedSt := {}
  link : LinkSt := {}
  mir : MirSt := {}
  dg : DgSt := {}
  ev : EvSt := {}
  wall : WallSt := {}
  hl : HlSt := {}
  ks : KeyStore := {}
  pf : PfSt := {}
  sc : ScSt := {}
  lp : LpSt := {}
  swt : SwtSt := {}
  sv : SvSt := {}
  svf : SvfSt := {}
  fb : FbSt := {}
  fc : ArrSt := {}
  al : AlSt := {}
  errs : Tab Word := []
  irqs : Tab Word := []
  latches : Tab Word := []
  outbox : List Dgram := []
  mem : List Host.Cell := []
  stage : List Host.Cell := []
  clock : Nat := 0
  upBase : Nat := 0
  tick : Nat := 0
  tickAt : Nat := 0
  round : Nat := 0
  began : Bool := false
  t0At : Nat := 0
  freeCtr : Nat := 0
  pending : List Instr := []
  deriving DecidableEq, Repr

/-- The module right after a power-on reset is released: as it was made, every other field at its reset value. -/
def State.reset : State := { hw := hwMade }

end Sys2Proof.Machine
end

