-- ==== Sys2Proof/Machine/Ops.lean ====
section
/-! DEFINITION. Operations shared by every block: byte memories, time, saturating counters, free values. -/

namespace Sys2Proof.Machine

/-! ### Byte memories -/

/-- What an address that nothing has written reads as (DESIGN CHOICE, log 2). -/
def Memory.unlisted : BitVec 8 := 0#8

/-- The canonical form: addresses strictly rising, no entry equal to what an unlisted address reads as. -/
def Memory.wf : List Host.Cell → Bool
  | [] => true
  | [c] => c.2 != Memory.unlisted
  | c :: d :: t => c.2 != Memory.unlisted && decide (c.1 < d.1) && Memory.wf (d :: t)

/-- Reads one byte. -/
def memRd : List Host.Cell → Nat → BitVec 8
  | [], _ => Memory.unlisted
  | (a', v) :: t, a => if a' = a then v else memRd t a

/-- Inserts an entry that is not the unlisted value. -/
def memIns : List Host.Cell → Nat → BitVec 8 → List Host.Cell
  | [], a, b => [(a, b)]
  | (a', v) :: t, a, b =>
    if a = a' then (a, b) :: t
    else if a < a' then (a, b) :: (a', v) :: t
    else (a', v) :: memIns t a b

/-- Writes one byte, keeping the canonical form. -/
def memWr (m : List Host.Cell) (a : Nat) (b : BitVec 8) : List Host.Cell :=
  if b = Memory.unlisted then m.filter (fun c => c.1 != a) else memIns m a b

/-- Reads `n` bytes from `a` up. -/
def memRdN (m : List Host.Cell) (a n : Nat) : Bytes := (List.range n).map (fun i => memRd m (a + i))

/-- Writes a string of bytes from `a` up. -/
def memWrN : List Host.Cell → Nat → Bytes → List Host.Cell
  | m, _, [] => m
  | m, a, b :: t => memWrN (memWr m a b) (a + 1) t

/-- Clears [lo, hi): every byte there reads as unlisted again. -/
def memClear (m : List Host.Cell) (lo hi : Nat) : List Host.Cell :=
  m.filter (fun c => c.1 < lo || hi ≤ c.1)

/-! ### Time, configuration, free values -/

/-- UPTIME in ns, in steps of 10 ns (R364). -/
def uptime (s : State) : Nat := (s.clock - s.upBase) / 10 * 10

/-- The pattern in force. -/
def pat (s : State) : Pattern := s.pf.force

/-- Round period P in ns (R32). -/
def periodNs (s : State) : Nat := (pat s).bind.period * 1000

/-- Duration of one tick (R134). -/
def tickNs : Nat := 50000

/-- Moves the clock to an instant that a command reports, never back. -/
def clockTo (t : Nat) (s : State) : State := { s with clock := max s.clock t }

/-- Whether the chip runs: cast-on has been reached and no freeze holds it. -/
def running (s : State) : Bool := s.glb.life == .up

/-- A command that only a running chip takes: it has no effect while the chip is in reset, before cast-on, or frozen. -/
def live (f : State → State) (s : State) : Host.Outcome State Fault Refusal := .next (if running s then f s else s)

/-- A fresh free value as a register word. -/
def freshWord (s : State) : Word × State :=
  (Config.freeWord s.freeCtr, { s with freeCtr := s.freeCtr + 1 })

/-- Folds a state transformer over a list. -/
def each {α : Type} (l : List α) (f : α → State → State) (s : State) : State :=
  l.foldl (fun s a => f a s) s

/-- Applies a transformer where a condition holds. -/
def whenS (c : Bool) (f : State → State) (s : State) : State := if c then f s else s

/-- The first tick boundary after instant `t` (R247, R455), not before the next tick. -/
def tickAfter (s : State) (t : Nat) : Nat := if t < s.tickAt then s.tickAt else s.tickAt + ((t - s.tickAt) / tickNs + 1) * tickNs

/-- Code of a role in GLB_ROLE.STATE (R260). -/
def roleCode : Role → Nat
  | .none => 0
  | .held => 1
  | .standby => 2
  | .active => 3
  | .alone => 4
  | .safe => 5

/-- The module drives (R235). -/
def drives (s : State) : Bool := s.glb.role == .active || s.glb.role == .alone

/-- A partner is qualified exactly while this module is ACTIVE (R235). -/
def hasPartner (s : State) : Bool := s.glb.role == .active

end Sys2Proof.Machine
end

