-- ==== Sys2Proof/Machine/Formats.lean ====
section
/-! DEFINITION. Number formats and rounding (R44 to R57): exact values as signed dyadics, conversion with one rounding, FP32 arithmetic, MX blocks, the Q8.31 accumulator, stochastic rounding. -/

namespace Sys2Proof.Machine

/-- An exact value: NaN, an infinity, or ± m × 2^e. -/
inductive FV where
  | nan
  | inf (neg : Bool)
  | fin (neg : Bool) (m : Nat) (e : Int)
  deriving DecidableEq, Repr, Inhabited

/-- A floating format of R44: exponent and mantissa bits, bias, whether it has infinities (E4M3 and the MX elements have none), its NaN code, its largest finite magnitude code. -/
structure Fmt where
  ebits : Nat
  mbits : Nat
  bias : Nat
  hasInf : Bool
  nanCode : Nat
  maxCode : Nat
  deriving DecidableEq, Repr, Inhabited

def fmtFP32 : Fmt := ⟨8, 23, 127, true, 0x7FC00000, 0x7F7FFFFF⟩
def fmtBF16 : Fmt := ⟨8, 7, 127, true, 0x7FC0, 0x7F7F⟩
def fmtFP16 : Fmt := ⟨5, 10, 15, true, 0x7E00, 0x7BFF⟩
def fmtE4M3 : Fmt := ⟨4, 3, 7, false, 0x7F, 0x7E⟩
def fmtE5M2 : Fmt := ⟨5, 2, 15, true, 0x7E, 0x7B⟩
def fmtE3M2 : Fmt := ⟨3, 2, 3, false, 0, 0x1F⟩
def fmtE2M3 : Fmt := ⟨2, 3, 1, false, 0, 0x1F⟩
def fmtE2M1 : Fmt := ⟨2, 1, 1, false, 0, 0x7⟩

/-- Weight of the least bit of a subnormal of a format. -/
def Fmt.qmin (f : Fmt) : Int := 1 - (f.bias : Int) - (f.mbits : Int)

/-- The magnitude of a code without its sign bit. -/
def magOf (f : Fmt) (neg : Bool) (c : Nat) : FV :=
  let x := c / 2 ^ f.mbits
  let m := c % 2 ^ f.mbits
  if x = 0 then .fin neg m f.qmin else .fin neg (2 ^ f.mbits + m) (f.qmin + (x : Int) - 1)

/-- The value of a code (R44). -/
def decF (f : Fmt) (c : Nat) : FV :=
  let w := f.ebits + f.mbits
  let neg := bitOf c w
  let c := c % 2 ^ w
  if f.hasInf && c / 2 ^ f.mbits = 2 ^ f.ebits - 1 then
    if c % 2 ^ f.mbits = 0 then .inf neg else .nan
  else if f.nanCode = 0x7F && c = 0x7F then .nan
  else magOf f neg c

/-- m / 2^k rounded to nearest, ties to even (R50). -/
def rneDiv (m k : Nat) : Nat :=
  let q := m / 2 ^ k
  let r := m % 2 ^ k * 2
  if r < 2 ^ k then q else if 2 ^ k < r then q + 1 else q + q % 2

/-- m × 2^e in units of 2^q, rounded to nearest even. -/
def rneAt (m : Nat) (e q : Int) : Nat :=
  if q ≤ e then m * 2 ^ (e - q).toNat else rneDiv m (q - e).toNat

/-- Magnitude code of m × 2^e before the overflow rule: the destination with unbounded range above (R51 step 1). -/
def roundMag (f : Fmt) (m : Nat) (e : Int) : Nat :=
  if m = 0 then 0
  else
    let q := max ((Nat.log2 m : Int) + e - f.mbits) f.qmin
    ((q - f.qmin).toNat) * 2 ^ f.mbits + rneAt m e q

/-- Code of a value in a format and whether it overflowed (R46, R51, R52). -/
def encF (f : Fmt) (v : FV) : Nat × Bool :=
  let s (n : Bool) : Nat := if n then 2 ^ (f.ebits + f.mbits) else 0
  let infCode := (2 ^ f.ebits - 1) * 2 ^ f.mbits
  match v with
  | .nan => (f.nanCode, false)
  | .inf n => ((if f.hasInf then infCode else f.maxCode) + s n, false)
  | .fin n m e =>
    let c := roundMag f m e
    if c ≤ f.maxCode then (c + s n, false) else ((if f.hasInf then infCode else f.maxCode) + s n, true)

/-- Negation. -/
def FV.neg : FV → FV
  | .nan => .nan
  | .inf n => .inf (!n)
  | .fin n m e => .fin (!n) m e

/-- Exact sum; the sign of an exact zero sum is + except where both terms are −0 (R56). -/
def FV.add : FV → FV → FV
  | .nan, _ => .nan
  | _, .nan => .nan
  | .inf a, .inf b => if a = b then .inf a else .nan
  | .inf a, _ => .inf a
  | _, .inf b => .inf b
  | .fin a m e, .fin b k g =>
    let q := min e g
    let x : Int := (m * 2 ^ (e - q).toNat : Nat)
    let y : Int := (k * 2 ^ (g - q).toNat : Nat)
    let z := (if a then -x else x) + (if b then -y else y)
    if z = 0 then .fin (a && b) 0 q else .fin (decide (z < 0)) z.natAbs q

/-- Exact product. -/
def FV.mul : FV → FV → FV
  | .nan, _ => .nan
  | _, .nan => .nan
  | .inf a, .inf b => .inf (a != b)
  | .inf a, .fin b k _ => if k = 0 then .nan else .inf (a != b)
  | .fin a m _, .inf b => if m = 0 then .nan else .inf (a != b)
  | .fin a m e, .fin b k g => .fin (a != b) (m * k) (e + g)

/-- Quotient with a sticky last bit, enough for one correct rounding to 24 bits. -/
def FV.div : FV → FV → FV
  | .nan, _ => .nan
  | _, .nan => .nan
  | .inf _, .inf _ => .nan
  | .inf a, .fin b _ _ => .inf (a != b)
  | .fin a _ _, .inf b => .fin (a != b) 0 0
  | .fin a m e, .fin b k g =>
    if k = 0 then (if m = 0 then .nan else .inf (a != b))
    else
      let sh := 40 + Nat.log2 k
      let n := m * 2 ^ sh
      .fin (a != b) (n / k * 2 + (if n % k = 0 then 0 else 1)) (e - g - sh - 1)

/-- Integer square root by bits, `b` bits left to try. -/
def isqrtFrom : Nat → Nat → Nat → Nat
  | 0, r, n => if (r + 1) * (r + 1) ≤ n then r + 1 else r
  | b + 1, r, n => if (r + 2 ^ (b + 1)) * (r + 2 ^ (b + 1)) ≤ n then isqrtFrom b (r + 2 ^ (b + 1)) n else isqrtFrom b r n

/-- Square root with a sticky last bit, enough for one correct rounding to 24 bits (R78). -/
def FV.sqrt : FV → FV
  | .nan => .nan
  | .inf n => if n then .nan else .inf false
  | .fin a m e =>
    if m = 0 then .fin a 0 0
    else if a then .nan
    else
      let odd : Nat := (e % 2).toNat
      let n := m * 2 ^ (60 + odd)
      let r := isqrtFrom (Nat.log2 n / 2 + 1) 0 n
      .fin false (r * 2 + (if r * r = n then 0 else 1)) ((e - odd - 60) / 2 - 1)

/-- An exact comparison; false where either is NaN. -/
def FV.le : FV → FV → Bool
  | .nan, _ => false
  | _, .nan => false
  | .inf a, .inf b => a || !b
  | .inf a, _ => a
  | _, .inf b => !b
  | .fin a m e, .fin b k g =>
    let q := min e g
    let x : Int := (m * 2 ^ (e - q).toNat : Nat)
    let y : Int := (k * 2 ^ (g - q).toNat : Nat)
    decide ((if a then -x else x) ≤ (if b then -y else y))

/-- An exact integer. -/
def FV.ofInt (i : Int) : FV := .fin (decide (i < 0)) i.natAbs 0

/-- The value is finite. -/
def FV.finite : FV → Bool
  | .fin _ _ _ => true
  | _ => false

/-- The value rounded to the nearest integer, ties to even; `none` where not finite. -/
def FV.toInt : FV → Option Int
  | .fin n m e => let k : Int := (rneAt m e 0 : Nat); some (if n then -k else k)
  | _ => none

/-- The value cut towards zero to an integer. -/
def FV.trunc : FV → Int
  | .fin n m e =>
    let k : Int := ((if 0 ≤ e then m * 2 ^ e.toNat else m / 2 ^ (-e).toNat) : Nat)
    if n then -k else k
  | _ => 0

/-! ### FP32 arithmetic, one rounding each (R50) -/

def f32v (a : F32) : FV := decF fmtFP32 a.toNat
def toF32 (v : FV) : F32 := BitVec.ofNat 32 (encF fmtFP32 v).1
def fadd (a b : F32) : F32 := toF32 ((f32v a).add (f32v b))
def fneg (a : F32) : F32 := a ^^^ 0x80000000#32
def fsub (a b : F32) : F32 := toF32 ((f32v a).add (f32v b).neg)
def fmul (a b : F32) : F32 := toF32 ((f32v a).mul (f32v b))
def fdiv (a b : F32) : F32 := toF32 ((f32v a).div (f32v b))
def ffma (a b c : F32) : F32 := toF32 (((f32v a).mul (f32v b)).add (f32v c))
def fsqrt (a : F32) : F32 := toF32 (f32v a).sqrt
def fofInt (i : Int) : F32 := toF32 (FV.ofInt i)
def fofNat (n : Nat) : F32 := fofInt n
def fle (a b : F32) : Bool := (f32v a).le (f32v b)
def flt (a b : F32) : Bool := (f32v a).le (f32v b) && !(f32v b).le (f32v a)
def fmax (a b : F32) : F32 := if flt a b then b else a
def fmin (a b : F32) : F32 := if flt b a then b else a
def ffinite (a : F32) : Bool := (f32v a).finite
def fabs (a : F32) : F32 := a &&& 0x7FFFFFFF#32
def fzero : F32 := 0#32

/-! ### FP32 arithmetic with the overflow of R51 noted -/

/-- An FP32 result and whether a finite value overflowed on the way to it. -/
abbrev FX := F32 × Bool

/-- An exact value rounded to FP32. -/
def x32 (v : FV) : FX := let (c, o) := encF fmtFP32 v; (BitVec.ofNat 32 c, o)
/-- An operation on two results. -/
def xlift (f : FV → FV → FV) (a b : FX) : FX := let r := x32 (f (f32v a.1) (f32v b.1)); (r.1, a.2 || b.2 || r.2)
def xk (v : F32) : FX := (v, false)
def xadd (a b : FX) : FX := xlift FV.add a b
def xsub (a b : FX) : FX := xlift (fun u v => u.add v.neg) a b
def xmul (a b : FX) : FX := xlift FV.mul a b
def xdiv (a b : FX) : FX := xlift FV.div a b
def xfma (a b c : FX) : FX := let r := x32 (((f32v a.1).mul (f32v b.1)).add (f32v c.1)); (r.1, a.2 || b.2 || c.2 || r.2)
def xsqrt (a : FX) : FX := let r := x32 (f32v a.1).sqrt; (r.1, a.2 || r.2)

/-- The value of an FP16 code as FP32: exact (R51). -/
def f16to32 (a : F16) : F32 := toF32 (decF fmtFP16 a.toNat)

/-- FP32 to FP16 with one rounding. -/
def f32to16 (a : F32) : F16 := BitVec.ofNat 16 (encF fmtFP16 (f32v a)).1

/-- FP32 converted to FP16, and whether it overflowed (R51). -/
def f32to16X (a : FX) : F16 × Bool := (f32to16 a.1, a.2 || (encF fmtFP16 (f32v a.1)).2)

/-- FP32 to BF16 with one rounding. -/
def f32toBf (a : F32) : F16 := BitVec.ofNat 16 (encF fmtBF16 (f32v a)).1

/-- round_even to an integer; 0 for NaN, the bound of the sign for an infinity. -/
def froundI (bound : Int) (a : F32) : Int :=
  match f32v a with
  | .nan => 0
  | .inf n => if n then -bound else bound
  | v => v.toInt.getD 0

/-- sat16 of an integer (R45). -/
def sat16 (i : Int) : Int := clampI (-32768) 32767 i

/-- sat16(round_even(t)) of an FP32 value (R138). -/
def q15Of (t : F32) : Int := sat16 (froundI 32768 t)

/-! ### The Q8.31 accumulator (R55) -/

/-- Saturation of the 40-bit accumulator. -/
def sat40 (i : Int) : Int := clampI (-(2 ^ 39)) (2 ^ 39 - 1) i

/-- Division by 2^k rounded to nearest even, of a signed integer. -/
def rneInt (i : Int) (k : Nat) : Int :=
  let r : Int := (rneDiv i.natAbs k : Nat)
  if i < 0 then -r else r

/-- Write-back wb(acc): 31 fraction bits rounded to 15, saturated (R55). -/
def wb (acc : Int) : Int := sat16 (rneInt acc 16)

/-- A Q15 difference formed in the accumulator and written back (R139). -/
def wbSub (a b : Int) : Int := wb ((a - b) * 65536)

/-! ### MX blocks and other element formats (R48, R49, R51) -/

/-- Tensor formats of R76: an MX element format. -/
def isMx (f : Nat) : Bool := 6 ≤ f && f ≤ 9

/-- A format scaled per tensor (R47). -/
def isScaled (f : Nat) : Bool := f == 4 || f == 5 || f == 10

/-- MX element formats by their number: 0 E3M2, 1 E2M3, 2 E2M1, 3 MXINT8. -/
def mxFmt (k : Nat) : Fmt := if k = 0 then fmtE3M2 else if k = 1 then fmtE2M3 else fmtE2M1

/-- emax of R49. -/
def mxEmax (k : Nat) : Int := if k = 0 then 4 else if k = 1 then 2 else if k = 2 then 2 else 0

/-- Value of an MX element code. -/
def mxElem (k c : Nat) : FV :=
  if k = 3 then let i := sgn 8 c; .fin (decide (i < 0)) i.natAbs (-6) else decF (mxFmt k) c

/-- Code of a value in an MX element format, saturating (R49 step 3, R51). -/
def mxEnc (k : Nat) (v : FV) : Nat :=
  if k = 3 then
    match v with
    | .fin n m e => let q := min (rneAt m e (-6)) 127; if n then (256 - q) % 256 else q
    | _ => 0
  else (encF (mxFmt k) v).1

/-- The larger magnitude's floor(log2), over finite values. -/
def fvLog : FV → Option Int
  | .fin _ m e => if m = 0 then none else some ((Nat.log2 m : Int) + e)
  | _ => none

/-- The value divided by 2^x: exact. -/
def fvScale (v : FV) (x : Int) : FV :=
  match v with
  | .fin n m e => .fin n m (e - x)
  | w => w

/-- An MXINT8 element saturates (R51): its rounded magnitude exceeds 127. -/
def mxSat (k : Nat) (v : FV) : Bool :=
  match v with
  | .fin _ m e => k == 3 && decide (127 < rneAt m e (-6))
  | _ => false

/-- Converts values into one MX block: scale byte, element codes, and the bits of FC_FMT_STAT that it sets, 4 MX_NAN_SCALE (R49) and 2 INT_SAT (R51). -/
def mxBlock (k : Nat) (vs : List FV) : Nat × List Nat × Nat :=
  if vs.any (fun v => !v.finite) then (0xFF, vs.map (fun _ => 0), 16)
  else
    match (vs.filterMap fvLog) with
    | [] => (0, vs.map (fun _ => 0), 0)
    | l :: ls =>
      let x := clampI (-127) 127 (ls.foldl max l - mxEmax k)
      ((x + 127).toNat, vs.map (fun v => mxEnc k (fvScale v x)), if vs.any (fun v => mxSat k (fvScale v x)) then 4 else 0)

/-- Value of an MX element under its block's scale byte; NaN at 0xFF (R48). -/
def mxVal (k sc c : Nat) : FV :=
  if sc = 0xFF then .nan else fvScale (mxElem k c) (127 - (sc : Int))

/-- One step of the Galois LFSR of R57. -/
def lfsrStep (x : BitVec 32) : BitVec 32 :=
  if x.getLsbD 0 then (x >>> 1) ^^^ 0x80200003#32 else x >>> 1

/-- Loading of a tile's LFSR (R57). -/
def lfsrLoad (seed : BitVec 32) (tile : Nat) : BitVec 32 :=
  let x := seed ^^^ BitVec.ofNat 32 (tile * 0x9E3779B9)
  if x = 0#32 then 1#32 else x

/-- Stochastic conversion of one FP32 value to BF16 under an LFSR state, and whether SR_SAT is set (R57). -/
def srConv (x : BitVec 32) (a : F32) : F16 × Bool :=
  match f32v a with
  | .nan => (0x7FC0#16, false)
  | .inf n => (if n then 0xFF80#16 else 0x7F80#16, false)
  | .fin _ _ _ =>
    let mag := a.toNat % 2 ^ 31 + x.toNat % 65536
    let hi := mag / 65536
    let neg := if a.getLsbD 31 then 0x8000 else 0
    if 0x7F80 ≤ hi then (BitVec.ofNat 16 (0x7F7F + neg), true) else (BitVec.ofNat 16 (hi + neg), false)

/-- Converts a run of elements in address order, the LFSR advancing one step before each (R57). -/
def srRun : BitVec 32 → List F32 → List F16 × BitVec 32 × Bool
  | x, [] => ([], x, false)
  | x, a :: t =>
    let x := lfsrStep x
    let (b, f) := srConv x a
    let (bs, y, g) := srRun x t
    (b :: bs, y, f || g)

end Sys2Proof.Machine
end

