-- ==== Sys2Proof/Machine/Flags.lean ====
section
/-! DEFINITION. Event severities (R349), the ERR bit each event code sets, and the ERR and IRQ_EN registers of every block. -/

namespace Sys2Proof.Machine

/-- Codes of severity FATAL. -/
def codesFatal : List Nat := [0x0104, 0x0108, 0x0907, 0x0908]

/-- Codes of severity CRITICAL. -/
def codesCritical : List Nat :=
  [0x0105, 0x010E, 0x0122, 0x0127, 0x012E, 0x012F, 0x0206, 0x020C, 0x020D, 0x0301, 0x0304, 0x030E] ++
  [0x0401, 0x0404, 0x0405, 0x0406, 0x0407, 0x0409, 0x040C, 0x0606, 0x0808, 0x080A, 0x080D, 0x0906] ++
  [0x0A07, 0x0A08, 0x0B03, 0x0B0A, 0x0B0B]

/-- Codes of severity WARNING. -/
def codesWarning : List Nat :=
  [0x0103, 0x0106, 0x0107, 0x0109, 0x010D, 0x010F, 0x0110, 0x0123, 0x0125, 0x0126, 0x012A, 0x012B] ++
  [0x012C, 0x012D, 0x0201, 0x0203, 0x0204, 0x0205, 0x0207, 0x0208, 0x020A, 0x020B, 0x0303, 0x0307] ++
  [0x0308, 0x0309, 0x030B, 0x0408, 0x040A, 0x040E, 0x0410, 0x0502, 0x0601, 0x0603, 0x0605, 0x0702] ++
  [0x0703, 0x0705, 0x0706, 0x0708, 0x0709, 0x070B, 0x0802, 0x0806, 0x0809, 0x0902, 0x0905, 0x0983] ++
  [0x0984, 0x0A01, 0x0A03, 0x0A04, 0x0A05, 0x0A41, 0x0A42, 0x0A43, 0x0A46, 0x0A49, 0x0B01, 0x0B05] ++
  [0x0B06, 0x0B07, 0x0B09]

/-- Codes of severity INFO. -/
def codesInfo : List Nat :=
  [0x0202, 0x0209, 0x030A, 0x0504, 0x0604, 0x0704, 0x070A, 0x080B, 0x080E, 0x0982, 0x0985, 0x0A09] ++
  [0x0A45, 0x0A47, 0x0B08]

/-- Severity of an event code (R349): every code in no list above is NOTICE. -/
def sevOf (code : Nat) : Nat :=
  if codesFatal.contains code then 5
  else if codesCritical.contains code then 4
  else if codesWarning.contains code then 3
  else if codesInfo.contains code then 1
  else 2

/-- The ERR register (address) and bit that a written record sets, where the code alone decides it. -/
def errTable : List (Nat × Nat × Nat) :=
  [(0x0103, 0x8, 0), (0x0104, 0x8, 2), (0x0105, 0x8, 1), (0x0106, 0x8, 3), (0x0109, 0x8, 4), (0x010A, 0x8, 5)] ++
  [(0x010B, 0x8, 8), (0x010C, 0x8, 8), (0x010D, 0x8, 6), (0x010E, 0x8, 7), (0x010F, 0x8, 9), (0x0121, 0x1010, 2)] ++
  [(0x0122, 0x1010, 0), (0x0123, 0x1010, 1), (0x0126, 0x1010, 3), (0x0127, 0x1010, 4), (0x012B, 0x1010, 5), (0x012C, 0x1010, 6)] ++
  [(0x012D, 0x1010, 7), (0x012E, 0x1010, 8), (0x012F, 0x1010, 9), (0x0201, 0x100000C, 0), (0x0203, 0x100000C, 2), (0x0204, 0x100000C, 2)] ++
  [(0x0205, 0x100000C, 3), (0x0206, 0x100000C, 4), (0x0207, 0x100000C, 5), (0x0208, 0x100000C, 1), (0x020A, 0x100000C, 6), (0x020C, 0x100000C, 7)] ++
  [(0x020D, 0x100000C, 8), (0x0404, 0x3000008, 2), (0x0405, 0x3000008, 3), (0x0406, 0x3000008, 5), (0x0407, 0x3000008, 4), (0x0408, 0x3000008, 5)] ++
  [(0x0409, 0x3000008, 4), (0x040A, 0x3000008, 6), (0x040B, 0x3000008, 6), (0x040C, 0x3000008, 7), (0x0410, 0x3000008, 8), (0x0501, 0x4000008, 1)] ++
  [(0x0502, 0x4000008, 0), (0x0503, 0x4000008, 2), (0x0601, 0x5000008, 0), (0x0602, 0x5000008, 1), (0x0603, 0x5000008, 2), (0x0604, 0x5000008, 3)] ++
  [(0x0605, 0x5000008, 5), (0x0606, 0x5000008, 4), (0x0701, 0x6000008, 0), (0x0702, 0x6000008, 0), (0x0703, 0x6000008, 0), (0x0704, 0x6000008, 1)] ++
  [(0x0705, 0x6000008, 2), (0x0706, 0x6000008, 3), (0x0708, 0x6000008, 7), (0x0709, 0x6000008, 4), (0x070A, 0x6000008, 5), (0x070B, 0x6000008, 6)] ++
  [(0x070C, 0x6000008, 8), (0x0802, 0x7000008, 0), (0x0804, 0x7000008, 1), (0x0805, 0x7000008, 3), (0x0806, 0x7000008, 2), (0x0807, 0x7000008, 4)] ++
  [(0x0808, 0x7000008, 5), (0x0809, 0x7000008, 6), (0x080A, 0x7000008, 7), (0x080C, 0x7000008, 9), (0x080D, 0x7000008, 8), (0x0902, 0x8000008, 0)] ++
  [(0x0904, 0x8000008, 1), (0x0905, 0x8000008, 4), (0x0906, 0x8000008, 2), (0x0907, 0x8000008, 3), (0x0908, 0x8000008, 3), (0x0B01, 0x16001008, 5)] ++
  [(0x0B03, 0x16001008, 0), (0x0B04, 0x16001008, 1), (0x0B05, 0x16001008, 4), (0x0B06, 0x16001008, 2), (0x0B07, 0x16001008, 3), (0x0B09, 0x16001008, 7)] ++
  [(0x0B0A, 0x16001008, 0), (0x0B0B, 0x16001008, 6)]

/-- Codes whose ERR bit names the event and no written record: a plate in LIMIT 1, UNACKED or held, the keeper's start (R131). -/
def errAtEvent : List Nat := [0x0B01, 0x0B04, 0x0B05, 0x0B06]

/-- Reset value of the IRQ_EN register that goes with an ERR register. -/
def irqReset : List (Nat × Nat) :=
  [(0x8, 0x3DF), (0x1010, 0x3FF), (0x100000C, 0x1BF), (0x3000008, 0x1FF), (0x4000008, 0xD), (0x5000008, 0x33), (0x6000008, 0x1DD), (0x7000008, 0x3E5), (0x8000008, 0x1D), (0x8100000, 0xFF0), (0x16001008, 0xED)]

/-- Enables that go with the ERR register at `a`: FC_REG_IRQ_EN and FB_IRQ_EN repeat per region and bus. -/
def irqEn (s : State) (a : Nat) : Nat :=
  match tget s.irqs a with
  | some w => w.toNat
  | none =>
    match irqReset.find? (fun e => e.1 == a) with
    | some e => e.2
    | none => if a / 0x1000000 == 2 then 0xFF07FC else if 0x10 ≤ a / 0x1000000 && a / 0x1000000 ≤ 0x15 then 0xFC else 0

/-- Present value of an ERR register. -/
def errVal (s : State) (a : Nat) : Nat := (tgetD s.errs a 0#32).toNat

/-- Sets bit `b` of the ERR register at `a`. A bit that goes from 0 to 1 is remembered for every peer with right 9 (R322). -/
def setErr (a b : Nat) (s : State) : State :=
  if bitOf (errVal s a) b then s
  else
    let s := { s with errs := tset s.errs a (BitVec.ofNat 32 (errVal s a + 2 ^ b)) }
    let ps := (pat s).peers.peers.filter (fun p => bitOf p.rights 9)
    { s with hl.newErr := ps.foldl (fun t p => tmod t p.index [] (· ++ [a * 32 + b])) s.hl.newErr }

/-- Sets the ERR bit of an event code, where it has one. -/
def setErrOf (code : Nat) (s : State) : State :=
  match errTable.find? (fun e => e.1 == code) with
  | some e => setErr e.2.1 e.2.2 s
  | none => s

end Sys2Proof.Machine
end

