-- ==== Sys2Proof/Machine/Record.lean ====
section
/-! DEFINITION. Writing an event record: severity, rate limiting, sequence number, storage tiers (chapter 12). -/

namespace Sys2Proof.Machine

/-- Part of a slew done after `ns` of uptime: 500 ppm towards the whole difference (R365). -/
def slewDone (d : Int) (ns : Nat) : Int :=
  let m : Int := (ns * 500 / 1000000 : Nat)
  if d < 0 then max d (-m) else min d m

/-- Wall-clock offset now (R365). -/
def wallOff (s : State) : Int :=
  match s.wall.slew with
  | some (d, t) => s.wall.off + slewDone d (uptime s - t)
  | none => s.wall.off

/-- WALL := UPTIME + offset (R365), as a 64-bit value. -/
def wallNow (s : State) : Nat := twos 64 ((uptime s : Int) + wallOff s)

/-- One argument word. -/
def aw (n : Nat) : List Word := [BitVec.ofNat 32 n]

/-- One signed argument word. -/
def ai (i : Int) : List Word := [BitVec.ofInt 32 i]

/-- A 64-bit argument, low word first (R353). -/
def aq (n : Nat) : List Word := [BitVec.ofNat 32 n, BitVec.ofNat 32 (n / 2 ^ 32)]

/-- A list argument: 16-bit half-words, low half first (R353). -/
def al16 : List Nat → List Word
  | [] => []
  | [a] => [BitVec.ofNat 32 (a % 65536)]
  | a :: b :: t => BitVec.ofNat 32 (a % 65536 + b % 65536 * 65536) :: al16 t

/-- First 8 bytes of a digest as a 64-bit argument (R353). -/
def adig (d : Bytes) : List Word := aq (fld d 0 8)

/-- Source unit address of R352. -/
def src (kind index : Nat) : Nat := kind * 4096 + index

/-- The generation a slot takes when a record is written into it (R355). -/
def genNext (g : Nat) : Nat := let x := (g + 2) % 2 ^ 32; if x = 0 then 2 else x

/-- Slot of the record with the lowest SEQ among those of severity at most `sev` (R358). -/
def victim (t : Tab EvSlot) (sev : Nat) : Option Nat :=
  (t.foldl (fun (b : Option (Nat × Nat)) e =>
    if e.2.r.sev ≤ sev then
      match b with
      | some (_, q) => if e.2.r.seq < q then some (e.1, e.2.r.seq) else b
      | none => some (e.1, e.2.r.seq)
    else b) none).map (·.1)

/-- Puts a record into a tier of `cap` slots: the next free slot, or the one R358 selects; none where the record is dropped. -/
def tierPut (t : Tab EvSlot) (cap : Nat) (r : EvRec) : Option (Tab EvSlot × Nat) :=
  if t.length < cap then some (tset t t.length { gen := genNext 0, r := r }, t.length)
  else
    match victim t r.sev with
    | some k => some (tset t k { gen := genNext (tgetD t k {}).gen, r := r }, k)
    | none => none

/-- Counts a drop from tier `t` of severity `sev` (R358, R359). -/
def countDrop (t sev : Nat) (s : State) : State :=
  { s with
    ev.drops := tmod s.ev.drops (t * 8 + sev) 0 (satAdd 0xFFFFFFFF · 1)
    ev.dropsNew := tmod s.ev.dropsNew (t * 8 + sev) 0 (satAdd 0xFFFF · 1) }

/-- Writes a record to the on-chip ring (R357). -/
def putRing (r : EvRec) (s : State) : State :=
  match tierPut s.ev.ring 65536 r with
  | some (t, k) => { s with ev.ring := t, ev.ringLast := k }
  | none => countDrop 0 r.sev s

/-- Writes a record to the HBM extension while it is in service (R357). -/
def putHbm (r : EvRec) (s : State) : State :=
  if s.ev.hbmOk then
    match tierPut s.ev.hbm s.ev.hbmCap r with
    | some (t, k) => { s with ev.hbm := t, ev.hbmLast := k }
    | none => countDrop 1 r.sev s
  else s

/-- Enters a CRITICAL or FATAL record into the staging buffer of 256 records (R360). -/
def putStaging (r : EvRec) (s : State) : State :=
  if r.sev < 4 then s
  else
    let s := if s.pwr.dip then setErr 0x04000008 3 { s with ev.pstDefer := true } else s
    if s.ev.staging.length < 256 then { s with ev.staging := s.ev.staging ++ [r] }
    else
      match s.ev.staging.find? (fun q => q.sev ≤ r.sev) with
      | some q => { (countDrop 2 q.sev s) with ev.staging := s.ev.staging.filter (fun x => x.seq != q.seq) ++ [r] }
      | none => countDrop 2 r.sev s

/-- Rate and burst of a code: the pattern's record or the section's defaults (R361, R368). -/
def rateOf (s : State) (code : Nat) : Nat × Nat :=
  match (pat s).rates.codes.find? (fun c => c.code == code) with
  | some c => (c.r, c.b)
  | none => ((pat s).rates.r, (pat s).rates.b)

/-- The bucket after refilling to uptime `now` at `r` tokens per second up to `b` (R361). -/
def refill (k : Bucket) (now r b : Nat) : Bucket :=
  let x := (now - k.at_) * r * 65536 + k.rem
  let t := k.tokens + x / 1000000000
  if b * 65536 ≤ t then { tokens := b * 65536, at_ := now, rem := 0 }
  else { tokens := t, at_ := now, rem := x % 1000000000 }

/-- Takes one token of a code; false where the record is suppressed (R361). -/
def takeToken (code : Nat) (s : State) : Bool × State :=
  let (r, b) := rateOf s code
  if r = 0xFFFF then (true, s)
  else
    let now := uptime s
    let k := refill (tgetD s.ev.buckets code { tokens := b * 65536, at_ := now }) now r b
    if 65536 ≤ k.tokens then (true, { s with ev.buckets := tset s.ev.buckets code { k with tokens := k.tokens - 65536 } })
    else (false, { s with ev.buckets := tset s.ev.buckets code k })

/-- Numbers a record that passed rate limiting and writes it to every tier (R350 to R358). -/
def storeRec (r : EvRec) (s : State) : State :=
  let n := tgetD s.ev.supp r.code 0
  let r := { r with
    seq := s.ev.seqNext
    suppressed := min n 0xFFFF
    flags := r.flags + (if 0xFFFF < n then 2 else 0) }
  let s := { s with
    ev.supp := tdel s.ev.supp r.code
    ev.seqLast := r.seq
    ev.seqNext := r.seq + 1
    ev.boot := max s.ev.boot ((r.seq + 1) / 2 ^ 40) }
  putStaging r (putHbm r (putRing r (whenS (!errAtEvent.contains r.code) (setErrOf r.code) s)))

/-- Rate limiting of a record, then its writing (R361 to R363). `r.flags` holds STEPPED, CLEAR and LATE. -/
def passRec (r : EvRec) (s : State) : State :=
  if r.sev < (pat s).rates.recMin then s
  else if r.sev = 5 || r.code = 0x0501 || bitOf r.flags 3 then storeRec r s
  else
    match takeToken r.code s with
    | (true, s) => storeRec r s
    | (false, s) => { s with ev.supp := tmod s.ev.supp r.code 0 (satAdd 0x10000 · 1) }

/-- A record at its creation carries the wall clock's offset in force and WALL_UNSET (R351, R365). -/
def stampWall (r : EvRec) (s : State) : EvRec :=
  { r with wall := twos 64 ((r.uptime : Int) + wallOff s), flags := r.flags + (if s.wall.set then 0 else 16) }

/-- A record reaches the recorder; one under block reset holds up to 64 of them at their sources (R421). An error bit that names the event and no record is set whatever becomes of the record. -/
def emitRec (r : EvRec) (s : State) : State :=
  let r := stampWall r s
  let s := whenS (errAtEvent.contains r.code && !bitOf r.flags 2) (setErrOf r.code) s
  if s.ev.quar then
    if s.ev.held.length < 64 then { s with ev.held := s.ev.held ++ [r] } else countDrop 0 r.sev s
  else passRec r s

/-- Writes a record of `code` from unit `source` with its arguments; `clear` is the clear flag of R351. -/
def emit (code source : Nat) (args : List Word) (s : State) (clear : Bool := false) : State :=
  emitRec { code := code, sev := sevOf code, flags := if clear then 4 else 0, uptime := uptime s, source := source, args := args.take 6 } s

/-- A LATE record: its UPTIME is that of the earlier transition (R233, R351). -/
def emitLate (code source : Nat) (args : List Word) (up : Nat) (s : State) (clear : Bool := false) : State :=
  emitRec { code := code, sev := sevOf code, flags := (if clear then 4 else 0) + 8, uptime := up, source := source, args := args.take 6 } s

/-- The 64 bytes of a slot (R350). -/
def slotBytes (x : EvSlot) : Bytes :=
  let a := (x.r.args.map (fun w => le w.toNat 4)).flatten
  le x.gen 4 ++ le x.r.code 2 ++ le x.r.sev 1 ++ le x.r.flags 1 ++ le x.r.seq 8 ++ le x.r.uptime 8 ++ le x.r.wall 8 ++
    le x.r.source 2 ++ le x.r.suppressed 2 ++ slice a 0 24 ++ le x.gen 4

/-- Word `w` of slot `k` of a tier; an unwritten slot reads zero (R355). -/
def slotWord (t : Tab EvSlot) (k w : Nat) : Nat :=
  match tget t k with
  | some x => fld (slotBytes x) (w * 4) 4
  | none => 0

/-- Programs one staged record into the persistent store (R360). -/
def programOne (r : EvRec) (s : State) : State :=
  match tierPut s.ev.pst 4194304 r with
  | some (t, _) => { s with ev.pst := t }
  | none => countDrop 2 r.sev s

/-- Programs the staging buffer (R360). -/
def programStaging (s : State) : State :=
  { (each s.ev.staging programOne s) with ev.staging := [], ev.pstDefer := s.pwr.dip }

end Sys2Proof.Machine
end

