-- ==== Sys2Proof/Machine/Front.lean ====
section
/-! DEFINITION. The field I/O front end (R400, R438 to R441), input conversion (R138) and the values that inputs and vote groups deliver (R140 to R144, R224, R468). -/

namespace Sys2Proof.Machine

/-- FP32 constants. -/
def f32k (n : Nat) (d : Nat) : F32 := fdiv (fofNat n) (fofNat d)

/-- The I/O map record of a pin (R441). -/
def ioRec (s : State) (kind idx : Nat) : Option IoRec := (pat s).io.find? (fun r => r.kind == kind && r.index == idx && r.enable)

/-- The gauge record of a kind (1 an input number, 2 a gauge index) and index; the neutral one where the table holds none or failed (R400, R401). -/
def gaugeRec (s : State) (kind idx : Nat) : GaugeRec :=
  match s.pf.gauge.find? (fun g => g.kind == kind && g.index == idx) with
  | some g => if s.pf.gaugeOk then g else {}
  | none => {}

/-- The gauge: raw × GAIN + OFFSET, one rounding each (R400). -/
def gaugeApply (g : GaugeRec) (raw : F32) : F32 := fadd (fmul raw g.gain) g.offset

/-- The pin of an input number: kind and index of its I/O map record. -/
def pinOf (i : Nat) : Nat × Nat :=
  if i < 48 then (1, i) else if i < 64 then (2, i - 48) else if i < 80 then (4, i - 64) else (3, i - 80)

/-- Limits of the open and short detection of a pin's mode (R140, R439), in its electrical unit. -/
def openLimits (kind mode : Nat) : Option (F32 × F32) :=
  if (kind = 1 || kind = 2) && mode = 1 then some (f32k 36 10, f32k 21 1)
  else if kind = 1 && mode = 3 then some (f32k 60 1, f32k 400 1)
  else if kind = 1 && mode = 4 then some (f32k 600 1, f32k 4000 1)
  else none

/-- The front end reports an open or short circuit (R140, R439): 4–20 mA below 3.6 mA or above 21.0 mA; RTD by its limits. A value equal to a limit has crossed it (R9). -/
def openShort (kind mode : Nat) (c : F32) : Bool :=
  match openLimits kind mode with
  | some (lo, hi) => fle c lo || fle hi c
  | none => false

/-- Low and high end of a linear mode's span (R441), in mA or V. -/
def spanOf (kind mode : Nat) : F32 × F32 :=
  if mode = 1 then (f32k 4 1, f32k 20 1) else if kind = 1 then (fzero, f32k 10 1) else (fneg (f32k 10 1), f32k 10 1)

/-- x of R441 from the gauge-corrected value. An output's readback follows its output: x is the corrected mA or V. -/
def mapX (r : IoRec) (c : F32) : F32 :=
  if r.kind = 1 && (r.mode = 3 || r.mode = 4) then Config.rtdTemp (r.mode == 4) c
  else if r.kind = 4 then fadd (fmul c r.a) r.b
  else if r.kind = 3 then c
  else
    let (l, h) := spanOf r.kind r.mode
    fadd r.a (fdiv (fmul (fsub c l) (fsub r.b r.a)) (fsub h l))

/-- The input code of R138. -/
def codeOf (r : InputRec) (x : F32) : Int := q15Of (fmul (fsub x r.zero) r.invFs)

/-- The engineering value of a code in an input's scale: code / INV_FS + ZERO. -/
def engOf (r : InputRec) (code : Int) : F32 := fadd (fdiv (fofInt code) r.invFs) r.zero

/-- An input's pattern record. -/
def inputRec (s : State) (i : Nat) : Option InputRec := (pat s).inputs.find? (fun r => r.input == i)

/-- An input's state. -/
def inSt (s : State) (i : Nat) : InputSt := tgetD s.lp.inputs i {}

/-- Replaces an input's state. -/
def setIn (i : Nat) (x : InputSt) (s : State) : State := { s with lp.inputs := tset s.lp.inputs i x }

/-- An input delivers its own reading. -/
def inGood (s : State) (i : Nat) : Bool := (inSt s i).conv && !(inSt s i).unknown

/-- Codes of the GOOD inputs that name a substitute group. -/
def groupCodes (s : State) (g : Nat) : List Int :=
  ((pat s).inputs.filter (fun r => r.subst && r.substGroup == g && inGood s r.input)).map (fun r => (inSt s r.input).code)

/-- Largest of a list of codes. -/
def maxL : List Int → Option Int
  | [] => none
  | a :: t => some (t.foldl max a)

/-- Smallest of a list of codes. -/
def minL : List Int → Option Int
  | [] => none
  | a :: t => some (t.foldl min a)

/-- The substitute value of an input (R224), by the groups of the locked selvedge section (R228). -/
def substOf (s : State) (r : InputRec) : Option Int :=
  if r.subst then
    match s.sv.sec.subst.find? (fun g => g.group == r.substGroup) with
    | none => none
    | some g =>
      let cs := groupCodes s r.substGroup
      if g.safeHigh then
        match maxL cs with
        | some m => some (sat16 (m + g.offset))
        | none => some g.limit
      else
        match minL cs with
        | some m => some (sat16 (m - g.offset))
        | none => some g.limit
  else none

/-- What an input delivers: its value, and whether it carries the unknown flag (R142). An input without a first conversion delivers no value. -/
def inVal (s : State) (i : Nat) : Option Int × Bool :=
  match inputRec s i with
  | none => (none, true)
  | some r =>
    let x := inSt s i
    if x.unknown then (substOf s r, true) else if x.conv then (some x.code, false) else (none, true)

/-- The engineering value an input measures, where it is GOOD. -/
def inEng (s : State) (i : Nat) : Option F32 := if inGood s i then some (inSt s i).x else none

/-- A vote group's state. -/
def grpSt (s : State) (g : Nat) : GroupSt := tgetD s.lp.groups g {}

/-- What a vote group delivers (R143). -/
def grpVal (s : State) (g : Nat) : Option Int × Bool :=
  let x := grpSt s g
  ((if x.hasValue then some x.value else none), x.mode == 4)

/-- Value and unknown flag of a process-value field of R167: an input, or 0x8000 + a vote group. -/
def pvVal (s : State) (pv : Nat) : Option Int × Bool := if pv < 0x8000 then inVal s pv else grpVal s (pv - 0x8000)

/-- The input record whose scale a process value has: the input's, or that of a vote group's first member. -/
def pvScale (s : State) (pv : Nat) : InputRec :=
  let i := if pv < 0x8000 then pv
    else
      match (pat s).groups.find? (fun g => g.group == pv - 0x8000) with
      | some g => nth g.members 0 0xFFFF
      | none => 0xFFFF
  (inputRec s i).getD {}

/-- A channel's pattern record; only enabled channels run. -/
def chanRec (s : State) (c : Nat) : Option ChanRec := (pat s).chans.find? (fun r => r.ch == c && r.enable)

/-- The value of a loop channel's process value in engineering units, with its unknown flag (R110, R468). -/
def chanEng (s : State) (c : Nat) : Option F32 × Bool :=
  match chanRec s c with
  | none => (none, true)
  | some r =>
    match pvVal s r.pv with
    | (some v, u) => (some (engOf (pvScale s r.pv) v), u)
    | (none, u) => (none, u)

end Sys2Proof.Machine
end

