-- ==== Sys2Proof/Machine/SwatchOps.lean ====
section
/-! DEFINITION. Swatch slots and trace buffers as the loop sees them (R175 to R191): generator, abort conditions, captures, traces. -/

namespace Sys2Proof.Machine

/-- A Q15 code or FP16 code as an argument word (R353). -/
def a16 (i : Int) : List Word := aw (twos 16 i)

/-- Source unit of the CTL region (R352). -/
def srcCtl : Nat := src 2 6

/-- round_even(32767 × sin(2πi / 1024)) for i = 0 to 256 (R178). -/
def sineQuarter : List Int :=
  [0, 201, 402, 603, 804, 1005, 1206, 1407, 1608, 1809, 2009, 2210, 2410, 2611, 2811, 3012, 3212, 3412, 3612, 3811, 4011, 4210, 4410, 4609, 4808, 5007, 5205, 5404, 5602, 5800, 5998, 6195] ++
  [6393, 6590, 6786, 6983, 7179, 7375, 7571, 7767, 7962, 8157, 8351, 8545, 8739, 8933, 9126, 9319, 9512, 9704, 9896, 10087, 10278, 10469, 10659, 10849, 11039, 11228, 11417, 11605, 11793, 11980, 12167, 12353] ++
  [12539, 12725, 12910, 13094, 13279, 13462, 13645, 13828, 14010, 14191, 14372, 14553, 14732, 14912, 15090, 15269, 15446, 15623, 15800, 15976, 16151, 16325, 16499, 16673, 16846, 17018, 17189, 17360, 17530, 17700, 17869, 18037] ++
  [18204, 18371, 18537, 18703, 18868, 19032, 19195, 19357, 19519, 19680, 19841, 20000, 20159, 20317, 20475, 20631, 20787, 20942, 21096, 21250, 21403, 21554, 21705, 21856, 22005, 22154, 22301, 22448, 22594, 22739, 22884, 23027] ++
  [23170, 23311, 23452, 23592, 23731, 23870, 24007, 24143, 24279, 24413, 24547, 24680, 24811, 24942, 25072, 25201, 25329, 25456, 25582, 25708, 25832, 25955, 26077, 26198, 26319, 26438, 26556, 26674, 26790, 26905, 27019, 27133] ++
  [27245, 27356, 27466, 27575, 27683, 27790, 27896, 28001, 28105, 28208, 28310, 28411, 28510, 28609, 28706, 28803, 28898, 28992, 29085, 29177, 29268, 29358, 29447, 29534, 29621, 29706, 29791, 29874, 29956, 30037, 30117, 30195] ++
  [30273, 30349, 30424, 30498, 30571, 30643, 30714, 30783, 30852, 30919, 30985, 31050, 31113, 31176, 31237, 31297, 31356, 31414, 31470, 31526, 31580, 31633, 31685, 31736, 31785, 31833, 31880, 31926, 31971, 32014, 32057, 32098] ++
  [32137, 32176, 32213, 32250, 32285, 32318, 32351, 32382, 32412, 32441, 32469, 32495, 32521, 32545, 32567, 32589, 32609, 32628, 32646, 32663, 32678, 32692, 32705, 32717, 32728, 32737, 32745, 32752, 32757, 32761, 32765, 32766] ++
  [32767]

/-- The sine table S of R178, by the symmetries of the sine. -/
def sineTab (i : Nat) : Int :=
  let i := i % 1024
  if i ≤ 256 then nth sineQuarter i 0
  else if i ≤ 512 then nth sineQuarter (512 - i) 0
  else if i ≤ 768 then -(nth sineQuarter (i - 512) 0)
  else -(nth sineQuarter (1024 - i) 0)

/-- A slot's state. -/
def swSt (s : State) (k : Nat) : SwSt := tgetD s.swt.sw k {}

/-- Replaces a slot's state. -/
def setSw (k : Nat) (x : SwSt) (s : State) : State := { s with swt.sw := tset s.swt.sw k x }

/-- Register `i` of a slot, 0 DG_SW_CFG to 12 DG_SW_SEL3. -/
def SwSt.reg (x : SwSt) (i : Nat) : Nat := nth x.regs i 0
def SwSt.chan (x : SwSt) : Nat := bits (x.reg 0) 16 8
def SwSt.order (x : SwSt) : Nat := bits (x.reg 0) 14 2
def SwSt.signal (x : SwSt) : Nat := bits (x.reg 0) 8 3
def SwSt.mode (x : SwSt) : Nat := bits (x.reg 0) 0 3
def SwSt.offset (x : SwSt) : Int := sgn 16 (bits (x.reg 1) 16 16)
def SwSt.amp (x : SwSt) : Int := sgn 16 (bits (x.reg 1) 0 16)
def SwSt.dur (x : SwSt) : Nat := x.reg 2
def SwSt.outHi (x : SwSt) : Int := sgn 16 (bits (x.reg 5) 16 16)
def SwSt.outLo (x : SwSt) : Int := sgn 16 (bits (x.reg 5) 0 16)
def SwSt.gHi (x : SwSt) : Int := sgn 16 (bits (x.reg 6) 16 16)
def SwSt.gLo (x : SwSt) : Int := sgn 16 (bits (x.reg 6) 0 16)
def SwSt.pre (x : SwSt) : Nat := bits (x.reg 7) 16 16
def SwSt.dec (x : SwSt) : Nat := bits (x.reg 7) 8 8
def SwSt.trig (x : SwSt) : Nat := bits (x.reg 7) 4 2
def SwSt.nsig (x : SwSt) : Nat := bits (x.reg 7) 0 4
def SwSt.level (x : SwSt) : Int := sgn 16 (bits (x.reg 8) 16 16)
def SwSt.trigSel (x : SwSt) : Nat := bits (x.reg 8) 0 16
def SwSt.sel (x : SwSt) (j : Nat) : Nat := bits (x.reg (9 + j / 2)) (16 * (j % 2)) 16

/-- Record size RECSZ (R185). -/
def SwSt.recSz (x : SwSt) : Nat := (4 + 2 * x.nsig + 3) / 4 * 4

/-- Capacity C in records (R186). -/
def SwSt.cap (x : SwSt) : Nat := (393216 - 64) / x.recSz

/-- The slot injects: MODE 1 to 4 (R175). -/
def SwSt.injects (x : SwSt) : Bool := 1 ≤ x.mode && x.mode ≤ 4

/-- Order and tap of the PRBS (R178). -/
def prbsN (o : Nat) : Nat := if o = 0 then 7 else if o = 1 then 9 else if o = 2 then 11 else 15
def prbsK (o : Nat) : Nat := if o = 0 then 6 else if o = 1 then 5 else if o = 2 then 9 else 14

/-- One advance of the PRBS register (R178). -/
def prbsStep (o r : Nat) : Nat :=
  let n := prbsN o
  (r * 2 + (b2n (bitOf r (n - 1) != bitOf r (prbsK o - 1)))) % 2 ^ n

/-- The injection d of sample `x.samples` and the generator after it (R178). -/
def swGen (x : SwSt) : Int × SwSt :=
  let j := x.samples
  if x.signal = 1 then
    ((if j < x.reg 3 then x.offset else wb ((x.offset + x.amp) * 65536)), x)
  else if x.signal = 2 then
    let r0 := if j = 0 then bits (x.reg 3) 16 16 % 2 ^ prbsN x.order else x.prbs
    let r := if j % max 1 (bits (x.reg 3) 0 8) = 0 then prbsStep x.order r0 else r0
    ((if bitOf r 0 then wb ((x.offset + x.amp) * 65536) else wb ((x.offset - x.amp) * 65536)), { x with prbs := r })
  else
    let ph := if j = 0 then 0 else x.phase
    let ic := if j = 0 then x.reg 3 else x.inc
    let d := wb (sat40 (x.offset * 65536 + (x.amp * sineTab (ph / 2 ^ 22)) * 2))
    (d, { x with phase := (ph + ic) % 2 ^ 32, inc := if x.signal = 3 then (ic + x.reg 4) % 2 ^ 32 else ic })

/-- The least j with lo ≤ a·j mod m ≤ hi, for 0 ≤ lo ≤ hi < m, by the Euclidean descent: the least multiple of a in the range, or that after the least number of wraps whose multiple of m falls short of a multiple of a by an amount in the range. 64 descents suffice for 32 bits. -/
def firstHit : Nat → Nat → Nat → Nat → Nat → Option Nat
  | 0, _, _, _, _ => none
  | n + 1, a, m, lo, hi =>
    if lo = 0 then some 0
    else if a % m = 0 then none
    else
      let a := a % m
      let c := (lo + a - 1) / a
      if c * a ≤ hi then some c
      else (firstHit n (m % a) a ((a - hi % a) % a) ((a - lo % a) % a)).map (fun y => (lo + m * y + a - 1) / a)

/-- INC or an increment reached in the run is above 2^31 (R179 cause 5): that of sample j is (INC + j·DINC) mod 2^32 in a chirp, INC in a sine. -/
def incBad (x : SwSt) : Bool :=
  (x.signal = 3 || x.signal = 4) &&
    (decide (2 ^ 31 < x.reg 3) ||
      x.signal = 3 &&
        (match firstHit 64 (x.reg 4) (2 ^ 32) (2 ^ 31 + 1 - x.reg 3) (2 ^ 32 - 1 - x.reg 3) with
         | some j => decide (j < x.dur)
         | none => false))

/-- A parameter is out of range (R179 cause 5, R194). -/
def swParamBad (x : SwSt) (n : Nat) : Bool :=
  4 < x.mode || x.signal = 0 || 4 < x.signal || x.dur = 0 || 12000000 < x.dur * n ||
  (x.signal = 2 && (bits (x.reg 3) 16 16 % 2 ^ prbsN x.order = 0 || bits (x.reg 3) 0 8 = 0)) || incBad x ||
  x.nsig = 0 || 8 < x.nsig || x.dec = 0 || x.cap ≤ x.pre

/-- A channel's state, its set-point sources. -/
def chSt (s : State) (c : Nat) : ChanSt := tgetD s.lp.chans c {}
def chSp (s : State) (c : Nat) : ChanSp := tgetD s.lp.sps c {}
def setCh (c : Nat) (x : ChanSt) (s : State) : State := { s with lp.chans := tset s.lp.chans c x }
def setSp (c : Nat) (x : ChanSp) (s : State) : State := { s with lp.sps := tset s.lp.sps c x }

/-- A channel as the module holds it: on one that shadows, its newest mirrored state (R137), with u and the saturation that follow from acc. -/
def chView (s : State) (c : Nat) : ChanSt :=
  let x := chSt s c
  match (if s.glb.role == .standby || s.glb.role == .held then tget s.mir.snaps c else none) with
  | none => x
  | some p =>
    let w := nth (if x.bankB then (chSp s c).bankBw else (chSp s c).bankA) 4 0
    { x with
      law := p.law
      cnt := p.cnt
      acc := p.acc
      fe := p.fe
      tripped := p.tripped
      approach := p.approach
      u := wb p.acc
      satLo := decide (p.acc = sgn 16 (bits w 0 16) * 65536)
      satHi := decide (p.acc = sgn 16 (bits w 16 16) * 65536) }

/-- First refusal cause of ARM (R179). -/
def swRefuse (s : State) (k : Nat) : Option Nat :=
  let x := swSt s k
  if (x.injects && !drives s) || s.glb.role == .safe then some 1
  else
    match chanRec s x.chan with
    | none => some 2
    | some r =>
      if s.swt.sw.any (fun e => e.1 != k && e.2.injects && e.2.chan == x.chan && (e.2.st == 1 || e.2.st == 2)) then some 3
      else if 0x4000 < x.offset.natAbs + x.amp.natAbs then some 4
      else if swParamBad x r.period then some 5
      else
        match pvVal s r.pv with
        | (some v, false) => if (chView s x.chan).tripped || v < x.gLo || x.gHi < v then some 6 else none
        | _ => some 6

/-- A slot as its capture sees it: with the registers of the capture's ARM, which may have been written since the run ended (R188). -/
def SwSt.capv (x : SwSt) : SwSt := { x with regs := x.capRegs }

/-- The value a selector names (R184), after the channel sample; on a module that shadows, of the newest mirrored state (R137, R176). -/
def swSignal (s : State) (x : SwSt) (sel : Nat) : Int :=
  let n := sel / 4096
  let i := sel % 4096
  let c := chView s i
  if n = 1 then c.pvUsed
  else if n = 2 then c.pv
  else if n = 3 then c.spUsed
  else if n = 4 then c.e
  else if n = 5 then c.u
  else if n = 6 then x.d
  else if n = 7 then (inSt s i).deliv
  else if n = 8 then (grpSt s i).value
  else if n = 9 then wb c.acc
  else 0

/-- The END code of a slot whose run has ended (R187). -/
def swEndOf (x : SwSt) : Nat := if x.st = 3 then 1 else if x.st = 4 then 2 else 0

/-- DG_SW_ERR bits of slot `k`: 0 DONE, 4 ABORTED, 8 REFUSED. -/
def swErr (base k : Nat) (s : State) : State := setErr 0x08100000 (base + k) s

/-- Stops a capture (R186). A slot that only captures is DONE with it (R175). -/
def swClose (k e : Nat) (s : State) : State :=
  let x := swSt s k
  swErr 0 k (setSw k { x with capOpen := false, endCode := e, tail := none, st := if x.st = 2 && !x.injects then 3 else x.st } s)

/-- The run of a slot has ended: PRE more records follow (R186). -/
def swTail (k : Nat) (s : State) : State :=
  let x := swSt s k
  if x.capOpen then
    if x.capv.pre = 0 then swClose k (swEndOf x) s else setSw k { x with tail := some x.capv.pre, tailEnd := swEndOf x } s
  else s

/-- The channel after an injection ends: in MODE 2 the law resumes in HOLD with acc as at the start (R182); the law of a TRIPPED channel does not resume (R158). -/
def swResume (x : SwSt) (s : State) : State :=
  if x.mode = 2 && x.injecting && !(chSt s x.chan).tripped then setCh x.chan { chSt s x.chan with law := 0, cnt := 0, acc := x.startAcc } s else s

/-- Aborts a RUNNING slot (R181). -/
def swAbort (k cause : Nat) (s : State) : State :=
  let x := swSt s k
  if x.st = 2 then
    let s := swResume x s
    let s := setSw k { x with st := 4, cause := cause, capCause := cause, injecting := false, d := 0, goAt := none, hostAbort := false } s
    swTail k (swErr 4 k (emit 0x0983 srcCtl (aw k ++ aw cause ++ aw x.samples) s))
  else s

/-- Aborts every RUNNING slot that meets a test. -/
def swAbortAll (cause : Nat) (f : SwSt → Bool) (s : State) : State :=
  each ((s.swt.sw.filter (fun e => e.2.st == 2 && f e.2)).map (·.1)) (fun k s => swAbort k cause s) s

/-- The selvedge mirror shows an action (R181 cause 5): a row is in force, an isolation by command stands, or the ECAP_N line is asserted (R217). -/
def svAnyAction (s : State) : Bool := s.sv.isoCmd != 0 || s.sv.ecapLine || s.sv.rows.any (fun e => e.2.st != 0)

/-- First abort condition found at a sample (R181). -/
def swAbortCause (s : State) (x : SwSt) (pv : Option Int) (unk : Bool) : Option Nat :=
  if x.hostAbort then some 1
  else if (match pv with | some v => decide (v < x.gLo) || decide (x.gHi < v) | none => false) then some 2
  else if unk then some 3
  else if (chView s x.chan).tripped then some 4
  else if svAnyAction s then some 5
  else if !drives s then some 6
  else none

/-- The ARMED slots of a channel whose start is due begin (R180). -/
def swBegin (c : Nat) (s : State) : State :=
  each ((s.swt.sw.filter (fun e => e.2.st == 1 && e.2.injects && e.2.chan == c && (match e.2.goAt with | some n => decide (n ≤ s.round) | none => false))).map (·.1))
    (fun k s =>
      let x := swSt s k
      emit 0x0981 srcCtl (aw k ++ aw c ++ aw x.mode ++ aw x.signal ++ aq s.round)
        (setSw k { x with st := 2, goAt := none, samples := 0, startAcc := (chSt s c).acc, injecting := true } s)) s

/-- The slot that injects into a channel at this sample, if any: RUNNING with samples left. -/
def swInjector (s : State) (c : Nat) : Option (Nat × SwSt) :=
  s.swt.sw.find? (fun e => e.2.st == 2 && e.2.injects && e.2.chan == c && e.2.samples < e.2.dur)

/-- At a channel's sample every slot that only captures aborts too while the selvedge acts (R181 cause 5). -/
def swOnlyAbort (c : Nat) (s : State) : State := if svAnyAction s then swAbortAll 5 (fun x => !x.injects && x.chan == c) s else s

/-- Before a channel's sample: starts and aborts of its slots, the end of a finished injection, and the injection of this sample as (slot, MODE, d). -/
def swBefore (c : Nat) (pv : Option Int) (unk : Bool) (s : State) : Option (Nat × Nat × Int) × State :=
  let s := swOnlyAbort c (swBegin c s)
  match s.swt.sw.find? (fun e => e.2.st == 2 && e.2.injects && e.2.chan == c) with
  | none => (none, s)
  | some (k, x) =>
    if x.dur ≤ x.samples then
      (none, setSw k { x with injecting := false, d := 0 } (swResume x s))
    else
      match swAbortCause s x pv unk with
      | some cause => (none, swAbort k cause s)
      | none =>
        let (d, y) := swGen x
        (some (k, x.mode, d), setSw k { y with d := d, injecting := true } s)

/-- Puts words into a store from word offset `o` up. -/
def putWords : Tab Nat → Nat → List Nat → Tab Nat
  | t, _, [] => t
  | t, o, w :: l => putWords (tset t o w) (o + 1) l

/-- 16-bit values in words, low half first. -/
def packPairs : List Nat → List Nat
  | [] => []
  | [a] => [a % 65536]
  | a :: b :: l => (a % 65536 + b % 65536 * 65536) :: packPairs l

/-- The store with a record at position `p` (R185, R187). -/
def SwSt.put (x : SwSt) (p : Nat) (r : List Nat) : Tab Nat := putWords x.words ((64 + p * x.recSz) / 4) r

/-- Position a record goes to, its trigger state settled (R186); the first record at position PRE is the trigger record, whose round the header bears (R187). -/
def swTakeRec (k : Nat) (s : State) : State :=
  let x := swSt s k
  let y := x.capv
  let vals := (List.range y.nsig).map (fun j => twos 16 (swSignal s x (y.sel j)))
  let rec_ := s.tick % 2 ^ 32 :: packPairs vals
  let x := { x with prev := some (swSignal s x y.trigSel) }
  if x.trigged then
    let p := y.pre + x.postCnt
    let x := { x with words := y.put p rec_, postCnt := x.postCnt + 1, trigRound := if x.postCnt = 0 then s.round else x.trigRound }
    let s := setSw k x s
    if y.cap ≤ p + 1 then swClose k 3 s
    else
      match x.tail with
      | some t => if t ≤ 1 then swClose k x.tailEnd s else setSw k { x with tail := some (t - 1) } s
      | none => s
  else
    let x := if y.pre = 0 then x else { x with words := y.put (x.preCnt % y.pre) rec_, preCnt := x.preCnt + 1 }
    match x.tail with
    | some t => if t ≤ 1 then swClose k x.tailEnd (setSw k x s) else setSw k { x with tail := some (t - 1) } s
    | none => setSw k x s

/-- The trigger condition holds at this sample (R186); `first`: this sample is the slot's first injected one. -/
def swTrigNow (s : State) (x : SwSt) (first : Bool) : Bool :=
  let y := x.capv
  let v := swSignal s x y.trigSel
  if y.trig = 0 then first
  else if y.trig = 1 then (match x.prev with | some p => decide (p < y.level) && decide (y.level ≤ v) | none => false)
  else if y.trig = 2 then (match x.prev with | some p => decide (y.level < p) && decide (v ≤ y.level) | none => false)
  else x.hostTrig

/-- One slot after its channel's sample: trigger, record, decimation (R185, R186). `inj`: this sample was injected by this slot. -/
def swCapture (k : Nat) (inj : Bool) (s : State) : State :=
  let x := swSt s k
  if x.capOpen then
    let t := !x.trigged && swTrigNow s x (inj && x.samples = 0)
    let x := if t then { x with trigged := true, decim := 0, hostTrig := false } else x
    let take := x.decim % max 1 x.capv.dec = 0
    let s := setSw k { x with decim := x.decim + 1 } s
    if take then swTakeRec k s else s
  else s

/-- After a channel's sample: captures of every slot on the channel, then the injected slot's sample count. -/
def swAfter (c : Nat) (inj : Option (Nat × Nat × Int)) (s : State) : State :=
  let mine (k : Nat) : Bool := match inj with | some (j, _, _) => j == k | none => false
  let s := each ((s.swt.sw.filter (fun e => e.2.capv.chan == c && e.2.capOpen)).map (·.1)) (fun k s => swCapture k (mine k) s) s
  match inj with
  | some (k, _, _) => setSw k { swSt s k with samples := satAdd 0xFFFFFF (swSt s k).samples 1 } s
  | none => s

/-- A trace buffer. -/
def trSt (s : State) (b : Nat) : TrSt := tgetD s.swt.tr b {}
def setTr (b : Nat) (x : TrSt) (s : State) : State := { s with swt.tr := tset s.swt.tr b x }

/-- The conditions of TRIG_MASK that hold in an entry (R190), lowest bit first. -/
def trCond (c : ChanSt) (inj : Bool) : Nat :=
  b2n c.tripped + 2 * b2n (0 < c.fe) + 4 * b2n c.pvUnk + 8 * b2n c.satHi + 16 * b2n c.satLo + 32 * b2n inj

/-- Lowest bit set in both numbers. -/
def lowBit (a b : Nat) : Option Nat := (List.range 6).find? (fun i => bitOf a i && bitOf b i)

/-- One trace buffer after its channel's sample (R189, R190); on a module that shadows, of the newest mirrored state (R137). -/
def trAfter (c : Nat) (inj : Bool) (b : Nat) (s : State) : State :=
  let x := trSt s b
  if bitOf x.cfg 31 && !x.stopped && bits x.cfg 0 8 = c && s.glb.role != .safe then
    let dec := max 1 (bits x.cfg 8 8)
    if x.decim % dec = 0 then
      let h := chView s c
      let w3 := c * 2 ^ 24 + h.law * 2 ^ 21 + b2n inj * 2 ^ 20 + b2n h.pvUnk * 2 ^ 19 + b2n h.satHi * 2 ^ 18 +
        b2n h.satLo * 2 ^ 17 + b2n h.tripped * 2 ^ 16 + h.cnt % 65536
      let e := [s.tick % 2 ^ 32, twos 16 h.pvUsed * 65536 + twos 16 h.spUsed, twos 16 h.u * 65536 + twos 16 h.e, w3]
      let t := if bitOf x.cfg 30 && x.trigBit.isNone then lowBit (x.trig % 65536) (trCond h inj) else none
      let x := { x with entries := tset x.entries (x.wr % 4096) e, wr := (x.wr + 1) % 2 ^ 32, decim := x.decim + 1 }
      match x.trigBit, t with
      | some _, _ => setTr b { x with postLeft := x.postLeft - 1 } s
      | none, some i => setTr b { x with trigBit := some i, postLeft := x.trig / 65536 } s
      | none, none => setTr b x s
    else setTr b { x with decim := x.decim + 1 } s
  else s

/-- All eight trace buffers after a channel's sample; one that has written its last entry writes no more until TRACE_STOPPED. -/
def trAll (c : Nat) (inj : Bool) (s : State) : State :=
  each (List.range 8) (fun b s => if (trSt s b).trigBit.isSome && (trSt s b).postLeft = 0 then s else trAfter c inj b s) s

end Sys2Proof.Machine
end

