-- ==== Sys2Proof/Machine/LoopOps.lean ====
section
/-! DEFINITION. The loop engine's operations (R133 to R166): input health, vote groups, set-points, the hysteretic law, outputs, initialisation, the fallback estimator. -/

namespace Sys2Proof.Machine

/-- Ticks per round, P / 50 µs (R134). -/
def ticksPerRound (s : State) : Nat := periodNs s / tickNs

/-! ### Coefficient banks (R159, R168) -/

/-- Half-word `i` of a bank, unsigned. -/
def bkU (b : List Nat) (i : Nat) : Nat := bits (nth b (i / 2) 0) (16 * (i % 2)) 16

/-- Half-word `i` of a bank as a Q15 code. -/
def bkQ (b : List Nat) (i : Nat) : Int := sgn 16 (bkU b i)

def bkB1On (b : List Nat) : Int := bkQ b 0
def bkB1Off (b : List Nat) : Int := bkQ b 1
def bkB2On (b : List Nat) : Int := bkQ b 2
def bkB2Off (b : List Nat) : Int := bkQ b 3
def bkStep1 (b : List Nat) : Int := bkQ b 4
def bkStep2 (b : List Nat) : Int := bkQ b 5
def bkDwell1 (b : List Nat) : Nat := bkU b 6
def bkDwell2 (b : List Nat) : Nat := bkU b 7
def bkULo (b : List Nat) : Int := bkQ b 8
def bkUHi (b : List Nat) : Int := bkQ b 9
def bkFailOut (b : List Nat) : Int := bkQ b 10
def bkFeLim (b : List Nat) : Int := bkQ b 11
def bkFeTime (b : List Nat) : Nat := nth b 6 0
def bkFeGrace (b : List Nat) : Nat := bkU b 14
def bkDual (b : List Nat) : Bool := bitOf (bkU b 15) 0

/-- The active bank of a channel. -/
def bankOf (s : State) (c : Nat) : List Nat := if (chSt s c).bankB then (chSp s c).bankBw else (chSp s c).bankA

/-- The inactive bank of a channel. -/
def bankOff (s : State) (c : Nat) : List Nat := if (chSt s c).bankB then (chSp s c).bankA else (chSp s c).bankBw

/-- Step and dwell of the larger step of a bank (R150). -/
def bkBig (b : List Nat) : Int × Nat := if bkDual b then (bkStep2 b, bkDwell2 b) else (bkStep1 b, bkDwell1 b)

/-- Dwell of a law state. -/
def bkDwell (b : List Nat) (law : Nat) : Nat := if law = 2 || law = 4 then bkDwell2 b else bkDwell1 b

/-- Step of a law state. -/
def bkStep (b : List Nat) (law : Nat) : Int := if law = 2 || law = 4 then bkStep2 b else bkStep1 b

/-- First check of R160 that a bank fails: 1 bands, 2 limits, 3 fail output, 4 dwell. -/
def bankCheck (b : List Nat) : Option Nat :=
  if bkB1On b < bkB1Off b || (bkDual b && !(decide (bkB1On b < bkB2Off b) && decide (bkB2Off b ≤ bkB2On b))) then some 1
  else if bkUHi b < bkULo b || bkULo b < 0 || bkUHi b < 0 then some 2
  else if bkFailOut b < 0 then some 3
  else if bkDwell1 b = 0 || bkDwell2 b = 0 then some 4
  else none

/-! ### Input health (R140 to R142) -/

/-- STALE_TIME in ns with R140's default. -/
def staleNs (s : State) (r : InputRec) : Nat :=
  if r.staleTime != 0 then r.staleTime * 1000000
  else if r.source = 1 || r.source = 4 then 1000000
  else if r.source = 2 then 80000
  else if r.source = 5 then
    match (pat s).fb.rxSigs.find? (fun g => g.sig + 128 == r.input) with
    | some g => 4 * g.period * 1000000
    | none => 0
  else 0

/-- Instant from which an input's age counts (R140). -/
def ageFrom (s : State) (x : InputSt) : Nat := if x.conv then x.lastAt else s.lp.phase6At

/-- The latched conversion is older than STALE_TIME (R140); never without a STALE_TIME. -/
def isStale (s : State) (r : InputRec) (x : InputSt) : Bool := staleNs s r != 0 && decide (staleNs s r < s.clock - ageFrom s x)

/-- Latches a converted value: its code, the raw value, whether the front end reports open or short. -/
def latchValue (r : InputRec) (x : F32) (raw : Nat) (opn : Bool) (at_ : Nat) (s : State) : State :=
  let i := r.input
  let o := inSt s i
  let same := o.conv && o.raw == raw
  setIn i { o with
    conv := true
    code := codeOf r x
    raw := raw
    x := x
    lastAt := at_
    isOpen := opn
    rawSince := if same then o.rawSince else s.clock
    frozenBad := o.frozenBad && same } s

/-- Latches one completed conversion of a pin (R135, R400, R441). A pin without an enabled record delivers none. -/
def latchConv (v : Conv) (s : State) : State :=
  match inputRec s v.input with
  | none => s
  | some r =>
    if 96 ≤ v.input then s
    else
      let (kind, idx) := pinOf v.input
      match ioRec s kind idx with
      | none => s
      | some io =>
        let c := gaugeApply (gaugeRec s 1 v.input) v.raw
        latchValue r (mapX io c) v.code (openShort kind io.mode c) s.clock s

/-- Latches the newest value of every field-bus signal (R135, R285). -/
def latchSignals (s : State) : State :=
  each ((pat s).inputs.filter (fun r => 128 ≤ r.input)) (fun r s =>
    match tget s.fb.sigs (r.input - 128) with
    | none => s
    | some g => if (inSt s r.input).conv && (inSt s r.input).lastAt == g.time then s else latchValue r g.value g.raw false g.time s) s

/-- The code lies outside RANGE_LO to RANGE_HI. -/
def outOfRange (r : InputRec) (x : InputSt) : Bool := x.conv && (decide (x.code < r.rangeLo) || decide (r.rangeHi < x.code))

/-- An input becomes UNKNOWN (R140, R142). -/
def inputUnknown (i cause : Nat) (s : State) : State :=
  let x := inSt s i
  if x.unknown then s
  else emit 0x0201 srcCtl (aw i ++ aw cause ++ a16 x.code) (setIn i { x with unknown := true, cause := cause, unkSince := s.clock, recSince := none } s)

/-- The raw value has stood for FROZEN_TIME, where the input enables the test (R140). -/
def rawFrozen (s : State) (r : InputRec) (x : InputSt) : Bool := r.frozenRaw && x.conv && decide (r.frozenTime * 100000000 ≤ s.clock - x.rawSince)

/-- The first cause of R140's table that applies, else `d`. -/
def firstCause (s : State) (r : InputRec) (x : InputSt) (d : Nat) : Nat :=
  if x.isOpen then 5
  else if (match x.rangeSince with | some t => decide (r.rangeTime * 1000000 ≤ s.clock - t) | none => false) then 1
  else if isStale s r x then 2
  else if rawFrozen s r x then 3
  else d

/-- Every cause of R140 is absent in the sense of R142. -/
def causesAbsent (s : State) (r : InputRec) (x : InputSt) : Bool :=
  !x.isOpen && !outOfRange r x && !isStale s r x && !(r.frozenRaw && x.frozenBad) && !(r.frozenRef && x.refBad)

/-- Extremes of a window with one more code. -/
def widen (any : Bool) (lo hi c : Int) : Int × Int := if any then (min lo c, max hi c) else (c, c)

/-- Input health of one input in a tick (R135 step 1): timers, window extremes, the cause that acts at once and the test of the raw value. -/
def inputHealth (r : InputRec) (s : State) : State :=
  let i := r.input
  let x := inSt s i
  let oor := outOfRange r x
  let y := inSt s r.refInput
  let (wl, wh) := if x.conv then widen x.wAny x.wLo x.wHi x.code else (x.wLo, x.wHi)
  let (rl, rh) := if y.conv then widen x.rAny x.rLo x.rHi y.code else (x.rLo, x.rHi)
  let x := { x with
    rangeSince := if oor then some (x.rangeSince.getD s.clock) else none
    recSince := if x.unknown && causesAbsent s r x then some (x.recSince.getD s.clock) else none
    wLo := wl
    wHi := wh
    rLo := rl
    rHi := rh
    wAny := x.wAny || x.conv
    rAny := x.rAny || y.conv
    frozenBad := x.frozenBad || rawFrozen s r x }
  let s := setIn i x s
  let s := if x.isOpen || rawFrozen s r x then inputUnknown i (firstCause s r x 3) s else s
  match (inVal s i).1 with
  | some v => setIn i { inSt s i with deliv := v } s
  | none => s

/-! ### Vote groups (R143, R144) -/

/-- The forecast voter counts: the plate is PROMOTED and the guard has supplied the value of its confirmed forecast (R144). -/
def fcVoterOk (s : State) (g : GroupRec) : Bool :=
  let p := tgetD s.fc.plates g.fcPlate {}
  g.fcVoter && p.st == 2 && p.fcs.any (fun f => f.st == 2) && (grpSt s g.group).fcVal.isSome

/-- GOOD sensor members with their positions. -/
def goodMembers (s : State) (g : GroupRec) : List (Nat × Int) :=
  ((List.range g.members.length).zip g.members).filterMap (fun p => if inGood s p.2 then some (p.1, (inSt s p.2).code) else none)

/-- Median of three codes. -/
def median3 (a b c : Int) : Int := max (min a b) (min (max a b) c)

/-- The value of two members at their safe side. -/
def safeSide (g : GroupRec) (a b : Int) : Int := if g.safeHigh then max a b else min a b

/-- The mean of two codes rounded to nearest even (R143). -/
def mean2 (a b : Int) : Int := wb ((a + b) * 32768)

/-- A group enters SINGLE or UNKNOWN (R143). -/
def voteMode (g : Nat) (old : Nat) (x : GroupSt) (s : State) : State :=
  let s := { s with lp.groups := tset s.lp.groups g x }
  if (x.mode = 3 || x.mode = 4) && x.mode != old then emit 0x0204 srcCtl (aw g ++ aw x.mode ++ aw x.used) s else s

/-- One vote group in a tick. The record of an episode is written once, and a 2oo3 group may have a forecast voter (DESIGN CHOICE, log 149). -/
def voteGroup (g : GroupRec) (s : State) : State :=
  let x := grpSt s g.group
  let good := goodMembers s g
  let used := good.foldl (fun n p => n + 2 ^ p.1) 0
  let fc := fcVoterOk s g && !good.isEmpty
  let vals := good.map (·.2) ++ (if fc then [x.fcVal.getD 0] else [])
  let x := { x with used := used, fcCounted := fc, hasValue := true }
  let old := (grpSt s g.group).mode
  match vals with
  | [a, b, c] => voteMode g.group old { x with mode := 0, value := median3 a b c, disagree := false, disSince := none, agreeSince := none } s
  | [a, b] =>
    let dis := decide (g.disBand < ((a - b).natAbs : Int))
    let x := { x with
      disagree := dis
      disSince := if dis then some (x.disSince.getD s.clock) else none
      agreeSince := if x.episode && !dis then some (x.agreeSince.getD s.clock) else none }
    if x.episode then voteMode g.group old { x with mode := 2, value := safeSide g a b } s
    else voteMode g.group old { x with mode := 1, value := mean2 a b } s
  | [a] => voteMode g.group old { x with mode := 3, value := a, disagree := false, disSince := none, agreeSince := none } s
  | _ =>
    let sub := match inputRec s (nth g.members 0 0xFFFF) with
      | some r => substOf s r
      | none => none
    voteMode g.group old { x with mode := 4, value := sub.getD x.value, hasValue := sub.isSome, disagree := false, disSince := none, agreeSince := none } s

/-! ### Set-points (R145 to R147, R155) -/

/-- Source unit of a loop engine's channel. -/
def srcChan (s : State) (c : Nat) : Nat := src 3 (chSt s c).engine

/-- An outer channel runs (R155): only where the law runs (R137). -/
def outerRuns (s : State) (c : Nat) : Bool :=
  drives s && (chanRec s c).isSome && (chSt s c).placed && (chSt s c).init && !(chSt s c).tripped

/-- The base set-point (R145 step 1, R155). -/
def spBase (s : State) (r : ChanRec) : Int :=
  if r.cascInner && outerRuns s r.outer then
    wb (sat40 (r.cascOff * 65536 + r.cascGain * (chSt s r.outer).u * (2 ^ (1 + r.cascShift) : Nat)))
  else r.sp

/-- The external candidate is refreshed (R146). -/
def spExtern (r : ChanRec) (s : State) : State :=
  if r.extSp && r.extIn != 0xFFFF then
    let p := chSp s r.ch
    if inGood s r.extIn then
      setSp r.ch { p with
        spExt := some (wb (sat40 (r.extOff * 65536 + r.extGain * (inSt s r.extIn).code * (2 ^ (1 + r.extShift) : Nat))))
        spLost := false } s
    else
      let s := if p.spLost then s else emit 0x0208 (srcChan s r.ch) (aw r.ch ++ aw r.extIn ++ aw r.spLoss) s
      setSp r.ch { p with spExt := if r.spLoss = 1 then some r.spFail else p.spExt, spLost := true } s
  else s

/-- The candidates of R145 beside the base. -/
def spCands (s : State) (r : ChanRec) : List Int :=
  let p := chSp s r.ch
  (if r.extSp && r.extIn != 0xFFFF then p.spExt.toList else []) ++
  (if r.trims then p.trims else []) ++
  (if p.host.getLsbD 16 then [sgn 16 p.host.toNat] else [])

/-- The merge in the safe direction (R20, R145 step 3). -/
def spMerge (safeHigh : Bool) (base : Int) (l : List Int) : Int := l.foldl (if safeHigh then max else min) base

/-- The rate limit of R145 step 5. -/
def spRateLim (r : ChanRec) (prev : Option Int) (x : Int) : Int :=
  match prev with
  | none => x
  | some p =>
    if r.spRate = 0x7FFF then x
    else if r.spSafe then max x (p - r.spRate)
    else min x (p + r.spRate)

/-- sp_eff of R145. -/
def spForm (s : State) (r : ChanRec) : Int :=
  spRateLim r (chSt s r.ch).spEff (clampI r.spLo r.spHi (spMerge r.spSafe (spBase s r) (spCands s r)))

/-! ### The law and the bounds (R148 to R150, R156) -/

/-- The desired state (R148). -/
def lawWant (b : List Nat) (e : Int) (st : Nat) : Nat :=
  if bkDual b && (decide (bkB2On b ≤ e) || (st == 2 && decide (bkB2Off b < e))) then 2
  else if bkB1On b ≤ e || ((st == 1 || st == 2) && decide (bkB1Off b < e)) then 1
  else if bkDual b && (decide (e ≤ -bkB2On b) || (st == 4 && decide (e < -bkB2Off b))) then 4
  else if e ≤ -bkB1On b || ((st == 3 || st == 4) && decide (e < -bkB1Off b)) then 3
  else 0

/-- A law state steps upwards. -/
def lawUp (st : Nat) : Bool := st == 1 || st == 2

/-- Stepping with the dwell (R149). `blocked`: the step is suppressed (R156, R150) and the dwell runs on. -/
def lawStep (b : List Nat) (blocked : Bool) (x : ChanSt) : ChanSt :=
  if x.law = 0 then { x with cnt := 0 }
  else if x.cnt = 0 then
    { x with
      acc := if blocked then x.acc else sat40 (x.acc + (if lawUp x.law then bkStep b x.law else -bkStep b x.law) * 65536)
      cnt := bkDwell b x.law - 1 }
  else { x with cnt := x.cnt - 1 }

/-- The bounds of R150 with the limit approach. -/
def boundAcc (b : List Nat) (x : ChanSt) : ChanSt :=
  let lo := bkULo b * 65536
  let hi := bkUHi b * 65536
  let x :=
    if x.acc < lo then { x with acc := lo, approach := false, appCnt := 0 }
    else if hi < x.acc then
      let (st, dw) := bkBig b
      if x.approach && x.appCnt != 0 then { x with appCnt := x.appCnt - 1 }
      else
        let a := max hi (x.acc - st * 65536)
        { x with acc := a, approach := decide (hi < a), appCnt := dw - 1 }
    else { x with approach := false, appCnt := 0 }
  { x with satHi := decide (x.acc = hi), satLo := decide (x.acc = lo) }

/-- An outer step in direction `up` is suppressed by an inner channel (R156). -/
def cascBlocked (s : State) (c : Nat) (up : Bool) : Bool :=
  (pat s).chans.any (fun r =>
    r.enable && r.cascInner && r.outer == c &&
      (let x := chSt s r.ch
       let pos := if r.action then decide (r.cascGain < 0) else decide (0 < r.cascGain)
       let neg := if r.action then decide (0 < r.cascGain) else decide (r.cascGain < 0)
       let fwd := if up then pos else neg
       let bwd := if up then neg else pos
       (fwd && x.satHi && (x.law == 1 || x.law == 2)) || (bwd && x.satLo && (x.law == 3 || x.law == 4))))

/-- One evaluation of the law (R148, R149, R156). -/
def lawRun (s : State) (b : List Nat) (x : ChanSt) (c : Nat) : ChanSt :=
  let w := lawWant b x.e x.law
  let x := if w = x.law then x else { x with law := w, cnt := 0 }
  let casc := x.law != 0 && cascBlocked s c (lawUp x.law)
  let past := lawUp x.law && decide (bkUHi b * 65536 < x.acc)
  { (lawStep b (casc || past) x) with cascHold := casc }

/-! ### Following error (R158) -/

/-- The timer of R158 in one sample. Without a process value it holds its count (R157), while FE_GRACE runs on. -/
def feStep (b : List Nat) (prev : Option Int) (has : Bool) (x : ChanSt) : ChanSt :=
  let fe : Int := ((wbSub x.spUsed x.pvUsed).natAbs : Nat)
  let t := if !has then x.fe else if x.feGrace != 0 then 0 else if bkFeLim b < fe then satAdd 0xFFFFFFFF x.fe 1 else 0
  let jump := match prev with
    | some p => decide (bkFeLim b < ((x.spUsed - p).natAbs : Int))
    | none => false
  { x with fe := t, feGrace := if jump then bkFeGrace b else x.feGrace - 1, feDone := x.feDone && t != 0 }

/-- The timer has reached FE_TIME and FE_ACTION has not been applied in this episode; FE_TIME 0 disables it (DESIGN CHOICE, log 149). -/
def feDue (b : List Nat) (x : ChanSt) : Bool := bkFeTime b != 0 && bkFeTime b ≤ x.fe && !x.feDone

/-- A trial in progress fails with a cause of R387, the first one only. -/
def trialFault (cause arg : Nat) (s : State) : State :=
  if s.pf.st = 3 && s.pf.frog.isNone && decide (uptime s < s.pf.trialStart + s.pf.trialWindow * 1000000000) && (cause = 1 || bitOf s.pf.trialFlags (cause - 2)) then { s with pf.frog := some (cause, arg) } else s

/-- A channel trips (R158). -/
def feTrip (c : Nat) (x : ChanSt) (s : State) : State :=
  let b := bankOf s c
  let acc := max x.acc (bkFailOut b * 65536)
  let x := { x with tripped := true, acc := acc, u := wb acc, law := 0, cnt := 0, feDone := true, cascHold := false
                    satHi := decide (acc = bkUHi b * 65536), satLo := decide (acc = bkULo b * 65536) }
  trialFault 1 c (emit 0x0206 (srcChan s c) (aw c ++ aw (wbSub x.spUsed x.pvUsed).natAbs ++ a16 x.u) (setCh c x s))

/-! ### Output maps (R151 to R153) -/

/-- An output map's record. -/
def mapRec (s : State) (m : Nat) : Option MapRec := (pat s).maps.find? (fun r => r.num == m)

/-- An output map's state. -/
def mapSt (s : State) (m : Nat) : MapSt := tgetD s.lp.maps m {}

/-- Breakpoint `i` of a map. -/
def mapY (r : MapRec) (i : Nat) : F32 := nth r.y i fzero

/-- y of a map at u (R151). -/
def mapOut (r : MapRec) (u : Int) : F32 :=
  if r.piecewise then
    let i := min (u.toNat / 4096) 7
    fadd (mapY r i) (fmul (fsub (mapY r (i + 1)) (mapY r i)) (fdiv (fofInt (u - 4096 * i)) (fofNat 4096)))
  else fadd (mapY r 0) (fdiv (fmul (fofInt u) (fsub (mapY r 1) (mapY r 0))) (fofNat 32768))

/-- The inverse of a map (R151). -/
def mapInv (r : MapRec) (w : F32) : Int :=
  if r.piecewise then
    let i := ((List.range 8).filter (fun i => fle (mapY r i) w)).foldl max 0
    q15Of (fadd (fofNat (4096 * i)) (fdiv (fmul (fsub w (mapY r i)) (fofNat 4096)) (fsub (mapY r (i + 1)) (mapY r i))))
  else q15Of (fdiv (fmul (fsub w (mapY r 0)) (fofNat 32768)) (fsub (mapY r 1) (mapY r 0)))

/-- The readback of a map in its target's unit, where the map names one and it is GOOD. -/
def readback (s : State) (r : MapRec) : Option F32 := if r.readback = 0xFFFF then none else inEng s r.readback

/-- A value in thousandths of its unit, rounded to even (R153). -/
def milli (x : F32) : Int := froundI (2 ^ 31 - 1) (fmul x (fofNat 1000))

/-- Readback timers of a map against the command applied (R153). -/
def checkReadback (r : MapRec) (s : State) : State :=
  let x := mapSt s r.num
  match readback s r with
  | none => s
  | some w =>
    if x.valid then
      let rb := mapInv r w
      let low := decide (r.rbTol < x.u - rb)
      let high := decide (r.rbTol < rb - x.u)
      { s with lp.maps := tset s.lp.maps r.num { x with
          lowSince := if low then some (x.lowSince.getD s.clock) else none
          lowDone := x.lowDone && low
          fSince := if high then some (x.fSince.getD s.clock) else none
          fDone := x.fDone && high } }
    else s

/-- Values that drive a map: the u and valid floor of each of its channels (R152). A channel not yet initialised drives nothing: its output keeps its value. -/
def mapDrivers (s : State) (m : Nat) : List Int :=
  ((pat s).chans.filter (fun r => r.enable && r.outMap == m && (chSt s r.ch).init)).flatMap (fun r =>
    (chSt s r.ch).u :: (if (chSp s r.ch).man.getLsbD 16 then [sgn 16 (chSp s r.ch).man.toNat] else []))

/-- No readback exceeds its output's released level by more than RB_TOL, both on the u scale (R248): a released output sources 0. -/
def readbacksReleased (s : State) : Bool :=
  (pat s).maps.all (fun r =>
    match readback s r with
    | some w => decide (mapInv r w - mapInv r fzero ≤ r.rbTol)
    | none => true)

/-- Since when both conditions of a re-claim hold without interruption (R248). -/
def reclaimTick (s : State) : State :=
  if s.link.aborted then
    { s with link.relSince := if s.red.lost && readbacksReleased s then some (s.link.relSince.getD s.clock) else none }
  else s

/-- Computes every map's value for the next tick (R135, R152). -/
def computeOutputs (s : State) : State :=
  each (pat s).maps (fun r s =>
    match maxL (mapDrivers s r.num) with
    | none => s
    | some u =>
      let y := mapOut r u
      { s with lp.maps := tset s.lp.maps r.num { mapSt s r.num with u := u, y := y, valid := true }, lp.next := s.lp.next ++ [(r.num, y)] })
    { s with lp.next := [] }

/-- Applies one value to its target at the start of a tick (R135, R287, R440). -/
def applyOutput (e : Nat × F32) (s : State) : State :=
  match mapRec s e.1 with
  | none => s
  | some r =>
    if r.target = 1 then { s with lp.aout := tset s.lp.aout r.index e.2 }
    else if r.target = 2 then
      let n := match ioRec s 5 r.index with
        | some io => max 1 io.param
        | none => 1
      if s.tick % n = 0 then { s with lp.pwm := tset s.lp.pwm r.index e.2 } else s
    else { s with fb.txVals := tset s.fb.txVals r.index e.2 }

/-- Applies the outputs computed in the previous tick. -/
def applyOutputs (s : State) : State := each s.lp.next applyOutput s

/-! ### Initialisation (R161) -/

/-- Initialises a channel: 0 from readback, 1 from a snapshot, 2 from INIT_OUT. -/
def initChannel (c : Nat) (s : State) : Nat × State :=
  match chanRec s c with
  | none => (2, s)
  | some r =>
    let snap := tget s.mir.snaps c
    let rb := match mapRec s r.outMap with
      | some m => (readback s m).map (mapInv m)
      | none => none
    let (kind, acc) := match rb, snap with
      | some q, _ => (0, q * 65536)
      | none, some p => (1, p.acc)
      | none, none => (2, r.initOut * 65536)
    let b := bankOf s c
    let acc := max acc (bkULo b * 65536)
    let hi := bkUHi b * 65536
    let x := chSt s c
    let x := { x with
      acc := acc
      law := (snap.map (·.law)).getD 0
      cnt := (snap.map (·.cnt)).getD 0
      fe := (snap.map (·.fe)).getD 0
      spEff := snap.map (·.spEff)
      spUsed := (snap.map (·.spEff)).getD x.spUsed
      feGrace := 0
      feDone := false
      approach := decide (hi < acc)
      appCnt := if hi < acc then (bkBig b).2 else 0
      cascHold := false
      satHi := decide (acc = hi)
      satLo := decide (acc = bkULo b * 65536)
      u := wb acc
      init := true
      reinit := false }
    (kind, setCh c x s)

/-- A module that begins to drive takes the TRIPPED of the channel states that it held (R137, R317): R158 names no takeover among the ways out of it. -/
def heldTrips (s : State) : State :=
  each (s.mir.snaps.filter (fun e => (chanRec s e.1).isSome)) (fun (e : Nat × SnapRec) s => setCh e.1 { chSt s e.1 with tripped := e.2.tripped } s) s

/-- Initialises every enabled channel that an engine serves and counts the sources. -/
def initAll (s : State) : State :=
  ((pat s).chans.filter (fun r => r.enable && (chSt s r.ch).placed)).foldl (fun s r =>
    let (k, s) := initChannel r.ch s
    { s with
      lp.fromRb := s.lp.fromRb + (if k = 0 then 1 else 0)
      lp.fromSnap := s.lp.fromSnap + (if k = 1 then 1 else 0)
      lp.fromInit := s.lp.fromInit + (if k = 2 then 1 else 0) })
    { s with lp.fromRb := 0, lp.fromSnap := 0, lp.fromInit := 0 }

/-! ### The channel sample (R163) -/

/-- The output of a sample, with an output injection (R177, R179). -/
def sampleU (s : State) (b : List Nat) (inj : Option (Nat × Nat × Int)) (acc : Int) : Int :=
  match inj with
  | some (k, mode, d) =>
    if mode = 2 || mode = 3 then
      let x := swSt s k
      clampI (max (bkULo b) x.outLo) (min (bkUHi b) x.outHi) (wb (sat40 (acc + d * 65536)))
    else wb acc
  | none => wb acc

/-- The MODE of an injection, 0 without one. -/
def injMode (inj : Option (Nat × Nat × Int)) : Nat :=
  match inj with
  | some (_, m, _) => m
  | none => 0

/-- The d of an injection. -/
def injD (inj : Option (Nat × Nat × Int)) : Int :=
  match inj with
  | some (_, _, d) => d
  | none => 0

/-- Captures and traces once the channel sample has completed. -/
def sampleEnd (c : Nat) (inj : Option (Nat × Nat × Int)) (s : State) : State := trAll c inj.isSome (swAfter c inj s)

/-- The law or what stands in its place, the bounds and u (R148 to R150, R157, R177). -/
def sampleLaw (r : ChanRec) (inj : Option (Nat × Nat × Int)) (pv : Option Int) (unk : Bool) (x : ChanSt) (s : State) : ChanSt :=
  let b := bankOf s r.ch
  if injMode inj = 2 then { x with u := sampleU s b inj x.acc }
  else
    let x :=
      if unk && (r.unkAction != 0 || pv.isNone) then
        { x with law := 0, cnt := 0, cascHold := false, acc := if r.unkAction = 2 then max x.acc (bkFailOut b * 65536) else x.acc }
      else lawRun s b x r.ch
    let x := boundAcc b x
    { x with u := sampleU s b inj x.acc }

/-- One sample of an enabled channel; `driving` as R137. -/
def channelSample (driving : Bool) (r : ChanRec) (s : State) : State :=
  let c := r.ch
  let s := if driving && (!(chSt s c).init || (chSt s c).reinit) then (initChannel c s).2 else s
  let (pv, unk) := pvVal s r.pv
  let (inj, s) := swBefore c pv unk s
  let x := { chSt s c with pv := pv.getD (chSt s c).pv, pvUnk := unk }
  if driving && x.tripped then sampleEnd c inj (setCh c x s)
  else
    let s := spExtern r s
    let prev := x.spEff.map (fun _ => x.spUsed)
    let eff := spForm s r
    let used := if injMode inj = 1 then clampI r.spLo r.spHi (wb ((eff + injD inj) * 65536)) else eff
    let pvu := if injMode inj = 4 then wb ((x.pv + injD inj) * 65536) else x.pv
    let x := { x with
      spEff := some eff
      spUsed := used
      pvUsed := pvu
      e := if pv.isNone then x.e else if r.action then wbSub pvu used else wbSub used pvu }
    if !driving then sampleEnd c inj (setCh c x s)
    else
      let b := bankOf s c
      let x := feStep b prev pv.isSome x
      if r.feAction = 1 && pv.isSome && feDue b x then sampleEnd c inj (feTrip c x s)
      else sampleEnd c inj (setCh c (sampleLaw r inj pv unk x s) s)

/-- Cascade depth of a channel: the outermost has 0 (R135). -/
def cascDepth (s : State) : Nat → Nat → Nat
  | 0, _ => 0
  | n + 1, c =>
    match chanRec s c with
    | some r => if r.cascInner && (chanRec s r.outer).isSome then 1 + cascDepth s n r.outer else 0
    | none => 0

/-- Inserts a channel record by ascending number. -/
def insChan (r : ChanRec) : List ChanRec → List ChanRec
  | [] => [r]
  | a :: t => if r.ch ≤ a.ch then r :: a :: t else a :: insChan r t

/-- The channels due in the present tick, in ascending cascade depth, then number (R135). A channel whose engine is lost and that no engine serves is not sampled, nor is one in the tick of its engine's fault (R162). -/
def dueChans (s : State) : List ChanRec :=
  let due := ((pat s).chans.filter (fun r =>
    r.enable && (chSt s r.ch).placed && (chSt s r.ch).missAt != some s.tick && s.tick % max 1 r.period == r.phase)).foldr insChan []
  (List.range 5).flatMap (fun d => due.filter (fun r => cascDepth s 4 r.ch == d))

/-- Largest number of due channels on one engine. -/
def engineLoad (s : State) (l : List ChanRec) : Nat :=
  ((List.range 8).map (fun e => (l.filter (fun r => (chSt s r.ch).engine == e)).length)).foldl max 0

/-! ### Placement on the other engines (R136, R162) -/

/-- Two channels sample in a common tick: their phases agree modulo the greatest common divisor of their periods. -/
def meets (a b : ChanRec) : Bool := a.phase % Nat.gcd (max 1 a.period) (max 1 b.period) == b.phase % Nat.gcd (max 1 a.period) (max 1 b.period)

/-- Some tick has `n` more channels of the list due beside those chosen; channels that meet two by two meet all together. -/
def crowded : Nat → List ChanRec → List ChanRec → Bool
  | 0, _, _ => true
  | _ + 1, _, [] => false
  | n + 1, chosen, r :: t =>
    if t.length < n then false
    else (chosen.all (meets r) && crowded n (r :: chosen) t) || crowded (n + 1) chosen t

/-- Channels that an engine serves. -/
def engineChans (s : State) (e : Nat) : List ChanRec := (pat s).chans.filter (fun r => r.enable && (chSt s r.ch).placed && (chSt s r.ch).engine == e)

/-- An engine in service can take a channel within R136's limit of 64 samples in any tick. -/
def engineFits (s : State) (r : ChanRec) (e : Nat) : Bool := decide (e < 8) && !s.lp.engBad.contains e && !crowded 64 [r] (engineChans s e)

/-- The engine a channel moves to: the one named, if it can take it, else the first that can (DESIGN CHOICE: no rule says which). -/
def engineFor (s : State) (r : ChanRec) (want : Option Nat) : Option Nat :=
  match want.filter (engineFits s r) with
  | some e => some e
  | none => (List.range 8).find? (engineFits s r)

/-! ### Fallback estimator (R164, R165) -/

/-- One round of a slot from the codes tin and pw (R165). -/
def estRound (r : EstRec) (tin pw : Int) (x : EstSt) : EstSt :=
  let a := sat40 (x.sacc + r.a * pw * 2)
  let a := sat40 (a - r.a * wb x.sacc * 2)
  let sq := wb a
  let t (k : Int) : Int := wb (sat40 (tin * 65536 + k * sq * 2))
  { sacc := a, pw := pw, tin := tin, tH := t r.kH, tS := t r.kS, tO := t r.kO }

/-- A slot's state. From the loop layer's start every slot, with or without a record, starts at rated power (R165). -/
def estSt (s : State) (n : Nat) : EstSt := tgetD s.lp.est n { sacc := if s.lp.st = 0 && s.glb.role != .safe then 0 else 0x4000 * 65536 }

/-- The slots with a record start at their INIT_S (R165). -/
def estReset (s : State) : State :=
  { s with lp.est := (pat s).est.foldl (fun t r => tset t r.slot { sacc := r.initS * 65536 }) [] }

end Sys2Proof.Machine
end

