-- ==== Sys2Proof/Machine/FbOps.lean ====
section
/-! DEFINITION. The field-bus controllers' operations (chapter 09): ownership, queue, urgent slot, error counters, receive filters, buffers, signals. -/

namespace Sys2Proof.Machine

/-- A controller's state, its buffers, its pattern record. -/
def busSt (s : State) (k : Nat) : BusSt := tgetD s.fb.bus k {}
def busBuf (s : State) (k : Nat) : BusBuf := tgetD s.fb.buf k {}
def setBus (k : Nat) (x : BusSt) (s : State) : State := { s with fb.bus := tset s.fb.bus k x }
def setBuf (k : Nat) (x : BusBuf) (s : State) : State := { s with fb.buf := tset s.fb.buf k x }
def busRec (s : State) (k : Nat) : BusRec := nth (pat s).fb.buses k {}

/-- Controller states of R264. -/
def bsOff : Nat := 0
def bsAuto : Nat := 1
def bsNormal : Nat := 2
def bsRestricted : Nat := 3
def bsSleep : Nat := 4
def bsBusOff : Nat := 5
def bsQuar : Nat := 6

/-- FB_ERR of bus `k`. -/
def fbErrAddr (k : Nat) : Nat := 0x0200000C + k * 0x10000

/-- Writes a field-bus record and sets its FB_ERR bit (R300). -/
def fbEmit (k code bit : Nat) (args : List Word) (s : State) (clear : Bool := false) : State :=
  setErr (fbErrAddr k) bit (emit code (src 4 k) args s clear)

/-- Key of an identifier. -/
def idKey (id : Nat) (xtd : Bool) : Nat := id % 2 ^ 29 + (if xtd then 2 ^ 29 else 0)

/-- Key of a 4-byte identifier field whose bit 31 is the extended flag (R231, R259, R298). -/
def fieldKey (n : Nat) : Nat := idKey n (bitOf n 31)

/-- Key of a frame's identifier. -/
def frameKey (f : BusFrame) : Nat := idKey f.id f.xtd

/-- SLOT_ID[0] (R234). -/
def slotB (s : State) : Bool := bitOf s.red.straps 0

/-- The identifier of a transmit message in this module's slot (R298). -/
def msgKey (s : State) (m : TxMsgRec) : Nat := fieldKey (if m.owner = 2 && slotB s then m.idB else m.idA)

/-- Identifier of the heartbeat frame this module, or its partner, sends on a bus (R240, R259). -/
def hbKey (s : State) (bus : Nat) (b : Bool) : Nat := fieldKey (nth (pat s).red.hbIds ((if bus = 8 then 2 else 0) + (if b then 1 else 0)) 0)

/-- Identifier of the selvedge frames of a slot on a bus (R231). -/
def svKey (s : State) (bus : Nat) (b : Bool) : Nat := fieldKey (nth s.sv.sec.busIds (bus * 2 + (if b then 1 else 0)) 0)

/-- A bus runs time-triggered (R273): buses 0 and 8 always, another where its record says so. -/
def isTt (s : State) (k : Nat) : Bool := k == 0 || k == 8 || (busRec s k).tt

/-- The state in which a controller starts (R264 to R266, R271): in SAFE, or by its record, RESTRICTED goes before AUTO. -/
def startState (s : State) (r : BusRec) : Nat :=
  if !r.enable then bsOff else if r.restricted || s.glb.role == .safe then bsRestricted else if r.auto then bsAuto else bsNormal

/-- The head entry's attempt is on the wire (R292): it leads R276's order on a bus in NORMAL, and its SOF bit has begun. -/
def onWire (s : State) (k : Nat) : Bool :=
  let b := busSt s k
  match b.q with
  | [] => false
  | e :: _ => b.st == bsNormal && (b.held == 2 || b.urg.isNone && b.ref.isNone) && Config.headStarted k s.clock e.tag

/-- The reference message is on the wire (tag 0 of the started attempts, which no queued frame has). -/
def refOnWire (s : State) (k : Nat) : Bool :=
  let b := busSt s k
  b.ref.isSome && b.st == bsNormal && (b.held == 1 || b.held != 2 && b.urg.isNone) && Config.headStarted k s.clock 0

/-- Owner class of an identifier on a bus (R277): 1 URGENT, 2 DRIVE, 3 SLOT. -/
def ownerClass (s : State) (k key : Nat) : Option Nat :=
  if (k = 0 || k = 8) && hbKey s k (slotB s) = key then some 1
  else if bitOf s.sv.sec.buses k && !s.sv.sec.busIds.isEmpty && svKey s k (slotB s) = key then some 1
  else if isTt s k && fieldKey (busRec s k).refId = key then some 2
  else
    match (pat s).fb.txMsgs.find? (fun m => m.bus == k && msgKey s m == key) with
    | some m => if m.owner = 1 then some 2 else some 3
    | none => none

/-- Number of FB_IDC.CLASS is that of R277; an identifier without a class counts as 0. -/
def classNum (s : State) (k key : Nat) : Nat := (ownerClass s k key).getD 0

/-- A message's owner class is sent in the present role (R265, R277). -/
def ownerSent (s : State) (owner : Nat) : Bool :=
  if owner = 1 then drives s else !(s.glb.role == .none || s.glb.role == .safe)

/-! ### The transmit queue (R286 to R292) -/

/-- An entry is completed: its outcome shows in FB_TX_LAST and in the tag registers of its commit. -/
def txOutcome (k tag out : Nat) (s : State) : State :=
  let b := busSt s k
  setBus k { b with
    lastTag := tag
    lastOut := out
    outS := if b.tagS = tag && b.outS = 0 then out else b.outS
    outH := if b.tagH = tag && b.outH = 0 then out else b.outH } s

/-- Removes the entries of a bus that meet a test, with an outcome. -/
def txRemove (k out : Nat) (f : TxEnt → Bool) (s : State) : State :=
  let b := busSt s k
  each ((b.q.filter f).map (·.tag)) (fun t s => txOutcome k t out s) (setBus k { b with q := b.q.filter (fun e => !f e), held := if (b.q.head?.map f).getD false then 0 else b.held } s)

/-- Puts a frame at the end of a queue; the tag it gets, or none where the queue of 32 is full (R288). -/
def txEnqueue (k : Nat) (f : BusFrame) (owner : Nat) (msg : Option Nat) (s : State) : Option Nat × State :=
  let b := busSt s k
  if 32 ≤ b.q.length then (none, s)
  else
    (some b.nextTag, setBus k { b with q := b.q ++ [{ tag := b.nextTag, f := f, owner := owner, msg := msg }], nextTag := (b.nextTag + 1) % 65536 } s)

/-- Raw field of a transmit signal (R287). -/
def txSigRaw (s : State) (g : TxSigRec) : Nat :=
  match tget s.fb.txVals g.target with
  | none => g.init % 2 ^ g.len
  | some y =>
    let v := froundI (2 ^ 40) (fadd (fmul y g.factor) g.offset)
    if g.signed then twos g.len (clampI (-(2 ^ (g.len - 1) : Nat)) ((2 ^ (g.len - 1) : Nat) - 1) v)
    else (clampI 0 ((2 ^ g.len : Nat) - 1) v).toNat

/-- Puts a field into a payload taken as a little-endian number (R285 counts bits from bit 0 of byte 0). -/
def putField (n start len v : Nat) : Nat := n - bits n start len * 2 ^ start + v % 2 ^ len * 2 ^ start

/-- The frame of a transmit message from the newest values (R286). -/
def txBuild (s : State) (m : TxMsgRec) : BusFrame :=
  let sigs := (pat s).fb.txSigs.filter (fun g => g.msg == m.msg)
  let n := sigs.foldl (fun n g => putField n g.start g.len (txSigRaw s g)) 0
  let key := msgKey s m
  { fmt := if m.fmt = 3 then 2 else if m.fmt = 0 then 0 else 1
    xtd := 2 ^ 29 ≤ key
    id := key % 2 ^ 29
    brs := m.fmt == 2
    sdt := m.sdt
    vcid := m.vcid
    sec := m.sec != 0
    af := m.af
    data := le n m.len }

/-- TX_LATE at most once per second per message; FB_ERR.LATE on every event (R286, R288). -/
def txLate (k m cause : Nat) (s : State) : State :=
  let s := setErr (fbErrAddr k) 1 s
  let b := busBuf s k
  let due := match tget b.lateAt m with
    | some t => decide (t + 1000000000 ≤ s.clock)
    | none => true
  if due then emit 0x030A (src 4 k) (aw k ++ aw m ++ aw cause) (setBuf k { b with lateAt := tset b.lateAt m s.clock } s) else s

/-- A transmit message at its mark (R286, R288): entered, updated in place, or refused by a full queue. -/
def txMark (m : TxMsgRec) (s : State) : State :=
  let k := m.bus
  let b := busSt s k
  if b.st == bsOff || b.st == bsQuar || b.er.quar.contains (msgKey s m) then s
  else
    let f := txBuild s m
    if b.q.any (fun e => e.msg == some m.msg) then
      txLate k m.msg 1 (setBus k { b with
        q := b.q.map (fun e => if e.msg == some m.msg then { e with f := f } else e)
        er.lateUpd := satAdd 0xFFFF b.er.lateUpd 1 } s)
    else
      match txEnqueue k f m.owner (some m.msg) s with
      | (some _, s) => s
      | (none, s) => txLate k m.msg 2 (setBus k { b with er.lateFull := satAdd 0xFFFF b.er.lateFull 1 } s)

/-- A controller leaves the DRIVE class: its DRIVE entries and its reference message go; an attempt on the wire completes (R280). -/
def flushDrive (k : Nat) (s : State) : State :=
  let b := busSt s k
  let q := match b.q with
    | e :: t => if e.owner == 1 && onWire s k then { e with noRetry := true, flush := true } :: t else b.q
    | [] => []
  let s := txRemove k 5 (fun e => e.owner == 1 && !e.flush) (setBus k { b with q := q } s)
  let w := refOnWire s k
  setBus k { busSt s k with ref := if w then b.ref else none, refLast := w } s

/-- Ends the quarantine of one identifier (R280). -/
def releaseId (k cause key : Nat) (s : State) : State :=
  let b := busSt s k
  if b.er.quar.contains key then
    emit 0x0305 (src 4 k) (aw k ++ aw (key % 2 ^ 29) ++ aw cause)
      (setBus k { b with er.quar := b.er.quar.filter (· != key), er.conflicts := tdel b.er.conflicts key } s)
  else s

/-- Ends every quarantine of a bus. -/
def releaseIds (k cause : Nat) (s : State) : State := each (busSt s k).er.quar (releaseId k cause) s

/-- The numbers of the 16 buses (R262). -/
def allBuses : List Nat := List.range 16

/-- In SAFE every controller that could send is RESTRICTED (R265). -/
def restrictBuses (s : State) : State :=
  each allBuses (fun k s =>
    let b := busSt s k
    if b.st = bsAuto || b.st = bsNormal then setBus k { b with st := bsRestricted } s else s) s

/-! ### The urgent slot (R290) -/

/-- Fills an empty urgent slot from the pending frames in R290's order. -/
def urgFill (k : Nat) (s : State) : State :=
  let b := busSt s k
  match b.urg, b.pend with
  | none, (_, u) :: t => setBus k { b with urg := some u, pend := t } s
  | _, _ => s

/-- The source whose attempt may be on the wire as a frame ahead of it in R276's order enters: the reference message, else the queue's head. -/
def heldNow (b : BusSt) : Nat :=
  if b.held != 0 || b.st != bsNormal || b.urg.isSome then b.held
  else if b.ref.isSome then 1 else if b.q.isEmpty then 0 else 2

/-- Makes an urgent frame pending; one of the same key that still waits is replaced, and a replaced heartbeat counted (R290). -/
def urgPut (k : Nat) (u : UrgSt) (s : State) : State :=
  let b := busSt s k
  if !(b.st == bsNormal || b.st == bsBusOff) then s
  else
    let inSlot := match b.urg with
      | some w => w.key == u.key
      | none => false
    let skip := u.content = 1 && (inSlot || (tget b.pend u.key).isSome)
    let b := { b with skipped := if skip then satAdd 0xFFFF b.skipped 1 else b.skipped, held := heldNow b }
    if inSlot then setBus k { b with urg := some u } s
    else urgFill k (setBus k { b with pend := tset b.pend u.key u } s)

/-! ### Error counters (R293, ISO 11898-1) -/

/-- ERROR_PASSIVE on reaching 128, its clear record when both counters are below (R293). -/
def errPassive (k : Nat) (s : State) : State :=
  let b := busSt s k
  let p := decide (128 ≤ b.er.tec) || decide (128 ≤ b.er.recCnt)
  if p && !b.er.epass then fbEmit k 0x0303 3 (aw k ++ aw b.er.tec ++ aw b.er.recCnt) (setBus k { b with er.epass := true } s)
  else if !p && b.er.epass then fbEmit k 0x0303 3 (aw k ++ aw b.er.tec ++ aw b.er.recCnt) (setBus k { b with er.epass := false } s) true
  else s

/-- A transmit error raises TEC by 8, at most to 256 where the bus goes off (PRESUMED, ISO 11898-1). -/
def tecError (k kind : Nat) (s : State) : State :=
  let b := busSt s k
  errPassive k (setBus k { b with er.tec := if kind = 5 && b.er.epass then b.er.tec else min 256 (b.er.tec + 8), er.lastKind := kind } s)

/-- A frame was sent: TEC falls by 1, FB_CNT_TX counts. An error-passive controller's FD frame bears ESI (R262). -/
def tecSent (k : Nat) (f : BusFrame) (s : State) : State :=
  let b := busSt s k
  let f := { f with esi := f.esi || f.fmt == 1 && b.er.epass }
  let s := setBus k { b with er.tec := b.er.tec - 1, er.cntTx := satAdd 0xFFFFFFFF b.er.cntTx 1, er.conflicts := tdel b.er.conflicts (frameKey f) } s
  let x := busBuf s k
  errPassive k (setBuf k { x with wire := x.wire ++ [f], lastTraffic := s.clock } s)

/-- The head entry's attempt is over (R288, R292). -/
def queueEnd (k : Nat) (res : AttemptEnd) (s : State) : State :=
  let b := busSt s k
  match b.q with
  | [] => s
  | e :: t =>
    match res with
    | .sent => txOutcome k e.tag 1 (tecSent k e.f (setBus k { b with q := t } s))
    | .lostArb => if e.noRetry then txOutcome k e.tag (if e.flush then 5 else 2) (setBus k { b with q := t } s) else s
    | .error kind =>
      let n := e.attempts + 1
      let s := tecError k kind s
      let b := busSt s k
      if e.noRetry then txOutcome k e.tag (if e.flush then 5 else 2) (setBus k { b with q := t } s)
      else if (busRec s k).maxAttempts ≤ n then
        fbEmit k 0x0309 2 (aw k ++ aw e.f.id ++ aw e.tag ++ aw n) (txOutcome k e.tag 3 (setBus k { b with q := t } s))
      else setBus k { b with q := { e with attempts := n } :: t } s

/-- The urgent frame's attempt is over: sent, or dropped after 4 attempts ended by an error (R290). -/
def urgentEnd (k : Nat) (res : AttemptEnd) (s : State) : State :=
  let b := busSt s k
  match b.urg with
  | none => s
  | some u =>
    match res with
    | .sent => urgFill k (tecSent k u.f (setBus k { b with urg := none } s))
    | .lostArb => s
    | .error kind =>
      let s := tecError k kind s
      let b := busSt s k
      if 4 ≤ u.attempts + 1 then urgFill k (setBus k { b with urg := none } s)
      else setBus k { b with urg := some { u with attempts := u.attempts + 1 } } s

/-- The reference frame with DELAY written as its SOF starts (R275). -/
def refStamp (f : BusFrame) (delay : Nat) : BusFrame := { f with data := f.data.take 1 ++ le delay 2 ++ f.data.drop 3 }

/-- The reference message's attempt is over: retried until sent or the next t0 (R276). -/
def refEnd (k : Nat) (res : AttemptEnd) (delay : Nat) (s : State) : State :=
  let b := busSt s k
  match b.ref with
  | none => s
  | some f =>
    let b := { b with delay := delay % 65536, ref := if b.refLast then none else b.ref, refLast := false }
    match res with
    | .sent => tecSent k (refStamp f delay) (setBus k { b with ref := none, cycle := byteAt f.data 0 % 64, ttRound := 0, ttSync := true } s)
    | .lostArb => setBus k b s
    | .error kind => tecError k kind (setBus k b s)

/-- The reference message of the present round (R275). -/
def refFrame (s : State) (k : Nat) : BusFrame :=
  let key := fieldKey (busRec s k).refId
  { xtd := 2 ^ 29 ≤ key, id := key % 2 ^ 29, data := le (s.round % 64) 1 ++ le 0 2 ++ le s.round 5 }

/-- A t0 on the buses: locked candidates enter NORMAL (R271), the time master enters its reference message (R276) unless its identifier is quarantined (R279), receivers count (R274). -/
def busRound (s : State) : State :=
  each allBuses (fun k s =>
    let b := busSt s k
    let r := busRec s k
    let b := if b.st = bsAuto && b.er.lockPend then { b with st := if s.glb.role == .safe || r.restricted then bsRestricted else bsNormal, er.lockPend := false } else b
    let b := if isTt s k then { b with ttRound := satAdd 0xFFFF b.ttRound 1, ttSync := b.ttSync && decide (b.ttRound + 1 ≤ 2) } else b
    let b := if isTt s k && s.red.timeMaster && (b.st = bsNormal || b.st = bsBusOff) && !b.er.quar.contains (fieldKey r.refId) then
        { b with ref := some (refFrame s k), held := if b.ref.isNone then heldNow b else b.held }
      else { b with ref := none }
    let b := { b with refLast := false }
    setBus k b s) s

/-! ### Receiving (R281 to R285) -/

/-- A filter entry matches a frame (R281). -/
def filterMatch (e : FilterRec) (f : BusFrame) : Bool :=
  Nat.land (Nat.xor f.id e.id) e.mask == 0 && f.xtd == e.xtd && bitOf e.fmts f.fmt && (f.fmt != 2 || e.vcid == 0xFFFF || e.vcid == f.vcid)

/-- Number and record of the entry that decides for a frame on a bus. -/
def filterOf (s : State) (k : Nat) (f : BusFrame) : Option (Nat × FilterRec) :=
  let r := busRec s k
  let es := ((List.range (pat s).fb.filters.length).zip (pat s).fb.filters).filter (fun e => r.firstFilter ≤ e.1 && decide (e.1 < r.firstFilter + r.filterCount) && filterMatch e.2 f)
  match es.find? (fun e => e.2.prio) with
  | some e => some e
  | none => es.head?

/-- Decodes the signals that lie in the frames of a filter entry (R285). -/
def decodeSignals (entry : Nat) (f : BusFrame) (s : State) : State :=
  each ((pat s).fb.rxSigs.filter (fun g => g.filter == entry)) (fun g s =>
    if g.start + g.len ≤ 8 * f.data.length then
      let raw := bits (unLe f.data) g.start g.len
      let v : Int := if g.signed then sgn g.len raw else raw
      { s with fb.sigs := tset s.fb.sigs g.sig { raw := raw, value := fadd (fmul (fofInt v) g.factor) g.offset, time := s.clock } }
    else s) s

/-- A received frame as a buffer's content with a new sequence (R282). -/
def rxContent (s : State) (k seq : Nat) (f : BusFrame) : RxBuf :=
  { seq := (seq + 2) % 2 ^ 32, f := f, cycle := (busSt s k).cycle, time := uptime s % 2 ^ 32 }

/-- Writes a payload at an offset of the receive store. -/
def storePut (t : Tab (BitVec 8)) (a : Nat) : Bytes → Tab (BitVec 8)
  | [] => t
  | b :: bs => storePut (tset t a b) (a + 1) bs

/-- Stores a frame in receive buffer `n`, its payload at offset `o` of the store (R282). -/
def rxStore (k n o : Nat) (f : BusFrame) (s : State) : State :=
  let b := busSt s k
  let x := busBuf s k
  let past := bitOf b.rxNew n
  let b := { b with
    rxNew := if past then b.rxNew else b.rxNew + 2 ^ n
    rxOvr := if past && !bitOf b.rxOvr n then b.rxOvr + 2 ^ n else b.rxOvr }
  let s := setBus k b (setBuf k { x with bufs := tset x.bufs n (rxContent s k (tgetD x.bufs n {}).seq f), store := storePut x.store o f.data } s)
  if past then setErr (fbErrAddr k) 0 s else s

/-- Fills a priority buffer (R284). -/
def pmFill (k i : Nat) (c : RxBuf) (s : State) : State :=
  let x := busBuf s k
  setErr (fbErrAddr k) (16 + i) (setBuf k { x with pms := tset x.pms i { tgetD x.pms i {} with buf := c } } s)

/-- Stores a frame in a priority buffer, or in its shadow while it is locked (R284). -/
def pmStore (k i : Nat) (f : BusFrame) (s : State) : State :=
  let x := busBuf s k
  let p := tgetD x.pms i {}
  let c := rxContent s k p.buf.seq f
  if p.locked then
    setBuf k { x with pms := tset x.pms i { p with shadow := some c, lost := if p.shadow.isSome then satAdd 255 p.lost 1 else p.lost } } s
  else pmFill k i c s

/-- Releases a priority buffer's lock; a shadow frame enters the buffer (R284). -/
def pmUnlock (k i : Nat) (stale : Bool) (s : State) : State :=
  let x := busBuf s k
  let p := tgetD x.pms i {}
  let s := setBuf k { x with pms := tset x.pms i { p with locked := false, shadow := none, stale := stale } } s
  match p.shadow with
  | some c => pmFill k i c s
  | none => s

/-- Counts a discarded frame: TOOLONG or NOMATCH (R281). -/
def rxTooLong (k : Nat) (s : State) : State := let b := busSt s k; setBus k { b with er.tooLong := satAdd 0xFFFF b.er.tooLong 1 } s
def rxNoMatch (k : Nat) (s : State) : State := let b := busSt s k; setBus k { b with er.noMatch := satAdd 0xFFFF b.er.noMatch 1 } s

/-- Routes a frame by its filter entry (R281). -/
def rxRoute (k : Nat) (f : BusFrame) (broken : Bool) (s : State) : State :=
  if f.remote then rxNoMatch k s
  else
    match filterOf s k f with
    | none => rxNoMatch k s
    | some (n, e) =>
      if e.dest = 4 then s
      else
        let b := busSt s k
        let s := setBus k { b with er.cntRx := satAdd 0xFFFFFFFF b.er.cntRx 1 } s
        let s := if e.dest = 3 then s else decodeSignals n f s
        if e.dest = 1 then (if broken || e.cap * 8 < f.data.length then rxTooLong k s else rxStore k e.index e.poff f s)
        else if e.dest = 2 then (if 64 < f.data.length then rxTooLong k s else pmStore k e.index f s)
        else decodeSignals n f s

/-- The next candidate of rate detection (R271). -/
def autoNext (k : Nat) (s : State) : State :=
  let b := busSt s k
  let n := (busRec s k).cands.length
  if b.er.cand + 1 < n then setBus k { b with er.cand := b.er.cand + 1, er.frames := 0, er.dataSeen := false, er.candAt := s.clock } s
  else
    let p := satAdd 255 b.er.passes 1
    let fail := p = 10 && b.er.passes = 9
    let s := setBus k { b with er.cand := 0, er.frames := 0, er.dataSeen := false, er.candAt := s.clock, er.passes := p, er.autoSt := if fail then 3 else b.er.autoSt } s
    if fail then fbEmit k 0x0307 9 (aw k ++ aw p) s else s

/-- An error-free frame during rate detection (R271). -/
def autoFrame (k : Nat) (f : BusFrame) (s : State) : State :=
  let b := busSt s k
  let c := nth (busRec s k).cands b.er.cand (0, 0)
  let switched := f.fmt = 2 || (f.fmt = 1 && f.brs)
  if b.er.lockPend then s
  else if switched && c.2 = 0 then autoNext k s
  else
    let b := { b with er.frames := satAdd 0xFFFF b.er.frames 1, er.dataSeen := b.er.dataSeen || switched }
    if b.er.frames = (busRec s k).autoFrames then
      if c.2 = 0 || b.er.dataSeen then
        fbEmit k 0x0306 8 (aw k ++ aw c.1 ++ aw c.2 ++ aw b.er.passes) (setBus k { b with er.autoSt := 2, er.lockPend := true, er.locked := some c } s)
      else setBus k b s
    else setBus k b s

/-- A receiver's error raises REC by 1 (PRESUMED, ISO 11898-1). -/
def recError (k kind : Nat) (s : State) : State :=
  let b := busSt s k
  errPassive k (setBus k { b with er.recCnt := satAdd 255 b.er.recCnt 1, er.lastKind := kind } s)

/-- A frame that ends in an error: rate detection goes to the next candidate (R271), a controller in NORMAL counts it (R293), a restricted one leaves its counters (R266). -/
def rxError (k kind : Nat) (s : State) : State :=
  let b := busSt s k
  if b.st = bsAuto then (if b.er.lockPend then s else autoNext k s)
  else if b.st = bsNormal then recError k kind s
  else s

/-- A frame received without error (R264, R271, R281). It ends any attempt of the controller's own, so the order of R276 is taken anew. -/
def rxFrame (k : Nat) (f : BusFrame) (broken : Bool) (s : State) : State :=
  let s := setBus k { busSt s k with held := 0 } s
  let b := busSt s k
  if b.st = bsAuto || b.st = bsNormal || b.st = bsRestricted then
    let s := setBuf k { busBuf s k with lastTraffic := s.clock } s
    let s := if b.st = bsAuto then autoFrame k f s
      else if b.st = bsNormal then errPassive k (setBus k { b with er.recCnt := if 127 < b.er.recCnt then 127 else b.er.recCnt - 1 } s)
      else s
    rxRoute k f broken s
  else s

/-! ### Commits, sleep and wake (R289, R296, R297) -/

/-- The staged frame of an area: its header words and payload (R299). -/
def stagedFrame (t : Tab Nat) : BusFrame :=
  let w (i : Nat) := tgetD t (4 * i) 0
  let n := bits (w 1) 16 12
  { fmt := bits (w 0) 30 2
    xtd := bitOf (w 0) 29
    id := w 0 % 2 ^ 29
    brs := bitOf (w 1) 15
    esi := bitOf (w 1) 14
    sdt := w 1 % 256
    af := w 2
    vcid := bits (w 3) 8 8
    sec := bitOf (w 3) 0
    data := (((List.range ((n + 3) / 4)).flatMap (fun i => le (tgetD t (32 + 4 * i) 0) 4)).take n) }

/-- A frame's format and length are allowed on a bus (R262, R298). -/
def frameAllowed (r : BusRec) (f : BusFrame) : Bool :=
  let n := f.data.length
  decide (f.fmt ≤ r.dataFmt) && decide (f.id < (if f.xtd then 2 ^ 29 else 2 ^ 11)) &&
    (if f.fmt = 0 then decide (n ≤ 8)
     else if f.fmt = 1 then decide (n ≤ 8) || [12, 16, 20, 24, 32, 48, 64].contains n
     else !f.xtd && decide (1 ≤ n) && decide (n ≤ 2048))

/-- The wake-up frame of a large bus (R297, R298). -/
def wakeFrame (r : BusRec) : BusFrame :=
  let key := fieldKey r.wakeId
  { xtd := 2 ^ 29 ≤ key, id := key % 2 ^ 29, data := le r.wakeData (min r.wakeDlc 8) }

/-- The module wakes a sleeping bus (R297). -/
def startWake (k : Nat) (s : State) : State :=
  if (busSt s k).st = bsSleep && !(busBuf s k).waking then
    let s := setBuf k { busBuf s k with waking := true } s
    if (busRec s k).large then
      let b := busSt s k
      setBus k { b with q := { tag := b.nextTag, f := wakeFrame (busRec s k) } :: b.q, nextTag := (b.nextTag + 1) % 65536 } s
    else s
  else s

/-- A commit of a staged frame (R289). -/
def txCommitOp (k : Nat) (host : Bool) (s : State) : State :=
  let b := busSt s k
  let f := stagedFrame (if host then (busBuf s k).stageH else (busBuf s k).stageS)
  let bad := (ownerClass s k (frameKey f)).isSome || b.er.quar.contains (frameKey f) ||
    b.st = bsRestricted || b.st = bsQuar || b.st = bsOff || !frameAllowed (busRec s k) f
  let (t, s) := if bad then (none, s) else txEnqueue k f 0 none s
  let b := busSt s k
  match t with
  | none => setBus k (if host then { b with outH := 4 } else { b with outS := 4 }) s
  | some tag => startWake k (setBus k (if host then { b with tagH := tag, outH := 0 } else { b with tagS := tag, outS := 0 }) s)

/-- The field-bus section is loaded: every enabled controller leaves OFF (R264 to R266, R271). -/
def busStart (s : State) : State :=
  each allBuses (fun k s =>
    let st := startState s (busRec s k)
    if (busSt s k).st = bsQuar then s
    else
      let b : BusSt := { st := st, er := { autoSt := if st = bsAuto then 1 else 0, candAt := s.clock } }
      setBuf k { busBuf s k with lastTraffic := s.clock } (setBus k b s)) s

end Sys2Proof.Machine
end

