-- ==== Sys2Proof/Machine/Operands.lean ====
section
/-! DEFINITION. The operands of the host commands: HXP header and trailer (R305, R306), statuses (R311), sending and answering, tags (R324). -/

namespace Sys2Proof.Machine

/-- Status codes of R311. -/
def stOk : Nat := 0
def stUnmapped : Nat := 1
def stAlign : Nat := 2
def stDenied : Nat := 3
def stBusy : Nat := 4
def stNotPermitted : Nat := 5
def stMalformed : Nat := 6
def stBadTag : Nat := 7
def stReplay : Nat := 8
def stWrongTarget : Nat := 9
def stDataLate : Nat := 10
def stRefused : Nat := 11
def stDropped : Nat := 12
def stUnderflow : Nat := 13
def stWouldBlock : Nat := 14

/-- The HXP header with its CRC field taken as zero (R305). -/
def hxpHeader (d : Dgram) : Bytes :=
  le d.ver 1 ++ le d.typ 1 ++ le d.flags 1 ++ le 0 1 ++ le d.session 2 ++ le d.length 2 ++ le d.xid 4 ++
    le d.frag 2 ++ le d.frags 2 ++ le d.round 8 ++ le d.status 4 ++ le 0 4

/-- The CRC of a datagram (R305). -/
def hxpCrc (d : Dgram) : Nat := crc32c (hxpHeader d ++ d.payload ++ d.trailer)

/-- Fills LENGTH and CRC. -/
def sealDgram (d : Dgram) : Dgram :=
  let d := { d with length := d.payload.length }
  { d with crc := hxpCrc d }

/-- HXP_PORT of the pattern in force; 46 912 without one (R304, R379). -/
def hxpPort (s : State) : Nat := (pat s).peers.port

/-- A peer's record by index (R304). -/
def peerRec (s : State) (i : Nat) : Option PeerRec := (pat s).peers.peers.find? (fun p => p.index == i)

/-- A peer holds right `n` (R304). -/
def hasRight (p : PeerRec) (n : Nat) : Bool := bitOf p.rights n

/-- The message types of R307. -/
def knownTyp (t : Nat) : Bool := [0x01, 0x02, 0x03, 0x04, 0x10, 0x11, 0x12, 0x13, 0x14, 0x15, 0x20, 0x21, 0x22, 0x23, 0x24, 0x30, 0x31].contains t

/-- PCP of a tagged frame by message type (R301): 6 for delivery class 0, 1 for bulk data, 5 for the reliable messages and their answers. -/
def pcpOf (typ : Nat) : Nat := if typ = 0x13 then 1 else if typ ≤ 4 then 6 else 5

/-- The 802.1Q tag of a frame that the module sends: none where the pattern's VID is 0 (R301, R304). -/
def vlanOf (s : State) (typ : Nat) : Option (Nat × Nat) := if (pat s).peers.vid = 0 then none else some ((pat s).peers.vid, pcpOf typ)

/-- A frame that the port takes (R301): untagged, or with the pattern's VID; no fragment and no extension header. -/
def frameOk (s : State) (d : Dgram) : Bool :=
  !d.ext && (match d.vlan with
    | none => true
    | some (v, _) => v != 0 && v == (pat s).peers.vid)

/-- A message of the module to an address (R305). -/
def mkMsg (s : State) (dst typ flags xid : Nat) (payload : Bytes) (frag frags : Nat) : Dgram :=
  sealDgram { vlan := vlanOf s typ, src := (pat s).peers.unicast, dst := dst, port := hxpPort s, sport := hxpPort s, typ := typ, flags := flags,
              session := s.hl.session, xid := xid, frag := frag, frags := frags, round := s.round, payload := payload }

/-- Hands a datagram to the port. -/
def sendDgram (d : Dgram) (s : State) : State := { s with outbox := s.outbox ++ [d] }

/-- Sends a class 0 message (R308). -/
def sendMsg (dst typ xid : Nat) (payload : Bytes) (s : State) : State :=
  sendDgram (mkMsg s dst typ 0 xid payload 0 1) s

/-- Sends a class 0 message in several fragments. -/
def sendFrags (dst typ xid : Nat) (parts : List Bytes) (s : State) : State :=
  each ((List.range parts.length).zip parts) (fun (p : Nat × Bytes) s => sendDgram (mkMsg s dst typ 0 xid p.2 p.1 parts.length) s) s

/-- A response to `d`: its TYPE and XID with RESP set, to its source (R305). -/
def mkResp (s : State) (d : Dgram) (status detail : Nat) (payload : Bytes) (flags frag frags : Nat) : Dgram :=
  sealDgram { vlan := vlanOf s d.typ, src := (pat s).peers.unicast, dst := d.src, port := d.sport, sport := hxpPort s, typ := d.typ, flags := 1 + flags,
              session := s.hl.session, xid := d.xid, frag := frag, frags := frags, round := s.round,
              status := status % 256 + detail % 2 ^ 24 * 256, payload := payload }

/-- ASCII strings of R324 and R330. -/
def strHXP1 : Bytes := [0x48#8, 0x58#8, 0x50#8, 0x31#8]
def strHXR1 : Bytes := [0x48#8, 0x58#8, 0x52#8, 0x31#8]
def strHXW1 : Bytes := [0x48#8, 0x58#8, 0x57#8, 0x31#8]

/-- The tag of a message under key `k`, customisation `c`; `body` is the payload up to the trailer (R324). -/
def tagOf (k : Bytes) (d : Dgram) (body counter c : Bytes) : Bytes := kmac256 k (hxpHeader d ++ body ++ counter) 128 c

/-- The payload before the trailer of a tagged message (R306). -/
def tagBody (d : Dgram) : Bytes := d.payload.take (d.payload.length - 24)

/-- The 8 COUNTER bytes of a tagged message. -/
def tagCounter (d : Dgram) : Bytes := slice d.payload (d.payload.length - 24) 8

/-- The TAG bytes of a tagged message. -/
def tagBytes (d : Dgram) : Bytes := slice d.payload (d.payload.length - 16) 16

/-- A tagged message other than CRITICAL, its trailer set apart from its payload (R306). -/
def untag (d : Dgram) : Dgram :=
  if bitOf d.flags 2 && d.typ != 0x30 && d.trailer.isEmpty && 24 ≤ d.payload.length then
    { d with payload := tagBody d, trailer := d.payload.drop (d.payload.length - 24) }
  else d

/-- A response with its trailer: the COUNTER `ctr` and the tag under key `k` (R306, R324). -/
def retag (k ctr : Bytes) (r : Dgram) : Dgram :=
  let r := { r with flags := r.flags + 4, length := r.payload.length + 24 }
  sealDgram { r with payload := r.payload ++ ctr ++ tagOf k r r.payload ctr strHXR1 }

/-- A tagged response carrying the request's COUNTER (R324). -/
def mkTaggedResp (s : State) (k : Bytes) (d : Dgram) (status detail : Nat) (payload : Bytes) : Dgram :=
  retag k (tagCounter d) (mkResp s d status detail payload 0 0 1)

/-- The module awaits a pattern (R379). -/
def awaiting (s : State) : Bool := s.pf.st == 0

/-- The key reference record of kind 1 that a peer names (R304); key reference 0 while the module awaits a pattern (R379). -/
def peerKey (s : State) (p : PeerRec) : Option Nat :=
  if awaiting s then some 0
  else if (pat s).peers.keys.any (fun k => k.ref == p.keyRef && k.kind == 1) then some p.keyRef else none

/-- The key of a key reference. -/
def keyOf (s : State) (r : Nat) : Bytes := tgetD s.ks.keys r []

/-- The key of a peer index. -/
def keyOfPeer (s : State) (i : Nat) : Bytes :=
  if awaiting s then keyOf s 0
  else match (peerRec s i).bind (peerKey s) with
    | some r => keyOf s r
    | none => []

/-- A response tagged with COUNTER `ctr` under the peer's key; untagged where the request had none, or the peer no key (R324). -/
def tagResp (s : State) (peer : Nat) (ctr : Bytes) (r : Dgram) : Dgram :=
  if ctr.isEmpty || (keyOfPeer s peer).isEmpty then r else retag (keyOfPeer s peer) ctr r

/-- The COUNTER of a tagged request, CRITICAL or other; empty where it has none. -/
def reqCounter (d : Dgram) : Bytes :=
  if !d.trailer.isEmpty then d.trailer.take 8
  else if d.typ = 0x30 && bitOf d.flags 2 && 24 ≤ d.payload.length then tagCounter d else []

/-- The cache entry of a request becomes completed with its responses (R309). -/
def markDone (peer : Nat) (d : Dgram) (rs : List Dgram) (s : State) : State :=
  { s with hl.seen := tmod s.hl.seen peer [] (fun l => l.map (fun e =>
      if e.session == d.session && e.xid == d.xid then { e with resp := rs, done := true, at_ := s.clock } else e)) }

/-- Sends the responses of a request and remembers them (R309). -/
def answerWith (peer : Nat) (d : Dgram) (rs : List Dgram) (s : State) : State :=
  let rs := rs.map (tagResp s peer (d.trailer.take 8))
  markDone peer d rs { s with outbox := s.outbox ++ rs }

/-- Answers a request with a status, a detail and a payload. -/
def answer (peer : Nat) (d : Dgram) (status detail : Nat) (payload : Bytes) (s : State) : State :=
  answerWith peer d [mkResp s d status detail payload 0 0 1] s

/-- Acknowledges a long operation (R309): TYPE ACK with the request's XID. -/
def sendAck (d : Dgram) (s : State) : State :=
  sendDgram (sealDgram {
    vlan := vlanOf s 0x24, src := (pat s).peers.unicast, dst := d.src, port := d.sport, sport := hxpPort s, typ := 0x24,
    session := s.hl.session, xid := d.xid, round := s.round }) s

/-- Sends a class 1 message of the module and waits for its answer (R309). -/
def request (peer typ : Nat) (payload : Bytes) (seqEnd : Nat) (s : State) : State :=
  match peerRec s peer with
  | none => s
  | some p =>
    let d := mkMsg s p.addr typ 2 s.hl.nextXid payload 0 1
    { (sendDgram d s) with
      hl.nextXid := (s.hl.nextXid + 1) % 2 ^ 32
      hl.reqs := s.hl.reqs ++ [{ peer := peer, d := d, sends := 1, sentAt := s.clock, seqEnd := seqEnd }] }

end Sys2Proof.Machine
end

