-- ==== Sys2Proof/Machine/StitchOps.lean ====
section
/-! DEFINITION. Stitch-counter operations, waiters, watches and dropping (chapter 11), and the SC messages of host peers (R323). -/

namespace Sys2Proof.Machine

/-- Owner code of a party as SC_OWN holds it: class in [19:16], index in [15:0] (R334). -/
def partyCode : Party → Nat
  | .tile i => 0x10000 + i
  | .engine i => 0x20000 + i
  | .supervisor => 0x30000
  | .peer i => 0x40000 + i

/-- A counter's record. -/
def ctr (s : State) (c : Nat) : ScCtr := tgetD s.sc.ctrs c {}

/-- Replaces a counter's record. -/
def setCtr (c : Nat) (x : ScCtr) (s : State) : State := { s with sc.ctrs := tset s.sc.ctrs c x }

/-- Data-bound operations waiting (R341). -/
def dataBound (s : State) : List WaitSig := s.hl.waits.filter (fun w => w.sc.isSome)

/-- Waiter slots in use (R345). -/
def slotsUsed (s : State) : Nat :=
  (s.sc.ctrs.foldl (fun n e => n + e.2.queue.length) 0) + (dataBound s).length

/-- Number of counters that are LIVE. -/
def liveCount (s : State) : Nat := (s.sc.ctrs.filter (fun e => e.2.st == 1)).length

/-- The end of an episode of R345: a slot is free again. -/
def fullEnds (c : Nat) (p : Party) (s : State) : State :=
  if s.sc.full && slotsUsed s < 512 then
    emit 0x0605 (src 7 0) (aw c ++ aw (partyCode p)) { s with sc.full := false } true
  else s

/-- An operation finds no free slot (R345). -/
def noSlot (c : Nat) (p : Party) (s : State) : State :=
  if s.sc.full then s else emit 0x0605 (src 7 0) (aw c ++ aw (partyCode p)) { s with sc.full := true }

/-- Delivers a result to its caller: the status word of a local party, or the record of an SC message, which then goes on (R335, R337). -/
def deliver (op : Nat) (k : ScCall) (st det v : Nat) (s : State) : State :=
  match k.party with
  | .peer p =>
    { s with sc.msgs := s.sc.msgs.map (fun m =>
        if m.peer == p && m.session == k.session && m.xid == k.xid then
          { m with results := m.results ++ [(op, k, st, det, v)], blocked := false }
        else m) }
  | q => { s with sc.localRes := (s.sc.localRes.filter (fun e => e.1 != q)) ++ [(q, st, det, v)] }

/-- Time in µs for which a waiting tile has spun since SPIN was last read (R347). -/
def spunUs (s : State) (w : ScWaiter) : Nat := if (match w.call.party with | .tile _ => true | _ => false) then (s.clock - max w.since s.sc.spinFrom) / 1000 else 0

/-- SC_CNT_SPIN (R347): the waits that have ended, and the time of those that go on. -/
def spinNow (s : State) : Nat := min 0xFFFFFFFF (s.sc.ctrs.foldl (fun n e => e.2.queue.foldl (fun n w => n + spunUs s w) n) s.sc.spin)

/-- Adds the time a tile spun in a TAKE to SPIN, in µs (R337, R347). -/
def addSpin (w : ScWaiter) (s : State) : State := { s with sc.spin := satAdd 0xFFFFFFFF s.sc.spin (spunUs s w) }

/-- Splits a queue into the waiters that `v` satisfies in order, the value left and the waiters that stay (R336). -/
def serveQueue : Nat → List ScWaiter → List (ScWaiter × Nat) × Nat × List ScWaiter
  | v, [] => ([], v, [])
  | v, w :: t =>
    if w.call.n ≤ v then
      let (d, v', q) := serveQueue (v - w.call.n) t
      ((w, v - w.call.n) :: d, v', q)
    else ([], v, w :: t)

/-- Serves the waiters of a counter (R336). -/
def serveWaiters (c : Nat) (s : State) : State :=
  let x := ctr s c
  let (d, v, q) := serveQueue x.val x.queue
  let s := setCtr c { x with val := v, queue := q } s
  each d (fun (w : ScWaiter × Nat) s => fullEnds c w.1.call.party (addSpin w.1 (deliver 2 w.1.call stOk 0 w.2 s))) s

/-- Sends the pending SC_NOTIFY entries of a peer, at most 557 in one message (R344). -/
def flushNotify (p : Nat) (s : State) : State :=
  match tgetD s.sc.ntfPend p [] with
  | [] => s
  | es => request p 0x21 (es.take 557).flatten 0 { s with sc.ntfPend := tset s.sc.ntfPend p (es.drop 557) }

/-- A SC_NOTIFY to the peer is still unanswered. -/
def ntfOpen (p : Nat) (s : State) : Bool := s.hl.reqs.any (fun r => r.peer == p && r.d.typ == 0x21)

/-- Raises the notification of watch `w` (R343, R344): `v0` is v after the POST or SET. -/
def notifyWatch (w : Nat) (x : ScWatch) (v0 used : Nat) (s : State) : State :=
  let e := le x.counter 2 ++ le w 1 ++ le (if used = 0 then 0 else 1) 1 ++ le v0 4 ++ le used 4 ++ le 0 4
  let x' := { x with ntf := satAdd 0xFFFFFFFF x.ntf 1, enable := x.rep }
  let s := { s with sc.watches := tset s.sc.watches w x', sc.ntfPend := tmod s.sc.ntfPend x.peer [] (· ++ [e]) }
  if ntfOpen x.peer s then s else flushNotify x.peer s

/-- One watch acts after a POST or SET that took v from `vOld` to `v0` (R343). -/
def actWatch (vOld v0 w : Nat) (s : State) : State :=
  let x := tgetD s.sc.watches w {}
  let c := ctr s x.counter
  let may := match peerRec s x.peer with
    | some p => hasRight p 4
    | none => false
  if !(x.enable && may && c.st == 1) then s
  else if x.consume then
    if c.queue.isEmpty && x.thr ≤ c.val then
      notifyWatch w x v0 x.thr (setCtr x.counter { c with val := c.val - x.thr } s)
    else s
  else if vOld < x.thr && x.thr ≤ v0 then notifyWatch w x v0 0 s
  else s

/-- Serves the watches of a counter in ascending number (R343). -/
def serveWatches (c vOld v0 : Nat) (s : State) : State :=
  each ((s.sc.watches.filter (fun e => e.2.counter == c)).map (·.1)) (actWatch vOld v0) s

/-- Waiters, then watches, after a POST or SET (R336). -/
def serveAll (c vOld v0 : Nat) (s : State) : State := serveWatches c vOld v0 (serveWaiters c s)

/-- Disables every watch on a counter. -/
def disableWatches (c : Nat) (s : State) : State :=
  { s with sc.watches := s.sc.watches.map (fun e => if e.2.counter == c then (e.1, { e.2 with enable := false }) else e) }

/-- Releases every waiter of a counter with DROPPED, in queue order (R338, R340). -/
def releaseWaiters (c : Nat) (s : State) : State :=
  let x := ctr s c
  each x.queue (fun (w : ScWaiter) s => fullEnds c w.call.party (addSpin w (deliver 2 w.call stDropped 0 0 s))) (setCtr c { x with queue := [] } s)

/-- Drops a LIVE counter in one step (R340). -/
def dropCtr (cause c : Nat) (s : State) : State :=
  let x := ctr s c
  if x.st = 1 then
    let s := setCtr c { x with st := 2, cause := cause } s
    emit 0x0602 (src 7 0) (aw c ++ aw (partyCode x.owner) ++ aw cause ++ aw x.queue.length) (disableWatches c (releaseWaiters c s))
  else s

/-- Drops every LIVE counter whose record meets a test. -/
def dropWhere (cause : Nat) (f : ScCtr → Bool) (s : State) : State :=
  each ((s.sc.ctrs.filter (fun e => e.2.st == 1 && f e.2)).map (·.1)) (dropCtr cause) s

/-- Drops the counters of an owner (R339). -/
def dropOwner (cause : Nat) (p : Party) (s : State) : State := dropWhere cause (fun x => x.owner == p) s

/-- Drops the counters of every owner that meets a test (R339). -/
def dropOwners (cause : Nat) (f : Party → Bool) (s : State) : State := dropWhere cause (fun x => f x.owner) s

/-- An owner code is a tile's. -/
def isTile : Party → Bool
  | .tile _ => true
  | _ => false

/-- A party is a host peer. -/
def isPeer : Party → Bool
  | .peer _ => true
  | _ => false

/-- A party is a loop engine. -/
def isEngine : Party → Bool
  | .engine _ => true
  | _ => false

/-- The instant at which a TAKE that begins to wait now reaches its limit (R337): a host's and the supervisor's run from acceptance; a tile's is the residual guard milestone of the round for forecast work, and the end of the slice's window (R98) for adaptation. -/
def takeLimit (k : ScCall) (s : State) : Nat :=
  match k.party with
  | .peer _ => s.clock + 1000000000
  | .supervisor => s.clock + k.limitUs * 1000
  | .tile _ =>
    if k.forecast then s.t0At + periodNs s * 90 / 100
    else if s.clock < s.t0At + periodNs s / 2 then s.t0At + periodNs s / 2
    else s.t0At + periodNs s
  | .engine _ => s.clock

/-- Adds a caller to a counter's queue, or answers BUSY (R336, R345). -/
def enqueue (c : Nat) (k : ScCall) (s : State) : Option (Nat × Nat × Nat) × State :=
  if 512 ≤ slotsUsed s then (some (stBusy, 0, 0), noSlot c k.party s)
  else
    let x := ctr s c
    (none, setCtr c { x with queue := x.queue ++ [{ call := k, since := s.clock, ends := takeLimit k s }] } s)

/-- Bytes of a transfer's first `len` that are not committed (R319, R321). -/
def missingIn : List (Nat × Nat) → Nat → Nat → Nat
  | [], a, len => len - a
  | (b, e) :: t, a, len =>
    if len ≤ a then 0 else if len ≤ b then len - a else (b - a) + missingIn t (max a e) len

/-- A peer's transfer. -/
def findXfer (s : State) (peer id : Nat) : Option XferSt := (tgetD s.hl.xfers peer []).find? (fun x => x.id == id)

/-- Missing bytes of a transfer of `len` bytes; all of them where the transfer is unknown. -/
def xferMissing (s : State) (peer id len : Nat) : Nat :=
  match findXfer s peer id with
  | some x => missingIn x.ranges 0 len
  | none => len

/-- Forgets a transfer (R319). -/
def forgetXfer (peer id : Nat) (s : State) : State :=
  { s with hl.xfers := tmod s.hl.xfers peer [] (fun l => l.filter (fun x => x.id != id)) }

/-- Operation codes of R323. -/
def opPost : Nat := 1
def opTake : Nat := 2
def opTry : Nat := 3
def opDec : Nat := 4
def opRead : Nat := 5
def opSet : Nat := 6

/-- SET (R335, R338): creates, sets by the owner, or releases with flag bit 1. -/
def scSet (k : ScCall) (s : State) : Option (Nat × Nat × Nat) × State :=
  let c := k.counter
  let x := ctr s c
  if bitOf k.flags 1 then
    if x.st = 1 && x.owner == k.party then
      let s := disableWatches c (releaseWaiters c s)
      (some (stOk, 0, 0), setCtr c { cause := x.cause } s)
    else (some (stNotPermitted, 0, 0), s)
  else if x.st = 1 then
    if x.owner == k.party then (some (stOk, 0, k.n), serveAll c x.val k.n (setCtr c { x with val := k.n } s))
    else (some (stNotPermitted, 0, 0), s)
  else
    let y : ScCtr := { st := 1, val := k.n, owner := k.party, owned := true, adapt := isTile k.party && !k.forecast, cause := x.cause }
    (some (stOk, 0, k.n), serveAll c 0 k.n (setCtr c y s))

/-- The operation on the counter, its checks passed (R335). -/
def scRun (op : Nat) (k : ScCall) (s : State) : Option (Nat × Nat × Nat) × State :=
  let c := k.counter
  let x := ctr s c
  if s.sc.quar then (some (stDropped, 0, 0), s)
  else if op = opSet then scSet k s
  else if x.st = 0 then (some (stDenied, 0, 0), s)
  else if x.st = 2 then (some (stDropped, 0, 0), s)
  else if op = opPost then
    if x.val + k.n ≤ 0xFFFFFFFF then
      (some (stOk, 0, x.val + k.n), serveAll c x.val (x.val + k.n) (setCtr c { x with val := x.val + k.n } s))
    else (some (stRefused, 1, 0), emit 0x0603 (src 7 0) (aw c ++ aw k.n ++ aw x.val ++ aw (partyCode k.party)) s)
  else if op = opTake then
    if x.queue.isEmpty && k.n ≤ x.val then (some (stOk, 0, x.val - k.n), setCtr c { x with val := x.val - k.n } s)
    else enqueue c k s
  else if op = opTry then
    if x.queue.isEmpty && k.n ≤ x.val then (some (stOk, 0, x.val - k.n), setCtr c { x with val := x.val - k.n } s)
    else (some (stWouldBlock, 0, x.val), s)
  else if op = opDec then
    if k.n ≤ x.val then (some (stOk, 0, x.val - k.n), setCtr c { x with val := x.val - k.n } s)
    else (some (stUnderflow, 0, x.val), emit 0x0601 (src 7 0) (aw c ++ aw k.n ++ aw x.val ++ aw (partyCode k.party)) s)
  else (some (stOk, 0, x.val), s)

/-- A TAKE that would wait finds no slot: it is answered with BUSY and not executed (R345). -/
def scNoSlot (op : Nat) (k : ScCall) (s : State) : Bool :=
  let x := ctr s k.counter
  op == opTake && !s.sc.quar && x.st == 1 && !(x.queue.isEmpty && k.n ≤ x.val) && decide (512 ≤ slotsUsed s)

/-- The operation on the counter, counted where it is executed (R345, R347). -/
def scApply (op : Nat) (k : ScCall) (s : State) : Option (Nat × Nat × Nat) × State :=
  scRun op k (if scNoSlot op k s then s else { s with sc.ops := satAdd 0xFFFFFFFF s.sc.ops 1 })

/-- The record of an operation is malformed (R334, R335, R338, R341). -/
def scMalformed (op : Nat) (k : ScCall) : Bool :=
  (op == opTake && isEngine k.party) ||
  (bitOf k.flags 1 && op != opSet) ||
  (bitOf k.flags 0 && !((op == opPost || op == opSet) && isPeer k.party)) ||
  (k.n == 0 && (op == opPost || op == opTake || op == opTry || op == opDec)) ||
  4096 ≤ k.counter

/-- One operation with its checks: none where it waits (R335, R341). -/
def scOp (op : Nat) (k : ScCall) (s : State) : Option (Nat × Nat × Nat) × State :=
  if scMalformed op k then (some (stMalformed, 0, 0), s)
  else if s.sc.quar then scApply op k s
  else
    match k.party with
    | .peer p =>
      if bitOf k.flags 0 && (match findXfer s p k.xfer with | some x => x.denied | none => false) then
        (some (stDenied, 0, 0), { s with hl.xfers := tmod s.hl.xfers p [] (fun l => l.map (fun y => if y.id == k.xfer then { y with denied := false } else y)) })
      else if bitOf k.flags 0 && xferMissing s p k.xfer k.len != 0 then
        if 512 ≤ slotsUsed s then (some (stBusy, 0, 0), noSlot k.counter k.party s)
        else (none, { s with hl.waits := s.hl.waits ++ [{ peer := p, xfer := k.xfer, len := k.len, round := s.round, sc := some k, op := op }] })
      else if bitOf k.flags 0 then
        let (r, s) := scApply op k s
        (r, whenS (r.any (fun x => x.1 == stOk)) (forgetXfer p k.xfer) s)
      else scApply op k s
    | _ => scApply op k s

/-- Runs one record of an SC message in place. -/
def runRecord (op : Nat) (k : ScCall) (s : State) : State :=
  match scOp op k s with
  | (some (st, det, v), s) => deliver op k st det v s
  | (none, s) =>
    match k.party with
    | .peer p =>
      { s with sc.msgs := s.sc.msgs.map (fun m =>
          if m.peer == p && m.session == k.session && m.xid == k.xid then { m with blocked := true } else m) }
    | _ => s

/-- Runs the records that wait behind one that has completed; each round of the loop takes one record. -/
def runMsgs : Nat → State → State
  | 0, s => s
  | n + 1, s =>
    match s.sc.msgs.find? (fun m => !m.blocked && !m.todo.isEmpty) with
    | none => s
    | some m =>
      match m.todo with
      | [] => s
      | (op, k) :: t =>
        let s := { s with sc.msgs := s.sc.msgs.map (fun q =>
          if q.peer == m.peer && q.session == m.session && q.xid == m.xid then { q with todo := t } else q) }
        runMsgs n (runRecord op k s)

/-- Records still to run, over all messages: the fuel of `runMsgs`. -/
def todoCount (s : State) : Nat := s.sc.msgs.foldl (fun n m => n + m.todo.length) 0

/-- One record of the response (R323): its value, or the status in [7:0] of the result field. -/
def scResult (e : Nat × ScCall × Nat × Nat × Nat) : Bytes :=
  let (op, k, st, det, v) := e
  le k.counter 2 ++ le op 1 ++ le (k.flags % 256) 1 ++ le k.n 4 ++ le k.xfer 4 ++
    le (if st = stOk then v else st + det % 2 ^ 24 * 256) 4

/-- Answers the SC messages whose every operation has completed (R323). -/
def answerMsgs (s : State) : State :=
  let fin := s.sc.msgs.filter (fun m => m.lastIn && !m.blocked && m.todo.isEmpty)
  let s := { s with sc.msgs := s.sc.msgs.filter (fun m => !(m.lastIn && !m.blocked && m.todo.isEmpty)) }
  each fin (fun (m : ScMsg) s =>
    match peerRec s m.peer with
    | none => s
    | some p =>
      let d : Dgram := { src := p.addr, sport := m.sport, typ := 0x20, session := m.session, xid := m.xid, trailer := m.ctr }
      answer m.peer d stOk 0 ((m.results.map scResult).flatten) s) s

/-- After anything that may have completed a record: run what waited and answer what is complete. -/
def settleMsgs (s : State) : State := answerMsgs (runMsgs (todoCount s) s)


/-- The stitch-counter block is quarantined (R24, R346): every LIVE counter is dropped with DROP_CAUSE 6. -/
def scQuarantine (s : State) : State :=
  if s.sc.quar then s
  else
    let n := liveCount s
    let w := s.sc.ctrs.foldl (fun n e => n + (if e.2.st = 1 then e.2.queue.length else 0)) 0
    let s := emit 0x0606 (src 7 0) (aw n ++ aw w) { s with sc.quar := true, dg.cntQuar := satAdd 0xFFFFFFFF s.dg.cntQuar 1 }
    settleMsgs (dropWhere 6 (fun _ => true) s)

end Sys2Proof.Machine
end

