-- ==== Sys2Proof/Machine/Hxp.lean ====
section
/-! DEFINITION. Receiving: acceptance of a datagram (R303, R305, R308), class 1 delivery (R309, R310), the keyed check and critical commands (R324 to R330), signals that wait on data (R321). -/

namespace Sys2Proof.Machine

/-- Counts a datagram discarded under R303, or for VER, LENGTH or TYPE. -/
def countReject (s : State) : State := { s with hl.dropRej := satAdd 0xFFFF s.hl.dropRej 1 }


/-- The commissioning peer of R379: bulk writes and critical commands under key reference 0. -/
def commissioningPeer (d : Dgram) : PeerRec := { index := 0, kind := 1, rights := 0x24, keyRef := 0, addr := d.src }

/-- An IPv6 link-local address, fe80::/10. -/
def linkLocal (a : Nat) : Bool := a / 2 ^ 118 == 0x3FA

/-- What a module that awaits a pattern answers to: ATTEST, BULK_WRITE, BULK_STATUS and the critical commands REKNIT, RESET and KEY_SET (R379). -/
def awaitAnswers (d : Dgram) : Bool :=
  d.typ == 0x31 || d.typ == 0x11 || d.typ == 0x15 || (d.typ == 0x30 && (fld d.payload 0 2 == 2 || fld d.payload 0 2 == 9 || fld d.payload 0 2 == 15))

/-- The peer an HXP datagram comes from, where R303 (or R379 without a pattern) accepts its addresses. -/
def senderOf (s : State) (d : Dgram) : Option PeerRec :=
  if awaiting s then
    if linkLocal d.dst && d.port == 46912 && awaitAnswers d then some (commissioningPeer d) else none
  else
    let h := (pat s).peers
    if (d.dst == h.unicast || d.dst == h.telGroup || d.dst == h.svGroup) && d.port == h.port then h.peers.find? (fun p => p.addr == d.src)
    else none

/-- A datagram whose SESSION is new flushes the peer's cache and drops the counters it owns (R309, R339). -/
def noteSession (peer session : Nat) (s : State) : State :=
  match tget s.hl.sessions peer with
  | none => { s with hl.sessions := tset s.hl.sessions peer session }
  | some x =>
    if x = session then s
    else settleMsgs (dropOwner 5 (.peer peer) { s with hl.sessions := tset s.hl.sessions peer session, hl.seen := tset s.hl.seen peer [] })

/-- HXP is silent: the protocol engine restarts, for up to 200 ms (R394). -/
def engineSilent (s : State) : Bool := let x := tgetD s.pf.parts 3 {}; x.st == 2 && decide (s.clock < x.restartAt + 200000000)

/-- The TAG of a tagged message other than CRITICAL, its trailer set apart, verifies (R324). -/
def tagGood (s : State) (p : PeerRec) (d : Dgram) : Bool :=
  d.trailer.isEmpty || (!(keyOfPeer s p.index).isEmpty && tagOf (keyOfPeer s p.index) d d.payload (d.trailer.take 8) strHXP1 == d.trailer.drop 8)

/-- A tagged message other than CRITICAL whose TAG fails is not executed: TAG_FAIL, and BAD_TAG, untagged, to a class 1 request (R324, R325). -/
def tagBad (p : PeerRec) (d : Dgram) (s : State) : State :=
  let s := emit 0x0705 (src 8 1) (aw p.index ++ aw 0 ++ aq (unLe (d.trailer.take 8))) { s with ks.tagFail := tmod s.ks.tagFail p.index 0 (satAdd 0xFFFF · 1) }
  if d.typ < 0x10 || d.typ = 0x11 || d.typ = 0x24 then s else sendDgram (mkResp s d stBadTag 0 [] 0 0 1) s

/-- Acceptance of a datagram of TYPE `typ` (R303, R305): the peer it comes from, or none where it is discarded and counted. -/
def accept (typ : Nat) (d : Dgram) (s : State) : Option PeerRec × State :=
  if engineSilent s || !frameOk s d then (none, s)
  else
    match senderOf s d with
    | none => (none, emit 0x0704 (src 8 0) (aq (d.src % 2 ^ 64) ++ aw d.typ) (countReject s))
    | some p =>
      if d.crc != hxpCrc d then (none, { s with hl.dropCrc := satAdd 0xFFFF s.hl.dropCrc 1 })
      else if d.ver != 1 || d.length != d.payload.length + d.trailer.length || 8920 < d.length || d.typ != typ || !knownTyp d.typ ||
          (bitOf d.flags 2 && d.typ != 0x30 && d.trailer.length != 24) then (none, countReject s)
      else if !tagGood s p d then (none, tagBad p d s)
      else (some p, noteSession p.index d.session s)

/-- Requests in progress, over all peers (R310). -/
def outstanding (s : State) : Nat := s.hl.seen.foldl (fun n e => n + (e.2.filter (fun x => !x.done)).length) 0

/-- The cached pairs a peer still has: at most 256, of the last 100 ms; one in progress stays (R309). -/
def freshSeen (now : Nat) (l : List SeenReq) : List SeenReq :=
  let l := l.filter (fun e => !e.done || now < e.at_ + 100000000)
  l.drop (l.length - 256)

/-- Admits a class 1 request (R309, R310): a duplicate is answered from the cache or ignored, the 65th request gets BUSY; true where it is to be executed. -/
def takeIn (p : Nat) (d : Dgram) (s : State) : Bool × State :=
  let l := freshSeen s.clock (tgetD s.hl.seen p [])
  let s := { s with hl.seen := tset s.hl.seen p l }
  match l.find? (fun e => e.session == d.session && e.xid == d.xid) with
  | some e => (false, if e.done then { s with outbox := s.outbox ++ e.resp } else s)
  | none =>
    if 64 ≤ outstanding s then (false, sendDgram (tagResp s p (reqCounter d) (mkResp s d stBusy 0 [] 0 0 1)) s)
    else (true, { s with hl.seen := tset s.hl.seen p (l ++ [{ session := d.session, xid := d.xid, at_ := s.clock }]) })

/-- Commands that a module in SAFE still answers (R464), by TYPE; the others get ACCESS_DENIED. -/
def safeAnswers (typ : Nat) : Bool := typ == 0x10 || typ == 0x12 || typ == 0x31 || typ == 0x30

/-- A class 1 request of TYPE `typ` that needs right `right`: the peer to serve, or none with everything already answered. -/
def takeRequest (typ : Nat) (right : Option Nat) (d : Dgram) (s : State) : Option PeerRec × State :=
  match accept typ d s with
  | (none, s) => (none, s)
  | (some p, s) =>
    match takeIn p.index d s with
    | (false, s) => (none, s)
    | (true, s) =>
      if s.glb.role == .safe && !safeAnswers typ then (none, answer p.index d stDenied 0 [] s)
      else
        match right with
        | some r => if hasRight p r then (some p, s) else (none, answer p.index d stNotPermitted 0 [] s)
        | none => (some p, s)

/-- Runs a class 1 request's effect for its peer. -/
def withRequest (typ : Nat) (right : Option Nat) (d : Dgram) (s : State) (k : PeerRec → State → State) : State :=
  match takeRequest typ right d s with
  | (none, s) => s
  | (some p, s) => k p s

/-- What a critical command comes to: answered now with a status, a detail and a payload, or answered later. -/
inductive CmdRes where
  | now (status detail : Nat) (payload : Bytes)
  | later
  deriving DecidableEq, Repr

/-- The command is done. -/
def cmdOk : CmdRes := .now stOk 0 []

/-- The command is refused with a detail (R311). -/
def cmdRefused (detail : Nat) : CmdRes := .now stRefused detail []

/-- The counter record of a peer: its floor and mark. -/
def ctrSt (s : State) (p : Nat) : CtrSt := tgetD s.ks.ctrs p {}

/-- Sends the tagged response of a critical command and remembers it as the cached response (R325). -/
def tagAnswer (p : PeerRec) (key : Bytes) (d : Dgram) (status detail : Nat) (payload : Bytes) (s : State) : State :=
  let m := mkTaggedResp s key d status detail payload
  let k := ctrSt s p.index
  let s := { s with ks.ctrs := tset s.ks.ctrs p.index (if k.lastCmd == some d then { k with lastResp := [m] } else k) }
  answerWith p.index d [m] s

/-- Completes a critical command that was answered later (R309, R324). -/
def finishCmd (d : Dgram) (status detail : Nat) (payload : Bytes) (s : State) : State :=
  match senderOf s d with
  | none => s
  | some p =>
    match peerKey s p with
    | none => s
    | some r => tagAnswer p (keyOf s r) d status detail payload s

/-- CODE, command flags and arguments of a critical payload (R327). -/
def critCode (d : Dgram) : Nat := fld d.payload 0 2
def critFlags (d : Dgram) : Nat := fld d.payload 2 2
def critArgs (d : Dgram) : Bytes := (tagBody d).drop 16

/-- Layout of a critical payload (R327), check 1 of R325. -/
def critLayout (code : Nat) (d : Dgram) : Bool :=
  bitOf d.flags 2 && 40 ≤ d.payload.length && d.payload.length ≤ 40 + 256 && critCode d == code && zeroAt d.payload 4 4

/-- Writes CRITICAL_ACCEPTED or CRITICAL_REFUSED and answers where the command is done (R329). -/
def critClose (p : PeerRec) (key : Bytes) (code ctr : Nat) (d : Dgram) (res : CmdRes) (s : State) : State :=
  match res with
  | .later => emit 0x0707 (src 8 1) (aw p.index ++ aw code ++ aq ctr) s
  | .now st det pl =>
    let s := if st = stOk then emit 0x0707 (src 8 1) (aw p.index ++ aw code ++ aq ctr) s
      else emit 0x0708 (src 8 1) (aw p.index ++ aw code ++ aw st ++ aw det) s
    tagAnswer p key d st det pl s

/-- The commands that a module in SAFE refuses: all but RESET and FREEZE (R464). -/
def critDenied (s : State) (code : Nat) : Bool := s.glb.role == .safe && !(code == 9 || code == 7)

/-- Answers a CRITICAL message that is turned away before its TAG is checked, tagged where the sender has a key (R324). -/
def critTurnedAway (p : PeerRec) (d : Dgram) (status : Nat) (s : State) : State :=
  answerWith p.index d [tagResp s p.index (reqCounter d) (mkResp s d status 0 [] 0 0 1)] s

/-- An accepted command executes: arguments and flags are checked (R327, R329), the commands SAFE refuses are refused (R464), and the others run. -/
def critExec (code args flags : Nat) (d : Dgram) (p : PeerRec) (r : Nat) (s : State) (k : PeerRec → Nat → Bytes → State → CmdRes × State) : State :=
  let ctr := unLe (tagCounter d)
  let key := keyOf s r
  if (critArgs d).length != args || critFlags d / (flags + 1) != 0 then critClose p key code ctr d (.now stMalformed 0 []) s
  else if critDenied s code then critClose p key code ctr d (.now stDenied 0 []) s
  else critClose p key code ctr d (k p (critFlags d) (critArgs d) s).1 (k p (critFlags d) (critArgs d) s).2

/-- An accepted critical command has not executed yet: it waits on its data, or behind one that does (R321, R329). -/
def critWaits (w : WaitSig) : Bool := w.sc.isNone && w.d.typ == 0x30
def critBlocked (s : State) : Bool := s.hl.waits.any critWaits

/-- A CRITICAL message whose counter lies above the floor: the counter is spent, the mark kept (R326), an ACK sent; the command executes, or waits behind an accepted command that waits on its data (R329). -/
def critSpend (code args flags : Nat) (d : Dgram) (p : PeerRec) (r : Nat) (s : State) (k : PeerRec → Nat → Bytes → State → CmdRes × State) : State :=
  let ctr := unLe (tagCounter d)
  let x := ctrSt s p.index
  let x := { x with floor := ctr, mark := if x.mark ≤ ctr then ctr + 65536 else x.mark, lastCmd := some d, lastResp := [] }
  let s := sendAck d { s with ks.ctrs := tset s.ks.ctrs p.index x }
  if critBlocked s then { s with hl.waits := s.hl.waits ++ [{ peer := p.index, round := s.round, d := d, behind := true }] }
  else critExec code args flags d p r s k

/-- Checks 3 to 5 of R325 under the key reference `r`: TARGET, TAG, COUNTER. -/
def critKeyed (code args flags : Nat) (d : Dgram) (p : PeerRec) (r : Nat) (s : State) (k : PeerRec → Nat → Bytes → State → CmdRes × State) : State :=
  let ctr := unLe (tagCounter d)
  let key := keyOf s r
  if slice d.payload 8 8 != s.hw.target then critTurnedAway p d stWrongTarget s
  else if key.isEmpty || tagOf key d (tagBody d) (tagCounter d) strHXP1 != tagBytes d then
    answer p.index d stBadTag 0 [] (emit 0x0705 (src 8 1) (aw p.index ++ aw code ++ aq ctr)
      { s with ks.tagFail := tmod s.ks.tagFail p.index 0 (satAdd 0xFFFF · 1) })
  else if (ctrSt s p.index).floor < ctr then
    if (ctrSt s p.index).mark ≤ ctr && s.pwr.dip then critClose p key code ctr d (.now stBusy 0 []) s
    else critSpend code args flags d p r s k
  else if (ctrSt s p.index).floor = ctr && (ctrSt s p.index).lastCmd == some d then
    answerWith p.index d (ctrSt s p.index).lastResp s
  else
    critClose p key code ctr d (.now stReplay 0 (le (ctrSt s p.index).floor 8))
      (emit 0x0706 (src 8 1) (aw p.index ++ aq ctr ++ aq (ctrSt s p.index).floor)
        { s with ks.replay := tmod s.ks.replay p.index 0 (satAdd 0xFFFF · 1) })

/-- A CRITICAL message of `code` (R324 to R329): the checks of R325 in order, then the command `k` on its flags and arguments. `args` gives its argument length, `flags` the mask of the flags it defines. -/
def critical (code : Nat) (args flags : Nat) (d : Dgram) (s : State)
    (k : PeerRec → Nat → Bytes → State → CmdRes × State) : State :=
  match takeRequest 0x30 none d s with
  | (none, s) => s
  | (some p, s) =>
    if s.ks.quar then critTurnedAway p d stBusy s
    else if !critLayout code d then critTurnedAway p d stMalformed s
    else
      match (if hasRight p 5 then peerKey s p else none) with
      | none => critTurnedAway p d stNotPermitted s
      | some r => critKeyed code args flags d p r s k

/-- Answers a signal whose transfer had a fragment aimed at a forbidden target (R319): true once. -/
def xferDenied (p xfer : Nat) (s : State) : Bool × State :=
  match findXfer s p xfer with
  | some x =>
    if x.denied then
      (true, { s with hl.xfers := tmod s.hl.xfers p [] (fun l => l.map (fun y => if y.id == xfer then { y with denied := false } else y)) })
    else (false, s)
  | none => (false, s)

/-- A signal succeeds: it is answered OK, or has begun what is answered later (R319). -/
def cmdTook : CmdRes → Bool
  | .now st _ _ => st == stOk
  | .later => true

/-- A command that names a transfer waits for its data (R321): `k` runs where every byte is committed, and a success forgets the transfer (R319); else the command is queued. -/
def signalGate (p xfer len : Nat) (d : Dgram) (s : State) (k : State → CmdRes × State) : CmdRes × State :=
  match xferDenied p xfer s with
  | (true, s) => (.now stDenied 0 [], s)
  | (false, s) =>
    if xferMissing s p xfer len = 0 then ((k s).1, whenS (cmdTook (k s).1) (forgetXfer p xfer) (k s).2)
    else (.later, { s with hl.waits := s.hl.waits ++ [{ peer := p, xfer := xfer, len := len, round := s.round, d := d }] })

end Sys2Proof.Machine
end

