-- ==== Sys2Proof/Machine/RoleOps.lean ====
section
/-! DEFINITION. Roles and what a role change does (R235, R236), planned handovers (R250), the claim line, chain words (R239), SAFE (R464), the mirror messages of the driving module (R254, R317). -/

namespace Sys2Proof.Machine

/-- Source units of R352: the chip with its role logic, and the cast-on core. -/
def srcChip : Nat := src 0 0
def srcCore : Nat := src 12 0

/-- A module that drives nothing any more: outputs released, DRIVE identifiers stopped, time mastership given up (R235, R244, R248, R280). The output latches keep their values. -/
def releaseOutputs (s : State) : State :=
  let s := each allBuses flushDrive s
  { s with
    red.driving := false
    red.timeMaster := false
    red.watch := false
    lp.next := []
    lp.maps := tmap s.lp.maps (fun m => { m with valid := false, lowSince := none, lowDone := false, fSince := none, fDone := false })
    lp.chans := tmap s.lp.chans (fun x => { x with init := false }) }

/-- Moves to a role and writes ROLE_CHANGED (R236, R261). The cause of a move to HELD is its HELD_CAUSE; the spec gives no code for the other moves. Any change of role ends the identifier quarantines (R280). -/
def setRole (new : Role) (held : Nat) (s : State) : State :=
  if s.glb.role == new then s
  else
    let old := s.glb.role
    let (w, s) := if new == .held then (BitVec.ofNat 32 held, s) else freshWord s
    let s := { s with glb.role := new, glb.heldCause := if new == .held then held else 0 }
    let s := each allBuses (fun k s => releaseIds k 2 s) s
    emit 0x0121 srcChip (aw (roleCode old) ++ aw (roleCode new) ++ [w] ++ aq s.round) s

/-- A driving module gives up its outputs and enters HELD. -/
def yieldRole (held : Nat) (s : State) : State := setRole .held held (releaseOutputs s)

/-! ### The partner (R235, R239, R241) -/

/-- ROLE of the partner's last valid word. -/
def partnerRole (s : State) : Nat := bits s.red.partnerWord.toNat 25 3

/-- A valid word has come since reset and the partner is not lost. -/
def partnerHeard (s : State) : Bool := (s.red.chainLast.isSome || s.red.fb0Last.isSome || s.red.fb8Last.isSome) && !s.red.lost

/-- The partner is qualified: its valid heartbeats report STANDBY (R235). -/
def partnerQualified (s : State) : Bool := partnerHeard s && partnerRole s == 2

/-- ACTIVE exactly with a qualified partner, ALONE otherwise (R235, R236). -/
def settleDriving (s : State) : State :=
  if s.glb.role == .alone && partnerQualified s then setRole .active 0 s
  else if s.glb.role == .active && !partnerQualified s then setRole .alone 0 s
  else s

/-- Number of forecast regions and of stacks fitted (R39, R58). -/
def regionCount (s : State) : Nat := if s.hw.variantH then 3 else 6

/-- FC_ARR_STATUS.READY: every region has passed its self-test and holds a base model (R71). -/
def arrReady (s : State) : Bool :=
  (List.range (regionCount s)).all (fun k => let x := tgetD s.fc.regions k {}; x.st == 2 && x.modelKb != 0)

/-- The mode this module reports: 1 HOT, 2 WARM, 0 without a pattern or a role (R237). -/
def modeNow (s : State) : Nat :=
  if s.glb.role == .none || s.glb.role == .safe then 0
  else if (pat s).red.hot && arrReady s && (s.fc.mdl.st == 4 || s.fc.mdl.st == 5) &&
      (match s.fc.mdl.active with | some m => m.digest == s.mir.modelDigest | none => false) then 1
  else 2

/-- The chain word for the present tick (R239), with SEQ. Only an ACTIVE module sets HREQ (R250). -/
def chainWord (s : State) (seq : Nat) : Nat :=
  let w := 0xB0000000 + roleCode s.glb.role * 2 ^ 25 + b2n (slotB s) * 2 ^ 24 + b2n (modeNow s = 1) * 2 ^ 23 + b2n s.red.driving * 2 ^ 22 +
    b2n s.red.chainOk * 2 ^ 21 + b2n s.red.fbOk * 2 ^ 20 + seq % 16 * 2 ^ 16 + s.round % 256 * 256 +
    (match (if s.glb.role == .active then s.red.ho else none) with
     | some h => 128 + h.cause % 8 * 16
     | none => 0)
  w + crc4 w

/-- SYNC and CRC of a word pass, and its SLOT is the partner's (R241). -/
def wordOk (s : State) (w : Nat) : Bool := bits w 28 4 == 11 && crc4 w == w % 16 && bitOf w 24 != slotB s

/-! ### Planned handover (R250) -/

/-- HREQ is set for a handover, its 5 ms not yet begun (R250). -/
def startHandover (h : HandoverSt) (s : State) : State :=
  emit 0x0129 srcChip (aw h.cause) { s with red.ho := some { h with since := s.clock, firstWord := none } }

/-- The same request is under way or waits. -/
def handoverAsked (cause arg : Nat) (s : State) : Bool := (s.red.ho.toList ++ s.red.hoNext).any (fun h => h.cause == cause && h.arg == arg)

/-- An ACTIVE module requests a handover; one asked for while another is under way waits for its end (log 134). -/
def requestHandover (cause : Nat) (cmd : Option Dgram) (arg : Nat) (s : State) : State :=
  let h : HandoverSt := { cause := cause, cmd := cmd, arg := arg }
  if s.glb.role != .active then s
  else if s.red.ho.isNone then startHandover h s
  else if handoverAsked cause arg s then s
  else { s with red.hoNext := s.red.hoNext ++ [h] }

/-- The next request that waits is taken up, once the one before it has failed or is withdrawn (log 134). -/
def nextHandover (s : State) : State :=
  match s.red.ho, s.red.hoNext with
  | none, h :: t =>
    let s := { s with red.hoNext := t }
    if s.glb.role == .active then startHandover h s else { s with red.ho := some { h with since := s.clock } }
  | _, _ => s

/-- A request of a cause is withdrawn. -/
def cancelHandover (cause : Nat) (s : State) : State :=
  let s := { s with red.hoNext := s.red.hoNext.filter (fun h => h.cause != cause) }
  if s.red.ho.any (fun h => h.cause == cause) then nextHandover { s with red.ho := none } else s

/-! ### SAFE (R463, R464) -/

/-- Enters SAFE: the record programmed, the outputs cleared, the controllers RESTRICTED. `ho`: 0 no partner, 1 the partner drove, 2 no claim within 5 ms. -/
def enterSafe (ho : Nat) (s : State) : State :=
  let s := programStaging s
  let s := swAbortAll 6 (fun x => x.injects) s
  let s := restrictBuses (releaseOutputs s)
  let s := setRole .safe 0 { s with dg.safe := true, dg.pend := min 1 s.dg.pend, dg.handover := ho, red.ho := none, red.hoNext := s.red.hoNext.filter (fun h => h.cause != 7), link.claim := .idle, lp.st := 0 }
  emit 0x0906 srcChip (aw s.dg.cause ++ aw ho ++ aw s.dg.unit) s

/-- A chip-level fatal condition of R463: its record, DG_FATAL, then a handover or SAFE. One that arises while the SAFE entry of an earlier is under way leaves its record only. -/
def fatal (cause code unit : Nat) (args : List Word) (s : State) : State :=
  let s := emit code unit args s
  if s.glb.role == .safe || s.red.ho.any (fun h => h.cause == 6) then s
  else
    let s := { s with dg.cause := cause, dg.unit := unit }
    if s.glb.role == .active then startHandover { cause := 6 } { s with red.hoNext := s.red.ho.toList ++ s.red.hoNext } else enterSafe 0 s

/-! ### The mirror stream of a driving module (R254, R317) -/

/-- Address of the partner, the host peer that the redundancy section names. -/
def partnerAddr (s : State) : Option Nat := (peerRec s (pat s).red.partner).map (·.addr)

/-- Cuts a list into parts of at most `n` elements; a fuel of the list's length suffices. -/
def chunks {α : Type} (n : Nat) : Nat → List α → List (List α)
  | 0, _ => []
  | f + 1, l => if l.isEmpty then [] else l.take (max 1 n) :: chunks n f (l.drop (max 1 n))

/-- Parts of at most `n` elements, at least one part. -/
def parts {α : Type} (n : Nat) (l : List α) : List (List α) := if l.isEmpty then [[]] else chunks n l.length l

/-- Sends records of one mirror subtype, split only between records (R317). -/
def mirrorSend (sub size : Nat) (recs : List Bytes) (s : State) : State :=
  match partnerAddr s with
  | none => s
  | some a => if engineSilent s && sub != 4 then s else sendFrags a 0x04 (s.round % 2 ^ 32) ((parts ((8920 - 4) / max 1 size) recs).map (fun p => le sub 4 ++ p.flatten)) s

/-- A digest padded to 64 bytes. -/
def dig64 (d : Bytes) : Bytes := slice d 0 64

/-- Subtype 1, the round status. -/
def mirrorStatus (s : State) : State :=
  let md := match s.fc.mdl.active with
    | some m => m.digest
    | none => []
  mirrorSend 1 144 [le s.round 8 ++ le (chainWord s s.red.hbSeq) 4 ++ le 0 4 ++ dig64 (pat s).digest ++ dig64 md] s

/-- A channel's snapshot record (R137, R160, R183). -/
def snapBytes (s : State) (c : Nat) : Bytes :=
  let x := chSt s c
  le c 2 ++ le (x.law + 8 * b2n x.tripped + 16 * b2n x.approach) 1 ++ le 0 1 ++ le x.cnt 2 ++ le (twos 16 (x.spEff.getD 0)) 2 ++
    le (twos 40 x.acc) 5 ++ le 0 3 ++ le x.fe 4 ++ le (s.tick % 2 ^ 32) 4

/-- Subtypes 2 and 3: the loop snapshot and the estimator accumulators of an ACTIVE module (R137). -/
def mirrorSnaps (s : State) : State :=
  let s := mirrorSend 2 24 (((pat s).chans.filter (·.enable)).map (fun r => snapBytes s r.ch)) s
  mirrorSend 3 8 ((pat s).est.map (fun r => le r.slot 2 ++ le (twos 40 (estSt s r.slot).sacc) 5 ++ le 0 1)) s

/-- One override record (R317, subtype 5). -/
def ovrBytes (addr value : Nat) (inForce : Bool) : Bytes := le addr 8 ++ le value 4 ++ le (b2n inForce) 4

/-- Subtype 5 in full: every override in force with its value (R254). -/
def mirrorOvr (s : State) : State := mirrorSend 5 16 (s.glb.ovr.map (fun (e : Nat × Word) => ovrBytes e.1 e.2.toNat true)) s

/-- The mirror traffic of a t0 (R137, R254), overrides in full every 1000 rounds. An ALONE module sends too (DEDUCED: R254; without its snapshots no partner could meet criterion 6 of R238). -/
def mirrorRound (s : State) : State :=
  if drives s then
    let s := mirrorSnaps (mirrorStatus s)
    if s.round % 1000 = 0 then mirrorOvr s else s
  else s

/-! ### Claims (R242 to R248) -/

/-- Class of a measured low pulse in µs (R242): 1 RELEASE, 2 CLAIM_B, 3 HOLD, 4 CLAIM_A. -/
def pulseClass (us : Nat) : Option Nat :=
  if 300 ≤ us && us ≤ 700 then some 1
  else if 800 ≤ us && us ≤ 1200 then some 2
  else if 1600 ≤ us && us ≤ 2400 then some 3
  else if 2600 ≤ us && us ≤ 3400 then some 4
  else none

/-- A claim has ended with a result (R243): CLAIM_ISSUED gives it. -/
def claimEnd (result : Nat) (s : State) : State :=
  emit 0x0124 srcChip (aw s.link.reason ++ aw result) { s with link.claim := .idle, link.result := result }

/-- The newcomer gives the takeover up (R248). -/
def abortTakeover (trigger object : Nat) (s : State) : State :=
  if s.red.watch then
    let t := (s.clock - s.red.firstDrive) / 10000
    let s := yieldRole 5 { s with link.aborted := true, link.relSince := none }
    emit 0x0127 srcChip (aw trigger ++ aw object ++ aw t) s
  else s

end Sys2Proof.Machine
end

