-- ==== Sys2Proof/Machine/SvOps.lean ====
section
/-! DEFINITION. The selvedge's operations (R196 to R217): conditions, the action matrix, masks and frames, advisory latches, the latched section. -/

namespace Sys2Proof.Machine

/-- Source unit of the selvedge (R352). -/
def srcSv : Nat := src 5 0

def cmpSt (s : State) (k : Nat) : CmpSt := tgetD s.sv.cmps k {}
def setCmp (k : Nat) (x : CmpSt) (s : State) : State := { s with sv.cmps := tset s.sv.cmps k x }
def cmpRec (s : State) (k : Nat) : CmpRec := nth s.sv.sec.cmps k {}
def ropeSt (s : State) (z : Nat) : RopeSt := tgetD s.sv.ropes z {}
def ropeRec (s : State) (z : Nat) : RopeRec := nth s.sv.sec.ropes z {}
def rowSt (s : State) (r : Nat) : RowSt := tgetD s.sv.rows r {}
def setRow (r : Nat) (x : RowSt) (s : State) : State := { s with sv.rows := tset s.sv.rows r x }
def rowRec (s : State) (r : Nat) : RowRec := nth s.sv.sec.rows r {}

/-- Writes a selvedge record; while the CTL region is down the transition goes to the log of the last 64 (R233). -/
def svEmit (code : Nat) (args : List Word) (s : State) (clear : Bool := false) : State :=
  if running s then emit code srcSv args s clear
  else
    let l := s.sv.svLog ++ [{ code := code, args := args, uptime := uptime s, clear := clear }]
    { s with sv.svLog := l.drop (l.length - 64) }

/-- Writes the logged transitions on recovery, as LATE records (R233, R351). -/
def svFlushLog (s : State) : State :=
  each s.sv.svLog (fun (e : SvLog) s => emitLate e.code srcSv e.args e.uptime s e.clear) { s with sv.svLog := [] }

/-- Sets an SV_ERR bit. -/
def svErrBit (b : Nat) (s : State) : State := setErr 0x3000008 b s

/-! ### Conditions (R198 to R207) -/

/-- A comparator counts as armed: only DP0 to DP7 are ever unarmed (R201). -/
def cmpArmed (s : State) (k : Nat) : Bool := !(6 ≤ k && k ≤ 13) || (cmpSt s k).armed

/-- A comparator is UNKNOWN (R203). -/
def cmpUnknown (s : State) (k : Nat) : Bool := (cmpRec s k).enable && ((cmpSt s k).unkOwn || (cmpSt s k).advUnk)

/-- A comparator is tripped, by its reading or by advisory TRIP (R201, R202). -/
def cmpTrip (s : State) (k : Nat) : Bool := (cmpRec s k).enable && cmpArmed s k && ((cmpSt s k).own || (cmpSt s k).advTrip)

/-- A row's condition (R207). -/
def rowCond (s : State) (r : Nat) : Bool :=
  if r = 0 then cmpTrip s 0 || cmpTrip s 1
  else if r = 1 then cmpTrip s 2
  else if r = 2 then cmpTrip s 3 || cmpTrip s 4
  else if r = 3 then cmpTrip s 5
  else if r = 4 then cmpTrip s 14 || cmpTrip s 15
  else if r = 5 then (List.range 16).any (cmpUnknown s)
  else if r = 6 then (List.range 16).any (fun z => (ropeRec s z).enable && (ropeSt s z).st == 3)
  else if r = 7 then (rowSt s 7).adv
  else if r < 16 then cmpTrip s (r - 2)
  else if r < 32 then (ropeRec s (r - 16)).enable && ((ropeSt s (r - 16)).st == 2 || (ropeSt s (r - 16)).st == 4)
  else (rowSt s r).adv

/-- The rows that a comparator feeds. -/
def rowsOfCmp (k : Nat) : List Nat :=
  if k ≤ 1 then [0] else if k = 2 then [1] else if k ≤ 4 then [2] else if k = 5 then [3] else if k ≤ 13 then [k + 2] else [4]

/-- D_ref in use (R200). -/
def drefNow (s : State) : F32 := if s.sv.drefAt.isSome then s.sv.dref else s.sv.sec.dStatic

/-- A percentage of a value in FP32. -/
def pct (n : Nat) (x : F32) : F32 := fmul (f32k n 100) x

/-- The FL threshold of R200. -/
def flThreshold (s : State) : F32 := fmax s.sv.sec.flMin (pct s.sv.sec.tripFrac (drefNow s))

/-- The recovered test of R200 on a flow in L/min. -/
def flRecovered (s : State) (flow : Nat) : Bool := fle (pct s.sv.sec.recoverFrac s.sv.dEntry) (fofNat flow)

/-- A row of the flow group, rows 1 and 8 to 15. -/
def flowRow (r : Nat) : Bool := r == 1 || (8 ≤ r && r ≤ 15)

/-- The recovery criterion of a row (R209). -/
def rowRecovered (s : State) (r flow : Nat) : Bool :=
  if flowRow r && (cmpRec s 2).enable && !cmpUnknown s 2 then flRecovered s flow else !rowCond s r

/-! ### Actions in force (R208 to R213) -/

/-- The latching actions of R208, bits 3 to 7. -/
def latching (a : Nat) : Nat := Nat.land a 0xF8

/-- Actions of a row in force (R209). -/
def rowForce (s : State) (r : Nat) : Nat :=
  let x := rowSt s r
  if x.st = 1 || x.st = 2 then
    Nat.lor (Nat.lor (rowRec s r).imm (if x.fired then (rowRec s r).delayed else 0)) x.latch
  else if x.st = 3 then x.latch
  else 0

/-- All racks. -/
def allRacks : Nat := 0xFFFFFFFF

/-- Racks that hold a plate of a manifold (R85). -/
def manifoldRacks (s : State) (m : Nat) : Nat :=
  (pat s).plates.foldl (fun a p => if p.manifold == m && p.rack < 32 then Nat.lor a (2 ^ p.rack) else a) 0

/-- Rack mask of a row, a mask of 0 being the default of R210. -/
def rowRacks (s : State) (r : Nat) : Nat :=
  let m := (rowRec s r).racks
  if m != 0 then m
  else if r ≤ 3 || (8 ≤ r && r ≤ 15) then allRacks
  else if 16 ≤ r && r < 32 then (ropeRec s (r - 16)).racks
  else if 32 ≤ r then manifoldRacks s (r - 32)
  else 0

/-- Valve mask of a row, likewise. -/
def rowValves (s : State) (r : Nat) : Nat :=
  let m := (rowRec s r).valves
  if m != 0 then m else if 16 ≤ r && r < 32 then (ropeRec s (r - 16)).valves else if 32 ≤ r then 2 ^ (r - 32) else 0

/-- The rows with an action in force. -/
def rowsWith (s : State) (bit : Nat) : List Nat := (List.range 64).filter (fun r => bitOf (rowForce s r) bit)

/-- Union of a mask over rows. -/
def maskUnion (l : List Nat) (f : Nat → Nat) : Nat := l.foldl (fun a r => Nat.lor a (f r)) 0

/-- This module drives ECAP_N (R208). -/
def ecapOut (s : State) : Bool := !(rowsWith s 1).isEmpty

/-- The EMERGENCY_CAP mask (R215). -/
def ecapMask (s : State) : Nat := if ecapOut s then allRacks else maskUnion (rowsWith s 2) (rowRacks s)

/-- The THERMAL_STOP mask (R215). -/
def stopMask (s : State) : Nat := maskUnion (rowsWith s 3) (rowRacks s)

/-- Valve sets closed, by a row 16 to 63 or by command (R213). -/
def isoValves (s : State) : Nat := Nat.lor (maskUnion ((rowsWith s 6).filter (16 ≤ ·)) (rowValves s)) s.sv.isoCmd

/-- Valve sets whose isolation output is a field-bus node. -/
def busValves (s : State) : Nat := maskUnion ((List.range 32).filter (fun v => nth s.sv.sec.isoOut v 0xFFFF == 0x8000)) (2 ^ ·)

/-- The ISOLATE mask (R215). -/
def isoMask (s : State) : Nat := Nat.land (isoValves s) (busValves s)

/-- The alarm relay coil is released: energised only with VSAFE and while no row is ACTIVE, HOLDING or LATCHED (R208, R409). -/
def alarmReleased (s : State) : Bool := !s.pwr.vsafeOk || s.sv.rows.any (fun e => e.2.st != 0)

/-- The RELEASE action of row 4 acts: every field output is released while the chain pair shows a live partner (R208). -/
def svReleases (s : State) : Bool := bitOf (rowForce s 4) 7 && s.red.chainOk

/-- The level the selvedge's action gives DIO pin `d`, where an action holds it (R208, R210, R212): pump enables 1 means run, isolation valves 1 means open. -/
def dioHeld (s : State) (d : Nat) : Option Bool :=
  let pump (k : Nat) : Bool := nth s.sv.sec.pumpDio k 0xFFFF == d
  let stopped (k : Nat) : Bool := pump k && bitOf (rowForce s (8 + k)) 5
  if (List.range 8).any stopped then some false
  else if (List.range 8).any (fun k => pump k && bitOf s.sv.sec.standby k && !(rowsWith s 4).isEmpty && (rowSt s (8 + k)).st == 0) then some true
  else if (List.range 32).any (fun v => nth s.sv.sec.isoOut v 0xFFFF == d && bitOf (isoValves s) v) then some false
  else none

/-! ### Frames (R214, R215) -/

/-- ECAP_LEVEL in force (R214, R230). -/
def ecapLevel (s : State) : Nat := s.sv.sec.ecapLevel

/-- The 8-byte body of R214. -/
def svBody (s : State) (kind : Nat) (assert : Bool) (mask : Nat) : Bytes :=
  le (b2n (slotB s) * 128 + b2n assert * 64 + kind) 1 ++ le (if kind = 1 then ecapLevel s else 0) 1 ++ le s.svf.seq 1 ++ le 0 1 ++ le mask 4

/-- FB_URGENT.CONTENT of a frame kind. -/
def svContent (kind : Nat) : Nat := if kind = 1 then 2 else if kind = 2 then 3 else 4

/-- Place in R290's order: THERMAL_STOP, ISOLATE, EMERGENCY_CAP, then the heartbeat at 6. -/
def svKeyOf (kind : Nat) (assert : Bool) : Nat := (if kind = 2 then 0 else if kind = 3 then 2 else 4) + (if assert then 0 else 1)

/-- Sends one frame on every enabled bus and to the selvedge group (R214, R316). -/
def svFrame (kind : Nat) (assert : Bool) (mask : Nat) (s : State) : State :=
  let body := svBody s kind assert mask
  let s := { s with svf.seq := (s.svf.seq + 1) % 256 }
  let s := each (allBuses.filter (bitOf s.sv.sec.buses)) (fun k s =>
    let key := svKey s k (slotB s)
    let st := (busSt s k).st
    if st = bsNormal || st = bsBusOff then
      urgPut k { key := svKeyOf kind assert, content := svContent kind, f := { xtd := 2 ^ 29 ≤ key, id := key % 2 ^ 29, data := body } }
        { s with svf.frmFb := satAdd 0xFFFF s.svf.frmFb 1 }
    else s) s
  sendMsg (pat s).peers.svGroup 0x03 0 body { s with svf.frmEth := satAdd 0xFFFF s.svf.frmEth 1 }

/-- Frames are sent by a running module with a role other than SAFE (R27, R265). -/
def svMaySend (s : State) : Bool := running s && !(s.glb.role == .none || s.glb.role == .safe)

/-- The mask of a frame kind now. -/
def svMask (s : State) (kind : Nat) : Nat := if kind = 1 then ecapMask s else if kind = 2 then stopMask s else isoMask s

/-- Brings one kind's frames up to date: an assert frame for a new mask, a clear frame for the bits it lost, to be sent three times (R215). -/
def svUpdateKind (kind : Nat) (s : State) : State :=
  let old := nth s.svf.masks (kind - 1) 0
  let new := svMask s kind
  let gone := old - Nat.land old new
  if old = new then s
  else
    let s := { s with svf.masks := setNth s.svf.masks (kind - 1) new }
    let s := if new != 0 then svFrame kind true new s else s
    let s :=
      if gone != 0 then
        svFrame kind false gone { s with svf.clears := s.svf.clears ++ [(kind, gone, 2)] }
      else s
    s

/-- ECAP_CLEARED when the EMERGENCY_CAP mask loses bits, whether the module may send frames or not (R233). -/
def ecapNote (s : State) : State :=
  let old := s.sv.ecapSeen
  let new := ecapMask s
  let gone := old - Nat.land old new
  if old = new then s
  else
    let t := s.sv.ecapAt
    let s := { s with sv.ecapSeen := new, sv.ecapAt := if old = 0 then s.clock else t }
    if gone = 0 then s else svEmit 0x040D (aw gone ++ aw ((s.clock - t) / 1000000)) s

/-- Brings all frames up to date after a change of actions. -/
def svFrames (s : State) : State :=
  let s := ecapNote s
  if svMaySend s then svUpdateKind 3 (svUpdateKind 2 (svUpdateKind 1 s)) else s

/-! ### Rows (R209) -/

/-- What SV_ROW_ACTIVE reports beside the row: a comparator's reading or a rope's state. -/
def rowReading (s : State) (r : Nat) : Nat :=
  if 16 ≤ r && r < 32 then (ropeSt s (r - 16)).st
  else if r = 0 then (cmpSt s (if cmpTrip s 0 then 0 else 1)).reading
  else if r = 2 then (cmpSt s (if cmpTrip s 3 then 3 else 4)).reading
  else if r = 4 then (cmpSt s (if cmpTrip s 14 then 14 else 15)).reading
  else if r = 1 then (cmpSt s 2).reading
  else if r = 3 then (cmpSt s 5).reading
  else if 8 ≤ r && r < 16 then (cmpSt s (r - 2)).reading
  else 0

/-- THERMAL_STOP_SENT when a row's STOP_FRAME fires (R215). -/
def stopSent (r actions : Nat) (s : State) : State :=
  if bitOf actions 3 then svEmit 0x040C (aw (rowRacks s r) ++ aw r) s else s

/-- A row whose condition is present enters ACTIVE (R209); D_entry is latched by the first entry of the flow group (R200). -/
def rowActivate (r : Nat) (s : State) : State :=
  let x := rowSt s r
  if x.st = 1 || !rowCond s r then s
  else
    let busy := s.sv.rows.any (fun e => flowRow e.1 && (e.2.st == 1 || e.2.st == 2))
    let s := if flowRow r && !busy then { s with sv.dEntry := drefNow s } else s
    let imm := (rowRec s r).imm
    let x :=
      if x.st = 2 then { x with st := 1 }
      else { x with st := 1, fired := false, latch := Nat.lor x.latch (latching imm), delayFrom := some s.clock, activeAt := s.clock }
    let s := svErrBit 0 (setRow r x s)
    let s := svEmit 0x0401 (aw r ++ aw (rowReading s r) ++ aw (rowForce s r)) s
    let s := stopSent r imm s
    trialFault 3 r s

/-- Rows become ACTIVE with their immediate actions, then the frames go out (R197). -/
def rowsActivate (rs : List Nat) (s : State) : State := svFrames (each rs rowActivate s)

/-- The delay reaches DELAY: the delayed actions fire unless the recovery criterion holds (R209). -/
def rowDelay (r flow : Nat) (s : State) : State :=
  let x := rowSt s r
  match x.delayFrom with
  | none => s
  | some t =>
    if (x.st = 1 || x.st = 2) && !x.fired && (rowRec s r).delay != 0 then
      let s := clockTo (t + (rowRec s r).delay * 1000000) s
      if rowRecovered s r flow then setRow r { x with delayFrom := none } s
      else
        let d := (rowRec s r).delayed
        let s := setRow r { x with fired := true, delayFrom := none, latch := Nat.lor x.latch (latching d) } s
        svFrames (stopSent r d s)
    else s

/-- ACTIVE to HOLDING (R209). -/
def rowHold (r flow : Nat) (s : State) : State :=
  let x := rowSt s r
  if x.st = 1 && !rowCond s r && rowRecovered s r flow then setRow r { x with st := 2, holdAt := s.clock } s else s

/-- CLEAR_HOLD is over: to LATCHED if a latching action of the row is in force, under the present set too (R229), or to IDLE (R209). -/
def rowClear (r : Nat) (s : State) : State :=
  let x := rowSt s r
  if x.st = 2 then
    let s := clockTo (x.holdAt + s.sv.sec.clearHold * 1000000) s
    let l := latching (rowForce s r)
    let st := if l = 0 then 0 else 3
    let s := setRow r { x with st := st, latch := l, fired := false, delayFrom := none } s
    let s := if st = 3 then svErrBit 1 s else s
    svFrames (svEmit 0x0402 (aw r ++ aw st ++ aw ((x.holdAt - x.activeAt) / 1000000)) s)
  else s

/-- SELVEDGE_RESET of the named rows: LATCHED rows whose condition is absent return to IDLE, row 4 never (R209). Returns the rows reset. -/
def rowsReset (mask : Nat) (s : State) : Nat × State :=
  let rs := (List.range 64).filter (fun r => bitOf mask r && r != 4 && (rowSt s r).st == 3 && !rowCond s r)
  let s := each rs (fun r s => setRow r { rowSt s r with st := 0, latch := 0 } s) s
  (maskUnion rs (2 ^ ·), svFrames s)

/-! ### Advisory latches, D_ref (R200, R202, R221) -/

/-- SV_INPUT_UNKNOWN when a comparator has become UNKNOWN, and its clear record when it has left that state (R203, R233). `was`: UNKNOWN before. -/
def noteUnk (k cause : Nat) (was : Bool) (s : State) : State := if cmpUnknown s k = was then s else svEmit 0x0406 (aw k ++ aw cause) s was

/-- The substitute of a comparator's input in engineering units. -/
def cmpSubst (s : State) (c : CmpRec) : Option F32 :=
  match inputRec s c.input with
  | none => none
  | some r => (substOf s r).map (engOf r)

/-- Refresh of a comparator's two advisory latches in a tick (R202). -/
def advRefresh (k : Nat) (s : State) : State :=
  let c := cmpRec s k
  if c.enable && c.input < 1024 && (inputRec s c.input).isSome then
    let unk := (inSt s c.input).unknown
    let beyond := match cmpSubst s c with
      | some v => if c.above then flt c.thr v else flt v (if k = 2 then flThreshold s else c.thr)
      | none => false
    let x := cmpSt s k
    noteUnk k 2 (cmpUnknown s k) (setCmp k { x with advTrip := unk && beyond, advUnk := unk, advTripAt := s.clock, advUnkAt := s.clock } s)
  else s

/-- A row's advisory condition is refreshed. -/
def advRow (r : Nat) (v : Bool) (s : State) : State := setRow r { rowSt s r with adv := v, advAt := s.clock } s

/-- The loop layer's refreshes of a tick (R202, R220, R222). -/
def svRefresh (s : State) : State :=
  let s := each (List.range 16) advRefresh s
  let s := each (s.svf.mb.map (·.1)) (fun m s => advRow (32 + m) ((tgetD s.svf.mb m {}).st == 2) s) s
  if (cmpRec s 5).enable && s.svf.res.st != 0 then advRow 7 (s.svf.res.st == 2 && !s.svf.mb.any (fun e => e.2.st == 2)) s else s

/-- D_ref written once per round (R200). -/
def drefWrite (s : State) : State :=
  match chanRec s s.sv.sec.drefCh with
  | none => s
  | some r =>
    match (chSt s r.ch).spEff with
    | none => s
    | some v => { s with sv.dref := engOf (pvScale s r.pv) v, sv.drefAt := some s.clock }

/-! ### Mass balance in a tick (R220, R222) -/

/-- Adds one tick to a manifold's second. -/
def mbTick (m : Nat) (r : MbRec) (s : State) : State :=
  if r.enable then
    let x := tgetD s.svf.mb m {}
    let x := match inEng s r.sup, inEng s r.ret with
      | some a, some b => { x with sum := fadd x.sum (fsub a b), n := x.n + 1 }
      | none, _ => { x with ok := false, bad := r.sup }
      | _, none => { x with ok := false, bad := r.ret }
    { s with svf.mb := tset s.svf.mb m x }
  else s

/-- Adds one tick to the reservoir's second: the makeup flow, and whether its inputs are GOOD. -/
def resTick (s : State) : State :=
  if (cmpRec s 5).enable && s.sv.patternSet then
    let x := s.svf.res
    let x := if s.sv.sec.makeupIn = 0xFFFF then { x with n := x.n + 1 }
      else
        match inEng s s.sv.sec.makeupIn with
        | some f => { x with sum := fadd x.sum f, n := x.n + 1 }
        | none => { x with ok := false, bad := s.sv.sec.makeupIn }
    let x := if inGood s (cmpRec s 5).input then x else { x with ok := false, bad := (cmpRec s 5).input }
    { s with svf.res := x }
  else s

/-- The mass balance of a tick. -/
def mbTicks (s : State) : State :=
  resTick (each ((List.range s.sv.sec.mb.length).zip s.sv.sec.mb) (fun (p : Nat × MbRec) s => mbTick p.1 p.2 s) s)

/-! ### The latched section (R17, R199) -/

/-- Raw comparator code of a value over a source's range (R199). -/
def rawCode (v lo hi : F32) : Nat :=
  (clampI 0 65535 (froundI 65536 (fdiv (fmul (fofNat 65535) (fsub v lo)) (fsub hi lo)))).toNat

/-- The value at the pin, ahead of the gauge, for an engineering value (R199, R400, R441). -/
def tapValue (s : State) (input : Nat) (io : IoRec) (x : F32) : F32 :=
  let c :=
    if io.kind = 1 && (io.mode = 3 || io.mode = 4) then Config.rtdOhm (io.mode == 4) x
    else if io.kind = 4 then fdiv (fsub x io.b) io.a
    else
      let (l, h) := spanOf io.kind io.mode
      fadd l (fdiv (fmul (fsub x io.a) (fsub h l)) (fsub io.b io.a))
  let g := gaugeRec s 1 input
  fdiv (fsub c g.offset) g.gain

/-- Range of a source's raw code (R199). -/
def tapRange (io : IoRec) : F32 × F32 :=
  if io.kind = 4 then (fzero, if io.mode = 2 then f32k 1000000 1 else f32k 100000 1)
  else if io.mode = 1 then (fzero, f32k 25 1)
  else if io.kind = 2 then (fneg (f32k 10 1), f32k 10 1)
  else if io.mode = 2 then (fneg (f32k 1 2), f32k 21 2)
  else if io.mode = 3 then (fzero, f32k 400 1)
  else (fzero, f32k 4000 1)

/-- An engineering value as the raw code of a comparator's source; the internal sensors measure °C from −50 to 200 (R199). -/
def cmpCode (s : State) (c : CmpRec) (x : F32) : Nat :=
  if c.input = 0xFFFF then rawCode x (fneg (f32k 50 1)) (f32k 200 1)
  else
    match ioRec s (pinOf c.input).1 (pinOf c.input).2 with
    | none => 0
    | some io => rawCode (tapValue s c.input io x) (tapRange io).1 (tapRange io).2

/-- The absolute value of a difference. -/
def fdist (a b : F32) : F32 := fmax (fsub a b) (fsub b a)

/-- The tap's value of a source for an engineering value, its range, and its tolerance there: 0.25 % of the span plus the gauge tolerance (R199). -/
def cmpTap (s : State) (c : CmpRec) (x : F32) : F32 × (F32 × F32) × F32 :=
  if c.input = 0xFFFF then (x, (fneg (f32k 50 1), f32k 200 1), f32k 625 1000)
  else
    match ioRec s (pinOf c.input).1 (pinOf c.input).2 with
    | none => (fzero, (fzero, f32k 1 1), fzero)
    | some io =>
      let span :=
        if io.kind = 1 && (io.mode = 3 || io.mode = 4) then f32k 250 1
        else if io.kind = 4 then fdist (fmul io.a (tapRange io).2) fzero
        else fdist io.b io.a
      let v := tapValue s c.input io x
      (v, tapRange io, fadd (fdist (tapValue s c.input io (fadd x (fmul (f32k 25 10000) span))) v) (gaugeRec s 1 c.input).tol)

/-- A comparator trips on rising codes: above its threshold, or below it where the source's code falls as its value rises. -/
def cmpUp (s : State) (c : CmpRec) : Bool :=
  let falls := match ioRec s (pinOf c.input).1 (pinOf c.input).2 with
    | some io => c.input != 0xFFFF && (if io.kind = 4 then flt io.a fzero else !(io.kind = 1 && (io.mode = 3 || io.mode = 4)) && flt io.b io.a)
    | none => false
  c.above != falls

/-- The codes from which a comparator may trip and may clear, the tolerance of R199 granted: `up` on rising codes. -/
def cmpLims (s : State) (c : CmpRec) (up : Bool) (thr clr : F32) : Nat × Nat :=
  let (v, r, t) := cmpTap s c thr
  let (w, _, u) := cmpTap s c clr
  if up then (rawCode (fsub v t) r.1 r.2, rawCode (fadd w u) r.1 r.2) else (rawCode (fadd v t) r.1 r.2, rawCode (fsub w u) r.1 r.2)

/-- The limits of R203 as codes: gauge-corrected limits, converted as thresholds are. -/
def cmpUnkLim (s : State) (c : CmpRec) : Option (Nat × Nat) :=
  if c.input = 0xFFFF then some (rawCode (fneg (f32k 40 1)) (fneg (f32k 50 1)) (f32k 200 1), rawCode (f32k 150 1) (fneg (f32k 50 1)) (f32k 200 1))
  else
    match ioRec s (pinOf c.input).1 (pinOf c.input).2 with
    | none => none
    | some io =>
      (openLimits io.kind io.mode).map (fun (l : F32 × F32) =>
        let g := gaugeRec s 1 c.input
        let pin (v : F32) : Nat := rawCode (fdiv (fsub v g.offset) g.gain) (tapRange io).1 (tapRange io).2
        (pin l.1, pin l.2))

/-- A reading at which a comparator may trip: anywhere inside the tolerance (R9, R199). FL's threshold follows D_ref (R200). -/
def cmpBeyond (s : State) (k reading : Nat) : Bool :=
  let x := cmpSt s k
  let lim := if k = 2 then (cmpLims s (cmpRec s 2) x.up (flThreshold s) (pct s.sv.sec.recoverFrac s.sv.dEntry)).1 else x.tripLim
  if x.up then decide (lim ≤ reading) else decide (reading ≤ lim)

/-- A reading at which a comparator may clear. FL clears at RECOVER_FRAC of D_entry (R200). -/
def cmpBack (s : State) (k reading : Nat) : Bool :=
  let x := cmpSt s k
  let lim := if k = 2 then (cmpLims s (cmpRec s 2) x.up (flThreshold s) (pct s.sv.sec.recoverFrac s.sv.dEntry)).2 else x.clearLim
  if x.up then decide (reading ≤ lim) else decide (lim ≤ reading)

/-- A reading outside the limits of R203; a source without limits has none. A code equal to a limit has crossed it (R9). -/
def cmpOut (s : State) (k reading : Nat) : Bool :=
  match (cmpSt s k).unkLim with
  | some (lo, hi) => decide (reading ≤ lo) || decide (hi ≤ reading)
  | none => false

/-- One comparator's latches from the section in force. A DPk whose pump enable is not named is not armed (R201). -/
def cmpLoad (k : Nat) (s : State) : State :=
  let c := cmpRec s k
  let x := cmpSt s k
  let clr := if c.above then fsub c.thr c.hyst else fadd c.thr c.hyst
  let up := cmpUp s c
  let l := if k = 2 then (0, 0) else cmpLims s c up c.thr clr
  let noPump := 6 ≤ k && k ≤ 13 && nth s.sv.sec.pumpDio (k - 6) 0xFFFF == 0xFFFF
  if c.enable then
    setCmp k { x with
      thrTrip := if k = 2 then 0 else cmpCode s c c.thr
      thrClear := if k = 2 then 0 else cmpCode s c clr
      up := up
      tripLim := l.1
      clearLim := l.2
      unkLim := cmpUnkLim s c
      armed := x.armed && !noPump
      own := x.own && !noPump } s
  else setCmp k { x with thrTrip := 0, thrClear := 0, up := false, tripLim := 0, clearLim := 0, unkLim := none, own := false, unkOwn := false } s

/-- The mass balances that the section in force disables are OFF (R220, R222). -/
def mbDrop (s : State) : State :=
  let s := { s with svf.mb := s.svf.mb.filter (fun (e : Nat × MbSt) => (nth s.sv.sec.mb e.1 {}).enable) }
  if (cmpRec s 5).enable then s else { s with svf.res := {}, svf.levels := [], svf.makeup := [] }

/-- Writes a section into the latches (R17, R199, R229): rows keep their state, thresholds are converted. -/
def svLoad (sec : SvSection) (digest : Bytes) (s : State) : State :=
  let s := mbDrop { s with sv.sec := sec, sv.patternSet := true, sv.digest := digest }
  let s := each (List.range 16) cmpLoad s
  each (List.range 16) (fun z s =>
    let x := ropeSt s z
    let st := if !(ropeRec s z).enable then 0 else if x.st = 0 then 1 else x.st
    { s with sv.ropes := tset s.sv.ropes z { x with st := st } }) s

/-- The POR state of the selvedge: latches at the ROM set, every row IDLE (R230). -/
def svPowerOn (s : State) : State := { s with sv := {}, svf := {} }

end Sys2Proof.Machine
end

