-- ==== Sys2Proof/Machine/Loop.lean ====
section
/-! DEFINITION. The loop-engine commands (chapter 05). -/

namespace Sys2Proof.Machine

/-- The work of a tick (R135, R137), in order: outputs of the last tick, input latch, health, the loop layer's selvedge work (R200, R202, R220), vote groups, the due channel samples, the next outputs. -/
def tickWork (convs : List Conv) (s : State) : State :=
  let s := whenS (drives s) applyOutputs s
  let s := latchSignals (each convs latchConv s)
  let s := each (pat s).inputs inputHealth s
  let s := whenS (s.tick % max 1 (ticksPerRound s) == 0) drefWrite s
  let s := mbTicks (svRefresh s)
  let s := each (pat s).groups voteGroup s
  let due := dueChans s
  let s := each due (channelSample (drives s)) { s with lp.load := max s.lp.load (engineLoad s due) }
  if drives s then computeOutputs (each (pat s).maps checkReadback s) else reclaimTick s


/-- INPUT_RANGE_TIMEOUT (R140): the code has lain out of range without interruption for RANGE_TIME. -/
def execInputRangeTimeout (i : Nat) (s : State) : Host.Outcome State Fault Refusal :=
  live (fun s =>
    match inputRec s i, (inSt s i).rangeSince with
    | some r, some t =>
      if (inSt s i).unknown then s
      else
        let s := clockTo (t + r.rangeTime * 1000000) s
        inputUnknown i (firstCause s r (inSt s i) 1) s
    | _, _ => s) s

/-- INPUT_STALE (R140): no conversion for STALE_TIME. An input without a STALE_TIME never gets stale. -/
def execInputStale (i : Nat) (s : State) : Host.Outcome State Fault Refusal :=
  live (fun s =>
    match inputRec s i with
    | none => s
    | some r =>
      if (inSt s i).unknown || staleNs s r = 0 then s
      else
        let s := clockTo (ageFrom s (inSt s i) + staleNs s r) s
        let c := firstCause s r (inSt s i) 2
        inputUnknown i (if c = 3 then 2 else c) s) s

/-- The correlation test at the end of an input's window (R141). -/
def frozenTests (r : InputRec) (s : State) : State :=
  let i := r.input
  let x := inSt s i
  let ref := r.frozenRef && x.wAny && x.rAny && decide (r.refDelta < x.rHi - x.rLo) && decide (x.wHi - x.wLo < r.frozenDelta)
  let s := setIn i { x with refBad := ref, wAny := false, rAny := false } s
  if ref then inputUnknown i (firstCause s r x 4) s else s

/-- FROZEN_WINDOW_END (R141). -/
def execFrozenWindowEnd (i : Nat) (s : State) : Host.Outcome State Fault Refusal :=
  live (fun s => match inputRec s i with | some r => frozenTests r s | none => s) s

/-- INPUT_RECOVERED (R142): every cause has been absent for RECOVER_TIME. -/
def execInputRecovered (i : Nat) (s : State) : Host.Outcome State Fault Refusal :=
  live (fun s =>
    match inputRec s i, (inSt s i).recSince with
    | some r, some t =>
      let x := inSt s i
      if x.unknown then
        let s := clockTo (t + r.recoverTime * 1000000) s
        emit 0x0202 srcCtl (aw i ++ aw ((s.clock - x.unkSince) / 1000000)) (setIn i { x with unknown := false, cause := 0, recSince := none } s)
      else s
    | _, _ => s) s

/-- A vote group's record. -/
def groupRec (s : State) (g : Nat) : Option GroupRec := (pat s).groups.find? (fun r => r.group == g)

/-- Values of the two members that a group compares, the forecast voter's last (R143, R144). -/
def pairVals (s : State) (r : GroupRec) : List Int :=
  let x := grpSt s r.group
  (goodMembers s r).map (·.2) ++ (if x.fcCounted then [x.fcVal.getD 0] else [])

/-- SENSOR_DISAGREE (R143): two members have differed by more than DIS_BAND for DIS_TIME. -/
def execSensorDisagree (g : Nat) (s : State) : Host.Outcome State Fault Refusal :=
  live (fun s =>
    let x := grpSt s g
    match groupRec s g, x.disSince with
    | some r, some t =>
      if x.episode then s
      else
        let s := clockTo (t + r.disTime * 1000000) s
        let ms := pairVals s r
        let v := match ms with
          | [a, b] => safeSide r a b
          | _ => x.value
        emit 0x0203 srcCtl (aw g ++ al16 (ms.map (twos 16)) ++ a16 v)
          { s with lp.groups := tset s.lp.groups g { x with episode := true, agreeSince := none, mode := 2, value := v } }
    | _, _ => s) s

/-- SENSOR_DISAGREE_CLEAR (R143): the members have agreed for 1 s. -/
def execSensorDisagreeClear (g : Nat) (s : State) : Host.Outcome State Fault Refusal :=
  live (fun s =>
    let x := grpSt s g
    match groupRec s g, x.agreeSince with
    | some r, some t =>
      if x.episode then
        let s := clockTo (t + 1000000000) s
        let ms := pairVals s r
        let v := match ms with
          | [a, b] => mean2 a b
          | _ => x.value
        emit 0x0203 srcCtl (aw g ++ al16 (ms.map (twos 16)) ++ a16 v)
          { s with lp.groups := tset s.lp.groups g { x with episode := false, agreeSince := none, disSince := none, mode := 1, value := v } } true
      else s
    | _, _ => s) s

/-- FOLLOWING_ERROR (R158): the timer has reached FE_TIME; FE_ACTION 0 writes once per episode, 1 trips the channel. -/
def execFollowingError (ch : Nat) (s : State) : Host.Outcome State Fault Refusal :=
  live (fun s =>
    match chanRec s ch with
    | none => s
    | some r =>
      let x := chSt s ch
      if drives s && !x.tripped && feDue (bankOf s ch) x then
        if r.feAction = 1 then feTrip ch x s
        else
          trialFault 2 ch (emit 0x0205 (srcChan s ch) (aw ch ++ aw (wbSub x.spUsed x.pvUsed).natAbs ++ a16 x.spUsed) (setCh ch { x with feDone := true } s))
      else s) s

/-- OUTPUT_FAULT (R153): the readback has lain below the command for RB_TIME. -/
def execOutputFault (m : Nat) (s : State) : Host.Outcome State Fault Refusal :=
  live (fun s =>
    let x := mapSt s m
    match mapRec s m, x.lowSince with
    | some r, some t =>
      if x.lowDone then s
      else
        let s := clockTo (t + r.rbTime * 1000000) s
        let rb := (readback s r).getD fzero
        emit 0x0207 srcCtl (aw m ++ ai (milli x.y) ++ ai (milli rb)) { s with lp.maps := tset s.lp.maps m { x with lowDone := true } }
    | _, _ => s) s

/-- A swap request (R160): the inactive bank is validated first. A request while one is pending has no effect (DESIGN CHOICE, log 149). -/
def swapOp (c : Nat) (s : State) : State :=
  match chanRec s c with
  | none => s
  | some _ =>
    let x := chSt s c
    if x.swapPend then s
    else
      match bankCheck (bankOff s c) with
      | some k => emit 0x020A (srcChan s c) (aw c ++ aw k) s
      | none => setCh c { x with swapPend := true, swapAt := s.round + 1 } s

/-- SWAP (R160). -/
def execSwap (ch : Nat) (s : State) : Host.Outcome State Fault Refusal := live (swapOp ch) s

/-- The carry rules of a bank that takes over a channel's state (R160): the bounds and the law act in the sample that follows. -/
def bankCarry (b : List Nat) (x : ChanSt) : ChanSt :=
  let sat := (x.satHi && (x.law == 1 || x.law == 2)) || (x.satLo && (x.law == 3 || x.law == 4))
  let cnt := if sat then 0 else if x.law = 0 then x.cnt else min x.cnt (bkDwell b x.law - 1)
  { x with cnt := cnt, acc := max x.acc (bkULo b * 65536), approach := decide (bkUHi b * 65536 < x.acc), appCnt := 0 }

/-- BANK_SWAPPED (R160): the channel's first sample at or after the t0 that follows the request. -/
def execBankSwapped (ch : Nat) (s : State) : Host.Outcome State Fault Refusal :=
  live (fun s =>
    let x := chSt s ch
    if x.swapPend && decide (x.swapAt ≤ s.round) then
      let y := bankCarry (bankOff s ch) { x with bankB := !x.bankB, swapPend := false }
      let s := swAbortAll 7 (fun w => w.injects && w.chan == ch) (setCh ch y s)
      emit 0x0209 (srcChan s ch) (aw ch ++ aw (b2n y.bankB) ++ aw (b2n y.approach)) s
    else s) s

/-- A tripped channel is initialised (R158, R161). -/
def tripResetOp (c : Nat) (s : State) : State :=
  if (chSt s c).tripped then
    let s := setCh c { chSt s c with tripped := false } s
    if drives s then (initChannel c s).2 else s
  else s

/-- TRIP_RESET (R158). -/
def execTripReset (ch : Nat) (s : State) : Host.Outcome State Fault Refusal := live (tripResetOp ch) s

/-- The loop layer restarts (R23, R161): latches, error bits and runs are cleared, every channel is initialised, on a module that does not drive too; in SAFE, where the layer is stopped, none. -/
def loopRestartOp (cause : Nat) (s : State) : State :=
  let s := settleMsgs (dropOwners 3 isEngine s)
  let s := swAbortAll 7 (fun x => x.injects) s
  let s := { s with
    lp.load := 0
    lp.st := if s.lp.st = 0 then 0 else 3
    lp.next := []
    lp.fromRb := 0
    lp.fromSnap := 0
    lp.fromInit := 0
    lp.cellCnt := 0
    lp.chans := tmap s.lp.chans (fun x => { x with tripped := false, init := false, swapPend := false })
    lp.sps := tmap s.lp.sps (fun x => { x with spExt := none })
    errs := tdel s.errs 0x100000C }
  let s := if s.lp.st = 0 then s else initAll s
  emit 0x020B srcCtl (aw cause ++ aw s.lp.fromRb ++ aw s.lp.fromSnap ++ aw s.lp.fromInit) s

/-- A loop restart that the spec gives no cause code: the code is a free value. An ACTIVE module hands over first (R23). -/
def loopRestartFree (s : State) : State :=
  let (w, s) := freshWord s
  if s.glb.role == .active then requestHandover 3 none (w.toNat + 1) s else loopRestartOp w.toNat s

/-- LOOP_RESTART (R23): an ACTIVE module hands over first. -/
def execLoopRestart (cause : Nat) (s : State) : Host.Outcome State Fault Refusal :=
  live (fun s => if s.glb.role == .active then requestHandover 3 none (cause + 1) s else loopRestartOp cause s) s

/-- Channels of a quarantined engine that found no place. -/
def unplacedChans (s : State) : List Nat := ((pat s).chans.filter (fun r => r.enable && !(chSt s r.ch).placed)).map (·.ch)

/-- One channel of a quarantined engine, which misses the sample of the present tick: it moves, or its output keeps its last command. -/
def moveChan (moves : List (Nat × Nat)) (c : Nat) (s : State) : State :=
  let x := chSt s c
  match (chanRec s c).bind (fun r => engineFor s r ((moves.find? (fun m => m.1 == c)).map (·.2))) with
  | some k => setCh c { x with engine := k, reinit := true, missAt := some s.tick } s
  | none => setCh c { x with placed := false } s

/-- A loop engine is quarantined and its channels move (R162). `moves` pairs a channel with the engine the CTL region chose for it. -/
def engineQuarantine (e : Nat) (moves : List (Nat × Nat)) (s : State) : State :=
  if s.lp.engBad.contains e || 8 ≤ e then s
  else
    let mine := ((pat s).chans.filter (fun r => r.enable && (chSt s r.ch).engine == e)).map (·.ch)
    let s := { s with
      lp.engBad := s.lp.engBad ++ [e]
      dg.cntQuar := satAdd 0xFFFFFFFF s.dg.cntQuar 1 }
    let s := settleMsgs (dropOwner 3 (.engine e) s)
    let s := each mine (moveChan moves) s
    let s := swAbortAll 7 (fun x => x.injects && mine.contains x.chan) s
    let moved := (mine.filter (fun c => (chSt s c).placed)).length
    let s := emit 0x020C (src 3 e) (aw e ++ aw moved)
      { s with dg.cntRemap := satAdd 0xFFFFFFFF s.dg.cntRemap (if moved = 0 then 0 else 1) }
    match unplacedChans s with
    | [] => s
    | c :: t => requestHandover 4 none 0 (emit 0x020D srcCtl (aw (t.length + 1) ++ aw c) s)

/-- ENGINE_QUARANTINED (R162). -/
def execEngineQuarantined (e : Nat) (moves : List (Nat × Nat)) (s : State) : Host.Outcome State Fault Refusal := live (engineQuarantine e moves) s

end Sys2Proof.Machine
end

