-- ==== Sys2Proof/Machine/Swatch.lean ====
section
/-! DEFINITION. The swatch and trace commands (chapter 06). -/

namespace Sys2Proof.Machine

/-- ARM of a slot (R179, R180): refused with the first cause that applies, else the capture opens. -/
def swArmOp (k : Nat) (s : State) : State :=
  let x := swSt s k
  if 4 ≤ k || x.st = 1 || x.st = 2 then s
  else
    match swRefuse s k with
    | some cause => swErr 8 k (emit 0x0984 srcCtl (aw k ++ aw cause) (setSw k { x with st := 0, cause := cause } s))
    | none =>
      let only := !x.injects
      setSw k { regs := x.regs, st := if only then 2 else 1, capOpen := true, trigged := only && x.trig = 0, capRegs := x.regs,
                capN := (match chanRec s x.chan with | some r => r.period | none => 0), words := x.words } s

/-- SWATCH_ARM (R179, R180). -/
def execSwatchArm (k : Nat) (s : State) : Host.Outcome State Fault Refusal := live (swArmOp k) s

/-- DG_SW_CTRL.ABORT (R181, R186): an injecting run ends at its next sample, a capture at once. -/
def swHostAbort (k : Nat) (s : State) : State :=
  let x := swSt s k
  if x.st = 1 then setSw k { x with st := 0, capOpen := false, goAt := none } s
  else if x.st = 2 && x.injects then setSw k { x with hostAbort := true } s
  else if x.st = 2 then
    let s := setSw k { x with st := 4, cause := 1, capCause := 1 } s
    swClose k 2 (swErr 4 k (emit 0x0983 srcCtl (aw k ++ aw 1 ++ aw x.samples) s))
  else s

/-- SWATCH_ABORT (R181). -/
def execSwatchAbort (k : Nat) (s : State) : Host.Outcome State Fault Refusal := live (swHostAbort k) s

/-- DG_SW_CTRL.TRIGGER (R186): while an untriggered capture is open. -/
def swHostTrigger (k : Nat) (s : State) : State :=
  let x := swSt s k
  if x.capv.trig = 3 && x.capOpen && !x.trigged then setSw k { x with hostTrig := true } s else s

/-- SWATCH_TRIGGER (R186). -/
def execSwatchTrigger (k : Nat) (s : State) : Host.Outcome State Fault Refusal := live (swHostTrigger k) s

/-- Records in a slot's buffer. -/
def swCount (x : SwSt) : Nat := min x.preCnt x.capv.pre + x.postCnt

/-- SWATCH_DONE (R181): every sample of the run has been injected. -/
def execSwatchDone (k : Nat) (s : State) : Host.Outcome State Fault Refusal :=
  live (fun s =>
    let x := swSt s k
    if x.st = 2 && x.injects && decide (x.dur ≤ x.samples) then
      let s := swResume x s
      let s := setSw k { x with st := 3, injecting := false, d := 0 } s
      swTail k (swErr 0 k (emit 0x0982 srcCtl (aw k ++ aw x.samples ++ aw (swCount x)) s))
    else s) s

/-- What SWATCH_START does (R180): the named ARMED slots start at the t0 that follows. -/
def swatchStartKern (_ : Dgram) (_ : PeerRec) (_ : Nat) (args : Bytes) (s : State) : CmdRes × State :=
  let m := fld args 0 4
  (cmdOk, each ((List.range 4).filter (bitOf m)) (fun k s =>
    let x := swSt s k
    if x.st = 1 && x.injects then setSw k { x with goAt := some (s.round + 1) } s else s) s)

/-- SWATCH_START (R180, R328). -/
def execSwatchStart (d : Dgram) (s : State) : Host.Outcome State Fault Refusal := live (critical 14 8 0 d · (swatchStartKern d)) s

/-- A trace buffer starts anew (R190). -/
def trEnable (b : Nat) (s : State) : State :=
  let x := trSt s b
  setTr b { cfg := x.cfg % 2 ^ 31 + 2 ^ 31, trig := x.trig, entries := x.entries } s

/-- TRACE_ENABLE (R190). -/
def execTraceEnable (b : Nat) (s : State) : Host.Outcome State Fault Refusal := live (fun s => if b < 8 then trEnable b s else s) s

/-- TRACE_STOPPED (R190): the POST entries after the trigger are written. -/
def execTraceStopped (b : Nat) (s : State) : Host.Outcome State Fault Refusal :=
  live (fun s =>
    let x := trSt s b
    match x.trigBit with
    | some i =>
      if x.postLeft = 0 && !x.stopped then emit 0x0985 srcCtl (aw b ++ aw i ++ aw x.wr) (setTr b { x with stopped := true } s) else s
    | none => s) s

end Sys2Proof.Machine
end

