-- ==== Sys2Proof/Machine/Selvedge.lean ====
section
/-! DEFINITION. The selvedge, leak and mass-balance commands (chapter 07). The selvedge's own commands act in every state of the chip: it runs on VSAFE (R17). -/

namespace Sys2Proof.Machine

/-- VSAFE feeds the selvedge (R17): it runs in every state of the chip. -/
def svLive (f : State → State) (s : State) : Host.Outcome State Fault Refusal := .next (f s)

/-- CONDITION_PRESENT (R197 to R200, R209): a comparator trips at a reading beyond its threshold, within the tolerance. -/
def execConditionPresent (c : SvCond) (s : State) : Host.Outcome State Fault Refusal :=
  svLive (fun s =>
    match c with
    | .cmp k reading =>
      if k < 16 && (cmpRec s k).enable && cmpArmed s k && !cmpUnknown s k && cmpBeyond s k (reading % 65536) then
        rowsActivate (rowsOfCmp k) (setCmp k { cmpSt s k with own := true, reading := reading % 65536 } s)
      else s
    | .row r => if r < 64 then rowsActivate [r] s else s) s

/-- COMPARATOR_UNKNOWN (R203): a reading outside the source's limits; the last own result is dropped. -/
def execComparatorUnknown (k reading : Nat) (s : State) : Host.Outcome State Fault Refusal :=
  svLive (fun s =>
    if k < 16 && (cmpRec s k).enable && !(cmpSt s k).unkOwn && cmpOut s k (reading % 65536) then
      noteUnk k 1 (cmpUnknown s k) (setCmp k { cmpSt s k with unkOwn := true, own := false, reading := reading % 65536 } s)
    else s) s

/-- SV_INPUT_UNKNOWN_CLEAR (R203, R233). -/
def execSvInputUnknownClear (k reading : Nat) (s : State) : Host.Outcome State Fault Refusal :=
  svLive (fun s =>
    if k < 16 && (cmpSt s k).unkOwn && !cmpOut s k (reading % 65536) then
      noteUnk k 1 (cmpUnknown s k) (setCmp k { cmpSt s k with unkOwn := false, reading := reading % 65536 } s)
    else s) s

/-- COMPARATOR_CLEARS (R199, R200, R203): an UNKNOWN comparator does not clear on its own reading. -/
def execComparatorClears (k reading : Nat) (s : State) : Host.Outcome State Fault Refusal :=
  svLive (fun s =>
    if k < 16 && !cmpUnknown s k && cmpBack s k (reading % 65536) then setCmp k { cmpSt s k with own := false, reading := reading % 65536 } s else s) s

/-- State of a rope after an impedance (R204), in Ω, with the bands' hysteresis and every boundary at `k` twentieths of its value. -/
def ropeAt (k st ohms : Nat) : Nat :=
  if ohms * 20 < 1000 * k then 4
  else if st = 4 && ohms * 20 ≤ 2000 * k then 4
  else if ohms * 20 < 60000 * k then 2
  else if st = 2 && ohms * 20 ≤ 70000 * k then 2
  else if 400000 * k < ohms * 20 then 3
  else if st = 3 && 300000 * k ≤ ohms * 20 then 3
  else 1

/-- The rope's new state: the one that the evaluations agreed on, where boundaries within ±5 % of R204's values give it (R9); else the one of R204's own values. -/
def ropeNext (st ohms new : Nat) : Nat :=
  if [19, 20, 21].any (fun k => ropeAt k st ohms == new) then new else ropeAt 20 st ohms

/-- ROPE_STATE_CHANGE (R204, R205). `new`: the impedance in Ω and the state that two evaluations agreed on. -/
def execRopeStateChange (z : Nat) (new : Nat × Nat) (s : State) : Host.Outcome State Fault Refusal :=
  svLive (fun s =>
    let x := ropeSt s z
    if z < 16 && (ropeRec s z).enable then
      let st := ropeNext x.st new.1 new.2
      let zk := min 0xFFFF (new.1 / 100)
      let s := { s with sv.ropes := tset s.sv.ropes z { st := st, z := zk } }
      if st = x.st then s
      else
        let s := if x.st = 3 then svEmit 0x0405 (aw z ++ aw zk) s true else s
        if st = 2 || st = 4 then svEmit 0x0404 (aw z ++ aw st ++ aw zk) s
        else if st = 3 then svEmit 0x0405 (aw z ++ aw zk) s
        else s
    else s) s

/-- ROW_HOLDING (R209). `flow`: the row flow in L/min for the recovered test of R200. -/
def execRowHolding (r flow : Nat) (s : State) : Host.Outcome State Fault Refusal := svLive (rowHold r flow) s

/-- ROW_DELAY_EXPIRY (R209). -/
def execRowDelayExpiry (r flow : Nat) (s : State) : Host.Outcome State Fault Refusal := svLive (rowDelay r flow) s

/-- ROW_CLEAR_HOLD (R209). -/
def execRowClearHold (r : Nat) (s : State) : Host.Outcome State Fault Refusal := svLive (rowClear r) s

/-- DP_ARMED (R201): a pump whose enable entry is 0xFFFF is never armed. -/
def execDpArmed (k : Nat) (s : State) : Host.Outcome State Fault Refusal :=
  svLive (fun s =>
    if k < 8 && (cmpRec s (6 + k)).enable && nth s.sv.sec.pumpDio k 0xFFFF != 0xFFFF then setCmp (6 + k) { cmpSt s (6 + k) with armed := true } s
    else s) s

/-- DP_DISARMED (R201): an unarmed DPk never trips. -/
def execDpDisarmed (k : Nat) (s : State) : Host.Outcome State Fault Refusal :=
  svLive (fun s => if k < 8 then setCmp (6 + k) { cmpSt s (6 + k) with armed := false, own := false } s else s) s

/-- Refresh lifetime of the advisory latches and of D_ref: 10 ms (R200, R202, R221). -/
def advLife : Nat := 10000000

/-- ADVISORY_LAPSE (R202, R221). -/
def execAdvisoryLapse (l : SvLatch) (s : State) : Host.Outcome State Fault Refusal :=
  svLive (fun s =>
    match l with
    | .trip k =>
      let x := cmpSt s k
      if x.advTrip then setCmp k { x with advTrip := false } (clockTo (x.advTripAt + advLife) s) else s
    | .unknown k =>
      let x := cmpSt s k
      if x.advUnk then noteUnk k 2 (cmpUnknown s k) (setCmp k { x with advUnk := false } (clockTo (x.advUnkAt + advLife) s)) else s
    | .row r =>
      let x := rowSt s r
      if x.adv then setRow r { x with adv := false } (clockTo (x.advAt + advLife) s) else s) s

/-- DREF_STALE (R200). -/
def execDrefStale (s : State) : Host.Outcome State Fault Refusal :=
  svLive (fun s =>
    match s.sv.drefAt with
    | some t => { (clockTo (t + advLife) s) with sv.drefAt := none }
    | none => s) s

/-- The clear frames of a kind that are still to be sent go out once more (R215). -/
def svClears (kind : Nat) (s : State) : State :=
  let mine := s.svf.clears.filter (fun c => c.1 == kind)
  let rest := s.svf.clears.filter (fun c => c.1 != kind)
  let left := mine.filterMap (fun c => if c.2.2 ≤ 1 then none else some (c.1, c.2.1, c.2.2 - 1))
  each mine (fun (c : Nat × Nat × Nat) s => svFrame kind false c.2.1 s) { s with svf.clears := rest ++ left }

/-- SELVEDGE_FRAME_REPEAT (R215). -/
def execSelvedgeFrameRepeat (kind : Nat) (s : State) : Host.Outcome State Fault Refusal :=
  live (fun s =>
    if svMaySend s && 1 ≤ kind && kind ≤ 3 then
      let old := s.svf.masks
      let s := svFrames s
      if s.svf.masks != old then s
      else
        let m := nth s.svf.masks (kind - 1) 0
        svClears kind (if m = 0 then s else svFrame kind true m s)
    else s) s

/-! ### Mass balance (R220, R222) -/

/-- Keeps the last `n` elements. -/
def keepLast {α : Type} (n : Nat) (l : List α) : List α := l.drop (l.length - n)

/-- A flow or loss in 0.01 L/min. -/
def centi (x : F32) : Int := froundI (2 ^ 31 - 1) (fmul x (fofNat 100))

/-- MB_THRESH in L/min. -/
def mbThresh (s : State) : F32 := f32k s.sv.sec.mbThresh 100

/-- The mean of 60 values, summed oldest first. -/
def mean60 (l : List F32) : F32 := fdiv (l.foldl fadd fzero) (fofNat 60)

/-- The window of a state is complete and valid. -/
def mbValid (bins : List (F32 × Bool)) : Bool := bins.length == 60 && bins.all (·.2)

/-- The invalid input that MASS_BALANCE_UNKNOWN names; a free value where none was invalid. -/
def mbBad (x : MbSt) (s : State) : Word × State :=
  if x.bins.any (fun b => !b.2) || !x.ok then (BitVec.ofNat 32 x.bad, s) else freshWord s

/-- Entry to UNKNOWN writes its record. -/
def mbUnknown (who old : Nat) (x : MbSt) (s : State) : State :=
  if x.st = 3 && old != 3 then
    let (w, s) := mbBad x s
    emit 0x0408 srcCtl (aw who ++ [w]) s
  else s

/-- A manifold's second. -/
def mbSecond (m : Nat) (r : MbRec) (s : State) : State :=
  if r.enable then
    let x := tgetD s.svf.mb m {}
    let bin := fsub (fdiv x.sum (fofNat (max 1 x.n))) (gaugeRec s 2 r.gauge).offset
    let bins := keepLast 60 (x.bins ++ [(bin, x.ok && x.n != 0)])
    let mean := mean60 (bins.map (·.1))
    let st :=
      if mbValid bins then
        if flt (mbThresh s) mean then 2
        else if fle mean (fdiv (mbThresh s) (fofNat 2)) then 1
        else x.st
      else 3
    let y := { x with sum := fzero, n := 0, ok := true, bins := bins, st := st, mean := if mbValid bins then mean else x.mean }
    let s := { s with svf.mb := tset s.svf.mb m y }
    let s := if st = 2 && x.st != 2 then emit 0x0407 srcCtl (aw m ++ ai (centi mean)) s else s
    mbUnknown m x.st { y with ok := x.ok } s
  else s

/-- The level of the reservoir in L (R222): % of span times LV_AREA. -/
def resVolume (s : State) : F32 :=
  fmul ((inEng s (cmpRec s 5).input).getD fzero) s.sv.sec.lvArea

/-- The reservoir's second. -/
def resSecond (s : State) : State :=
  if (cmpRec s 5).enable && s.sv.patternSet then
    let x := s.svf.res
    let flow := fdiv x.sum (fofNat (max 1 x.n))
    let bins := keepLast 60 (x.bins ++ [(flow, x.ok && x.n != 0)])
    let levels := keepLast 61 (s.svf.levels ++ [resVolume s])
    let makeup := keepLast 60 (s.svf.makeup ++ [fdiv flow (fofNat 60)])
    let ok := mbValid bins && levels.length == 61
    let loss := fadd (fsub (nth levels 0 fzero) (nth levels 60 fzero)) (makeup.foldl fadd fzero)
    let st := if ok then (if fle (mbThresh s) loss then 2 else 1) else 3
    let y := { x with sum := fzero, n := 0, ok := true, bins := bins, st := st, mean := if ok then loss else x.mean }
    let s := { s with svf.res := y, svf.levels := levels, svf.makeup := makeup }
    let s := if st = 2 && x.st != 2 then emit 0x0409 srcCtl (ai (centi loss)) s else s
    let s := if st != 2 && x.st = 2 then emit 0x0409 srcCtl (ai (centi y.mean)) s true else s
    mbUnknown 0xFF x.st { y with ok := x.ok } s
  else s

/-- MASS_BALANCE_SECOND (R220, R222): in every role except SAFE. -/
def execMassBalanceSecond (s : State) : Host.Outcome State Fault Refusal :=
  live (fun s =>
    if s.glb.role == .safe then s
    else resSecond (each ((List.range s.sv.sec.mb.length).zip s.sv.sec.mb) (fun (p : Nat × MbRec) s => mbSecond p.1 p.2 s) s)) s

/-! ### Localisation (R223) -/

/-- The localiser runs: ACTIVE, ALONE or HOT STANDBY, with the forecast layer in service. -/
def locRuns (s : State) : Bool :=
  (drives s || (s.glb.role == .standby && modeNow s == 1)) && s.fc.regions.any (fun e => e.2.st == 2)

/-- LOCALISER_TRIGGER (R223): `hpin` is an HPIN input and its drop: a fall of an HPIN's mean within 10 ms, in 0.1 kPa, beyond LOC_DROP; merged within 500 ms of the previous trigger; at most four wait. -/
def execLocaliserTrigger (hpin : Nat × Nat) (s : State) : Host.Outcome State Fault Refusal :=
  live (fun s =>
    let merged := match s.svf.locLast with
      | some t => decide (s.clock ≤ t + 500000000)
      | none => false
    if locRuns s && decide (s.sv.sec.locDrop ≤ hpin.2) && !merged then
      let s := { s with svf.locLast := some s.clock }
      if s.svf.locQueue.length < 4 then { s with svf.locQueue := s.svf.locQueue ++ [(hpin.1, s.round, s.clock)] } else s
    else s) s

/-- LEAK_LOCATED (R223): `result` is manifold, branch and confidence in thousandths. The 100 ms of the HPIN streams that the localiser takes begin 20 ms before the trigger, so its result comes 80 ms after it at the earliest. The other fields of SV_LOC_A after a miss are free. -/
def execLeakLocated (result : Option (Nat × Nat × Nat)) (s : State) : Host.Outcome State Fault Refusal :=
  live (fun s =>
    if !locRuns s then { s with svf.locQueue := [] }
    else
    match s.svf.locQueue with
    | [] => s
    | (h, n, at_) :: t =>
      let s := clockTo (at_ + 80000000) s
      let s := { s with svf.locQueue := t, svf.locB := n % 2 ^ 32, svf.locC := satAdd 0xFFFFFFFF s.svf.locC 1 }
      match result with
      | some (m, b, c) =>
        emit 0x040A srcCtl (aw m ++ aw b ++ aw c ++ aq n) { s with svf.locA := m % 256 * 2 ^ 24 + b % 256 * 2 ^ 16 + c % 1024 }
      | none =>
        let (w, s) := freshWord s
        emit 0x040B srcCtl (aw h ++ aq n) { s with svf.locA := 0xFF000000 + Nat.land w.toNat 0x00FF03FF }) s

/-! ### Critical commands (R209, R213, R228, R328) -/

/-- What SELVEDGE_RESET does (R209). -/
def selvedgeResetKern (_ : Dgram) (_ : PeerRec) (_ : Nat) (args : Bytes) (s : State) : CmdRes × State :=
  let (m, s) := rowsReset (fld args 0 8) s
  (cmdOk, if m = 0 then s else svEmit 0x0403 (aq m) s)

/-- SELVEDGE_RESET (R209). -/
def execSelvedgeReset (d : Dgram) (s : State) : Host.Outcome State Fault Refusal := live (critical 10 8 0 d · (selvedgeResetKern d)) s

/-- What ISOLATE does (R213). -/
def isolateKern (_ : Dgram) (_ : PeerRec) (_ : Nat) (args : Bytes) (s : State) : CmdRes × State :=
  let m := fld args 0 4
  (cmdOk, svFrames (svEmit 0x040E (aw m ++ aw 1) { s with sv.isoCmd := Nat.lor s.sv.isoCmd m }))

/-- ISOLATE (R213). -/
def execIsolate (d : Dgram) (s : State) : Host.Outcome State Fault Refusal := live (critical 11 4 0 d · (isolateKern d)) s

/-- What ISOLATE_RELEASE does (R213): a valve that a row still holds stays closed. -/
def isolateReleaseKern (_ : Dgram) (_ : PeerRec) (_ : Nat) (args : Bytes) (s : State) : CmdRes × State :=
  let m := fld args 0 4
  (cmdOk, svFrames (svEmit 0x040E (aw m ++ aw 0) { s with sv.isoCmd := s.sv.isoCmd - Nat.land s.sv.isoCmd m }))

/-- ISOLATE_RELEASE (R213). -/
def execIsolateRelease (d : Dgram) (s : State) : Host.Outcome State Fault Refusal := live (critical 12 4 0 d · (isolateReleaseKern d)) s

/-- A pair that is ACTIVE and STANDBY (R228). -/
def pairUp (s : State) : Bool := s.glb.role == .active || (s.glb.role == .standby && partnerHeard s && partnerRole s == 3)

/-- Reports acceptance of a relock to the partner (R228, R317 subtype 7). -/
def relockReport (dig : Bytes) (nt : Nat) (ok : Bool) (s : State) : State :=
  mirrorSend 7 80 [dig64 dig ++ le nt 8 ++ le (b2n ok) 4 ++ le 0 4] s

/-- SV_RELOCK_REFUSED (R228, R233). -/
def relockNo (cause : Nat) (s : State) : State := emit 0x0410 srcSv (aw cause) s

/-- Refusal of the relock under way (R228). -/
def relockRefused (cause : Nat) (s : State) : State := relockNo cause { s with sv.relock := none }

/-- What SELVEDGE_RELOCK does (R228): the section is that of the pattern in force. A refused command leaves a relock that was accepted before as it stands. -/
def relockKern (_ : Dgram) (_ : PeerRec) (_ : Nat) (args : Bytes) (s : State) : CmdRes × State :=
  let dig := slice args 0 64
  let nt := fld args 64 8
  let sec := (pat s).sv
  if !pairUp s then (cmdRefused 2, relockNo 2 s)
  else if shake256 sec.raw != dig then (cmdRefused 1, relockReport dig nt false (relockNo 1 s))
  else if nt < s.round + 100 then (cmdRefused 3, relockReport dig nt false (relockNo 3 s))
  else (cmdOk, relockReport dig nt true { s with sv.relock := some { digest := dig, nt := nt, accepted := true, shadow := sec } })

/-- SELVEDGE_RELOCK (R228). -/
def execSelvedgeRelock (d : Dgram) (s : State) : Host.Outcome State Fault Refusal := live (critical 13 72 0 d · (relockKern d)) s

/-- RELOCK_DEADLINE (R228): by round N_t − 10 both modules have accepted, or both refuse. -/
def execRelockDeadline (s : State) : Host.Outcome State Fault Refusal :=
  live (fun s =>
    match s.sv.relock with
    | none => s
    | some r =>
      if r.ready then s
      else
        let both := match s.mir.relock with
          | some (dig, nt, ok) => ok && dig == r.digest && nt == r.nt
          | none => false
        if both then { s with sv.relock := some { r with ready := true } } else relockRefused 2 s) s

/-- SV_SECTION_SWITCHED (R228, R229): after the t0 of N_t the rows keep their state under the new set. -/
def execSvSectionSwitched (s : State) : Host.Outcome State Fault Refusal :=
  live (fun s =>
    match s.sv.relock with
    | none => s
    | some r =>
      if r.ready && decide (r.nt ≤ s.round) then
        svFrames (svEmit 0x040F (adig r.digest ++ aq r.nt) (svLoad r.shadow r.digest { s with sv.relock := none, mir.relock := none, pf.relockPend := false }))
      else s) s

end Sys2Proof.Machine
end

