-- ==== Sys2Proof/Machine/ArrayOps.lean ====
section
/-! DEFINITION. The forecast array's operations (chapter 02): regions, tiles, spares, placement, demotion, the HBM map, shedding. -/

namespace Sys2Proof.Machine

def regSt (s : State) (k : Nat) : RegionSt := tgetD s.fc.regions k {}
def setReg (k : Nat) (x : RegionSt) (s : State) : State := { s with fc.regions := tset s.fc.regions k x }
def tileSt (s : State) (k t : Nat) : TileSt := tgetD (regSt s k).tiles t {}
def setTile (k t : Nat) (x : TileSt) (s : State) : State := setReg k { regSt s k with tiles := tset (regSt s k).tiles t x } s
def plateRun (s : State) (p : Nat) : PlateRun := tgetD s.fc.plates p {}
def setPlate (p : Nat) (x : PlateRun) (s : State) : State := { s with fc.plates := tset s.fc.plates p x }
def plateRec (s : State) (p : Nat) : Option PlateRec := (pat s).plates.find? (fun r => r.plate == p)

/-- Address of FC_REG_ERR of region `k` (R71). -/
def fcRegErr (k : Nat) : Nat := 0x1000000C + k * 0x01000000

/-- Working stacks, N of R67. -/
def workingStacks (s : State) : Nat := regionCount s - s.fc.lostStacks.length

/-- Stacks that the present interleave lies over, N of R58: one lost since the last round boundary still counts (R67). -/
def laidStacks (s : State) : Nat := regionCount s - s.fc.laidOut.length

/-- Source unit of array-wide records (R352). -/
def srcSup : Nat := src 13 0

/-- Counts a quarantined block (R465). -/
def countQuar (s : State) : State := { s with dg.cntQuar := satAdd 0xFFFFFFFF s.dg.cntQuar 1 }

/-- Counts cell retries of DG_REG_k (R465): region 0 to 5, 6 CTL, 7 HST. -/
def countCell (k n : Nat) (s : State) : State :=
  { s with dg.cntCell := satAdd 0xFFFFFFFF s.dg.cntCell n, dg.regCell := tmod s.dg.regCell k 0 (satAdd 0xFFFF · n) }

/-- Counts block re-sends of DG_REG_k. -/
def countResend (k n : Nat) (s : State) : State :=
  { s with dg.cntResend := satAdd 0xFFFFFFFF s.dg.cntResend n, dg.regResend := tmod s.dg.regResend k 0 (satAdd 0xFF · n) }

/-- Address of FC_FMT_STAT. -/
def fmtStat : Nat := 0x10080008

/-- Sets a bit of FC_FMT_STAT and writes its record as it goes from 0 to 1 (R71). -/
def fmtExc (bit phys : Nat) (s : State) : State :=
  if bitOf (errVal s fmtStat) bit then s
  else emit 0x0A09 (src 1 phys) (aw bit ++ aw phys ++ aq s.round) { s with errs := tset s.errs fmtStat (BitVec.ofNat 32 (errVal s fmtStat + 2 ^ bit)) }

/-! ### The HBM map (R58, R101, R102) -/

/-- Base of the HBM window (R58). -/
def hbmBase : Nat := 0x1000000000

/-- First address above the mapped window (R58). -/
def hbmTop (s : State) : Nat := hbmBase + laidStacks s * 0x1000000000

/-- Size of area `i` of R101, 0 the telemetry ring to 7 the leak-stream buffer, in units of 2^20 bytes. -/
def areaMb (s : State) (i : Nat) : Nat :=
  let mb := if s.hw.variantH then [32256, 19200, 9984, 16384, 2048, 512, 1024, 104] else [129024, 76800, 39936, 32768, 4096, 1024, 1024, 104]
  let x := nth mb i 0
  if i < 3 then x * laidStacks s / regionCount s else x

/-- Base of area `i`; area 8 is the user and model space. -/
def areaBase (s : State) (i : Nat) : Nat := hbmBase + ((List.range i).map (areaMb s)).foldl (· + ·) 0 * 0x100000

/-- The area an HBM address lies in. -/
def areaOf (s : State) (a : Nat) : Nat := ((List.range 9).filter (fun i => areaBase s i ≤ a)).foldl max 0

/-- Plate count N_p of the variant (R102). -/
def variantPlates (s : State) : Nat := if s.hw.variantH then 2048 else 4096

/-- A depth after stack losses (R102). -/
def depthNow (s : State) (d : Nat) : Nat := if s.fc.laidOut.isEmpty then d else d * laidStacks s / regionCount s / 1000 * 1000

/-- D_t, D_h and D_a in force. -/
def depthRing (s : State) : Nat := depthNow s (if s.hw.variantH then 30000 else 60000)
def depthHist (s : State) : Nat := depthNow s (if s.hw.variantH then 18000 else 36000)
def depthArch (s : State) : Nat := depthNow s (if s.hw.variantH then 30000 else 60000)

/-- Base of a plate's adapter. -/
def adapterBase (s : State) (p : Nat) : Nat := areaBase s 5 + p * 0x40000

/-- Base of a plate's adapter optimiser state, 1 MB per plate (R101). -/
def optBase (s : State) (p : Nat) : Nat := areaBase s 4 + p * 0x100000

/-! Ring, history and archive (areas 0 to 2) hold the missing marker 0x7E00 wherever nothing was written since their last clear (R102). The memory keeps their bytes with the marker folded in, so that a byte nothing has written reads as the marker. -/

/-- What is folded into the byte at an address: the high byte of the marker in the areas of samples. -/
def ringMask (s : State) (a : Nat) : BitVec 8 := if a % 2 = 1 && a < areaBase s 3 then 0x7E#8 else 0#8

/-- A byte of the HBM. -/
def hbmRd (s : State) (a : Nat) : BitVec 8 := memRd s.mem a ^^^ ringMask s a

/-- Bytes of the HBM. -/
def hbmRdN (s : State) (a n : Nat) : Bytes := (List.range n).map (fun i => hbmRd s (a + i))

/-- Bytes as the memory keeps them from an address up. -/
def hbmFold (s : State) : Nat → Bytes → Bytes
  | _, [] => []
  | a, b :: t => (b ^^^ ringMask s a) :: hbmFold s (a + 1) t

/-- Writes bytes into the HBM. -/
def hbmPut (a : Nat) (bs : Bytes) (s : State) : State := { s with mem := memWrN s.mem a (hbmFold s a bs) }

/-- Working stacks by number. -/
def stacksUp (s : State) : List Nat := (List.range (regionCount s)).filter (fun k => !s.fc.lostStacks.contains k)

/-- The stack that holds a window address (R58). -/
def stackOf (s : State) (a : Nat) : Nat :=
  nth ((List.range (regionCount s)).filter (fun k => !s.fc.laidOut.contains k)) ((a - hbmBase) / 4096 % max 1 (laidStacks s)) 0

/-- The address within its stack of a window address (R58). -/
def stackAddr (s : State) (a : Nat) : Nat := (a - hbmBase) / 4096 / max 1 (laidStacks s) * 4096 + (a - hbmBase) % 4096

/-! ### The active container in model space (R67, R101) -/

/-- Length of one copy of a container: whole turns of the interleave. -/
def copyLen (s : State) (m : ModelC) : Nat := let t := laidStacks s * 4096; (m.raw.length + t - 1) / max 1 t * t

/-- Base of copy 0 or 1 of a container: the copies lie at the top of the user and model space (DESIGN CHOICE), the second one interleave unit further than a whole number of turns from the first (R67). `below`: bytes kept free above them. -/
def copyBase (s : State) (m : ModelC) (below j : Nat) : Nat :=
  let l := copyLen s m
  hbmTop s - below - 2 * l - laidStacks s * 4096 + j * (l + 4096)

/-- Bytes that a container's two copies take at the top of the space. -/
def copySpace (s : State) (m : ModelC) : Nat := 2 * copyLen s m + laidStacks s * 4096

/-- Writes a container as two copies. -/
def putCopies (m : ModelC) (below : Nat) (s : State) : State :=
  let s := hbmPut (copyBase s m below 0) m.raw s
  hbmPut (copyBase s m below 1) m.raw s

/-- An address lies in a copy of the active container. -/
def inCopies (s : State) (a : Nat) : Bool :=
  match s.fc.mdl.active with
  | some m => [0, 1].any (fun j => copyBase s m 0 j ≤ a && a < copyBase s m 0 j + copyLen s m)
  | none => false

/-- The active container read from the units of its two copies that do not lie on stack `k` (R67). -/
def readCopies (s : State) (k : Nat) (m : ModelC) : Bytes :=
  ((List.range ((m.raw.length + 4095) / 4096)).flatMap (fun i =>
    let a := copyBase s m 0 0 + 4096 * i
    hbmRdN s (if stackOf s a = k then copyBase s m 0 1 + 4096 * i else a) 4096)).take m.raw.length

/-- Before a stack leaves the interleave the loader reads the container and holds it in the region stores (R67). -/
def holdContainer (k : Nat) (s : State) : State :=
  match s.fc.mdl.active, s.fc.held with
  | some m, none => { s with fc.held := some (readCopies s k m) }
  | _, _ => s

/-! ### Stored size of a base model (R73, R82) -/

/-- Stored size of a tensor, with its scale array and its per-tensor scale (R73). -/
def tensorBytes (m : ModelC) (i : Nat) : Nat :=
  match m.tensors[i]? with
  | some t => t.len + (if isScaled t.fmt then 4 else 0) + (if isMx t.fmt then match m.tensors[t.scaleId]? with | some u => u.len | none => 0 else 0)
  | none => 0

/-- A constant tensor that is no other tensor's scale array. -/
def isConst (m : ModelC) (i : Nat) : Bool :=
  (match m.tensors[i]? with | some t => t.kind == 0 | none => false) && !(m.tensors.any (fun t => isMx t.fmt && t.scaleId == i))

/-- Constant tensors in operator-record order, each once; those that no operator names come last. -/
def constOrder (m : ModelC) : List Nat :=
  let used := m.ops.foldl (fun l o => o.inputs.foldl (fun l i => if l.contains i || !isConst m i then l else l ++ [i]) l) []
  used ++ (List.range m.tensors.length).filter (fun i => isConst m i && !used.contains i)

/-- The stored size of the base model: the sum of its constant tensors (R73). -/
def storedBytes (m : ModelC) : Nat := ((constOrder m).map (tensorBytes m)).foldl (· + ·) 0

/-- Bytes streamed: the tensors from the first that would exceed 24 MB on. -/
def streamedFrom : List Nat → Nat → Nat
  | [], _ => 0
  | b :: t, used => if 24 * 2 ^ 20 < used + b then b + t.foldl (· + ·) 0 else streamedFrom t (used + b)

/-- E of R82. -/
def streamedBytes (m : ModelC) : Nat := streamedFrom ((constOrder m).map (tensorBytes m)) 0

/-! ### Plates -/

/-- The region a plate's records name: where it is placed, or R63's region. -/
def plateRegion (s : State) (p : Nat) : Nat :=
  match (plateRun s p).place with
  | some (k, _) => k
  | none => p % regionCount s

/-- A plate becomes DEMOTED with its counts zeroed (R93); the record is written where it was PROMOTED, or forced. Cause: 1 guard, 2 host, 3 reset or move, 4 model change. -/
def demote (cause p : Nat) (s : State) : State :=
  let x := plateRun s p
  let s := setPlate p { x with st := if x.st = 2 then 1 else x.st, exc := 0, inband := 0 } s
  if x.st = 2 || cause = 2 then emit 0x0A44 (src 2 (plateRegion s p)) (aw p ++ aw x.resid.toNat ++ aw cause) s else s

/-- A plate's recurrent state is zeroed and its forecasts are discarded (R90, R94). -/
def zeroPlate (p : Nat) (s : State) : State :=
  let x := plateRun s p
  setPlate p { x with rstate := [], run := none, fcs := x.fcs.map (fun f => if f.st = 1 then { f with st := 3 } else f) } s

/-- Demotion by an event that also zeroes the recurrent state. -/
def demoteZero (cause p : Nat) (s : State) : State := demote cause p (zeroPlate p s)

/-- Every plate of the table. -/
def allPlates (s : State) : List Nat := (pat s).plates.map (·.plate)

/-- The warm hold of R100 begins: every plate DEMOTED, its recurrent state zeroed. A hold of 0 rounds holds nothing. -/
def warmStart (cause : Nat) (s : State) : State :=
  { (each (allPlates s) (demoteZero cause) s) with fc.warmHold := decide (0 < (pat s).bind.warmHold), fc.warmFrom := s.round }

/-- Bits of FC_DEGRADED (R105). -/
def degradedBits (s : State) : Nat :=
  b2n (s.fc.mdl.st == 5 || s.fc.mdl.fitDegraded) + 2 * b2n s.fc.unplaced + 4 * b2n (!s.fc.lostStacks.isEmpty) + 8 * b2n s.fc.warmHold

/-- Brings FC_DEGRADED up to date; FORECAST_DEGRADED is written as it is set and as it clears. -/
def updateDegraded (s : State) : State :=
  let old := s.fc.degraded
  let new := degradedBits s
  let s := { s with fc.degraded := new }
  if old = 0 && new != 0 then emit 0x0A42 srcSup (aw new) s
  else if old != 0 && new = 0 then emit 0x0A42 srcSup (aw 0) s true
  else s

/-! ### Placement (R63, R64) -/

/-- Plates per tile of the forecast mode (R63). -/
def tileCap (s : State) : Nat := if (pat s).bind.mode = 3 then 16 else 32

/-- Plates placed on a tile position, ascending. -/
def platesOn (s : State) (k t : Nat) : List Nat := (allPlates s).filter (fun p => (plateRun s p).place == some (k, t))

/-- Plates hosted by a region. -/
def hosted (s : State) (k : Nat) : List Nat := (allPlates s).filter (fun p => match (plateRun s p).place with | some (j, _) => j == k | none => false)

/-- A position has a serving tile in a region in service. -/
def tileUp (s : State) (k t : Nat) : Bool := (regSt s k).st == 2 && !(tileSt s k t).down && !(tileSt s k t).fresh

/-- Positions in service. -/
def tilesUp (s : State) (k : Nat) : List Nat := (List.range 24).filter (tileUp s k)

/-- Plates that a region's tiles in service host. -/
def hostedUp (s : State) (k : Nat) : List Nat :=
  (allPlates s).filter (fun p => match (plateRun s p).place with | some (j, t) => j == k && tileUp s k t | none => false)

/-- The tile that runs a waiting localisation (R223): the first in service of FC1, or failing that of the next region in service. -/
def locTile (s : State) : Option (Nat × Nat) :=
  ([1, 2, 3, 4, 5, 0].filter (· < regionCount s)).findSome? (fun k => (tilesUp s k).head?.map (fun t => (k, t)))

/-- A waiting localisation takes the slice of this tile ahead of the adapters (R223). -/
def locTakes (s : State) (k t : Nat) : Bool := !s.svf.locQueue.isEmpty && locTile s == some (k, t)

/-- Free plate places of a region (R63): the plates of a position without a tile, which wait to be moved, take none. -/
def regionFree (s : State) (k : Nat) : Nat := min ((tilesUp s k).length * tileCap s) 768 - (hostedUp s k).length

/-- The tile of a region that takes the next plate: the lowest number with free capacity. -/
def tileFor (s : State) (k : Nat) : Option Nat :=
  if regionFree s k = 0 then none else (tilesUp s k).find? (fun t => (platesOn s k t).length < tileCap s)

/-- Moves a plate under rules 2 and 3 (R64): demoted, its state zeroed, forecasting again one round later. -/
def movePlate (k t p : Nat) (s : State) : State :=
  let s := demoteZero 3 p s
  setPlate p { plateRun s p with place := some (k, t), noFcUntil := s.round + 1 } s

/-- Moves as many plates of a list as a region takes; the plates left. -/
def moveInto (k : Nat) : List Nat → State → List Nat × State
  | [], s => ([], s)
  | p :: l, s =>
    match tileFor s k with
    | some t => moveInto k l (movePlate k t p s)
    | none => (p :: l, s)

/-- The other region with the most free capacity, ties to the lowest number (R64 rule 3). -/
def roomiest (s : State) (k : Nat) : Option Nat :=
  ((List.range (regionCount s)).filter (fun j => j != k && (regSt s j).st == 2)).foldl (fun b j =>
    match b with
    | some i => if regionFree s i < regionFree s j then some j else b
    | none => if 0 < regionFree s j then some j else none) none

/-- A remap's record (R72) and its counters. -/
def remapped (k t rule target n : Nat) (s : State) : State :=
  setErr (fcRegErr k) 6 (emit 0x0A02 (src 2 k) (aw k ++ aw t ++ aw rule ++ aw target ++ aw n)
    { s with dg.cntRemap := satAdd 0xFFFFFFFF s.dg.cntRemap 1 })

/-- Rule 3 for plates of region `k`, one target region after another; the plates left. -/
def spread (k t : Nat) : Nat → List Nat → State → List Nat × State
  | 0, l, s => (l, s)
  | n + 1, l, s =>
    if l.isEmpty then (l, s)
    else
      match roomiest s k with
      | none => (l, s)
      | some j =>
        let (r, s) := moveInto j l s
        spread k t n r (remapped k t 3 j (l.length - r.length) s)

/-- Plates without a place stay on the fallback estimator (R64 rule 4). -/
def unplace (k : Nat) (l : List Nat) (s : State) : State :=
  match l with
  | [] => s
  | p :: _ =>
    let s := each l (fun q s => let s := demoteZero 3 q s; setPlate q { plateRun s q with place := none, fromReg := k } s) s
    setErr (fcRegErr k) 7 (emit 0x0A04 (src 2 k) (aw l.length ++ aw p) { s with fc.unplaced := true })

/-- A spare is free. -/
def spareFree (s : State) (i : Nat) : Bool := let x := tgetD s.fc.spares i {}; x.bound.isNone && !x.quar

/-- Free spares. -/
def sparesFree (s : State) : List Nat := (List.range 8).filter (spareFree s)

/-- The rules of R64 for one quarantined tile. -/
def remapTile (k t : Nat) (s : State) : State :=
  let x := tileSt s k t
  match (sparesFree s) with
  | i :: rest =>
    let s := setTile k t { x with phys := 144 + i, fresh := false, down := false, st := 1 } { s with fc.spares := tset s.fc.spares i { bound := some (k, t) } }
    let s := remapped k t 1 i (platesOn s k t).length s
    if rest.isEmpty then emit 0x0A03 srcSup (aq s.round) s else s
  | [] =>
    let s := setTile k t { x with fresh := false, down := true } s
    let l := platesOn s k t
    let (r, s) := moveInto k l s
    let s := if r.length < l.length then remapped k t 2 k (l.length - r.length) s else s
    let (r, s) := spread k t (regionCount s) r s
    unplace k r s

/-- Serves every fresh quarantine in order of region, then tile, as if the tiles had failed one after another (R65): one not yet served counts as in service. -/
def remapAll (s : State) : State :=
  let fresh := (List.range (regionCount s)).flatMap (fun k => ((List.range 24).filter (fun t => (tileSt s k t).fresh)).map (fun t => (k, t)))
  let s := each fresh (fun (e : Nat × Nat) s => setTile e.1 e.2 { tileSt s e.1 e.2 with fresh := false } s) s
  each fresh (fun (e : Nat × Nat) s => remapTile e.1 e.2 s) s

/-- The plates of an offline region are placed by rule 3 (R69). TILE_REMAPPED names tile position 0 there (DESIGN CHOICE: no one tile is meant). -/
def displace (k : Nat) (s : State) : State :=
  if (regSt s k).move then
    let l := hosted s k
    let s := setReg k { regSt s k with move := false, out := l.map (fun p => (p, ((plateRun s p).place.getD (k, 0)).2)) } s
    let (r, s) := spread k 0 (regionCount s) l s
    unplace k r s
  else s

/-- Owner code index of a tile party (R334). -/
def tileParty (k t : Nat) : Party := .tile (k * 24 + t)

/-- Plates lose the rollout of the round and use the fallback estimator in it (R26, R64, R69). -/
def toFallback (l : List Nat) (s : State) : State := each l (fun p s => setPlate p { plateRun s p with run := none, fallback := true } s) s

/-- A tile position loses its tile (R60, R62). -/
def tileQuarantine (k t cause : Nat) (s : State) : State :=
  let x := tileSt s k t
  if x.down || x.fresh || regionCount s ≤ k || 24 ≤ t then s
  else
    let s := if 144 ≤ x.phys then { s with fc.spares := tset s.fc.spares (x.phys - 144) { quar := true, home := some k } } else s
    let s := toFallback (platesOn s k t) s
    let s := setTile k t { x with st := 5, fresh := true, quar := x.quar || x.phys < 144, err := Nat.lor x.err 4 } s
    let s := setErr (fcRegErr k) 2 (emit 0x0A01 (src 1 x.phys) (aw k ++ aw t ++ aw x.phys ++ aw cause) (countQuar s))
    settleMsgs (dropOwner 1 (tileParty k t) s)

/-- The position that a physical tile serves. -/
def posOfPhys (s : State) (ph : Nat) : Option (Nat × Nat) :=
  ((List.range (regionCount s)).flatMap (fun k => (List.range 24).map (fun t => (k, t)))).find? (fun e =>
    (tileSt s e.1 e.2).phys == ph && (regSt s e.1).st != 0 && !(tileSt s e.1 e.2).down)

/-! ### Shedding (R424, R428) -/

/-- Every tile is shed; tile-owned counters are dropped, and plates use the fallback estimator. -/
def shedTiles (s : State) : State :=
  let s := { s with
    fc.plates := tmap s.fc.plates (fun x => { x with run := none, fallback := true })
    fc.regions := tmap s.fc.regions (fun r => { r with tiles := tmap r.tiles (fun x => if x.down || x.fresh then x else { x with st := 7 }) }) }
  settleMsgs (dropOwners 1 isTile s)

/-- Shed tiles return: recurrent state zeroed, the warm hold applies. -/
def unshedTiles (s : State) : State :=
  let s := { s with fc.regions := tmap s.fc.regions (fun r => { r with tiles := tmap r.tiles (fun x => if x.st = 7 then { x with st := 1 } else x) }) }
  updateDegraded (warmStart 3 s)

/-- The state of the tiles that work in the round (R41, R71): 1 IDLE, 2 FORECAST, 3 SPIN. -/
def tilesWork (st : Nat) (s : State) : State :=
  { s with fc.regions := tmap s.fc.regions (fun r => { r with tiles := tmap r.tiles (fun x =>
    if x.down || x.fresh || x.st = 0 || 4 < x.st then x else { x with st := st }) }) }

/-- The array is gated: stage 2, or WARM standby (R424). -/
def arrayGated (s : State) : Bool := s.pwr.shed == 2 || (s.glb.role == .standby && modeNow s == 2)

/-! ### Regions (R69, R70) -/

/-- A region goes offline: causes 1 store parity, 2 crossbar port, 3 region reset. -/
def regionOffline (k cause : Nat) (s : State) : State :=
  let x := regSt s k
  if x.st = 3 || x.st = 4 || regionCount s ≤ k then s
  else
    let n := (hosted s k).length
    let s := toFallback (hosted s k) s
    let s := setReg k { x with st := 3, move := true, tiles := tmap x.tiles (fun t => if t.down || t.fresh then { t with down := true, fresh := false } else { t with st := 0 }) } s
    let s := setErr (fcRegErr k) 5 (emit 0x0A08 (src 2 k) (aw k ++ aw cause ++ aw n) s)
    settleMsgs (dropOwners 1 (fun p => match p with | .tile i => i / 24 == k | _ => false) s)

/-- This is the last region in SERVICE. -/
def lastRegion (s : State) (k : Nat) : Bool := (List.range (regionCount s)).all (fun j => j == k || (regSt s j).st != 2)

/-- A region reset begins (R70): its status and error registers clear (R426). -/
def regionResetOp (k : Nat) (s : State) : State :=
  let x := regSt s k
  if x.st = 4 || regionCount s ≤ k || (drives s && x.st = 2 && lastRegion s k) then s
  else
    let s := regionOffline k 3 s
    let x := regSt s k
    let s := setReg k { x with st := 4, ce := 0, ue := 0, cell := 0, resend := 0, tiles := tmap x.tiles (fun t => { t with st := 6, err := 0, cell := 0, resend := 0 }) } s
    emit 0x010B (src 2 k) (aw k ++ aw 1) { s with errs := tdel s.errs (fcRegErr k) }

/-- R63's place of a plate. -/
def homePlace (s : State) (p : Nat) : Nat × Nat := (p % regionCount s, p / regionCount s % 24)

/-- The spare `i` serves in its region and passes its self-test: it is not quarantined. -/
def spareSound (s : State) (failed : List Nat) (i : Nat) : Bool := !(tgetD s.fc.spares i {}).quar && !failed.contains (144 + i)

/-- A spare is bound at a position and serves it; one that was quarantined or released there no longer does, whatever the position still names. -/
def spareServes (s : State) (k t phys : Nat) : Bool := 144 ≤ phys && (tgetD s.fc.spares (phys - 144) {}).bound == some (k, t)

/-- The spare bound at a position is released, or quarantined where it fails its self-test; one quarantined before keeps its entry. -/
def spareLeaves (k t : Nat) (failed : List Nat) (phys : Nat) (s : State) : State :=
  if !spareServes s k t phys || (tgetD s.fc.spares (phys - 144) {}).quar then s
  else if failed.contains phys then { (countQuar s) with fc.spares := tset s.fc.spares (phys - 144) { quar := true, home := some k } }
  else { s with fc.spares := tset s.fc.spares (phys - 144) {} }

/-- A tile after a region's self-test (R66): a tile that passes returns to its position and frees the spare bound there; a tile that fails stays quarantined, its position on the spare that serves it, or served by R64 again where there is no sound one. -/
def selftestTile (k : Nat) (failed : List Nat) (t : Nat) (s : State) : State :=
  let x := tileSt s k t
  if failed.contains t then
    if x.quar then
      if spareServes s k t x.phys && spareSound s failed (x.phys - 144) then setTile k t { x with st := 1, down := false, fresh := false } s
      else setTile k t { x with st := 5, down := false, fresh := true } (spareLeaves k t failed x.phys s)
    else tileQuarantine k t 3 (setTile k t { x with st := 1, down := false, fresh := false, phys := 24 * k + t } s)
  else
    setTile k t { x with phys := 24 * k + t, st := 1, quar := false, fresh := false, down := false } (spareLeaves k t failed x.phys s)

/-- Spares bound in a region. -/
def sparesIn (s : State) (k : Nat) : Nat := ((List.range 8).filter (fun i => match (tgetD s.fc.spares i {}).bound with | some (j, _) => j == k | none => false)).length

/-- A spare quarantined in a region is tested with the region's tiles, and returns to the pool where it passes (R65, R66). -/
def selftestSpare (k : Nat) (failed : List Nat) (i : Nat) (s : State) : State :=
  let x := tgetD s.fc.spares i {}
  if x.quar && x.home == some k && !failed.contains (144 + i) then { s with fc.spares := tset s.fc.spares i {} } else s

/-- Size of the resident base model in KB: at most 24 MB are resident, what is streamed is not (R43, R82). -/
def modelKbOf (m : Option ModelC) : Nat :=
  match m with
  | some c => (storedBytes c - streamedBytes c + 1023) / 1024
  | none => 0

/-- A plate moved out under R69 returns (R70) to the position it had (DESIGN CHOICE: no rule says which); no other region asks for it any more. -/
def plateBack (k : Nat) (e : Nat × Nat) (s : State) : State :=
  if (allPlates s).contains e.1 then
    let s := { s with fc.regions := tmap s.fc.regions (fun r => { r with out := r.out.filter (fun o => o.1 != e.1) }) }
    let s := demoteZero 3 e.1 s
    setPlate e.1 { plateRun s e.1 with place := some (k, e.2) } s
  else s

/-- A reset region returns to service (R70). `failed`: tile positions, 144 + i for spare i, and 152 for the region store, that fail their self-test; with a bad store the region stays offline. -/
def regionBack (k : Nat) (failed : List Nat) (s : State) : State :=
  if failed.contains 152 then
    setErr (fcRegErr k) 5 (emit 0x0A08 (src 2 k) (aw k ++ aw 1 ++ aw (hosted s k).length) (setReg k { regSt s k with st := 3 } s))
  else
    let old := sparesIn s k
    let mine := (regSt s k).out ++ (hosted s k).map (fun p => (p, ((plateRun s p).place.getD (k, 0)).2))
    let s := setReg k { regSt s k with st := 2, move := false, modelKb := modelKbOf s.fc.mdl.active } s
    let s := each (List.range 8) (selftestSpare k failed) (each (List.range 24) (selftestTile k failed) s)
    let s := each mine (plateBack k) s
    let s := { s with fc.unplaced := (allPlates s).any (fun p => (plateRun s p).place.isNone) }
    emit 0x0A0A (src 2 k) (aw k ++ aw (tilesUp s k).length ++ aw (old - sparesIn s k)) s

/-! ### Stack loss (R67) -/

/-- Bytes with a range taken as zero. -/
def zeroRange (bs : Bytes) (o n : Nat) : Bytes := bs.take o ++ List.replicate n 0#8 ++ bs.drop (o + n)

/-- Offset of a container's SIGNATURE section, by its directory (R74). -/
def sigOff (raw : Bytes) : Nat :=
  match (List.range (min 16 (fld raw 0x12 2))).find? (fun i => fld raw (0x100 + 32 * i) 2 = 0xFF) with
  | some i => fld raw (0x108 + 32 * i) 8
  | none => 0

/-- The model digest of R75. -/
def modelDigest (raw : Bytes) : Bytes := shake256 (zeroRange (raw.take (sigOff raw)) 0x20 64)

/-- The container that the loader held passes its digest check (R67, R75). -/
def heldOk (s : State) : Bool :=
  match s.fc.mdl.active, s.fc.held with
  | some m, some h => modelDigest h == m.digest
  | _, _ => false

/-- The interleave is re-formed at a round boundary: striped contents are discarded, the container is written back as two copies, the base model is reloaded, every plate is demoted. Adapters are zero until the partner's mirror brings them. A container that fails its digest check is lost (DEDUCED). -/
def reformStacks (s : State) : State :=
  if s.fc.reform then
    let m := if heldOk s then s.fc.mdl.active else none
    let s := { s with
      mem := memClear s.mem hbmBase (hbmBase + regionCount s * 0x1000000000)
      fc.reform := false
      fc.laidOut := s.fc.lostStacks
      fc.held := none
      fc.adLost := if hasPartner s then allPlates s else []
      ev.hbm := []
      ev.hbmOk := true
      ev.hbmCap := 16777216 * workingStacks s / regionCount s
      fc.mdl := if m.isSome then { s.fc.mdl with prev := none } else { lastCheck := s.fc.mdl.lastCheck, cmd := s.fc.mdl.cmd }
      fc.plates := tmap s.fc.plates (fun x => { x with hist := [], meas := [] })
      fc.regions := tmap s.fc.regions (fun r => { r with modelKb := modelKbOf m }) }
    let s := match m with
      | some c => putCopies c 0 s
      | none => s
    each (allPlates s) (demoteZero 3) s
  else s

end Sys2Proof.Machine
end

