-- ==== Sys2Proof/Machine/Graph.lean ====
section
/-! DEFINITION. Tensors and the operators of a plate model (R44 to R56, R76 to R80): one rollout step of a graph, bit for bit. The spec gives no layout of the attribute area and of the TABLES section: attributes and tables come from Config. -/

namespace Sys2Proof.Machine

/-- Bits of FC_FMT_STAT (R71). -/
def fxOverflow : Nat := 1
def fxAccSat : Nat := 2
def fxIntSat : Nat := 4
def fxInvalid : Nat := 8
def fxMxNan : Nat := 16
def fxScale : Nat := 32
def fxSrSat : Nat := 64

/-! ### Tensors (R44 to R49) -/


/-- Element format of an MX tensor in the numbering of `mxElem`. -/
def mxKind (f : Nat) : Nat := f - 6

/-- The floating format of a number 1 to 5. -/
def fmtOf (f : Nat) : Fmt := if f = 1 then fmtFP32 else if f = 2 then fmtBF16 else if f = 3 then fmtFP16 else if f = 4 then fmtE4M3 else fmtE5M2

/-- A per-tensor scale is valid: positive, finite, normal (R47). -/
def scaleOk (s : F32) : Bool := !s.getLsbD 31 && 0x00800000 ≤ s.toNat && s.toNat < 0x7F800000

/-- Length of the last axis, padded to 32 for MX (R48). -/
def lastDim (dims : List Nat) : Nat := max 1 (dims.getLast?.getD 1)

/-- Number of elements. -/
def numel (dims : List Nat) : Nat := dims.foldl (· * ·) 1

/-- Blocks along the last axis of an MX tensor. -/
def blocksPer (dims : List Nat) : Nat := (lastDim dims + 31) / 32

/-- The block that element `i` of an MX tensor lies in (R48). -/
def blockOf (t : TVal) (i : Nat) : Nat := i / lastDim t.dims * blocksPer t.dims + i % lastDim t.dims / 32

/-- The exact value of element `i`, without the per-tensor scale; MX elements with their block's scale. -/
def elemRaw (t : TVal) (i : Nat) : FV :=
  let c := nth t.codes i 0
  if isMx t.fmt then mxVal (mxKind t.fmt) (nth t.mx (blockOf t i) 0) c
  else if t.fmt = 10 then FV.ofInt (sgn 8 c)
  else if t.fmt = 11 then let q := sgn 16 c; .fin (decide (q < 0)) q.natAbs (-15)
  else decF (fmtOf t.fmt) c

/-- The value of element `i` as FP32 (R78), with the overflow of its scale. -/
def elemX (t : TVal) (i : Nat) : FX :=
  if isScaled t.fmt then x32 ((elemRaw t i).mul (f32v t.scale)) else x32 (elemRaw t i)

/-- The value of element `i` as FP32. -/
def elem32 (t : TVal) (i : Nat) : F32 := (elemX t i).1

/-- All values as FP32. -/
def valsX (t : TVal) : List FX := (List.range (numel t.dims)).map (elemX t)

/-- Conversion of one FP32 value to a format that is not MX (R51, R52), with the exceptions it sets. A per-tensor scale divides first, in FP32 (DESIGN CHOICE: R47 and R56 do not say how it enters). -/
def encElem (f : Nat) (s : F32) (v : F32) : Nat × Nat :=
  let w := f32v (if isScaled f then fdiv v s else v)
  if f = 10 then
    match w with
    | .nan => (0, fxInvalid)
    | .inf n => (if n then 0x81 else 0x7F, 0)
    | .fin n m e => let k : Int := (rneAt m e 0 : Nat); let q := if n then -k else k
                    (twos 8 (clampI (-127) 127 q), if 127 < k then fxIntSat else 0)
  else if f = 11 then
    match w with
    | .nan => (0, fxInvalid)
    | .inf n => (if n then 0x8000 else 0x7FFF, 0)
    | .fin n m e => let k : Int := (rneAt m e (-15) : Nat); let q := if n then -k else k
                    (twos 16 (sat16 q), if sat16 q = q then 0 else fxIntSat)
  else
    let (c, o) := encF (fmtOf f) w
    (c, if o then fxOverflow else 0)

/-- One MX row: its blocks' scale bytes, its element codes, the exceptions (R49). -/
def encRow (k : Nat) : Nat → List F32 → List Nat × List Nat × Nat
  | 0, _ => ([], [], 0)
  | n + 1, vs =>
    let b := vs.take 32
    let (e, cs, bad) := mxBlock k (b.map f32v)
    let (es, ds, x) := encRow k n (vs.drop 32)
    (e :: es, cs ++ ds, Nat.lor bad x)

/-- A tensor of a descriptor's format and dimensions from FP32 values. -/
def encTensor (r : TensorRec) (vs : List F32) : TVal × Nat :=
  if isMx r.fmt then
    let l := lastDim r.dims
    let rows := (List.range (numel r.dims / l)).map (fun i => encRow (mxKind r.fmt) (blocksPer r.dims) ((vs.drop (i * l)).take l))
    ({ fmt := r.fmt, dims := r.dims, scale := r.scale, codes := rows.flatMap (fun x => x.2.1), mx := rows.flatMap (fun x => x.1) },
      rows.foldl (fun a x => Nat.lor a x.2.2) 0)
  else
    let cs := vs.map (encElem r.fmt r.scale)
    ({ fmt := r.fmt, dims := r.dims, scale := r.scale, codes := cs.map (·.1) }, cs.foldl (fun a c => Nat.lor a c.2) 0)

/-- A tensor from the results of an operator, an overflow in FP32 among the exceptions (R51). -/
def encTensorX (r : TensorRec) (vs : List FX) : TVal × Nat :=
  let (t, f) := encTensor r (vs.map (·.1))
  (t, if vs.any (·.2) then Nat.lor f fxOverflow else f)

/-- Bytes a code of a format takes, for the formats of whole bytes. -/
def codeBytes (f : Nat) : Nat := if f = 1 then 4 else if f = 2 || f = 3 || f = 11 then 2 else 1

/-- Element codes packed in memory (chapter 02, packing table). -/
def unpackCodes (f n : Nat) (bs : Bytes) : List Nat :=
  (List.range n).map (fun i =>
    if f = 8 then bits (byteAt bs (i / 2)) (4 * (i % 2)) 4
    else if f = 6 || f = 7 then bits (fld bs (i / 4 * 3) 3) (6 * (i % 4)) 6
    else fld bs (i * codeBytes f) (codeBytes f))

/-- The codes of a tensor's elements. An MX tensor is stored in whole blocks: each row is padded to a multiple of 32 elements (R48). -/
def storedCodes (f : Nat) (dims : List Nat) (bs : Bytes) : List Nat :=
  if isMx f then
    let w := blocksPer dims * 32
    let l := lastDim dims
    let rows := numel dims / l
    let cs := unpackCodes f (rows * w) bs
    (List.range rows).flatMap (fun i => (cs.drop (i * w)).take l)
  else unpackCodes f (numel dims) bs

/-- A constant tensor of a container (R76). -/
def constTensor (m : ModelC) (r : TensorRec) : TVal :=
  let raw (x : TensorRec) : List Nat := storedCodes x.fmt x.dims ((m.data.drop x.off).take x.len)
  let mx := if isMx r.fmt then
      match m.tensors[r.scaleId]? with
      | some x => raw x
      | none => []
    else []
  { fmt := r.fmt, dims := r.dims, scale := r.scale, codes := raw r, mx := mx }

/-! ### Dot products (R53 to R56) -/

/-- The accumulation class of a pair of formats: 0 fused FP32, 1 exact products in FP32, 2 INT8, 3 MX, 4 Q15. A pair that no row of R53 has runs as fused FP32 (DESIGN CHOICE). -/
def dotClass (a b : Nat) : Nat :=
  if a = 10 && b = 10 then 2
  else if a = 11 && b = 11 then 4
  else if isMx a && isMx b then 3
  else if 2 ≤ a && a ≤ 5 && 2 ≤ b && b ≤ 5 then 1
  else 0

/-- FP32 accumulation over pairs of values (R53). -/
def dotF (acc : FX) (l : List (FV × FV)) : FX :=
  l.foldl (fun c p => let r := x32 ((p.1.mul p.2).add (f32v c.1)); (r.1, c.2 || r.2)) acc

/-- INT32 accumulation with saturation. -/
def dotI (acc : Int) (l : List (Int × Int)) : Int × Nat :=
  l.foldl (fun s p =>
    let x := s.1 + p.1 * p.2
    let y := clampI (-(2 ^ 31)) (2 ^ 31 - 1) x
    (y, if x = y then s.2 else Nat.lor s.2 fxIntSat)) (acc, 0)

/-- Q8.31 accumulation (R55). -/
def dotQ (acc : Int) (l : List (Int × Int)) : Int × Nat :=
  l.foldl (fun s p =>
    let x := s.1 + p.1 * p.2 * 2
    let y := sat40 x
    (y, if x = y then s.2 else Nat.lor s.2 fxAccSat)) (acc, 0)

/-- One MX block term (R54): the exact sum of products in units of 2^-12, scaled, one rounding. -/
def mxTerm (ka kb sa sb : Nat) (l : List (Nat × Nat)) : FX :=
  if sa = 0xFF || sb = 0xFF then xk 0x7FC00000#32
  else
    let x := l.foldl (fun (s : FV) p => s.add ((mxElem ka p.1).mul (mxElem kb p.2))) (.fin false 0 (-12))
    x32 (fvScale x (254 - (sa : Int) - (sb : Int)))

/-- Index pairs cut into runs that lie in one block of each operand (R54): each pair of blocks contributes one term. -/
def blockRuns (a b : TVal) : List (Nat × Nat) → List (List (Nat × Nat))
  | [] => []
  | p :: t =>
    match blockRuns a b t with
    | (q :: g) :: gs => if blockOf a q.1 = blockOf a p.1 && blockOf b q.2 = blockOf b p.2 then (p :: q :: g) :: gs else [p] :: (q :: g) :: gs
    | gs => [p] :: gs

/-- The bias of an INT32 or Q8.31 accumulator (R53): a code of the operands' own format as it is (INT8) or aligned (Q15), any other bias by its value, rounded to the accumulator's unit and saturated (DESIGN CHOICE: R53 gives no scale to a bias). -/
def biasInt (cls : Nat) (bias : Option (TVal × Nat)) : Int × Nat :=
  match bias with
  | none => (0, 0)
  | some (t, j) =>
    if cls = 2 && t.fmt = 10 then (sgn 8 (nth t.codes j 0), 0)
    else if cls = 4 && t.fmt = 11 then (sgn 16 (nth t.codes j 0) * 65536, 0)
    else
      let lo : Int := if cls = 2 then -(2 ^ 31) else -(2 ^ 39)
      let sat := if cls = 2 then fxIntSat else fxAccSat
      match f32v (elem32 t j) with
      | .nan => (0, fxInvalid)
      | .inf n => (if n then lo else -lo - 1, sat)
      | v =>
        let x := (fvScale v (if cls = 2 then 0 else -31)).toInt.getD 0
        let y := clampI lo (-lo - 1) x
        (y, if x = y then 0 else sat)

/-- The value left by a dot product in FP32 before output conversion, or a Q15 code: index pairs of `a` and `b`. The accumulator's first +0 counts as a term of R56's zero sum (DESIGN CHOICE). -/
def dot (a b : TVal) (ia ib : List Nat) (bias : Option (TVal × Nat)) : F32 × Option Int × Nat :=
  let ps := ia.zip ib
  let cls := dotClass a.fmt b.fmt
  let b32 : FX := match bias with | some (t, j) => elemX t j | none => xk fzero
  let sab := xmul (xk (if isScaled a.fmt then a.scale else 0x3F800000#32)) (xk (if isScaled b.fmt then b.scale else 0x3F800000#32))
  let scaled := isScaled a.fmt || isScaled b.fmt
  let out (r : FX) (f : Nat) : F32 × Option Int × Nat := (r.1, none, if r.2 then Nat.lor f fxOverflow else f)
  if cls = 2 then
    let (b0, g) := biasInt cls bias
    let (x, f) := dotI b0 (ps.map (fun p => (sgn 8 (nth a.codes p.1 0), sgn 8 (nth b.codes p.2 0))))
    out (xmul (xk (fofInt x)) sab) (Nat.lor f g)
  else if cls = 4 then
    let (b0, g) := biasInt cls bias
    let (x, f) := dotQ b0 (ps.map (fun p => (sgn 16 (nth a.codes p.1 0), sgn 16 (nth b.codes p.2 0))))
    (fzero, some x, Nat.lor f g)
  else if cls = 3 then
    out ((blockRuns a b ps).foldl (fun c q =>
      match q with
      | [] => c
      | p :: _ =>
        xadd c (mxTerm (mxKind a.fmt) (mxKind b.fmt) (nth a.mx (blockOf a p.1) 0) (nth b.mx (blockOf b p.2) 0)
          (q.map (fun p => (nth a.codes p.1 0, nth b.codes p.2 0))))) b32) 0
  else
    let acc := dotF b32 (ps.map (fun p => (elemRaw a p.1, elemRaw b p.2)))
    out (if scaled then xmul acc sab else acc) 0

/-- Output of dot products in a tensor's format (R55, R56). -/
def encDots (r : TensorRec) (l : List (F32 × Option Int × Nat)) : TVal × Nat :=
  let f := l.foldl (fun a x => Nat.lor a x.2.2) 0
  if r.fmt = 11 && l.all (fun x => x.2.1.isSome) then
    let q (x : F32 × Option Int × Nat) : Int := rneInt (x.2.1.getD 0) 16
    ({ fmt := 11, dims := r.dims, codes := l.map (fun x => twos 16 (sat16 (q x))) }, Nat.lor f (if l.all (fun x => sat16 (q x) == q x) then 0 else fxIntSat))
  else
    let (t, g) := encTensor r (l.map (fun x => match x.2.1 with | some a => fdiv (fofInt a) (fofNat (2 ^ 31)) | none => x.1))
    (t, Nat.lor f g)

/-! ### Operators (R77 to R79) -/

/-- What the operators of one plate read beside tensors: the container, the adapter, the input values of BINDING_READ. -/
structure OpEnv where
  m : ModelC
  adapter : Bytes := []
  inputs : Nat → List F32 := fun _ => []

/-- A tensor's value in a table of activations, constants from the container, model inputs from their bindings with the exceptions of their conversion, zero where nothing was written. -/
def tensorOf (e : OpEnv) (vs : Tab TVal) (id : Nat) : TVal × Nat :=
  match tget vs id with
  | some t => (t, 0)
  | none =>
    match e.m.tensors[id]? with
    | some r =>
      if r.kind = 0 then (constTensor e.m r, 0)
      else if r.kind = 3 then encTensor r (e.inputs id)
      else ({ fmt := r.fmt, dims := r.dims, scale := r.scale, codes := List.replicate (numel r.dims) 0, mx := if isMx r.fmt then List.replicate (numel r.dims / lastDim r.dims * blocksPer r.dims) 0 else [] }, 0)
    | none => ({}, 0)

/-- TABLE of R78 on one value. -/
def tableEval (t : F32 × F32 × F32 × List F32) (x : FX) : FX :=
  let (lo, hi, inv, y) := t
  let n := y.length - 1
  let at_ (i : Nat) : FX := (nth y i fzero, x.2)
  if f32v x.1 = .nan then (0x7FC00000#32, x.2)
  else if fle x.1 lo then at_ 0
  else if fle hi x.1 then at_ n
  else
    let u := xmul (xsub x (xk lo)) (xk inv)
    let i := min (f32v u.1).trunc.toNat (n - 1)
    let f := xsub u (xk (fofNat i))
    xfma f (xsub (at_ (i + 1)) (at_ i)) (at_ i)

/-- Row `i` of a matrix with rows of `k` elements. -/
def rowIdx (k i : Nat) : List Nat := (List.range k).map (· + i * k)

/-- MATMUL: y[i, j] is the dot product of row i of x and row j of w (DESIGN CHOICE: w is m × k, as A and B of R79). -/
def opMatmul (x w : TVal) (b : Option TVal) : List (F32 × Option Int × Nat) :=
  let k := lastDim x.dims
  let m := numel w.dims / lastDim w.dims
  (List.range (numel x.dims / k)).flatMap (fun i => (List.range m).map (fun j => dot x w (rowIdx k i) (rowIdx k j) (b.map (fun t => (t, j)))))

/-- CONV1D, causal: x is T × C, w is M × (kernel × C); positions before the first contribute nothing (DESIGN CHOICE). -/
def opConv (x w : TVal) (b : Option TVal) : List (F32 × Option Int × Nat) :=
  let c := lastDim x.dims
  let kc := lastDim w.dims
  let kn := kc / c
  (List.range (numel x.dims / c)).flatMap (fun t => (List.range (numel w.dims / kc)).map (fun j =>
    let ks := (List.range kn).filter (fun q => kn ≤ t + 1 + q)
    dot x w (ks.flatMap (fun q => rowIdx c (t + 1 + q - kn))) (ks.flatMap (fun q => (List.range c).map (fun i => j * kc + q * c + i))) (b.map (fun v => (v, j)))))

/-- Reduces the last axis of FP32 values in ascending index order. -/
def rowsOf (k : Nat) (vs : List FX) : List (List FX) := parts (max 1 k) vs

/-- Mean of a row. -/
def rowMean (l : List FX) : FX := xdiv (l.foldl xadd (xk fzero)) (xk (fofNat (max 1 l.length)))

/-- RMSNORM (kind 0) or LAYERNORM (kind 1) of one row. -/
def normRow (kind : Nat) (eps : F32) (l : List FX) : List FX :=
  let d := if kind = 1 then let m := rowMean l; l.map (fun x => xsub x m) else l
  let q := xsqrt (xadd (rowMean (d.map (fun x => xmul x x))) (xk eps))
  d.map (fun x => xdiv x q)

/-- The maximum of values: a NaN that is not first loses every comparison (DESIGN CHOICE: R78 says nothing of a NaN there). -/
def maxX (l : List FX) : FX := l.foldl (fun a b => (fmax a.1 b.1, a.2 || b.2)) (nth l 0 (xk fzero))

/-- SOFTMAX of one row (R78). -/
def softRow (t : F32 × F32 × F32 × List F32) (l : List FX) : List FX :=
  let m := maxX l
  let es := l.map (fun x => tableEval t (xsub x m))
  let s := es.foldl xadd (xk fzero)
  es.map (fun e => xdiv e s)

/-- Elements along axis `ax` of dims: outer count, length, inner count. -/
def axisOf (dims : List Nat) (ax : Nat) : Nat × Nat × Nat := (numel (dims.take ax), max 1 (nth dims ax 1), numel (dims.drop (ax + 1)))

/-- Reduction SUM (0) or MAX (1) on one axis. -/
def opReduce (kind ax : Nat) (x : TVal) : List FX :=
  let (o, n, i) := axisOf x.dims ax
  (List.range o).flatMap (fun a => (List.range i).map (fun b =>
    let l := (List.range n).map (fun j => elemX x ((a * n + j) * i + b))
    if kind = 1 then maxX l else l.foldl xadd (xk fzero)))

/-- CONCAT of tensors on an axis. -/
def opConcat (ax : Nat) (xs : List TVal) : List FX :=
  match xs with
  | [] => []
  | x :: _ =>
    let (o, _, i) := axisOf x.dims ax
    (List.range o).flatMap (fun a => xs.flatMap (fun t => let n := max 1 (nth t.dims ax 1); (List.range (n * i)).map (fun j => elemX t (a * n * i + j))))

/-- SLICE of `len` positions from `start` on an axis. -/
def opSlice (ax start len : Nat) (x : TVal) : List FX :=
  let (o, n, i) := axisOf x.dims ax
  (List.range o).flatMap (fun a => (List.range (len * i)).map (fun j => elemX x ((a * n + start) * i + j)))

/-- BF16 value `i` of an adapter factor at a byte offset. -/
def adapterVal (e : OpEnv) (off i : Nat) : FV := decF fmtBF16 (fld e.adapter (off + 2 * i) 2)

/-- LOWRANK: y + α × B(A x) (R79); the input's per-tensor scale is applied after accumulation (R56). -/
def opLowrank (e : OpEnv) (opIdx : Nat) (alpha : F32) (x y : TVal) : List FX :=
  match e.m.schema.find? (fun s => s.op == opIdx) with
  | none => valsX y
  | some sc =>
    let k := lastDim x.dims
    let m := lastDim y.dims
    (List.range (numel x.dims / k)).flatMap (fun i =>
      let xs := (rowIdx k i).map (elemRaw x)
      let ax := (List.range sc.rank).map (fun r =>
        let a := dotF (xk fzero) (xs.zip ((List.range k).map (fun j => adapterVal e sc.aOff (r * k + j))))
        if isScaled x.fmt then xmul a (xk x.scale) else a)
      (List.range m).map (fun j =>
        let b := dotF (fzero, ax.any (·.2)) (((List.range sc.rank).map (fun r => adapterVal e sc.bOff (j * sc.rank + r))).zip (ax.map (fun v => f32v v.1)))
        xadd (elemX y (i * m + j)) (xmul (xk alpha) b)))

/-- The FP32 result of an operator other than MATMUL and CONV1D (R78). CLAMP of a NaN gives the lower bound (DESIGN CHOICE: R78 says nothing of a NaN there). -/
def opValues (e : OpEnv) (idx : Nat) (o : OpRec) (r : TensorRec) (xs : List TVal) : List FX :=
  let x : TVal := nth xs 0 {}
  let y : TVal := nth xs 1 {}
  let z : TVal := nth xs 2 {}
  let n (i : Nat) : Nat := Config.attrNat o.opcode o.attr i
  let fa (i : Nat) : F32 := Config.attrF32 o.opcode o.attr i
  let bc (t : TVal) (i : Nat) : FX := elemX t (i % max 1 (numel t.dims))
  let ix := List.range (numel x.dims)
  if o.opcode = 3 then ix.map (fun i => if n 0 = 0 then xadd (elemX x i) (bc y i) else if n 0 = 1 then xsub (elemX x i) (bc y i) else xmul (elemX x i) (bc y i))
  else if o.opcode = 4 then ix.map (fun i => xadd (xmul (bc y (i % lastDim x.dims)) (elemX x i)) (bc z (i % lastDim x.dims)))
  else if o.opcode = 5 then (valsX x).map (tableEval (Config.tableAt e.m.tables (n 0)))
  else if o.opcode = 6 then (valsX x).map (fun v => (fmin (fa 1) (fmax (fa 0) v.1), v.2))
  else if o.opcode = 7 then opReduce (n 0) (n 1) x
  else if o.opcode = 8 then (rowsOf (lastDim x.dims) (valsX x)).flatMap (softRow (Config.tableAt e.m.tables (n 0)))
  else if o.opcode = 9 then (rowsOf (lastDim x.dims) (valsX x)).flatMap (normRow (n 0) (fa 0))
  else if o.opcode = 10 then (if n 0 = 0 then opConcat (n 1) xs else if n 0 = 1 then opSlice (n 1) (n 2) (nth r.dims (n 1) 1) x else valsX x)
  else if o.opcode = 12 then opLowrank e idx (fa 0) x y
  else if o.opcode = 14 && (xs.isEmpty || r.kind = 3) then (e.inputs o.out).map xk
  else valsX x

/-- Runs one operator: the table with its output, the exceptions. An output descriptor with an invalid scale stops it (R47). -/
def runOp (e : OpEnv) (s : Tab TVal × Nat) (o : Nat × OpRec) : Tab TVal × Nat :=
  match e.m.tensors[o.2.out]? with
  | none => s
  | some r =>
    let ts := o.2.inputs.map (tensorOf e s.1)
    let xs := ts.map (·.1)
    if (isScaled r.fmt && !scaleOk r.scale) || xs.any (fun t => isScaled t.fmt && !scaleOk t.scale) then (s.1, Nat.lor s.2 fxScale)
    else
      let fin := ts.foldl (fun a t => Nat.lor a t.2) s.2
      let x : TVal := nth xs 0 {}
      let (t, f) :=
        if o.2.opcode = 1 then encDots r (opMatmul x (nth xs 1 {}) xs[2]?)
        else if o.2.opcode = 2 then encDots r (opConv x (nth xs 1 {}) xs[2]?)
        else encTensorX r (opValues e o.1 o.2 r xs)
      (tset s.1 o.2.out t, Nat.lor fin f)

/-- One rollout step: the operators in record order (R76). Recurrent-state tensors keep their values from step to step. -/
def runStep (e : OpEnv) (rstate : Tab TVal) : Tab TVal × Nat :=
  ((List.range e.m.ops.length).zip e.m.ops).foldl (runOp e) (rstate, 0)

/-- The recurrent-state tensors of a table of activations (R76 kind 2). -/
def statesOf (m : ModelC) (vs : Tab TVal) : Tab TVal :=
  vs.filter (fun v => match m.tensors[v.1]? with | some r => r.kind == 2 | none => false)

end Sys2Proof.Machine
end

