-- ==== Sys2Proof/Machine/FieldBus.lean ====
section
/-! DEFINITION. The field-bus commands (chapter 09). -/

namespace Sys2Proof.Machine

/-- FRAME_RECEIVE (R281): a frame received without error is filtered, stored, its signals decoded. `f`: the frame, with 0, or the kind of the error that ends it (R300), which rate detection and the error counters note (R271, R293), or 6 for a correct frame of which a receive-store word still fails (R294): it is counted in TOOLONG, and its signals are decoded. -/
def execFrameReceive (bus : Nat) (f : BusFrame × Nat) (s : State) : Host.Outcome State Fault Refusal :=
  live (fun s => if f.2 = 0 || f.2 = 6 then rxFrame bus f.1 (f.2 == 6) s else rxError bus f.2 s) s

/-- A read of word 0 locks a priority buffer that is not locked (R284). -/
def pmLockOp (k i : Nat) (s : State) : State :=
  let x := busBuf s k
  let p := tgetD x.pms i {}
  if p.locked then s else setBuf k { x with pms := tset x.pms i { p with locked := true, lockAt := s.clock, lost := 0, stale := false } } s

/-- PM_LOCK (R284). -/
def execPmLock (bus i : Nat) (s : State) : Host.Outcome State Fault Refusal := live (fun s => if bus < 16 && i < 8 then pmLockOp bus i s else s) s

/-- A read of word 31 releases the lock; STALE stands until the next lock (R284). -/
def pmReleaseOp (k i : Nat) (s : State) : State :=
  let p := tgetD (busBuf s k).pms i {}
  if p.locked then pmUnlock k i p.stale s else s

/-- PM_RELEASE (R284). -/
def execPmRelease (bus i : Nat) (s : State) : Host.Outcome State Fault Refusal := live (pmReleaseOp bus i) s

/-- PM_LOCK_TIMEOUT (R284): the controller releases a lock that has lasted LOCK_MAX, and marks it STALE. -/
def execPmLockTimeout (bus i : Nat) (s : State) : Host.Outcome State Fault Refusal :=
  live (fun s =>
    let p := tgetD (busBuf s bus).pms i {}
    if p.locked then
      let s := clockTo (p.lockAt + (busRec s bus).lockMax * 100000) s
      pmUnlock bus i true (emit 0x030B (src 4 bus) (aw bus ++ aw i ++ aw p.lost) s)
    else s) s

/-- TX_MESSAGE_MARK (R286): at t0 + M in a round of its schedule, a message whose class is sent enters the queue. -/
def execTxMessageMark (m : Nat) (s : State) : Host.Outcome State Fault Refusal :=
  live (fun s =>
    match (pat s).fb.txMsgs.find? (fun r => r.msg == m) with
    | none => s
    | some r => if s.round % max 1 r.pr = r.ph && ownerSent s r.owner then txMark r (clockTo (s.t0At + r.mark * 1000) s) else s) s

/-- A source's attempt can be the one that ends: it leads the order urgent slot, reference message, queue (R276, R290), or began before the frame ahead of it entered. -/
def mayEnd (b : BusSt) (src : TxSource) : Bool :=
  match src with
  | .urgent => b.urg.isSome
  | .reference => b.ref.isSome && (b.urg.isNone || b.held == 1)
  | .queue => !b.q.isEmpty && (b.held == 2 || b.urg.isNone && b.ref.isNone)

/-- The attempt on the wire is over. -/
def attemptOver (k : Nat) (s : State) : State := setBus k { busSt s k with held := 0 } s

/-- TX_ATTEMPT_END (R288, R290, R276). `delay`: DELAY of a reference message (R275); for a queue entry the transmitter delay measured in the attempt, in data quanta (R269). -/
def execTxAttemptEnd (bus : Nat) (src : TxSource) (res : AttemptEnd) (delay : Nat) (s : State) : Host.Outcome State Fault Refusal :=
  live (fun s =>
    if s.glb.role != .none && (busSt s bus).st = bsNormal && (busSt s bus).er.tec < 256 && mayEnd (busSt s bus) src then
      let s := attemptOver bus s
      match src with
      | .urgent => urgentEnd bus res s
      | .reference => refEnd bus res delay s
      | .queue =>
        match (busSt s bus).q with
        | [] => s
        | e :: _ => queueEnd bus res (if e.f.fmt = 0 then s else setBus bus { busSt s bus with tdcMeas := min 255 delay } s)
    else s) s

/-- The attempt that a data-field bit error ends: the one that sends the identifier, of the urgent slot, the reference message or the head entry. -/
def conflictAttempt (k key : Nat) (s : State) : State :=
  let s := attemptOver k s
  let b := busSt s k
  if (b.urg.map (fun u => frameKey u.f)) = some key then urgentEnd k (.error 1) s
  else if (b.ref.map frameKey) = some key then refEnd k (.error 1) b.delay s
  else if (b.q.head?.map (fun e => frameKey e.f)) = some key then queueEnd k (.error 1) s
  else tecError k 1 s

/-- Counts a conflict of an owned identifier; the third in a row is acted on (R279). -/
def conflictCount (k id key cls : Nat) (s : State) : State :=
  let b := busSt s k
  let n := tgetD b.er.conflicts key 0 + 1
  let s := setBus k { b with er.idcClass := cls, er.idcKey := key, er.conflicts := tset b.er.conflicts key n } s
  let s := if cls = 2 then abortTakeover 2 id s else s
  if n = 3 then
    let b := busSt s k
    let s := setBus k { b with er.conflicts := tdel b.er.conflicts key } s
    if cls = 1 then fbEmit k 0x0304 5 (aw k ++ aw id ++ aw cls ++ aw 0) s
    else
      let b := busSt s k
      let s := setBus k { b with er.quar := b.er.quar ++ [key], ref := (match b.ref with | some f => if frameKey f = key then none else some f | none => none) } s
      fbEmit k 0x0304 5 (aw k ++ aw id ++ aw cls ++ aw 1) (txRemove k 5 (fun e => frameKey e.f == key) s)
  else s

/-- ID_CONFLICT (R279): the command stands for the attempt's end by a bit error in the data field, so it counts the attempt and raises TEC too. -/
def execIdConflict (bus id : Nat) (xtd : Bool) (s : State) : Host.Outcome State Fault Refusal :=
  live (fun s =>
    let key := idKey id xtd
    match ownerClass s bus key with
    | none => s
    | some cls => if (busSt s bus).st = bsNormal then conflictCount bus id key cls (conflictAttempt bus key s) else s) s

/-- TX_COMMIT (R289). -/
def execTxCommit (bus : Nat) (host : Bool) (s : State) : Host.Outcome State Fault Refusal := live (txCommitOp bus host) s

/-- A cancel request (R292). `started`: it was committed at or after the first cycle of the SOF bit of the head's attempt. -/
def txCancelOp (k tag : Nat) (started : Bool) (s : State) : State :=
  let b := busSt s k
  match b.q with
  | [] => s
  | e :: t =>
    if e.tag = tag && started then setBus k { b with q := { e with noRetry := true } :: t } s
    else txRemove k 2 (fun e => e.tag == tag) s

/-- TX_CANCEL (R292). -/
def execTxCancel (bus tag : Nat) (started : Bool) (s : State) : Host.Outcome State Fault Refusal := live (txCancelOp bus tag started) s

/-- ID_RELEASED by a write to FB_IDC_CTRL (R280). -/
def execIdReleased (bus id : Nat) (xtd : Bool) (s : State) : Host.Outcome State Fault Refusal := live (releaseId bus 1 (idKey id xtd)) s

/-- BUS_OFF (R293): the queue keeps its entries; recovery starts at once where the record says so. -/
def execBusOff (bus kind : Nat) (s : State) : Host.Outcome State Fault Refusal :=
  live (fun s =>
    let b := busSt s bus
    if b.st = bsNormal && 256 ≤ b.er.tec then
      let b := { b with st := bsBusOff, held := 0, er.lastKind := kind, er.offAt := s.clock, er.recovering := (busRec s bus).autoRecover }
      fbEmit bus 0x0301 4 (aw bus ++ aw b.er.tec ++ aw kind) (errPassive bus (setBus bus b s))
    else s) s

/-- Starts bus-off recovery (R293). -/
def recoverOp (k : Nat) (s : State) : State :=
  let b := busSt s k
  if b.st = bsBusOff then setBus k { b with er.recovering := true } s else s

/-- RECOVER (R293). -/
def execRecover (bus : Nat) (s : State) : Host.Outcome State Fault Refusal := live (recoverOp bus) s

/-- BUS_RECOVERED (R293): the error counters restart at zero (PRESUMED, ISO 11898-1). -/
def execBusRecovered (bus : Nat) (s : State) : Host.Outcome State Fault Refusal :=
  live (fun s =>
    let b := busSt s bus
    if b.st = bsBusOff && b.er.recovering then
      let st := if s.glb.role == .safe then bsRestricted else bsNormal
      let s := errPassive bus (setBus bus { b with st := st, er.tec := 0, er.recCnt := 0, er.recovering := false } s)
      emit 0x0302 (src 4 bus) (aw bus ++ aw ((s.clock - b.er.offAt) / 1000000)) s
    else s) s

/-- Restarts rate detection on an AUTO bus (R271); not in SAFE, where the controller stays RESTRICTED (R265). -/
def autoRestartOp (k : Nat) (s : State) : State :=
  let b := busSt s k
  if startState s (busRec s k) = bsAuto && (b.st = bsAuto || b.st = bsNormal || b.st = bsRestricted) then
    setBus k { b with st := bsAuto, held := 0, er.autoSt := 1, er.cand := 0, er.candAt := s.clock, er.passes := 0, er.frames := 0, er.dataSeen := false, er.lockPend := false, er.locked := none } s
  else s

/-- AUTO_RESTART (R271). -/
def execAutoRestart (bus : Nat) (s : State) : Host.Outcome State Fault Refusal := live (autoRestartOp bus) s

/-- AUTO_DWELL_END (R271): AUTO_DWELL has passed since the candidate was set. -/
def execAutoDwellEnd (bus : Nat) (s : State) : Host.Outcome State Fault Refusal :=
  live (fun s =>
    let b := busSt s bus
    if b.st = bsAuto && !b.er.lockPend then autoNext bus (clockTo (b.er.candAt + (busRec s bus).autoDwell * 10000000) s) else s) s

/-- TT_SYNC_LOST (R274): a time receiver without a reference message for 2 consecutive rounds. -/
def execTtSyncLost (bus : Nat) (s : State) : Host.Outcome State Fault Refusal :=
  live (fun s =>
    let b := busSt s bus
    if isTt s bus && !s.red.timeMaster && 2 ≤ b.ttRound && !b.ttLost then
      fbEmit bus 0x0308 6 (aw bus ++ aw b.ttRound) (setBus bus { b with ttLost := true, ttSync := false } s)
    else s) s

/-- A request for sleep, refused unless SLEEP_ALLOWED (R296): cause 1 register, 2 idle. -/
def sleepOp (k cause : Nat) (s : State) : State :=
  let b := busSt s k
  if (busRec s k).sleepOk && (b.st = bsNormal || b.st = bsRestricted || b.st = bsAuto) && (busBuf s k).sleepReq.isNone then
    setBuf k { busBuf s k with sleepReq := some (cause, s.clock) } s
  else s

/-- SLEEP (R296). -/
def execSleep (bus : Nat) (s : State) : Host.Outcome State Fault Refusal := live (sleepOp bus 1) s

/-- IDLE_SLEEP (R296): only where IDLE_SLEEP is not 0. -/
def execIdleSleep (bus : Nat) (s : State) : Host.Outcome State Fault Refusal :=
  live (fun s =>
    let r := busRec s bus
    if r.idleSleep = 0 then s else sleepOp bus 2 (clockTo ((busBuf s bus).lastTraffic + r.idleSleep * 1000000) s)) s

/-- BUS_SLEEP (R296): the queue and the urgent slot have drained, or the 10 ms are over and the request is refused. -/
def execBusSleep (bus : Nat) (s : State) : Host.Outcome State Fault Refusal :=
  live (fun s =>
    let b := busSt s bus
    let x := busBuf s bus
    match x.sleepReq with
    | none => s
    | some (cause, at_) =>
      if !(b.st = bsNormal || b.st = bsRestricted || b.st = bsAuto) then setBuf bus { x with sleepReq := none } s
      else if b.q.isEmpty && b.urg.isNone && s.clock ≤ at_ + 10000000 then
        emit 0x030C (src 4 bus) (aw bus ++ aw cause)
          (setBuf bus { x with sleepReq := none, sleeps := satAdd 0xFFFF x.sleeps 1 } (setBus bus { b with st := bsSleep } s))
      else setBuf bus { x with sleepReq := none } (clockTo (at_ + 10000000) s)) s

/-- WAKE (R297). -/
def execWake (bus : Nat) (s : State) : Host.Outcome State Fault Refusal := live (startWake bus) s

/-- A received frame is the selective wake-up frame of a large bus (R296, ISO 11898-2). -/
def wakeMatches (r : BusRec) (f : BusFrame) : Bool :=
  let key := fieldKey r.wakeId
  let d := unLe (f.data.take 8)
  (f.xtd == decide (2 ^ 29 ≤ key)) && Nat.land (Nat.xor f.id (key % 2 ^ 29)) (r.wakeMask % 2 ^ 29) == 0 && f.data.length == r.wakeDlc &&
    (r.wakeDlc == 0 || Nat.land d r.wakeData != 0)

/-- BUS_WAKE (R296, R297): 1 a dominant phase on a small bus, 2 the wake-up frame on a large one, 3 the module. -/
def execBusWake (bus cause : Nat) (f : BusFrame) (s : State) : Host.Outcome State Fault Refusal :=
  live (fun s =>
    let b := busSt s bus
    let r := busRec s bus
    let x := busBuf s bus
    let ok := (cause = 1 && !r.large) || (cause = 2 && r.large && wakeMatches r f) || (cause = 3 && x.waking)
    if b.st = bsSleep && ok then
      let st := if s.glb.role == .safe || r.restricted then bsRestricted else bsNormal
      fbEmit bus 0x030D 10 (aw bus ++ aw cause)
        (setBuf bus { x with waking := false, wakeCause := cause, lastTraffic := s.clock } (setBus bus { b with st := st } s))
    else s) s

/-- A controller is quarantined (R294): it sends and receives nothing; the module keeps its role. -/
def busQuarantine (k cause : Nat) (s : State) : State :=
  let b := busSt s k
  if b.st = bsQuar || 16 ≤ k then s
  else
    let s := fbEmit k 0x030E 7 (aw k ++ aw cause) (setBus k { b with st := bsQuar, urg := none, pend := [], ref := none, refLast := false, held := 0 } s)
    let s := setBuf k { busBuf s k with sleepReq := none } s
    { s with dg.cntQuar := satAdd 0xFFFFFFFF s.dg.cntQuar 1 }

/-- BUS_CTRL_QUARANTINED (R294). -/
def execBusCtrlQuarantined (bus cause : Nat) (s : State) : Host.Outcome State Fault Refusal := live (busQuarantine bus cause) s

end Sys2Proof.Machine
end

