-- ==== Sys2Proof/Machine/Array.lean ====
section
/-! DEFINITION. The forecast-array commands (chapter 02). -/

namespace Sys2Proof.Machine

/-- Adds to FC_REG_CELL_CNT and FC_REG_RESEND_CNT of a forecast region (R62). -/
def regionCells (k n : Nat) (s : State) : State :=
  if k < 6 then setErr (fcRegErr k) 0 (setReg k { regSt s k with cell := satAdd 0xFFFFFFFF (regSt s k).cell n } s) else s
def regionResends (k n : Nat) (s : State) : State :=
  if k < 6 then setErr (fcRegErr k) 1 (setReg k { regSt s k with resend := satAdd 0xFFFFFFFF (regSt s k).resend n } s) else s

/-- Cell retries of a tile, by physical number. -/
def tileCells (ph n : Nat) (s : State) : State :=
  match posOfPhys s ph with
  | none => s
  | some (k, t) =>
    let x := tileSt s k t
    regionCells k n (countCell k n (setTile k t { x with cell := satAdd 0xFFFFFFFF x.cell n, err := Nat.lor x.err 1 } s))

/-- Region that counts a unit of R352: 6 CTL, 7 HST; the allocator port has none. -/
def regionOfUnit (kind index : Nat) : Option Nat :=
  if kind = 2 then some index
  else if kind = 3 || kind = 4 || kind = 6 || kind = 7 then some 6
  else if kind = 8 || kind = 12 then some 7
  else if kind = 9 then some index
  else none

/-- Single-bit errors that an HBM controller corrected (R59). -/
def hbmCorrected (k n : Nat) (s : State) : State :=
  if k < 6 then setReg k { regSt s k with ce := satAdd 0xFFFFFFFF (regSt s k).ce n } s else s

/-- Cell retries of a unit. LP_CELL_CNT counts those of the loop engines; an HBM controller corrects without a retry. -/
def unitCells (kind index n : Nat) (s : State) : State :=
  if kind = 1 then tileCells index n s
  else if kind = 9 then hbmCorrected index n s
  else
    match regionOfUnit kind index with
    | some k =>
      let s := regionCells k n (countCell k n s)
      if kind = 3 then { s with lp.cellCnt := satAdd 0xFFFFFFFF s.lp.cellCnt n } else s
    | none => { s with dg.cntCell := satAdd 0xFFFFFFFF s.dg.cntCell n }


/-- A block of the kinds that only a block reset returns is quarantined (R24, R421). -/
def blockQuarantine (kind : Nat) (s : State) : State :=
  if kind = 6 then (if s.ev.quar then s else { (countQuar s) with ev.quar := true })
  else if kind = 8 then (if s.ks.quar then s else { (countQuar s) with ks.quar := true })
  else if kind = 10 then (if s.al.allocQuar then s else { (countQuar s) with al.allocQuar := true })
  else if kind = 11 then (if s.al.leaseQuar then s else { (countQuar s) with al.leaseQuar := true })
  else s

/-- The level above takes an error that a unit could not correct (R24, R60, R69): cause 1 a block transfer, 2 a cell. For an HBM controller R59 applies instead (R60), whose lost unit comes as HBM_UE; the fabric has a command of its own. -/
def escalate (kind index cause : Nat) (s : State) : State :=
  if kind = 1 then
    match posOfPhys s index with
    | some (k, t) => tileQuarantine k t cause s
    | none => s
  else if kind = 2 then (if index < 6 then regionOffline index 1 s else s)
  else if kind = 3 then engineQuarantine index [] s
  else if kind = 4 then busQuarantine index cause s
  else if kind = 7 then scQuarantine s
  else blockQuarantine kind s

/-- Re-sends counted at the sender and its region (R60). -/
def unitResends (kind index n : Nat) (s : State) : State :=
  if kind = 1 then
    match posOfPhys s index with
    | none => s
    | some (k, t) =>
      let x := tileSt s k t
      regionResends k n (countResend k n (setTile k t { x with resend := satAdd 0xFFFFFFFF x.resend n, err := Nat.lor x.err 2 } s))
  else
    match regionOfUnit kind index with
    | some k => regionResends k n (countResend k n s)
    | none => { s with dg.cntResend := satAdd 0xFFFFFFFF s.dg.cntResend n }

/-- The block level's failed attempts (R24, R60): the re-sends are counted, the fourth failure is a block fault. `cause`: 1 a block transfer, 2 an escalated cell error. -/
def blockAttempts (kind index attempts cause : Nat) (s : State) : State :=
  let s := unitResends kind index (max 1 (min 3 attempts)) s
  if 4 ≤ attempts then escalate kind index cause s else s

/-- BLOCK_CRC_MISMATCH (R25, R60). -/
def execBlockCrcMismatch (kind index attempts : Nat) (s : State) : Host.Outcome State Fault Refusal :=
  live (blockAttempts kind index attempts 1) s

/-- Plates of a tile or of a region store, which a retry past the guard leaves on the fallback estimator (R62). -/
def unitPlates (kind index : Nat) (s : State) : List Nat :=
  if kind = 1 then
    match posOfPhys s index with
    | some (k, t) => platesOn s k t
    | none => []
  else if kind = 2 && index < 6 then hosted s index
  else []

/-- CELL_PARITY_ERROR (R24, R62): up to 2 retries; a retry of the array that would cross the residual guard is abandoned and its plates use the fallback estimator in that round. `attempts`: 0 where a retry succeeds, else the failed attempts of the block level, to which the error escalates. -/
def execCellParityError (kind index retries attempts : Nat) (pastGuard : Bool) (s : State) : Host.Outcome State Fault Refusal :=
  live (fun s =>
    let s := unitCells kind index (max 1 (min 2 retries)) s
    if (kind = 1 || kind = 2) && pastGuard then toFallback (unitPlates kind index s) s
    else if attempts = 0 then s
    else blockAttempts kind index attempts 2 s) s

/-- TILE_REMAP (R64, R65, R69): the placements of a t0. -/
def execTileRemap (s : State) : Host.Outcome State Fault Refusal :=
  live (fun s => updateDegraded (each (List.range (regionCount s)) displace (remapAll s))) s

/-- The entries of an area that a lost unit held are marked missing (R59, R102): nothing is held there any more. -/
def markMissing (a : Nat) (s : State) : State := { s with mem := memClear s.mem a (a + 4096) }

/-- The contents of a lost unit that no rule gives are free values. -/
def freeUnit (a : Nat) (s : State) : State :=
  (List.range 1024).foldl (fun s i =>
    let (w, s) := freshWord s
    { s with mem := memWrN s.mem (a + 4 * i) (le w.toNat 4) }) s

/-- What the consumer of a lost unit does (R59). An adapter is zero until the partner's mirror brings it again, where there is a partner; a unit of the active container is repaired from the other copy (R67). -/
def unitLost (a : Nat) (s : State) : State :=
  let i := areaOf s a
  if i ≤ 2 then markMissing a s
  else if i = 5 then
    let p := (a - areaBase s 5) / 0x40000
    demote 3 p { s with
      mem := memClear s.mem (adapterBase s p) (adapterBase s p + 0x40000)
      fc.adLost := if partnerHeard s && !s.fc.adLost.contains p then s.fc.adLost ++ [p] else s.fc.adLost }
  else if i = 4 || (i = 8 && !inCopies s a) then freeUnit a s
  else s

/-- Notes that unit `u` of stack `k` is marked lost; what is older than a second is dropped (R67). -/
def noteUnit (k u : Nat) (s : State) : State :=
  { s with fc.unitsLost := (s.fc.unitsLost.filter (fun e => s.clock < e.2.2 + 1000000000 && (e.1, e.2.1) != (k, u))) ++ [(k, u, s.clock)] }

/-- Units of a stack marked lost within the last second (R67). -/
def unitsLostNow (s : State) (k : Nat) : Nat := (s.fc.unitsLost.filter (fun e => e.1 == k && s.clock ≤ e.2.2 + 1000000000)).length

/-- HBM_UE (R59): four failed reads of a 4 KB unit. -/
def execHbmUe (addr : Nat) (s : State) : Host.Outcome State Fault Refusal :=
  live (fun s =>
    if hbmBase ≤ addr && addr < hbmTop s then
      let a := addr / 4096 * 4096
      let k := stackOf s a
      let s := noteUnit k (stackAddr s a / 4096) (unitResends 9 k 3 s)
      let x := regSt s k
      let row := (k, stackAddr s a / 4096)
      let s := setReg k { x with ue := satAdd 0xFFFFFFFF x.ue 1 } { s with hw.repair := if s.hw.repair.contains row then s.hw.repair else s.hw.repair ++ [row] }
      unitLost a (setErr (fcRegErr k) 3 (emit 0x0A05 (src 9 k) (aw k ++ aq a) s))
    else s) s

/-- STACK_LOST (R67, R68): with cause 3, 64 units of the stack were marked lost within a second; the interleave changes at the next boundary. An ACTIVE module with a HOT partner requests a handover. -/
def execStackLost (stack cause : Nat) (s : State) : Host.Outcome State Fault Refusal :=
  live (fun s =>
    if s.fc.lostStacks.contains stack || regionCount s ≤ stack || (cause = 3 && unitsLostNow s stack < 64) then s
    else
      let s := holdContainer stack s
      let s := { s with fc.lostStacks := s.fc.lostStacks ++ [stack], fc.reform := true, ev.hbmOk := false }
      let s := setReg stack { regSt s stack with stackLost := true } s
      let s := setErr (fcRegErr stack) 4 (emit 0x0A07 (src 9 stack) (aw stack ++ aw cause ++ aw (workingStacks s)) s)
      let s := updateDegraded (countQuar s)
      if bitOf s.red.partnerWord.toNat 23 then requestHandover 2 none 0 s else s) s

/-- REGION_OFFLINE (R69). -/
def execRegionOffline (region cause : Nat) (s : State) : Host.Outcome State Fault Refusal := live (regionOffline region cause) s

/-- REGION_RESET (R70, R71). -/
def execRegionReset (region : Nat) (s : State) : Host.Outcome State Fault Refusal := live (regionResetOp region) s

/-- REGION_RESTORED (R70): the round boundary after the reset's end. `failed`: tiles that fail their self-test. -/
def execRegionRestored (region : Nat) (failed : List Nat) (s : State) : Host.Outcome State Fault Refusal :=
  live (fun s => if (regSt s region).st = 4 then updateDegraded (regionBack region failed s) else s) s

end Sys2Proof.Machine
end

