-- ==== Sys2Proof/Machine/ResetOps.lean ====
section
/-! DEFINITION. Resets and what survives them (R419 to R427), shed stages (R413, R428), the lease keeper's stop (R124), loading of the loop layer. -/

namespace Sys2Proof.Machine

/-! ### Shed stages (R413, R428) -/

/-- The shed stage in force changes; THERMAL_SHED on entry to each stage, with the clear flag on return to stage 0. -/
def shedSet (new : Nat) (s : State) : State :=
  if s.pwr.shed = new then s
  else
    let s := { s with
      pwr.shed := new
      pwr.dipStageMax := if s.pwr.dip then max s.pwr.dipStageMax new else s.pwr.dipStageMax }
    let s := emit 0x0109 srcChip (aw new ++ aw s.pwr.dieMax) s (new == 0)
    if new = 2 then shedTiles s else s

/-- The stage that die and dip call for. -/
def shedWant (s : State) : Nat := max s.pwr.thermStage s.pwr.dipStage

/-- Stages that act at once: entry to stage 1, return from 1 to 0; the leaving of stage 2 starts to count. -/
def shedNow (s : State) : State :=
  let w := shedWant s
  if s.pwr.shed = 2 then { s with pwr.leave2 := if w = 2 || s.pwr.dip then none else some (s.pwr.leave2.getD s.clock) }
  else if 1 ≤ w && s.pwr.shed = 0 then shedSet 1 s
  else if w = 0 && s.pwr.shed = 1 then shedSet 0 s
  else s

/-- Shed stages at a t0: stage 2 is entered, or left at the first t0 at least 100 ms later. -/
def shedT0 (s : State) : State :=
  let w := shedWant s
  if w = 2 && s.pwr.shed != 2 then shedSet 2 { s with pwr.leave2 := none }
  else if s.pwr.shed = 2 then
    match s.pwr.leave2 with
    | some t => if w != 2 && !s.pwr.dip && decide (t + 100000000 ≤ s.clock) then shedSet 1 { s with pwr.leave2 := none } else s
    | none => s
  else shedNow s

/-- The tiles follow the gating at a t0 (R424, R428): shed while gated, back otherwise. -/
def gateTiles (s : State) : State :=
  let shed := s.fc.regions.any (fun e => e.2.tiles.any (fun t => t.2.st == 7))
  let up := s.fc.regions.any (fun e => e.2.st == 2 && e.2.tiles.any (fun t => t.2.st != 7 && !t.2.down && !t.2.fresh))
  if arrayGated s then (if up then shedTiles s else s)
  else if shed then unshedTiles s else s

/-! ### The lease keeper (R124) -/

/-- The keeper stops: 1 the engine resumed, 2 the partner took over, 3 the limit without a partner. -/
def keeperOff (cause : Nat) (s : State) : State :=
  if s.al.keepOn then
    let n := s.al.keepRounds
    let s := emit 0x0B02 (src 11 1) (aw n ++ aw cause) { s with al.keepOn := false, al.keepAsked := false, al.keepStop := cause == 3 }
    if cause = 3 then emit 0x0B0B (src 11 1) (aq s.round) s else s
  else s

/-! ### Overrides (R427) -/

/-- Window of a register address (R35). -/
def windowOf (a : Nat) : Nat := a / 0x1000000

/-- Overrides that meet a test revert; OVERRIDES_CLEARED gives their count and the occasion. A driving module tells its partner (R254). -/
def dropOverrides (occasion : Nat) (f : Nat → Bool) (s : State) : State :=
  let gone := s.glb.ovr.filter (fun (e : Nat × Word) => f e.1)
  let n := gone.length
  if n = 0 then s
  else
    whenS (drives s) (mirrorSend 5 16 (gone.map (fun (e : Nat × Word) => ovrBytes e.1 0 false))) <|
    emit 0x010A srcCore (aw n ++ aw occasion) { s with glb.ovr := s.glb.ovr.filter (fun (e : Nat × Word) => !f e.1), glb.ovrLastCleared := min n 0xFFFF }

/-! ### Loading the loop layer -/

/-- The loop layer from the pattern: banks, engines, estimator slots (R159, R165). In SAFE it stays off (R137). A channel is initialised at its first sample, where the actuator's readback has been converted (R23, R161). -/
def lpLoad (s : State) : State :=
  let cs := (pat s).chans.foldl (fun t r => tset t r.ch ({ bankB := r.bankB, engine := r.engine } : ChanSt)) []
  let ps := (pat s).chans.foldl (fun t r => tset t r.ch ({ bankA := r.bankA, bankBw := r.bankBw } : ChanSp)) []
  estReset { s with lp := { chans := cs, sps := ps, st := if s.glb.role == .safe then 0 else 1, phase6At := s.clock, aout := s.lp.aout, pwm := s.lp.pwm } }

/-! ### The CTL region reset (R419, R426) -/

/-- The drop counters of tier 2, which stay with the store; those of tiers 0 and 1 are counter registers that a reset clears (R369, R426). -/
def drops2 (s : State) : Tab Nat := s.ev.drops.filter (fun (e : Nat × Nat) => 16 ≤ e.1)

/-- A register window of the CTL region. -/
def ctlWindow (w : Nat) : Bool := 1 ≤ w && w ≤ 5

/-- Every reset that restarts the CTL region aborts a running swatch (R193) and ends the identifier quarantines (R280). -/
def releaseAll (s : State) : State := each allBuses (fun k s => releaseIds k 4 s) (swAbortAll 7 (fun x => x.injects) s)

/-- The CTL units were quarantined before the reset, in `o`: those whose self-test passes come back (R162, R294, R346, R426), the rest stay out. No command brings the outcomes: `w` is a free value, engine e passes by bit e, the stitch counters by bit 8, bus k by bit 16 + k. -/
def ctlTests (o : State) (w : Word) (s : State) : State :=
  let bad := o.lp.engBad.filter (fun e => !w.getLsbD e)
  let s := { s with lp.engBad := bad, sc.quar := o.sc.quar && !w.getLsbD 8 }
  let s := each ((pat s).chans.filter (fun r => bad.contains r.engine)) (fun r s =>
    setCh r.ch { chSt s r.ch with engine := (chSt o r.ch).engine, placed := (chSt o r.ch).placed } s) s
  each (allBuses.filter (fun k => (busSt o k).st == bsQuar && !w.getLsbD (16 + k))) (fun k s => setBus k { busSt s k with st := bsQuar } s) s

/-- A CTL unit is quarantined. -/
def ctlQuar (s : State) : Bool := !s.lp.engBad.isEmpty || s.sc.quar || allBuses.any (fun k => (busSt s k).st == bsQuar)

/-- The reset of a block inside the CTL region, the recorder, is superseded (R422). -/
def blkSuperseded (s : State) : Option (Nat × Nat × Bool) :=
  match s.glb.blkBusy with
  | some (6, _, _) => none
  | x => x

/-- CTL region reset: loop engines, bus controllers, selvedge interface, stitch counters, recorder logic. SC messages in progress are forgotten with the counters. `cause`: 1 register, 2 after a handover. -/
def ctlResetOp (cause : Nat) (s : State) : State :=
  let s := releaseAll s
  let o := s
  let (w, s) := if ctlQuar s then freshWord s else (0#32, s)
  let open_ := s.sc.msgs
  let s := { s with
    hl.waits := s.hl.waits.filter (fun w => w.sc.isNone)
    hl.seen := s.hl.seen.map (fun (e : Nat × List SeenReq) => (e.1, e.2.filter (fun x => !(open_.any (fun m => m.peer == e.1 && m.session == x.session && m.xid == x.xid)))))
    swt := {}
    sc := {}
    fb := {}
    glb.blkBusy := blkSuperseded s
    svf := { s.svf with frmFb := 0, frmEth := 0 }
    errs := tdel (s.errs.filter (fun e => !(ctlWindow (windowOf e.1)))) 0x08100000
    irqs := tdel (s.irqs.filter (fun e => !(ctlWindow (windowOf e.1)))) 0x08100000
    latches := s.latches.filter (fun e => !(ctlWindow (windowOf e.1)))
    ev.buckets := []
    ev.supp := []
    ev.cursors := []
    ev.curStage := []
    ev.expMin := 2
    ev.drops := drops2 s }
  let held := s.ev.held
  let s := each held passRec { s with ev.quar := false, ev.held := [] }
  let s := ctlTests o w (busStart (lpLoad s))
  let s := emit 0x010B (src 2 6) (aw 6 ++ aw cause) s
  let s := dropOverrides 3 (fun a => windowOf a == 1 || windowOf a == 4 || windowOf a == 5) s
  svFlushLog s

/-! ### HST region reset, supervisor restart, block reset -/

/-- HST region reset: MAC, PCS and protocol engine (R419, R426). -/
def hstResetOp (s : State) : State :=
  if drives s then s
  else
    emit 0x010B (src 2 7) (aw 7 ++ aw 1)
      { s with
        hl := { session := (s.hl.session + 1) % 65536, upSince := s.clock, tryAt := s.clock, sessions := s.hl.sessions }
        ks.tagFail := []
        ks.replay := []
        errs := tdel s.errs 0x6000008
        irqs := tdel s.irqs 0x6000008 }

/-- Supervisor restart (R339, R419): supervisor-owned counters drop; the log of R233 is written on recovery. -/
def supervisorRestartOp (s : State) : State :=
  let s := { s with glb.supRestarted := s.glb.supRestarted + 1, al.restarted := some s.round }
  svFlushLog (settleMsgs (dropOwner 4 .supervisor s))

/-- A block that GLB_BLK_RST may reset (R421). -/
def blkEligible (kind index : Nat) : Bool := (kind == 6 || kind == 10 || kind == 11) && index == 0 || kind == 8 && index == 1

/-- A block under reset does nothing until it resumes (R421): the recorder holds its records back, the keyed-check engine, the allocator or the lease engine stands still. -/
def blkStop (kind : Nat) (s : State) : State :=
  if kind = 6 then { s with ev.quar := true, ev.drops := drops2 s }
  else if kind = 8 then { s with ks.quar := true }
  else if kind = 10 then { s with al.allocQuar := true }
  else { s with al.leaseQuar := true }

/-- A block reset: self-test and result; where it passes, the block returns from quarantine at the next round boundary (R421). A request while one is in progress is ignored (DESIGN CHOICE: R422 orders resets of different scope only). -/
def blockResetOp (kind index : Nat) (pass : Bool) (s : State) : State :=
  if !blkEligible kind index then { s with glb.blkResult := 3 }
  else if s.glb.blkBusy.isSome then s
  else
    let s := blkStop kind { s with glb.blkBusy := some (kind, index, pass), glb.blkResult := if pass then 1 else 2 }
    emit 0x010C srcChip (aw kind ++ aw index ++ aw (if pass then 1 else 2)) s

/-- The block resumes at the next round boundary (R421), its counters cleared (R426). -/
def blockResume (s : State) : State :=
  match s.glb.blkBusy with
  | none => s
  | some (kind, _, pass) =>
    let s := { s with glb.blkBusy := none }
    if !pass then s
    else if kind = 6 then
      let held := s.ev.held
      each held passRec { s with ev.quar := false, ev.held := [], errs := tdel s.errs 0x4000008 }
    else if kind = 8 then { s with ks.quar := false, ks.tagFail := [], ks.replay := [] }
    else if kind = 10 then
      { s with
        al.allocQuar := false
        al.timeLast := 0
        al.timeMax := 0
        al.rowCap := 0
        al.allow := 0
        al.shortW := 0
        al.shortNow := false
        al.rowSrc := 0
        al.lims := [0, 0, 0, 0, 0, 0, 0, 0, 0, 0]
        al.unk := [] }
    else { s with al.leaseQuar := false, al.cntProv := 0, al.cntRetract := 0, al.plates := tmap s.al.plates (fun p => { p with seq := p.kSeq }), errs := tdel s.errs 0x16001008 }

/-! ### Chip resets (R408, R419, R426) -/

/-- Row 4 leaves LATCHED at a reset of the module (R209, R426). -/
def row4Reset (s : State) : State :=
  if (rowSt s 4).st = 3 then setRow 4 { rowSt s 4 with st := 0, latch := 0, fired := false } s else s

/-- HBM after a chip reset: ring, history and archive are cleared (R426). -/
def clearRings (s : State) : State := { s with mem := memClear s.mem hbmBase (areaBase s 3) }

/-- What the flash holds now (R377): a slot whose write has not reached its header counts as empty. -/
def flashNow (s : State) : FlashSt :=
  let slot (k : Nat) (p : Option Pattern) : Option Pattern := match tget s.pf.slotEnd k with
    | some t => if s.clock < t then none else p
    | none => p
  { current := slot 1 s.pf.current, lifeline := slot 3 s.pf.lifeline, nextP := slot 2 s.pf.nextP, anchor := s.pf.anchor,
    changeTrial := s.pf.changeTrial, parts := s.pf.parts, keys := s.ks.keys }

/-- What a dip leaves of the flash where a reset ends it: the work that it deferred is lost (R412, R413, R422). -/
def flashBack (s : State) : State :=
  match s.pf.flashAt with
  | some f =>
    { s with
      pf.current := f.current
      pf.lifeline := f.lifeline
      pf.nextP := f.nextP
      pf.anchor := f.anchor
      pf.changeTrial := f.changeTrial
      pf.parts := f.parts
      ks.keys := f.keys
      ev.staging := [] }
  | none => s

/-- The power of the flash is lost: a write under way leaves its slot empty (R377). -/
def slotsCut (s : State) : State :=
  let f := flashNow s
  { s with pf.current := f.current, pf.lifeline := f.lifeline, pf.nextP := f.nextP }

/-- A bank that a commit was writing when the reset came holds no image (R377). -/
def bankCut (s : State) : State :=
  match s.pf.commit with
  | some (k, _, _) =>
    let x := tgetD s.pf.parts k {}
    { s with pf.parts := tset s.pf.parts k { x with banks := (List.range 2).map (fun i => if i = 1 - x.bank then none else nth x.banks i none) } }
  | none => s

/-- The flash as a reset of cause `cause` finds it. -/
def flashCut (cause : Nat) (s : State) : State := bankCut (flashBack (whenS (cause < 3) slotsCut s))

/-- What every reset of the chip clears (R426); the selvedge, the flash, the straps and the supplies' present values stay, and the latch of a freeze that a chip reset ended (R460). -/
def resetChip (cause : Nat) (s : State) : State :=
  let fz := if s.glb.life == .frozen && 3 ≤ cause then some ((s.clock - s.dg.frozenAt) / 1000000, cause) else s.dg.byReset
  let s := flashCut cause s
  { s with
    glb := { rstCause := cause, ovrLatch := s.glb.ovrLatch + s.glb.ovr.length, wdPhase := s.glb.wdPhase, wdCount := s.glb.wdCount,
             slotLoaded := s.glb.slotLoaded, oscBad := s.glb.oscBad }
    pwr := { vmain := s.pwr.vmain, vfield := s.pwr.vfield, vsafe := s.pwr.vsafe,
             vmainOk := s.pwr.vmainOk, vfieldOk := s.pwr.vfieldOk, vsafeOk := s.pwr.vsafeOk, vsafeLow := s.pwr.vsafeLow, vfieldLow := s.pwr.vfieldLow, vmainHigh := s.pwr.vmainHigh }
    red := { straps := s.red.straps }
    link := { claims := s.link.claims, takeovers := s.link.takeovers, takeoverLast := s.link.takeoverLast }
    mir := {}
    dg := { byReset := fz, freezeN := s.dg.freezeN, freezeNSince := s.clock, ir := s.dg.ir, scanKind := s.dg.scanKind, scanIdx := s.dg.scanIdx,
            scanOff := s.dg.scanOff, scanEnd := s.dg.scanEnd, scanCrc := s.dg.scanCrc, tdo := s.dg.tdo, tap := s.dg.tap, irTdo := s.dg.irTdo }
    ev := { boot := s.ev.boot, seqNext := s.ev.seqNext, seqLast := s.ev.seqLast, ring := s.ev.ring, hbm := s.ev.hbm, hbmCap := s.ev.hbmCap, pst := s.ev.pst,
            staging := s.ev.staging, drops := drops2 s, ringLast := s.ev.ringLast, hbmLast := s.ev.hbmLast }
    hl := { session := s.hl.session }
    ks := { keys := s.ks.keys, ctrs := tmap s.ks.ctrs (fun k => { k with floor := k.mark, lastCmd := none, lastResp := [] }) }
    pf := { current := s.pf.current, lifeline := s.pf.lifeline, nextP := s.pf.nextP, anchor := s.pf.anchor, changeTrial := s.pf.changeTrial, parts := s.pf.parts }
    sc := {}
    lp := {}
    swt := {}
    svf := {}
    fb := {}
    fc := { mdl := { active := s.fc.mdl.active } }
    al := {}
    errs := []
    irqs := []
    latches := []
    stage := [] }

/-- A chip reset: causes 3 to 6. HBM is kept in self-refresh, tiers 0 and 1, uptime and wall clock are kept. -/
def chipReset (cause : Nat) (s : State) : State := row4Reset (resetChip cause (clearRings (releaseAll s)))

/-- What a power-on and a brown-out reset lose beside: HBM, event tiers 0 and 1, uptime and wall clock, the staged records. -/
def loseVolatile (s : State) : State :=
  { s with
    mem := []
    fc := {}
    wall := {}
    upBase := s.clock
    ev.ring := []
    ev.hbm := []
    ev.staging := []
    ev.seqLast := 0
    ev.ringLast := 0
    ev.hbmLast := 0 }

/-- Brown-out reset (cause 2), released once VMAIN has met VMAIN start (R407, R408). -/
def brownOut (s : State) : State :=
  let s := loseVolatile (row4Reset (resetChip 2 (releaseAll s)))
  { s with pwr.vmainOk := true, pwr.vmainHigh := false }

/-- Power-on reset (cause 1): the selvedge too, on its ROM set; the straps are read again; the override and freeze latches clear. -/
def powerOn (p : PorInfo) (s : State) : State :=
  let s := svPowerOn (loseVolatile (resetChip 1 (releaseAll s)))
  { s with
    glb.ovrLatch := 0
    glb.supplyOrder := if p.orderFault then some p.vmain else none
    glb.wdPhase := 0
    glb.wdCount := 0
    dg := { freezeN := s.dg.freezeN, freezeNSince := s.clock }
    red.straps := p.straps % 8
    link := {}
    pwr := { vmain := p.vmain, vfield := p.vfield, vsafe := p.vsafe,
             vmainOk := decide (4500 ≤ p.vmain), vfieldOk := decide (1880 ≤ p.vfield), vsafeOk := decide (1070 ≤ p.vsafe) } }

end Sys2Proof.Machine
end

