-- ==== Sys2Proof/Machine/Ingest.lean ====
section
/-! DEFINITION. Telemetry and ingest (R86 to R89, R102, R121, R122, R225, R312 to R314, R468): bundles, the telemetry ring, staleness, silence, acknowledgements, the estimator's round. -/

namespace Sys2Proof.Machine

/-- Key of a plate channel: its kind and index (R85). -/
def ckOf (kind index : Nat) : Nat := kind * 256 + index

/-- Key of a channel's flagged samples, kept as their substitutes. -/
def ckFlag (ck : Nat) : Nat := 0x10000 + ck

/-- Key of a channel's flagged samples as they were measured. -/
def ckRaw (ck : Nat) : Nat := 0x20000 + ck

/-- The accelerator plates of the table (R86). -/
def accelPlates (s : State) : List PlateRec := (pat s).plates.filter (fun r => !r.selfPlate)

/-- Start of a round on the round-time axis, in µs (R312). -/
def axisUs (s : State) (n : Nat) : Nat := n * (pat s).bind.period

/-- The missing marker of R102. -/
def f16Missing : F16 := 0x7E00#16

/-- A sample holds a number. -/
def f16Valid (v : F16) : Bool := decF fmtFP16 v.toNat != .nan

/-! ### Supply temperatures (R468) -/

/-- A manifold's record; one that the section does not list names nothing. -/
def manifoldRec (s : State) (m : Nat) : ManifoldRec := nth (pat s).alloc.manifolds m { flowCh := 0xFFFF, valveCh := 0xFFFF, dt := 0, supplyCh := 0xFFFF }

/-- Step 1 of R468: the channel's value, or its substitute. -/
def supplyRead (s : State) (m : Nat) : Option F32 :=
  let c := (manifoldRec s m).supplyCh
  if c = 0xFFFF then none else (chanEng s c).1

/-- Takes every manifold's supply temperature where its channel has one. -/
def latchSupply (s : State) : State :=
  each (List.range 32) (fun m s =>
    match supplyRead s m with
    | some v => { s with al.supply := tset s.al.supply m v }
    | none => s) s

/-- The supply temperature: the value taken last, or ROW_RET_MAX where none was taken or the manifold names no channel. -/
def supplyT (s : State) (m : Nat) : F32 :=
  let max_ := f32k (pat s).alloc.rowRetMax 100
  if (manifoldRec s m).supplyCh = 0xFFFF then max_ else (tget s.al.supply m).getD max_

/-! ### The telemetry ring (R102) -/

/-- Address of the ring entry of a plate and millisecond. -/
def ringAddr (s : State) (p m : Nat) : Nat := areaBase s 0 + (m % max 1 (depthRing s) * variantPlates s + p) * 512

/-- The 16-bit values as bytes. -/
def f16Bytes (l : List F16) : Bytes := l.flatMap (fun v => le v.toNat 2)

/-- Writes channel values from column `col` up. -/
def ringPut (p m col : Nat) (vs : List F16) (s : State) : State :=
  hbmPut (ringAddr s p m + 2 * col) (f16Bytes (vs.take (256 - col))) s

/-- Marks a plate's entry missing. -/
def ringOpen (m p : Nat) (s : State) : State := ringPut p m 0 (List.replicate 256 f16Missing) s

/-- Milliseconds of the round-time axis that begin in round `n`. -/
def msOfRound (s : State) (n : Nat) : List Nat :=
  let a := (axisUs s n + 999) / 1000
  let b := (axisUs s (n + 1) + 999) / 1000
  (List.range (b - a)).map (· + a)

/-- Opens the entries of the present round. -/
def ringOpenRound (s : State) : State := each (msOfRound s s.round) (fun m s => each (allPlates s) (ringOpen m) s) s

/-! ### Bundles (R312, R314) -/

/-- One plate entry of a fragment and its size. -/
def telEntry (smp : Nat) (bs : Bytes) : (Nat × Bytes × List (Int × List F16)) × Nat :=
  let c := fld bs 2 2
  let one := 4 + 2 * c
  let sam (i : Nat) : Int × List F16 :=
    (sgn 32 (fld bs (16 + i * one) 4), (List.range c).map (fun j => BitVec.ofNat 16 (fld bs (20 + i * one + 2 * j) 2)))
  ((fld bs 0 2, slice bs 4 12, (List.range smp).map sam), (16 + smp * one + 3) / 4 * 4)

/-- The plate entries of a fragment. -/
def telEntries : Nat → Nat → Bytes → List (Nat × Bytes × List (Int × List F16))
  | 0, _, _ => []
  | n + 1, smp, bs => let (e, z) := telEntry smp bs; e :: telEntries n smp (bs.drop z)

/-- A complete bundle's entries, in fragment order. -/
def bundleOf (b : BundleSt) : BundleIn :=
  { tag := b.tag, plates := b.got.flatMap (fun g => telEntries (fld g.2 6 2) (byteAt g.2 16) (g.2.drop 32)) }

/-- The plate at a position of a rack's bundle. -/
def plateAt (s : State) (rack pos : Nat) : Option PlateRec := (accelPlates s).find? (fun r => r.rack == rack && r.position == pos)

/-- Sample time on the round-time axis in µs. -/
def sampleUs (s : State) (tag : Nat) (off : Int) : Nat := ((axisUs s tag : Int) + off).toNat

/-- Samples go into the ring at their own times (R87). -/
def bundleRing (rack : Nat) (b : BundleIn) (s : State) : State :=
  each b.plates (fun (e : Nat × Bytes × List (Int × List F16)) s =>
    match plateAt s rack e.1 with
    | none => s
    | some r => each e.2.2 (fun (x : Int × List F16) s => ringPut r.plate (sampleUs s b.tag x.1 / 1000) 0 x.2 s) s) s

/-- A rack in the round. -/
def rackRun (s : State) (r : Nat) : RackRun := tgetD s.fc.racks r {}

/-- A bundle is complete (R314): ring, then the rack's bundles that wait for ingest close. -/
def bundleDone (b : BundleSt) (s : State) : State :=
  let x := bundleOf b
  let k := rackRun s b.rack
  bundleRing b.rack x { s with
    hl.telDone := satAdd 0xFFFF s.hl.telDone 1
    hl.telDone1 := tset s.hl.telDone1 b.rack (max b.tag (tgetD s.hl.telDone1 b.rack 0))
    hl.bundles := s.hl.bundles.filter (fun y => !(y.rack == b.rack && y.tag == b.tag))
    fc.racks := tset s.fc.racks b.rack { k with ready := k.ready ++ [x] } }

/-- A fragment enters its bundle. -/
def telFragment (d : Dgram) (s : State) : State :=
  let rack := byteAt d.payload 0
  let tag := fld d.payload 8 8
  let b : BundleSt := (s.hl.bundles.find? (fun y => y.rack == rack && y.tag == tag)).getD { rack := rack, tag := tag, frags := d.frags, firstRound := s.round }
  if b.frags != d.frags || b.got.any (fun g => g.1 == d.frag) then s
  else
    let b : BundleSt := { b with got := (b.got.filter (fun g => g.1 < d.frag)) ++ [(d.frag, d.payload)] ++ (b.got.filter (fun g => d.frag < g.1)) }
    if b.got.length = b.frags then bundleDone b s
    else { s with hl.bundles := s.hl.bundles.filter (fun y => !(y.rack == rack && y.tag == tag)) ++ [b] }

/-- A fragment's layout (R312). -/
def telLayout (d : Dgram) : Bool :=
  32 ≤ d.payload.length && byteAt d.payload 0 < 32 && byteAt d.payload 1 == 1 && byteAt d.payload 16 ≤ 4 && d.frag < d.frags &&
    d.xid == fld d.payload 8 8 % 2 ^ 32

/-- TELEMETRY_FRAGMENT (R308, R314): from the rack's own aggregator, not older in ROUND than the newest used from it. -/
def execTelemetryFragment (d : Dgram) (s : State) : Host.Outcome State Fault Refusal :=
  live (fun s =>
    let d := untag d
    match accept 1 d s with
    | (none, s) => s
    | (some p, s) =>
      if s.glb.role == .safe || !hasRight p 6 || !telLayout d || p.rack != byteAt d.payload 0 || d.round < tgetD s.hl.telDone1 (64 + p.index) 0 then s
      else telFragment d { s with hl.telDone1 := tset s.hl.telDone1 (64 + p.index) d.round }) s

/-- BUNDLE_INCOMPLETE (R314): a newer tag of the rack is complete, or 4 rounds have passed since the first fragment. -/
def execBundleIncomplete (rack tag : Nat) (s : State) : Host.Outcome State Fault Refusal :=
  live (fun s =>
    match s.hl.bundles.find? (fun y => y.rack == rack && y.tag == tag) with
    | none => s
    | some b =>
      if tag < tgetD s.hl.telDone1 rack 0 || b.firstRound + 4 ≤ s.round then
        emit 0x070A (src 8 0) (aw rack ++ aq tag ++ aw b.got.length) { s with
          hl.telBad := satAdd 0xFFFF s.hl.telBad 1
          hl.bundles := s.hl.bundles.filter (fun y => !(y.rack == rack && y.tag == tag)) }
      else s) s

/-! ### Samples of a plate (R88, R225) -/

/-- Inserts by time, newest first. -/
def insDesc (e : Nat × F16) : List (Nat × F16) → List (Nat × F16)
  | [] => [e]
  | a :: t => if a.1 ≤ e.1 then e :: a :: t else a :: insDesc e t

/-- Two lists of samples, newest first, as one. -/
def mergeDesc (a b : List (Nat × F16)) : List (Nat × F16) := b.foldl (fun l e => insDesc e l) a

/-- A channel's valid samples, newest first, the flagged ones among them as they were measured (R92, R102). -/
def validSamples (x : PlateRun) (ck : Nat) : List (Nat × F16) := mergeDesc (tgetD x.hist ck []) (tgetD x.hist (ckRaw ck) [])

/-- Adds a sample to a channel's list, which keeps 800 of them. -/
def putHist (ck t : Nat) (v : F16) (x : PlateRun) : PlateRun := { x with hist := tmod x.hist ck [] (fun l => (insDesc (t, v) l).take 800) }

/-- Newest sample time of a channel, flagged or not. -/
def newestOf (x : PlateRun) (ck : Nat) : Option Nat :=
  let h (k : Nat) : Option Nat := ((tgetD x.hist k []).head?).map (·.1)
  match h ck, h (ckFlag ck) with
  | some a, some b => some (max a b)
  | some a, none => some a
  | none, b => b

/-- A plate temperature is flagged unknown (R225). -/
def plateFlagged (s : State) (kind : Nat) (v : F16) : Bool :=
  1 ≤ kind && kind ≤ 4 && !(fle (f32k s.sv.sec.plateLo 100) (f16to32 v) && fle (f16to32 v) (f32k s.sv.sec.plateHi 100))

/-- The plate-table limit of a kind (R85). -/
def kindLimit (r : PlateRec) (kind : Nat) : F32 := f32k (if kind = 1 then r.limHot else if kind = 2 then r.limStack else r.limOut) 100

/-- Largest of FP32 values. -/
def maxF : List F32 → Option F32
  | [] => none
  | a :: t => some (t.foldl fmax a)

/-- The substitute of a flagged sample (R225). `good`: the sample's GOOD values by kind. -/
def plateSubst (s : State) (r : PlateRec) (kind : Nat) (good : List (Nat × F32)) : F16 :=
  let off := f32k s.sv.sec.subOffset 100
  f32to16 (
    if kind = 3 then fadd (supplyT s r.manifold) off
    else
      match maxF ((good.filter (fun g => g.1 == kind)).map (·.2)) with
      | some v => fadd v off
      | none => kindLimit r kind)

/-- One sample of a plate: values of its channels at a time. -/
def takeSample (r : PlateRec) (t : Nat) (vals : List (PlateChan × F16)) (s : State) : State :=
  let vals := vals.filter (fun e => e.1.kind != 0 && f16Valid e.2)
  let good := (vals.filter (fun e => !plateFlagged s e.1.kind e.2)).map (fun e => (e.1.kind, f16to32 e.2))
  let one (x : PlateRun) (e : PlateChan × F16) : PlateRun :=
    let ck := ckOf e.1.kind e.1.index
    let bad := plateFlagged s e.1.kind e.2
    let v := if bad then plateSubst s r e.1.kind good else e.2
    let x := if bad then putHist (ckRaw ck) t e.2 (putHist (ckFlag ck) t v x) else putHist ck t v x
    let x := if !bad && ((tgetD x.hist ck []).head?).map (·.1) == some t then { x with meas := tset x.meas ck v } else x
    let x := if ck = ckOf 6 0 then { x with powers := x.powers ++ [v] } else x
    if ck = ckOf 3 0 then { x with inlets := x.inlets ++ [v] } else x
  setPlate r.plate (vals.foldl one (plateRun s r.plate)) s

/-- A plate's entry of a bundle that this round uses: its acknowledgement and its samples. -/
def usePlate (tag : Nat) (r : PlateRec) (e : Nat × Bytes × List (Int × List F16)) (s : State) : State :=
  let a := e.2.1
  let s := setPlate r.plate { plateRun s r.plate with ackNew := true, ack := { slot := byteAt a 0, st := byteAt a 1, seq := fld a 4 4, cap := fld a 8 4 } } s
  each e.2.2 (fun (x : Int × List F16) s => takeSample r (sampleUs s tag x.1) (r.chans.map (fun c => (c, nth x.2 c.num f16Missing))) s) s

/-- A bundle is used in this round, or discarded where its tag is not newer (R87). -/
def useBundle (rack : Nat) (b : BundleIn) (s : State) : State :=
  let k := rackRun s rack
  let newer := match k.lastTag with
    | some t => decide (t < b.tag)
    | none => true
  if newer then
    let s := { s with fc.racks := tset s.fc.racks rack { k with lastTag := some b.tag } }
    each b.plates (fun (e : Nat × Bytes × List (Int × List F16)) s =>
      match plateAt s rack e.1 with
      | some r => usePlate b.tag r e s
      | none => s) s
  else { s with fc.discardNow := s.fc.discardNow + 1 }

/-- Inserts a bundle by tag. -/
def insTag (b : BundleIn) : List BundleIn → List BundleIn
  | [] => [b]
  | a :: t => if b.tag < a.tag then b :: a :: t else a :: insTag b t

/-- The channels that set a plate's forecast origin: the bound inputs of the active model (R88). -/
def boundInputs (s : State) (r : PlateRec) : List Nat :=
  match s.fc.mdl.active with
  | none => []
  | some m =>
    (m.binds.filter (fun b => b.kind < 0x40 && (match m.tensors[b.tensor]? with | some t => t.kind == 3 | none => false) &&
      r.chans.any (fun c => c.kind == b.kind && c.index == b.index))).map (fun b => ckOf b.kind b.index)

/-- Largest of a list. -/
def maxN : List Nat → Option Nat
  | [] => none
  | a :: t => some (t.foldl max a)

/-- The forecast origin after a bundle has been used. -/
def originOf (s : State) (r : PlateRec) (x : PlateRun) : Option Nat :=
  let cks := if r.selfPlate then r.chans.map (fun c => ckOf c.kind c.index) else boundInputs s r
  match maxN (cks.filterMap (newestOf x)) with
  | some t => some t
  | none => x.tau0

/-- A rack at ingest close: its bundles in tag order, its staleness (R87, R88). -/
def rackIngest (rack : Nat) (s : State) : State :=
  let ps := (accelPlates s).filter (fun r => r.rack == rack)
  if ps.isEmpty then s
  else
    let k := rackRun s rack
    let s := { s with fc.racks := tset s.fc.racks rack { k with ready := [] } }
    let s := each (k.ready.foldl (fun l b => insTag b l) []) (useBundle rack) s
    let k' := rackRun s rack
    if k'.lastTag != k.lastTag then
      each ps (fun r s => setPlate r.plate { plateRun s r.plate with tau0 := originOf s r (plateRun s r.plate) } s)
        { s with fc.racks := tset s.fc.racks rack { k' with stale := 0 } }
    else
      let s := { s with fc.racks := tset s.fc.racks rack { k' with stale := satAdd 255 k'.stale 1 } }
      if k'.stale = 4 then emit 0x0A46 srcSup (aw rack ++ aw 5) s else s

/-- A plate's staleness: that of its rack; the self-plate is never stale (R86, R88). -/
def staleOf (s : State) (r : PlateRec) : Nat := if r.selfPlate then 0 else (rackRun s r.rack).stale

/-! ### Silence and acknowledgements (R108, R121, R122) -/

/-- E_p (R108, R217) in 0.1 W; none without an emergency ceiling. -/
def ecapOf (s : State) (r : PlateRec) : Option Nat :=
  if bitOf (stopMask s) r.rack then some 0
  else if ecapOut s || s.sv.ecapLine || bitOf (ecapMask s) r.rack then some (r.rated * ecapLevel s / 100)
  else none

/-- A plate in the lease engine. -/
def plateLs (s : State) (p : Nat) : PlateLs := tgetD s.al.plates p {}
def setLs (p : Nat) (x : PlateLs) (s : State) : State := { s with al.plates := tset s.al.plates p x }

/-- PC_p in 0.1 W (R108, R131). -/
def policyCap (s : State) (p : Nat) : Option Nat := if (plateLs s p).pcap = 0xFFFFFF then none else some (plateLs s p).pcap

/-- The smallest of a value and ceilings. -/
def minOpt (a : Nat) (l : List (Option Nat)) : Nat := l.foldl (fun m o => match o with | some x => min m x | none => m) a

/-- Leases are issued in this role (R106). -/
def issues (s : State) : Bool := drives s

/-- The mean of FP16 samples in FP32, summed in order. -/
def mean16 (l : List F16) : F32 := fdiv ((l.map f16to32).foldl fadd fzero) (fofNat l.length)

/-- The acknowledgement of a plate with q = 0 (R121). An entry into FLOOR is one since the last check. -/
def ackCheck (r : PlateRec) (s : State) : State :=
  let p := r.plate
  let x := plateRun s p
  let l := plateLs s p
  let lag := if x.ack.slot = 1 - b2n (slotB s) then 0 else (l.seq + 2 ^ 32 - x.ack.seq) % 2 ^ 32
  let un := decide ((pat s).alloc.ackLag < lag) || x.ack.st == 3
  let s := setPlate p { x with lag := lag, unacked := un, floorSeen := x.ack.st == 1 } s
  let s := if un && !x.unacked then emit 0x0B06 (src 11 0) (aw p ++ aw lag ++ aw x.ack.st ++ aw x.ack.cap) s else s
  if x.ack.st = 1 && !x.floorSeen && issues s then emit 0x0B07 (src 11 0) (aw p ++ aq s.round) s else s

/-- Silence count, mean power and acknowledgement of an accelerator plate. -/
def plateSilence (r : PlateRec) (s : State) : State :=
  let p := r.plate
  let x := plateRun s p
  if x.powers.isEmpty then
    let s := setPlate p { x with q := satAdd 255 x.q 1 } s
    if x.q = 4 then
      emit 0x0B05 (src 11 0) (aw p ++ aw (minOpt (plateLs s p).firm [ecapOf s r, policyCap s p])) s
    else s
  else
    let s := setPlate p { x with q := 0, pbar := some (mean16 x.powers) } s
    if x.ackNew then ackCheck r s else s

/-! ### The estimator's round (R165) -/

/-- A plate's mean power: the last mean, before the first sample its rated power (R108). -/
def pbarOf (s : State) (r : PlateRec) : F32 := (plateRun s r.plate).pbar.getD (f32k r.rated 10)

/-- One round of a plate's estimator slot. -/
def estPlate (r : PlateRec) (s : State) : State :=
  match (pat s).est.find? (fun e => e.slot == r.estCh) with
  | none => s
  | some e =>
    let x := plateRun s r.plate
    let tIn := if x.inlets.isEmpty then supplyT s r.manifold else mean16 x.inlets
    let q (v : F32) : Int := q15Of (fmul v (fofNat 32768))
    let st := estRound e (q (fdiv tIn (fofNat 256))) (q (fdiv (pbarOf s r) (fmul (fofNat 2) (f32k r.rated 10)))) (estSt s e.slot)
    { s with lp.est := tset s.lp.est e.slot st }

/-! ### Decimated history (R102) -/

/-- The 100 ms entry of a plate: the mean of each channel's valid samples in interval `k`. -/
def histEntry (k : Nat) (r : PlateRec) (s : State) : State :=
  let x := plateRun s r.plate
  let mean (c : PlateChan) : F16 :=
    let l := ((validSamples x (ckOf c.kind c.index)).filter (fun e => k * 100000 ≤ e.1 && e.1 < (k + 1) * 100000)).map (·.2)
    if l.isEmpty then f16Missing else f32to16 (mean16 l.reverse)
  let col (j : Nat) : F16 :=
    match r.chans.find? (fun c => c.num == j && c.kind != 0) with
    | some c => mean c
    | none => f16Missing
  hbmPut (areaBase s 1 + (k % max 1 (depthHist s) * variantPlates s + r.plate) * 512) (f16Bytes ((List.range 256).map col)) s

/-- Interval entries are written at the first ingest close after the interval. -/
def histRound (s : State) : State :=
  let a := axisUs s (s.round - 1) / 100000
  let b := axisUs s s.round / 100000
  if a < b then each (pat s).plates (histEntry a) s else s

/-! ### Ingest close -/

/-- The self-plate's values of R86. -/
def selfVal (e : SelfSens) (c : PlateChan) : F16 :=
  if c.kind = 1 then nth e.die c.index f16Missing
  else if c.kind = 2 then nth e.hbmT c.index f16Missing
  else if c.kind = 3 && c.index = 0 then e.inlet
  else if c.kind = 4 && c.index = 0 then e.outlet
  else if c.kind = 6 && c.index = 0 then e.power
  else f16Missing

/-- The self-plate's channels are written, ring and all (R86). -/
def selfIngest (e : SelfSens) (r : PlateRec) (s : State) : State :=
  let t := axisUs s s.round + (pat s).bind.period * 55 / 100
  let s := each r.chans (fun c s => if c.kind = 0 then s else ringPut r.plate (t / 1000) c.num [selfVal e c] s) s
  let s := takeSample r t (r.chans.map (fun c => (c, selfVal e c))) s
  let x := plateRun s r.plate
  let s := setPlate r.plate { x with tau0 := originOf s r x, pbar := if x.powers.isEmpty then x.pbar else some (mean16 x.powers) } s
  estPlate r s

/-- A temperature in tenths of a degree. -/
def deciOf (v : F16) : Nat := (froundI 65535 (fmul (f16to32 v) (fofNat 10))).toNat

/-- The die and cold-plate temperatures of GLB_TEMP follow the same sensors (R429). -/
def selfTemps (e : SelfSens) (s : State) : State :=
  { s with
    pwr.dieMax := match maxF ((e.die.filter f16Valid).map f16to32) with
      | some v => deciOf (f32to16 v)
      | none => s.pwr.dieMax
    pwr.inlet := if f16Valid e.inlet then deciOf e.inlet else s.pwr.inlet
    pwr.outlet := if f16Valid e.outlet then deciOf e.outlet else s.pwr.outlet }

/-- Ingest close of a round. -/
def ingestOp (e : SelfSens) (s : State) : State :=
  let s := latchSupply s
  let s := { s with fc.plates := tmap s.fc.plates (fun x => { x with meas := [], powers := [], inlets := [], ackNew := false }) }
  let s := each ((pat s).plates.filter (·.selfPlate)) (selfIngest e) s
  let s := each (List.range 32) rackIngest s
  let s := each (accelPlates s) (fun r s => estPlate r (plateSilence r s)) s
  histRound (selfTemps e s)

/-- INGEST_CLOSE (R88): at 0.55P, in every role but SAFE (R137). -/
def execIngestClose (sens : SelfSens) (s : State) : Host.Outcome State Fault Refusal :=
  live (fun s =>
    if !s.began || s.glb.role == .safe then s
    else ingestOp sens (clockTo (s.t0At + periodNs s * 55 / 100) s)) s

end Sys2Proof.Machine
end

