-- ==== Sys2Proof/Machine/Forecast.lean ====
section
/-! DEFINITION. The batched forecast, the residual guard and what follows from it (R86, R89 to R100, R144): rollouts, promotion and demotion, substitution counts, adaptation. -/

namespace Sys2Proof.Machine

/-! ### Inputs of a rollout (R80, R89) -/

/-- Horizon H in µs. -/
def horizonUs (s : State) : Nat := (pat s).bind.horizon * 1000

/-- Step length Δ in ms, FP32 (R81). -/
def deltaMs (s : State) : F32 := fdiv (fofNat (pat s).bind.horizon) (fofNat 24)

/-- The `n` values of a window of `len` ms that ends at `t0`, oldest first, `stride` ms apart; none where no sample lies in it (R89). -/
def windowVals (l : List (Nat × F16)) (t0 n stride len : Nat) : Option (List F16) :=
  let m0 := t0 / 1000
  let ms (i : Nat) : Nat := m0 - (n - 1 - i) * stride
  let inWin := l.filter (fun e => m0 < e.1 / 1000 + max 1 len && e.1 ≤ t0)
  match inWin.getLast? with
  | none => none
  | some first => some ((List.range n).map (fun i =>
      match inWin.find? (fun e => e.1 / 1000 ≤ ms i) with
      | some e => e.2
      | none => first.2))

/-- The cap in force on a plate, in W: that of the last record issued. -/
def capInForce (s : State) (p : Nat) : F32 := f32k (plateLs s p).cap 10

/-- Values of one input binding before offset and scale. A window without any sample holds the last used value; a free value where none was used. -/
def bindRaw (r : PlateRec) (i : Nat) (b : BindEntry) (s : State) : List F32 × State :=
  let n := max 1 (b.window / max 1 b.stride)
  let x := plateRun s r.plate
  let fixed (v : F32) : List F32 := List.replicate n v
  let held (s : State) : List F32 × State :=
    match tget x.lastIn i with
    | some v => (fixed v, s)
    | none => let (w, s) := freshWord s; (fixed w, s)
  let use (l : List F32) (s : State) : List F32 × State :=
    (l, setPlate r.plate { x with lastIn := tset x.lastIn i (nth l (l.length - 1) fzero) } s)
  if b.kind = 0x40 then (fixed (supplyT s r.manifold), s)
  else if b.kind = 0x41 then
    match (chanEng s (manifoldRec s r.manifold).flowCh).1 with
    | some v => use (fixed v) s
    | none => held s
  else if b.kind = 0x42 then (fixed (capInForce s r.plate), s)
  else if b.kind = 0x43 then (fixed (deltaMs s), s)
  else
    let ck := ckOf b.kind b.index
    match windowVals (mergeDesc (tgetD x.hist ck []) (tgetD x.hist (ckFlag ck) [])) (x.tau0.getD 0) n b.stride b.window with
    | some l => use (l.map f16to32) s
    | none => held s

/-- A binding's tensor is of a kind of R76: 3 model input, 4 model output. -/
def bindKind (m : ModelC) (b : BindEntry) (k : Nat) : Bool :=
  match m.tensors[b.tensor]? with
  | some t => t.kind == k
  | none => false

/-- One binding's window, in ring units, joins those of plate `p` in the input staging (R89). -/
def stageWindow (p : Nat) (l : List F32) (s : State) : State :=
  setPlate p { plateRun s p with staged := (plateRun s p).staged ++ l.map f32to16 } s

/-- The input values of every model input tensor, bindings in the section's order; their windows stand in the input staging afterwards (R89). -/
def bindInputs (m : ModelC) (r : PlateRec) (s : State) : (Tab (List F32) × Nat) × State :=
  ((List.range m.binds.length).zip m.binds).foldl (fun (a : (Tab (List F32) × Nat) × State) (e : Nat × BindEntry) =>
    if bindKind m e.2 3 then
      let (l, s) := bindRaw r e.1 e.2 a.2
      let s := stageWindow r.plate l s
      let xs := l.map (fun v => xmul (xsub (xk v) (xk e.2.offset)) (xk e.2.scale))
      ((tmod a.1.1 e.2.tensor [] (· ++ xs.map (·.1)), if xs.any (·.2) then Nat.lor a.1.2 fxOverflow else a.1.2), s)
    else a) (([], 0), setPlate r.plate { plateRun s r.plate with staged := [] } s)

/-! ### Rollout (R90) -/

/-- Place of an output kind and index in a trajectory (R84); none for another kind. -/
def outSlot (kind index : Nat) : Option Nat :=
  if kind = 1 && index < 64 then some index
  else if kind = 2 && index < 16 then some (64 + index)
  else if kind = 4 then some 80
  else if kind = 0x80 then some 81
  else none

/-- The output bindings with the element each reads: its ordinal among the tensor's bindings. -/
def outBinds (m : ModelC) : List (BindEntry × Nat) :=
  (m.binds.foldl (fun (a : List (BindEntry × Nat) × Tab Nat) b =>
    if bindKind m b 4 then (a.1 ++ [(b, tgetD a.2 b.tensor 0)], tset a.2 b.tensor (tgetD a.2 b.tensor 0 + 1)) else a) ([], [])).1

/-- An output value (R80): tensor value × scale + offset; the confidence clamped to 0 to 1. -/
def outVal (b : BindEntry) (v : FX) : F16 × Bool :=
  let y := xadd (xmul v (xk b.scale)) (xk b.offset)
  f32to16X (if b.kind = 0x80 then (if f32v y.1 = .nan then y else (fmin 0x3F800000#32 (fmax fzero y.1), y.2)) else y)

/-- The 82 values of a step, and its exceptions; an output without a binding holds 0, the confidence 1. -/
def stepVals (e : OpEnv) (vs : Tab TVal) : List F16 × Nat :=
  (outBinds e.m).foldl (fun (l : List F16 × Nat) (b : BindEntry × Nat) =>
    match outSlot b.1.kind b.1.index with
    | some i =>
      let (t, g) := tensorOf e vs b.1.tensor
      let (v, o) := outVal b.1 (elemX t b.2)
      (l.1.set i v, Nat.lor (Nat.lor l.2 g) (if o then fxOverflow else 0))
    | none => l) (List.replicate 81 0#16 ++ [0x3C00#16], 0)

/-- `n` rollout steps: trajectory, recurrent state after the last, exceptions. -/
def rollout (e : OpEnv) : Nat → Tab TVal → Nat → List (List F16) × Tab TVal × Nat
  | 0, st, f => ([], st, f)
  | n + 1, st, f =>
    let (vs, g) := runStep e st
    let (v, o) := stepVals e vs
    let (t, st', h) := rollout e n (statesOf e.m vs) (Nat.lor (Nat.lor f g) o)
    (v :: t, st', h)

/-- Sets every exception bit of a mask (R71). -/
def fmtExcs (mask phys : Nat) (s : State) : State := each (List.range 7) (fun b s => if bitOf mask b then fmtExc b phys s else s) s

/-- A plate's adapter bytes. -/
def adapterBytes (s : State) (m : ModelC) (p : Nat) : Bytes := memRdN s.mem (adapterBase s p) m.adapterSize

/-- The rollout of a plate by the active model on a tile. -/
def forecastPlate (m : ModelC) (r : PlateRec) (phys : Nat) (s : State) : State :=
  let ((ins, g), s) := bindInputs m r s
  let x := plateRun s r.plate
  let e : OpEnv := { m := m, adapter := adapterBytes s m r.plate, inputs := fun t => tgetD ins t [] }
  let (tr, st, f) := rollout e 24 x.rstate g
  fmtExcs f phys (setPlate r.plate { x with rstate := st, traj := tr, run := some { origin := x.tau0.getD 0, round := s.round, steps := tr } } s)

/-- The self-plate's rollout by the self-model (R86). -/
def forecastSelf (r : PlateRec) (s : State) : State :=
  let x := plateRun s r.plate
  let tr := (List.range 24).map (fun j => (List.range 82).map (Config.selfModel s.round j))
  setPlate r.plate { x with traj := tr, run := some { origin := x.tau0.getD 0, round := s.round, steps := tr } } s

/-- The forecast layer runs: the model is on trial or accepted, and the array is not gated. -/
def modelRuns (s : State) : Bool := 3 ≤ s.fc.mdl.st && s.fc.mdl.st ≤ 5

/-- A stale plate's last inputs lie a whole horizon back: its rollout is skipped, and it uses the fallback estimator in that round (R91). -/
def horizonPast (s : State) (r : PlateRec) : Bool := decide (horizonUs s ≤ staleOf s r * (pat s).bind.period)

/-- A plate is forecast in this round (R64, R69, R91, R109). -/
def forecasts (s : State) (r : PlateRec) : Bool :=
  let x := plateRun s r.plate
  x.tau0.isSome && r.fcEnable && decide (x.noFcUntil ≤ s.round) && !horizonPast s r &&
    (if r.selfPlate then tileUp s 0 0
     else modelRuns s && x.st != 0 && (match x.place with | some (k, t) => tileUp s k t | none => false))

/-- Rounds per forecast k (R82). -/
def rateK (s : State) : Nat := max 1 s.fc.mdl.k

/-- The plates a tile rolls out leave their adapters in its two halves: the last plate and the one before it, by turns (R42). -/
def tileHalves (l : List Nat) : Option Nat × Option Nat :=
  let n := l.length
  let a := l[n - 1]?
  let b := if 2 ≤ n then l[n - 2]? else none
  if n % 2 = 1 then (a, b) else (b, a)

/-- A tile with rollouts in the window is in FORECAST; one without spins (R41). -/
def tilesForecast (s : State) : State :=
  let busy (k t : Nat) : List Nat := (platesOn s k t).filter (fun p => (plateRun s p).run.isSome)
  { (tilesWork 3 s) with fc.regions := (tilesWork 3 s).fc.regions.map (fun (e : Nat × RegionSt) =>
    (e.1, { e.2 with tiles := e.2.tiles.map (fun (x : Nat × TileSt) =>
      let l := busy e.1 x.1
      (x.1, if x.2.st = 3 && !l.isEmpty then { x.2 with st := 2, halves := tileHalves l } else x.2)) })) }

/-- The batch of a round (R90, R96). -/
def forecastOp (s : State) : State :=
  if arrayGated s then s
  else if s.round % rateK s != 0 then tilesForecast s
  else
    tilesForecast <| each (pat s).plates (fun r s =>
      if forecasts s r then
        if r.selfPlate then forecastSelf r s
        else
          match s.fc.mdl.active, (plateRun s r.plate).place with
          | some m, some (k, t) => forecastPlate m r (tileSt s k t).phys s
          | _, _ => s
      else setPlate r.plate { plateRun s r.plate with run := none, fallback := (plateRun s r.plate).fallback || horizonPast s r } s) s

/-- FORECAST_START (R90): at 0.60P. -/
def execForecastStart (s : State) : Host.Outcome State Fault Refusal :=
  live (fun s =>
    if !s.began || s.glb.role == .safe then s else forecastOp (clockTo (s.t0At + periodNs s * 60 / 100) s)) s

/-! ### Residual guard (R92 to R94) -/

/-- The outputs of a plate that have a measured counterpart: place and channel. -/
def measuredOuts (s : State) (r : PlateRec) : List (Nat × Nat) :=
  let has (k i : Nat) : Bool := r.chans.any (fun c => c.kind == k && c.index == i)
  let of_ (k i : Nat) : Option (Nat × Nat) := if has k i then (outSlot k i).map (fun o => (o, ckOf k i)) else none
  if r.selfPlate then
    ((List.range r.nHot).filterMap (of_ 1)) ++ ((List.range r.nStack).filterMap (of_ 2)) ++ ([0].filterMap (of_ 4))
  else
    match s.fc.mdl.active with
    | some m => (outBinds m).filterMap (fun b => if b.1.kind = 0x80 then none else of_ b.1.kind b.1.index)
    | none => []

/-- The bound outputs of a plate: place and kind, with or without a counterpart. -/
def boundOuts (s : State) (r : PlateRec) : List (Nat × Nat) :=
  if r.selfPlate then (List.range r.nHot).map (fun i => (i, 1)) ++ (List.range r.nStack).map (fun i => (64 + i, 2)) ++ [(80, 4)]
  else
    match s.fc.mdl.active with
    | some m => (outBinds m).filterMap (fun b => if b.1.kind = 0x80 then none else (outSlot b.1.kind b.1.index).map (fun o => (o, b.1.kind)))
    | none => []

/-- Values of an output over the 24 steps. -/
def trajOf (f : FcRec) (o : Nat) : List F16 := f.steps.map (fun l => nth l o f16Missing)

/-- The forecast of an output at `d` µs after its origin, from y[0] = the sample at the origin (R92). -/
def interpAt (s : State) (f : FcRec) (o : Nat) (y0 : F16) (d : Nat) : F32 :=
  let dm := fdiv (fofNat d) (fofNat 1000)
  let dl := deltaMs s
  let j := min (f32v (fdiv dm dl)).trunc.toNat 23
  let y (i : Nat) : F32 := f16to32 (if i = 0 then y0 else nth (trajOf f o) (i - 1) f16Missing)
  fadd (y j) (fmul (fsub (y (j + 1)) (y j)) (fdiv (fsub dm (fmul (fofNat j) dl)) dl))


/-- Newest valid sample at or before `t`. -/
def sampleAt (x : PlateRun) (ck t : Nat) : Option (Nat × F16) := (validSamples x ck).find? (fun e => e.1 ≤ t)

/-- Evaluation of one output (R92): its sample time and residual. -/
def evalOut (s : State) (x : PlateRun) (f : FcRec) (o : Nat × Nat) : Option (Nat × F32) :=
  match (tgetD x.hist o.2 []).head?, sampleAt x o.2 f.origin with
  | some c, some y0 =>
    if f.origin < c.1 && c.1 - f.origin ≤ horizonUs s then
      some (c.1, fabs (fsub (interpAt s f o.1 y0.2 (c.1 - f.origin)) (f16to32 c.2)))
    else none
  | _, _ => none

/-- The lowest confidence over the horizon. -/
def lowConf (f : FcRec) : F32 := ((trajOf f 81).map f16to32).foldl fmin 0x3F800000#32

/-- A trajectory value of the plate's outputs is NaN or infinite (R92, R109). -/
def trajBad (s : State) (r : PlateRec) (f : FcRec) : Bool :=
  (81 :: (boundOuts s r).map (·.1)).any (fun o => (trajOf f o).any (fun v => !(decF fmtFP16 v.toNat).finite))

/-- The guard band of a plate in °C. -/
def bandOf (s : State) (r : PlateRec) : F32 := f32k (if r.band = 0 then s.fc.band else r.band) 100

/-- Largest of residuals; a NaN stays. -/
def maxResid (l : List F32) : F32 := l.foldl (fun a b => if f32v a = .nan then a else if f32v b = .nan then b else fmax a b) fzero

/-- The evaluation is an excursion (R92). -/
def isExcursion (s : State) (r : PlateRec) (f : FcRec) (resid : F32) : Bool :=
  !fle resid (bandOf s r) || trajBad s r f ||
    (0 < (pat s).bind.confMin && !fle (f32k (pat s).bind.confMin 1000) (lowConf f))

/-- Changes the state of one of a plate's forecasts. -/
def setFc (p round st : Nat) (s : State) : State :=
  let x := plateRun s p
  setPlate p { x with fcs := x.fcs.map (fun f => if f.round == round then { f with st := st } else f) } s

/-- The counts of R93 after an evaluation. The warm hold, a trial, in which every plate forecasts in shadow, and a forced plate count nothing (R82, R95, R100). -/
def countEval (p : Nat) (exc : Bool) (s : State) : State :=
  let x := plateRun s p
  let b := (pat s).bind
  if x.forced || s.fc.warmHold || s.fc.mdl.st = 3 then s
  else if x.st = 2 then
    if exc then
      let s := setPlate p { x with exc := x.exc + 1 } s
      if b.demote ≤ x.exc + 1 then demote 1 p s else s
    else setPlate p { x with exc := 0 } s
  else if x.st = 1 then
    if exc then setPlate p { x with inband := 0 } s
    else if b.promote ≤ x.inband + 1 then
      emit 0x0A45 (src 2 (plateRegion s p)) (aw p ++ aq s.round) (setPlate p { x with st := 2, exc := 0, inband := 0, promAt := some s.round } s)
    else setPlate p { x with inband := x.inband + 1 } s
  else s

/-- The self-plate's confirmed forecast above 95 °C (R86): its hottest hot-spot, the peak, the step of the peak. -/
def selfHot (r : PlateRec) (f : FcRec) (s : State) : State :=
  let peak (i : Nat) : F32 := (maxF ((trajOf f i).map f16to32)).getD fzero
  let best := (List.range r.nHot).foldl (fun b i => if flt (peak b) (peak i) then i else b) 0
  if r.nHot != 0 && flt (fofNat 95) (peak best) then
    let step := ((List.range 24).find? (fun j => f16to32 (nth (trajOf f best) j f16Missing) == peak best)).getD 0
    emit 0x0A48 srcSup (aw best ++ aw (f32to16 (peak best)).toNat ++ aw (step + 1)) s
  else s

/-- A pending forecast after its first evaluation (R94). -/
def settleFc (r : PlateRec) (f : FcRec) (exc : Bool) (s : State) : State :=
  let p := r.plate
  if f.st != 1 then s
  else if exc || (plateRun s p).st != 2 || (plateRun s p).forced then setFc p f.round 3 s
  else
    let x := plateRun s p
    let s := setPlate p { x with fcs := x.fcs.map (fun g =>
      if g.round == f.round then { g with st := 2 } else if g.round < f.round && g.st = 1 then { g with st := 3 } else g) } s
    if r.selfPlate then selfHot r f s else s

/-- The newest confirmed forecast of a plate. -/
def newestConfirmed (x : PlateRun) : Option FcRec := (x.fcs.filter (fun f => f.st == 2)).getLast?

/-- The forecast voters on a plate's outputs take the confirmed forecast at the guard's time (R144). -/
def feedVoters (r : PlateRec) (tm : Nat) (s : State) : State :=
  let x := plateRun s r.plate
  match newestConfirmed x with
  | none => s
  | some f =>
    each ((pat s).groups.filter (fun g => g.fcVoter && g.fcPlate == r.plate)) (fun g s =>
      match outSlot g.fcKind g.fcIndex, sampleAt x (ckOf g.fcKind g.fcIndex) f.origin with
      | some o, some y0 =>
        if f.origin < tm && tm - f.origin ≤ horizonUs s then
          let v := codeOf ((inputRec s (nth g.members 0 0xFFFF)).getD {}) (interpAt s f o y0.2 (tm - f.origin))
          { s with lp.groups := tset s.lp.groups g.group { grpSt s g.group with fcVal := some v } }
        else s
      | _, _ => s) s

/-- A voter's forecast value stands until the next guard only (R144). -/
def endVoters (p : Nat) (s : State) : State :=
  each ((pat s).groups.filter (fun g => g.fcVoter && g.fcPlate == p && (grpSt s g.group).fcVal.isSome)) (fun g s =>
    { s with lp.groups := tset s.lp.groups g.group { grpSt s g.group with fcVal := none } }) s

/-- The guard on one plate (R92 to R94). -/
def guardPlate (r : PlateRec) (s : State) : State :=
  let p := r.plate
  let x := plateRun s p
  let s := endVoters p s
  let s :=
    match (x.fcs.filter (fun f => f.round < s.round)).getLast? with
    | none => s
    | some f =>
      let ev := (measuredOuts s r).filterMap (evalOut s x f)
      match maxN (ev.map (·.1)) with
      | none => s
      | some tm =>
        let resid := maxResid (ev.map (·.2))
        let exc := isExcursion s r f resid
        let s := countEval p exc (setPlate p { x with resid := f32to16 resid } s)
        feedVoters r tm (settleFc r f exc s)
  let x := plateRun s p
  setPlate p { x with fcs := (x.fcs.map (fun f => if f.st = 1 && f.round + 4 ≤ s.round then { f with st := 3 } else f)).filter (fun f => s.round ≤ f.round + 20 || (newestConfirmed x).map (·.round) == some f.round) } s

/-! ### Completion of rollouts, the archive (R33, R96, R102) -/

/-- The archive entry of a forecast. -/
def archiveEntry (p : Nat) (f : FcRec) (s : State) : State :=
  let peak (o : Nat) : F16 := f32to16 ((maxF ((trajOf f o).map f16to32)).getD fzero)
  let bs := le (f.round % 2 ^ 32) 4 ++ le (peak 80).toNat 2 ++ le (f32to16 (lowConf f)).toNat 2 ++ f16Bytes ((List.range 80).map peak)
  hbmPut (areaBase s 2 + (f.round % max 1 (depthArch s) * variantPlates s + p) * 168) bs s

/-- A plate's rollout at the guard: complete, or late; a plate without one uses the fallback estimator (R33). -/
def completeRun (late : Bool) (r : PlateRec) (s : State) : State :=
  let x := plateRun s r.plate
  let due := (s.round + 1) % rateK s = 0
  match x.run with
  | some f =>
    if f.round + rateK s - 1 ≤ s.round then
      if late then setPlate r.plate { x with run := none, fallback := true } { s with fc.late := s.fc.late + 1 }
      else archiveEntry r.plate f (setPlate r.plate { x with run := none, fallback := false, fcs := x.fcs ++ [f] } s)
    else s
  | none => if due then setPlate r.plate { x with fallback := true } s else s

/-- The forecast a plate's firm cap rests on (R109): PROMOTED before this round's guard, newest confirmed, at most k + 3 rounds old. -/
def leaseFc (s : State) (r : PlateRec) : Option FcRec :=
  let x := plateRun s r.plate
  if arrayGated s || s.fc.mdl.st = 3 || x.st != 2 || x.forced || x.fallback || !r.fcEnable || x.promAt == some s.round then none
  else
    match newestConfirmed x with
    | some f => if s.round ≤ f.round + rateK s + 3 && !trajBad s r f then some f else none
    | none => none

/-- Latches the counts of R97; the 60 s totals begin anew every 60 × W1 rounds. -/
def latchCounts (s : State) : State :=
  let n (f : PlateRec → Bool) : Nat := ((pat s).plates.filter f).length
  let s := { s with
    fc.staleN := n (fun r => 1 ≤ staleOf s r)
    fc.stale5 := n (fun r => 5 ≤ staleOf s r)
    fc.fallbackN := n (fun r => (leaseFc s r).isNone)
    fc.discarded := min 7 s.fc.discardNow }
  let w := 60 * ((1000000 + (pat s).bind.period / 2) / max 1 (pat s).bind.period)
  let old := if s.round % max 1 w = 0 then [0, 0, 0, 0, 0] else s.fc.totals
  let s := { s with fc.totals := (old.zip [s.fc.late, s.fc.staleN, s.fc.fallbackN, s.fc.discardNow, s.fc.stale5]).map (fun (p : Nat × Nat) => p.1 + p.2) }
  { s with fc.discardNow := 0 }

/-- The residual guard of a round. `late`: plates whose rollout is not complete. -/
def guardOp (late : List Nat) (s : State) : State :=
  let s := { s with fc.late := 0 }
  let s := each (pat s).plates (fun r s => completeRun (late.contains r.plate) r s) s
  tilesWork 3 (latchCounts (each (pat s).plates guardPlate s))

/-- RESIDUAL_GUARD (R92): at 0.90P. -/
def execResidualGuard (late : List Nat) (s : State) : Host.Outcome State Fault Refusal :=
  live (fun s =>
    if !s.began || s.glb.role == .safe then s else guardOp late (clockTo (s.t0At + periodNs s * 90 / 100) s)) s

/-! ### Control by the host, the warm hold (R95, R100) -/

/-- A plate is forced to DEMOTED. -/
def forceOp (p : Nat) (s : State) : State :=
  if (plateRec s p).isNone || (plateRun s p).forced then s
  else
    let s := demote 2 p s
    setPlate p { plateRun s p with forced := true } s

/-- A forced plate is released: it promotes again through R93. -/
def releaseOp (p : Nat) (s : State) : State :=
  if (plateRun s p).forced then setPlate p { plateRun s p with forced := false, exc := 0, inband := 0 } s else s

/-- FORCE_DEMOTED (R95). -/
def execForceDemoted (plate : Nat) (s : State) : Host.Outcome State Fault Refusal := live (forceOp plate) s

/-- PLATE_RELEASE (R95). -/
def execPlateRelease (plate : Nat) (s : State) : Host.Outcome State Fault Refusal := live (releaseOp plate) s

/-- WARM_HOLD_END (R100): WARM_HOLD rounds have passed since the hold began. -/
def execWarmHoldEnd (s : State) : Host.Outcome State Fault Refusal :=
  live (fun s =>
    if s.fc.warmHold && decide (s.fc.warmFrom + (pat s).bind.warmHold ≤ s.round) then updateDegraded { s with fc.warmHold := false } else s) s

/-! ### Adaptation (R98, R99) -/

/-- Adaptation may run in this role and configuration; it stops in every shed stage (R428). Model states 4 and 5 only, so none in a trial (DEDUCED, log 147). -/
def adapts (s : State) : Bool :=
  (drives s || (s.glb.role == .standby && modeNow s = 1)) && (pat s).bind.adaptEn && !s.fc.pause && (s.fc.mdl.st = 4 || s.fc.mdl.st = 5) &&
    s.pwr.shed == 0 && !arrayGated s

/-- The measurements of the training window: every bound output with a counterpart has its samples, none flagged (R99). -/
def trainable (s : State) (r : PlateRec) : Bool :=
  let x := plateRun s r.plate
  let t1 := x.tau0.getD 0
  let t0 := t1 - horizonUs s
  let inWin (e : Nat × F16) : Bool := t0 < e.1 && e.1 ≤ t1
  x.tau0.isSome && (measuredOuts s r).all (fun o =>
    decide ((pat s).bind.horizon ≤ ((tgetD x.hist o.2 []).filter inWin).length) && ((tgetD x.hist (ckFlag o.2) []).filter inWin).isEmpty)

/-- A plate may be adapted (R99); the self-plate is none that is chosen (DEDUCED, log 147). -/
def adaptable (s : State) (p : Nat) : Bool :=
  match plateRec s p with
  | some r => r.adaptEnable && !r.selfPlate && staleOf s r = 0 && (plateRun s p).st != 0 && trainable s r
  | none => false

/-- The plate of a tile's next slice, and where the next one starts (R99). -/
def slicePlate (s : State) (k t : Nat) : Option (Nat × Nat) :=
  let ps := (platesOn s k t).filter (adaptable s)
  match ps.find? (fun p => (plateRun s p).st == 1) with
  | some p => some (p, tgetD s.fc.slicePos (k * 24 + t) 0)
  | none =>
    let a := tgetD s.fc.slicePos (k * 24 + t) 0
    match ps.find? (fun p => a ≤ p) with
    | some p => some (p, p + 1)
    | none => ps.head?.map (fun p => (p, p + 1))

/-- The squared error of a slice in FP32 (R98): the model is rolled out from the input window that ended at τ0 − H, from a recurrent state of zero, and every measurement of the horizon is compared with the trajectory at its time. -/
def sliceError (m : ModelC) (r : PlateRec) (s : State) : FX × Nat :=
  let x := plateRun s r.plate
  let t1 := x.tau0.getD 0
  let t0 := t1 - horizonUs s
  let ((ins, g), _) := bindInputs m r (setPlate r.plate { x with tau0 := some t0 } s)
  let e : OpEnv := { m := m, adapter := adapterBytes s m r.plate, inputs := fun t => tgetD ins t [] }
  let (tr, _, g) := rollout e 24 [] g
  let f : FcRec := { origin := t0, round := s.round, steps := tr }
  ((measuredOuts s r).foldl (fun a o =>
    match sampleAt x o.2 t0 with
    | none => a
    | some y0 =>
      (((tgetD x.hist o.2 []).filter (fun c => t0 < c.1 && c.1 ≤ t1)).reverse).foldl (fun a c =>
        let d := xsub (xk (interpAt s f o.1 y0.2 (c.1 - t0))) (xk (f16to32 c.2))
        xadd a (xmul d d)) a) (xk fzero), g)

/-- 2^−20, the ε of R98. -/
def adamEps : F32 := 0x35800000#32

/-- The Adam update of one value (R98) in FP32: value, gradient, first and second moment; the new value and moments. Decay rates 0.9 and 0.999; the moments are not corrected for their start (DESIGN CHOICE: R98 keeps no step count). -/
def adamStep (rate v g m1 m2 : F32) : F32 × F32 × F32 :=
  let a := fadd (fmul (f32k 9 10) m1) (fmul (f32k 1 10) g)
  let b := fadd (fmul (f32k 999 1000) m2) (fmul (f32k 1 1000) (fmul g g))
  (fsub v (fmul rate (fdiv a (fadd (fsqrt b) adamEps))), a, b)

/-- An FP32 value of the optimiser state. -/
def optVal (s : State) (a : Nat) : F32 := BitVec.ofNat 32 (unLe (memRdN s.mem a 4))

/-- The Adam results of a slice, element by element: the two moments of an element lie side by side in the optimiser state (DESIGN CHOICE). -/
def sliceAdam (m : ModelC) (p : Nat) (err : F32) (s : State) : List (F32 × F32 × F32) :=
  (List.range (m.adapterSize / 2)).map (fun i =>
    let v := toF32 (decF fmtBF16 (unLe (memRdN s.mem (adapterBase s p + 2 * i) 2)))
    adamStep (pat s).bind.learnRate v (Config.gradient p s.round i err) (optVal s (optBase s p + 8 * i)) (optVal s (optBase s p + 8 * i + 4)))

/-- One slice: the Adam results, the adapter written back in BF16 with stochastic rounding, the moments (R57, R98). The LFSR is loaded at a tile's first slice of a round. The adapter stays in the half of the buffer that it was loaded into. -/
def sliceOp (m : ModelC) (k t p : Nat) (s : State) : State :=
  let (err, g) := match plateRec s p with
    | some r => sliceError m r s
    | none => (xk fzero, 0)
  let rs := sliceAdam m p err.1 s
  let x := tileSt s k t
  let (bs, l, f) := srRun (if x.lfsrAt == some s.round then x.lfsr else lfsrLoad s.fc.srSeed x.phys) (rs.map (·.1))
  let mem := memWrN s.mem (adapterBase s p) (f16Bytes bs)
  let mem := memWrN mem (optBase s p) (rs.flatMap (fun r => le r.2.1.toNat 4 ++ le r.2.2.toNat 4))
  let s := setTile k t { x with lfsr := l, lfsrAt := some s.round, st := 4, halves := (some p, x.halves.2) } { s with mem := mem, fc.slices := satAdd 0xFFFF s.fc.slices 1 }
  fmtExcs (Nat.lor (Nat.lor g (if err.2 then fxOverflow else 0)) (if f then 64 else 0)) x.phys s

/-- The counters a tile created in its slice outlive the slice once it has ended (R339); those of a slice that t0 will pre-empt do not. -/
def sliceEnded (k t : Nat) (s : State) : State :=
  { s with sc.ctrs := tmap s.sc.ctrs (fun x => if x.owner == tileParty k t then { x with adapt := false } else x) }

/-- The instant within the round, in ns. -/
def inRound (s : State) : Nat := s.clock - s.t0At

/-- The next instant of the round at which a slice may run (R98): in the windows from 0.02P to 0.50P and from 0.98P to the next t0. -/
def sliceAt (s : State) : Option Nat :=
  let o := inRound s * 100
  let p := periodNs s
  if o < 2 * p then some (s.t0At + 2 * p / 100)
  else if o < 50 * p then some s.clock
  else if o < 98 * p then some (s.t0At + 98 * p / 100)
  else if o < 100 * p then some s.clock
  else none

/-- ADAPTATION_SLICE (R98, R99): one slice of a tile in the round's next window; one that does not complete in its window discards its result. -/
def execAdaptationSlice (region pos : Nat) (completed : Bool) (s : State) : Host.Outcome State Fault Refusal :=
  live (fun s =>
    let s := if completed || inRound s * 100 < 50 * periodNs s then sliceEnded region pos s else s
    match s.fc.mdl.active, sliceAt s with
    | some m, some at_ =>
      if !adapts s || !completed || !tileUp s region pos || locTakes s region pos then s
      else
        match slicePlate s region pos with
        | none => s
        | some (p, next) => sliceOp m region pos p { (clockTo at_ s) with fc.slicePos := tset s.fc.slicePos (region * 24 + pos) next }
    | _, _ => s) s

/-! ### The mirror sweep (R100) -/

/-- Records of one adapter (R317, subtype 6). -/
def adapterRecs (s : State) (m : ModelC) (p : Nat) : List Bytes :=
  let a := adapterBytes s m p
  let fs := parts 8192 a
  ((List.range fs.length).zip fs).map (fun f =>
    le p 2 ++ le f.1 2 ++ le fs.length 2 ++ le 0 2 ++ le s.round 8 ++ le (crc32c a) 4 ++ le a.length 4 ++ f.2)

/-- MIRROR_SWEEP (R100): a mirror period after the last one the ACTIVE module sends every adapter; its partner closes its count of the sweep. -/
def execMirrorSweep (s : State) : Host.Outcome State Fault Refusal :=
  live (fun s =>
    match s.fc.mdl.active with
    | none => s
    | some m =>
      if m.adapterSize = 0 then s
      else if s.glb.role == .active then
        let s := clockTo (s.fc.lastSweep + (pat s).bind.mirrorS * 1000000000) s
        let ps := (accelPlates s).map (·.plate)
        let s := each ps (fun p s => each (adapterRecs s m p) (fun r s => mirrorSend 6 r.length [r] s) s) s
        emit 0x0A47 srcSup (aw ps.length ++ aw 0) { s with fc.lastSweep := s.clock }
      else if s.glb.role == .standby || s.glb.role == .held then
        emit 0x0A47 srcSup (aw s.fc.sweepApplied ++ aw s.fc.sweepBad)
          { s with fc.mirrorApplied := min 0x1FFF s.fc.sweepApplied, fc.sweepApplied := 0, fc.sweepBad := 0 }
      else s) s

end Sys2Proof.Machine
end

