-- ==== Sys2Proof/Machine/Allocator.lean ====
section
/-! DEFINITION. The row allocator (R106 to R115, R118, R126): capacities, water-filling in FP32, limit classes. -/

namespace Sys2Proof.Machine

/-- Source unit of the allocator (R352). -/
def srcAlloc : Nat := src 10 0

/-- No value of a 32-bit register of R125. -/
def none32 : Nat := 0xFFFFFFFF

/-! ### Capacities (R110, R111) -/

/-- Key of a capacity input: 1 manifold flow, 2 valve, 3 row flow, 4 speed, 5 T_fw, 6 allowance. -/
def inKey (kind index : Nat) : Nat := kind * 64 + index

/-- An input is unknown: its record once per episode, with its substitute. -/
def inputLost (kind index : Nat) (sub : Word) (s : State) : State :=
  if s.al.unk.contains (inKey kind index) then s
  else emit 0x0B09 srcAlloc (aw kind ++ aw index ++ [sub]) { s with al.unk := s.al.unk ++ [inKey kind index] }

/-- An input is valid. -/
def inputGood (kind index : Nat) (v : F32) (s : State) : State :=
  { s with al.unk := s.al.unk.filter (· != inKey kind index), al.lastGood := tset s.al.lastGood (inKey kind index) v }

/-- Replacement of an unknown input from its last valid value (R111); temperatures have their own rule. -/
def inputSub (s : State) (kind : Nat) (last : Option F32) : F32 :=
  if kind = 2 then 0x3F800000#32
  else if kind = 6 then
    let fail := (pat s).alloc.allowFail
    match last with
    | some v => fmin v fail
    | none => if ffinite fail then fail else fzero
  else
    match last with
    | some v => fdiv v (fofNat 2)
    | none => if kind = 4 then 0x3F800000#32 else fzero

/-- The value used for a named flow, position, speed or allowance. -/
def capInput (kind index ch : Nat) (s : State) : F32 × State :=
  match chanEng s ch with
  | (some v, false) => (v, inputGood kind index v s)
  | _ =>
    let v := inputSub s kind (tget s.al.lastGood (inKey kind index))
    (v, inputLost kind index v s)

/-- A capacity input of a key is named by the pattern, with what its term needs beside (R110). -/
def capNamed (a : AllocRec) (k : Nat) : Bool :=
  if k / 64 = 1 || k / 64 = 2 then
    match a.manifolds[k % 64]? with
    | some m => m.flowCh != 0xFFFF && m.valveCh != 0xFFFF
    | none => false
  else if k / 64 = 3 || k / 64 = 4 then a.rowFlowCh != 0xFFFF && a.speedCh != 0xFFFF
  else if k / 64 = 5 then a.tfwCh != 0xFFFF
  else a.allowCh != 0xFFFF

/-- A valid input's value is kept as its last valid one (R111). -/
def noteInput (kind index ch : Nat) (s : State) : State :=
  match chanEng s ch with
  | (some v, false) => if capNamed (pat s).alloc (inKey kind index) then inputGood kind index v s else s
  | _ => s

/-- The valid inputs are kept, at every tick and at an allocator milestone at which the allocator does not run (R111). -/
def noteInputs (s : State) : State :=
  let a := (pat s).alloc
  let s := each (List.range 32) (fun m s => noteInput 2 m (manifoldRec s m).valveCh (noteInput 1 m (manifoldRec s m).flowCh s)) s
  noteInput 6 0 a.allowCh (noteInput 5 0 a.tfwCh (noteInput 4 0 a.speedCh (noteInput 3 0 a.rowFlowCh s)))

/-- The substitute value of a channel's process input where its record marks one (R142), in the channel's units. -/
def chanSubst (s : State) (c : Nat) : Option F32 :=
  match chanRec s c with
  | none => none
  | some r => if 0x8000 ≤ r.pv then none else ((inputRec s r.pv).bind (substOf s)).map (engOf (pvScale s r.pv))

/-- The facility water temperature: its value, its substitute, the last valid value plus SUB_OFFSET, or none. An input that has delivered no value yet takes its substitute too. -/
def tfwInput (ch : Nat) (s : State) : Option F32 × State :=
  match chanEng s ch with
  | (some v, false) => (some v, inputGood 5 0 v s)
  | (some v, true) => (some v, inputLost 5 0 v s)
  | (none, _) =>
    match chanSubst s ch, tget s.al.lastGood (inKey 5 0) with
    | some v, _ => (some v, inputLost 5 0 v s)
    | none, some l => let v := fadd l (f32k s.sv.sec.subOffset 100); (some v, inputLost 5 0 v s)
    | none, none => let (w, s) := freshWord s; (none, inputLost 5 0 w s)

/-- CV × (flow / max(part, 0.25)) / 60 × DT. -/
def heatOf (s : State) (flow part : F32) (dt : Nat) : F32 :=
  fmul (fdiv (fmul (pat s).alloc.cv (fdiv flow (fmax part 0x3E800000#32))) (fofNat 60)) (f32k dt 100)

/-- CAPTURE as a fraction. -/
def capture (s : State) : F32 := f32k (pat s).alloc.capture 1000

/-- A channel is named (R130). -/
def named (ch : Nat) : Bool := ch != 0xFFFF

/-- C_pump. -/
def cPump (s : State) : Option F32 × State :=
  let a := (pat s).alloc
  if named a.rowFlowCh && named a.speedCh then
    let (f, s) := capInput 3 0 a.rowFlowCh s
    let (v, s) := capInput 4 0 a.speedCh s
    (some (heatOf s f v a.rowDt), s)
  else (none, s)

/-- A train's status channel is GOOD and non-zero. -/
def trainUp (s : State) (t : TrainRec) : Bool :=
  match chanEng s t.statusCh with
  | (some v, false) => f32v v != .fin false 0 0 && !(fle v fzero && fle fzero v)
  | _ => false

/-- C_hx from T_fw. -/
def cHx (s : State) (t : Option F32) : Option F32 :=
  let a := (pat s).alloc
  let fit := a.trains.filter (fun t => named t.statusCh)
  if fit.isEmpty || !named a.tfwCh then none
  else
    match t with
    | none => some fzero
    | some t => some ((fit.filter (trainUp s)).foldl (fun c r => fadd c (fmul r.ua (fsub (f32k a.rowRetMax 100) t))) fzero)

/-- The allowance applied: the smaller of the input and LS_ALLOW_OVR; none where neither holds. -/
def allowance (s : State) : Option F32 × State :=
  let a := (pat s).alloc
  let ovr := if s.al.allowOvr = none32 then none else some (f32k s.al.allowOvr 10)
  if named a.allowCh then
    let (v, s) := capInput 6 0 a.allowCh s
    let s := { s with al.allowV := some v }
    (some (match ovr with | some o => fmin v o | none => v), s)
  else (ovr, { s with al.allowV := none })

/-- C_fw. -/
def cFw (s : State) (t allow : Option F32) : Option F32 :=
  let a := (pat s).alloc
  if !named a.tfwCh then none
  else
    match allow with
    | none => none
    | some f =>
      match t with
      | none => some fzero
      | some t => some (fmul (fdiv (fmul a.cv f) (fofNat 60)) (fsub (f32k a.fwRetMax 100) t))

/-- The smaller of optional values. -/
def minO (a b : Option F32) : Option F32 :=
  match a, b with
  | some x, some y => some (fmin x y)
  | some x, none => some x
  | none, y => y

/-- A capacity in whole W, down; none32 where unbounded. -/
def wattOf (x : Option F32) : Nat :=
  match x with
  | some v => if ffinite v then min none32 (f32v v).trunc.toNat else none32
  | none => none32

/-- A limit register or field in W, none where unset. -/
def limitOf (n : Nat) : Option F32 := if n = none32 then none else some (fofNat n)

/-- The row's capacity (R110): K_row with its source. -/
def rowCapacity (s : State) : Option F32 × State :=
  let a := (pat s).alloc
  let (p, s) := cPump s
  let (t, s) := if named a.tfwCh then tfwInput a.tfwCh s else (none, s)
  let h := cHx s t
  let (al, s) := allowance s
  let f := cFw s t al
  let m := minO p (minO h f)
  let base := m.map (fun c => fdiv (fmax fzero c) (capture s))
  let mod_ := minO base (limitOf a.rowLimit)
  let lim := minO (limitOf a.rowLimit) (limitOf s.al.rowLimit)
  let k := minO base lim
  let byTerm := match base, lim with
    | some b, some l => fle b l
    | some _, none => true
    | none, _ => false
  let isMin (x : Option F32) : Bool := match x, m with | some v, some c => fle v c | _, _ => false
  let src_ := if !byTerm then 3 else if isMin p then 0 else if isMin h then 1 else 2
  (k, { s with
    al.rowCap := wattOf k
    al.rowMod := wattOf mod_
    al.rowSrc := src_
    al.allow := match al with | some v => (froundI (2 ^ 31) (fmul v (fofNat 10))).toNat | none => 0 })

/-- A manifold's capacity; none where it has no constraint. -/
def manCapacity (m : Nat) (s : State) : Option F32 × State :=
  let r := manifoldRec s m
  if named r.flowCh && named r.valveCh then
    let (f, s) := capInput 1 m r.flowCh s
    let (v, s) := capInput 2 m r.valveCh s
    (some (fdiv (fmax fzero (heatOf s f v r.dt)) (capture s)), s)
  else (none, s)

/-- A rack's capacity. -/
def rackCapacity (s : State) (r : Nat) : Option F32 :=
  match (pat s).alloc.racks[r]? with
  | some k => some (fsub (fofNat (min k.budget (tgetD s.al.rackBud r none32))) (fofNat k.margin))
  | none => (limitOf (tgetD s.al.rackBud r none32))

/-- Constraint keys in the order of R112: 0 the row, 64 + m manifolds, 128 + r racks. -/
def consKeys : List Nat := 0 :: ((List.range 32).map (· + 64) ++ (List.range 32).map (· + 128))

/-- Every capacity, by constraint key. -/
def capacities (s : State) : Tab F32 × State :=
  let (k, s) := rowCapacity s
  let t : Tab F32 := match k with | some v => [(0, v)] | none => []
  let (t, s) := (List.range 32).foldl (fun (a : Tab F32 × State) m =>
    match manCapacity m a.2 with
    | (some v, s) => (tset a.1 (64 + m) v, s)
    | (none, s) => (a.1, s)) (t, s)
  ((List.range 32).foldl (fun t r => match rackCapacity s r with | some v => tset t (128 + r) v | none => t) t, s)

/-! ### Thermal headroom (R108, R109, R166) -/

/-- Outputs of the plate record: hot-spots, stacks, the outlet. -/
def tableOuts (r : PlateRec) : List (Nat × Nat) := (List.range r.nHot).map (1, ·) ++ (List.range r.nStack).map (2, ·) ++ [(4, 0)]

/-- Present temperature of an output by the fallback estimator (R166). -/
def fallbackTemp (s : State) (r : PlateRec) (o : Nat × Nat) : F32 :=
  let e := estSt s r.estCh
  let t := fdiv (fofInt (if o.1 = 1 then e.tH else if o.1 = 2 then e.tS else e.tO)) (fofNat 128)
  match tget (plateRun s r.plate).meas (ckOf o.1 o.2) with
  | some v => fmax t (f16to32 v)
  | none => t

/-- Smallest of FP32 values; +∞ of none. -/
def minF (l : List F32) : F32 := l.foldl fmin 0x7F800000#32

/-- h_p from the fallback estimator. -/
def headFallback (s : State) (r : PlateRec) : F32 :=
  minF ((tableOuts r).map (fun o => fsub (kindLimit r o.1) (fadd (fallbackTemp s r o) (f32k (pat s).alloc.fbMargin 100))))

/-- h_p from a forecast. -/
def headForecast (s : State) (r : PlateRec) (f : FcRec) : F32 :=
  minF ((boundOuts s r).map (fun o => fsub (kindLimit r o.2) ((maxF ((trajOf f o.1).map f16to32)).getD fzero)))

/-- h_p (R109). -/
def headOf (s : State) (r : PlateRec) : F32 :=
  match leaseFc s r with
  | some f => headForecast s r f
  | none => headFallback s r

/-- G_p (R166). -/
def gainOf (s : State) (r : PlateRec) : F32 :=
  match (pat s).est.find? (fun e => e.slot == r.estCh) with
  | none => fzero
  | some e => fdiv (fmul (fdiv (fofInt (max e.kH (max e.kS e.kO))) (fofNat 32768)) (fofNat 256)) (fmul (fofNat 2) (f32k r.rated 10))

/-- Θ_p from a headroom; none where the plate has no thermal ceiling. -/
def thetaOf (s : State) (r : PlateRec) (h : F32) : Option F32 :=
  let g := gainOf s r
  if flt fzero g then some (fmax fzero (fadd (pbarOf s r) (fdiv h g)))
  else if fle fzero h then none
  else some fzero

/-! ### Water-filling (R112) -/

/-- A plate in the allocation, in W: weight, bounds, U before the maximum with L, Θ, the ramp bound, its constraints, its load floor while UNACKED. -/
structure PlateAl where
  p : Nat := 0
  w : F32 := fzero
  lo : F32 := fzero
  hi : F32 := fzero
  pre : F32 := fzero
  theta : Option F32 := none
  ramp : F32 := fzero
  lo10 : Nat := 0
  cons : List Nat := []
  held : Option F32 := none
  deriving DecidableEq, Repr, Inhabited

/-- Smallest of a value and optional ceilings. -/
def minFs (a : F32) (l : List (Option F32)) : F32 := l.foldl (fun m o => match o with | some x => fmin m x | none => m) a

/-- A power in 0.1 W as W. -/
def wOf (n : Nat) : F32 := f32k n 10

/-- The bounds and weight of a plate. -/
def plateAl (s : State) (caps : Tab F32) (r : PlateRec) : PlateAl :=
  let a := (pat s).alloc
  let x := plateLs s r.plate
  let rp := wOf r.rated
  let e := ecapOf s r
  let pc := policyCap s r.plate
  let q := (plateRun s r.plate).q
  let lo10 := if 5 ≤ q then minOpt x.prev [e, pc] else minOpt r.floor [e, pc]
  let lo := wOf lo10
  let th := thetaOf s r (headOf s r)
  let ramp := fadd (wOf x.prev) (fmul (f32k a.rampUp 1000) rp)
  let dem := fmin rp (fadd (pbarOf s r) (fmul (f32k a.demandHead 1000) rp))
  let pre := minFs (fmin dem ramp) [th, e.map wOf, pc.map wOf]
  let run := plateRun s r.plate
  { p := r.plate
    w := fmul (nth a.classWeight (x.cls.getD a.defaultClass) 0x3F800000#32) rp
    lo := lo
    hi := if 5 ≤ q then lo else fmax pre lo
    pre := pre
    theta := th
    ramp := ramp
    lo10 := lo10
    cons := [0, 64 + r.manifold, 128 + r.rack].filter (fun k => (tget caps k).isSome)
    held := if run.unacked then some (if run.ack.st = 3 then rp else wOf run.ack.cap) else none }

/-- The lowest level among a plate's constraints. -/
def levelOf (lam : Tab F32) (x : PlateAl) : Option F32 := (x.cons.map (fun k => tget lam k)).foldl minO none

/-- cap(p) of R112. -/
def capOf (lam : Tab F32) (x : PlateAl) : F32 :=
  fmax x.lo (match levelOf lam x with | some l => fmin x.hi (fmul x.w l) | none => x.hi)

/-- b(p) of R112. -/
def budgetOf (lam : Tab F32) (x : PlateAl) : F32 :=
  match x.held with
  | some a => fmax (capOf lam x) a
  | none => capOf lam x

/-- load(j), summed in ascending plate number. -/
def loadOf (ps : List PlateAl) (lam : Tab F32) (j : Nat) : F32 :=
  ((ps.filter (fun x => x.cons.contains j)).map (budgetOf lam)).foldl fadd fzero

/-- Bisection of R112 by a test on the level. -/
def bisect (test : F32 → Bool) : Nat → F32 → F32 → F32
  | 0, lo, _ => lo
  | n + 1, lo, hi =>
    let mid := fdiv (fadd lo hi) (fofNat 2)
    if test mid then bisect test n mid hi else bisect test n lo mid

/-- A level from its interval. -/
def findLevel (test : F32 → Bool) (n : Nat) (lo hi : F32) : F32 := if test hi then hi else bisect test n lo hi

/-- Constraints that share a member with `j`. -/
def sharing (ps : List PlateAl) (js : List Nat) (j : Nat) : List Nat := js.filter (fun k => ps.any (fun x => x.cons.contains j && x.cons.contains k))

/-- One constraint in pass 1: its level only falls; the shortfall where the floors alone exceed the capacity. -/
def pass1 (n : Nat) (ps : List PlateAl) (caps : Tab F32) (a : Tab F32 × List (Nat × F32)) (j : Nat) : Tab F32 × List (Nat × F32) :=
  let k := tgetD caps j fzero
  let lam := tset a.1 j (findLevel (fun x => fle (loadOf ps (tset a.1 j x) j) k) n fzero (tgetD a.1 j fzero))
  let l0 := loadOf ps (tset lam j fzero) j
  (lam, if fle l0 k then a.2 else a.2 ++ [(j, fsub l0 k)])

/-- One constraint in a later pass: its level only rises. -/
def pass2 (n : Nat) (top : F32) (ps : List PlateAl) (caps : Tab F32) (js : List Nat) (lam : Tab F32) (j : Nat) : Tab F32 :=
  let ks := (sharing ps js j).map (fun k => (k, fmax (tgetD caps k fzero) (loadOf ps lam k)))
  tset lam j (findLevel (fun x => ks.all (fun k => fle (loadOf ps (tset lam j x) k.1) k.2)) n (tgetD lam j fzero) top)

/-- Passes 2 and on. -/
def laterPasses (n : Nat) (top : F32) (ps : List PlateAl) (caps : Tab F32) (js : List Nat) : Nat → Tab F32 → Tab F32
  | 0, lam => lam
  | k + 1, lam => laterPasses n top ps caps js k (js.foldl (pass2 n top ps caps js) lam)

/-- The levels and the shortfalls of R112. -/
def waterFill (n passes : Nat) (ps : List PlateAl) (caps : Tab F32) : Tab F32 × List (Nat × F32) :=
  let js := consKeys.filter (fun j => ps.any (fun x => x.cons.contains j))
  let top := (maxF (ps.map (fun x => fdiv x.hi x.w))).getD fzero
  let (lam, short) := js.foldl (pass1 n ps caps) (js.map (fun j => (j, top)), [])
  (laterPasses n top ps caps js (passes - 1) lam, short)

/-- A power rounded down to 0.1 W, exactly. -/
def downTenth (x : F32) : Nat := ((f32v x).mul (FV.ofInt 10)).trunc.toNat

/-- The firm cap in 0.1 W. -/
def firmOf (lam : Tab F32) (x : PlateAl) : Nat := max x.lo10 (downTenth (capOf lam x))

/-! ### Limit classes (R115) -/

/-- Two FP32 values are equal. -/
def feq (a b : F32) : Bool := fle a b && fle b a

/-- The class of a plate. -/
def limitClass (s : State) (r : PlateRec) (lam : Tab F32) (x : PlateAl) (firm : Nat) : Nat :=
  let thBelow := match x.theta with | some t => flt t (wOf r.floor) | none => false
  if 5 ≤ (plateRun s r.plate).q then 9
  else if ecapOf s r == some firm then 6
  else if policyCap s r.plate == some firm then 7
  else if firm = r.floor && thBelow then 1
  else if (match x.theta with | some t => feq t x.pre | none => false) then 5
  else if feq x.ramp x.pre then 8
  else
    match levelOf lam x with
    | none => 0
    | some l =>
      if flt (fmul x.w l) x.hi then
        match x.cons.find? (fun k => match tget lam k with | some v => feq v l | none => false) with
        | some k => if k = 0 then 4 else if k < 128 then 3 else 2
        | none => 0
      else 0

/-! ### Provisional caps (R118) -/

/-- The provisional cap of a plate where its criterion is met; a trajectory that is not finite leaves the headroom to the fallback estimator (R109). -/
def provisional (s : State) (r : PlateRec) (firm : Nat) : Option Nat :=
  let a := (pat s).alloc
  let x := plateRun s r.plate
  if a.provEn != 1 || s.al.provOff || x.st != 2 || x.forced || x.q != 0 then none
  else
    match x.fcs.find? (fun f => f.round == s.round && f.st == 1) with
    | none => none
    | some f =>
      match thetaOf s r (if trajBad s r f then headFallback s r else headForecast s r f) with
      | none => none
      | some t =>
        let cap := min firm (max (minOpt r.floor [ecapOf s r, policyCap s r.plate]) (downTenth t))
        if a.provMinStep * r.rated ≤ (firm - cap) * 1000 then some cap else none

/-! ### The allocation of a round -/

/-- prev_p (R107): the first allocation of a driving module starts from the newest mirrored caps, or from the floors. -/
def prevCap (s : State) (r : PlateRec) : Nat :=
  if s.al.first then
    if s.mir.leaseRound + 1 = s.round || s.mir.leaseRound + 2 = s.round then
      match tget s.mir.leases r.plate with
      | some b => fld b 12 4
      | none => r.floor
    else r.floor
  else (plateLs s r.plate).firm

/-- Constraints that have become short, and those that are short (R113). -/
def noteShort (short : List (Nat × F32)) (s : State) : State :=
  let key (j : Nat) : Nat × Nat := if j = 0 then (3, 0) else if j < 128 then (2, j - 64) else (1, j - 128)
  let ks := short.map (fun x => (inKey (key x.1).1 (key x.1).2, x.2))
  let s := each ks (fun (k : Nat × F32) s =>
    let s := if (tget s.al.short k.1).isSome then s
      else emit 0x0B03 srcAlloc (aw (k.1 / 64) ++ aw (k.1 % 64) ++ aw (froundI (2 ^ 31) k.2).toNat) s
    { s with al.short := tset s.al.short k.1 s.clock }) s
  { s with al.shortNow := !ks.isEmpty, al.shortKeys := ks.map (·.1), al.shortW := (ks.map (fun k => (froundI (2 ^ 31) k.2).toNat)).foldl max 0 }

/-- One plate's results. -/
def storePlate (lam : Tab F32) (r : PlateRec) (x : PlateAl) (s : State) : State :=
  let firm := firmOf lam x
  let cls := limitClass s r lam x firm
  let l := plateLs s r.plate
  let th := match x.theta with | some t => min none32 (downTenth t) | none => none32
  let s := setLs r.plate { l with firm := firm, limit := cls, theta := th, lo := x.lo10, ecap := ecapOf s r, provCap := provisional s r firm } s
  if cls = 1 && l.limit != 1 then emit 0x0B04 srcAlloc (aw r.plate ++ aw th) s else s

/-- The allocator runs in this role (R106). -/
def allocRuns (s : State) : Bool := drives s || (s.glb.role == .standby && modeNow s = 1)

/-- The allocation of a round (R108 to R115). `late`: it does not complete by the lease-out milestone. -/
def allocOp (late : Bool) (s : State) : State :=
  let ps := accelPlates s
  let s := each ps (fun r s => setLs r.plate { plateLs s r.plate with prev := prevCap s r, provCap := none } s) s
  let (caps, s) := capacities s
  if late then
    { (each ps (fun r s => let l := plateLs s r.plate; setLs r.plate { l with firm := minOpt l.prev [ecapOf s r, policyCap s r.plate], ecap := ecapOf s r } s) s) with
      al.first := false, al.late := true }
  else
    let as_ := ps.map (fun r => (r, plateAl s caps r))
    let (lam, short) := waterFill (pat s).alloc.bisect (pat s).alloc.passes (as_.map (·.2)) caps
    let s := noteShort short s
    let s := each as_ (fun (a : PlateRec × PlateAl) s => storePlate lam a.1 a.2 s) s
    let count (c : Nat) : Nat := (ps.filter (fun r => (plateLs s r.plate).limit == c)).length
    { s with
      al.lims := (List.range 10).map count
      al.first := false
      al.late := false
      al.ran := some s.round }

/-- ALLOCATOR (R106, R112): at 0.92P. `runNs`: its run time; `ecapLow`: the ECAP_N line is asserted by either module. -/
def execAllocator (runNs : Nat) (ecapLow : Bool) (s : State) : Host.Outcome State Fault Refusal :=
  live (fun s =>
    if !s.began || s.glb.role == .safe then s
    else
      let s := clockTo (s.t0At + periodNs s * 92 / 100) { s with sv.ecapLine := ecapLow }
      if !allocRuns s || s.al.allocQuar || s.al.restarted == some s.round then noteInputs s
      else
        allocOp (decide (periodNs s * 6 / 100 < runNs)) { s with al.timeLast := runNs, al.timeMax := max s.al.timeMax (min 0xFFFF runNs) }) s

/-- CAPACITY_SHORT_CLEAR (R113): the constraint has not been short for 1 s, counted from the last allocation that found it short (DEDUCED). -/
def execCapacityShortClear (kind index : Nat) (s : State) : Host.Outcome State Fault Refusal :=
  live (fun s =>
    let k := inKey kind index
    match tget s.al.short k with
    | some t =>
      if s.al.shortKeys.contains k then s
      else
        let s := clockTo (t + 1000000000) s
        emit 0x0B03 srcAlloc (aw kind ++ aw index ++ aw 0) { s with al.short := tdel s.al.short k } true
    | none => s) s

/-! ### Disagreements with the host (R22, R126) -/

/-- The host's value of a quantity, none32 where it has set none. -/
def hostValue (s : State) (kind object : Nat) : Nat :=
  if kind = 1 then tgetD s.al.rackBud object none32 else if object != 0 then none32
  else if kind = 2 then s.al.rowLimit else if kind = 3 then s.al.allowOvr else none32

/-- The module's own value of a quantity: B_r, min(C_row / CAPTURE, ROW_LIMIT), the allowance input in 0.1 L/min; none32 without one. -/
def moduleValue (s : State) (kind object : Nat) : Nat :=
  if kind = 1 then (match (pat s).alloc.racks[object]? with | some k => k.budget | none => none32)
  else if object != 0 then none32
  else if kind = 2 then s.al.rowMod
  else if kind = 3 then (match s.al.allowV with | some v => (froundI (2 ^ 31) (fmul v (fofNat 10))).toNat | none => none32)
  else none32

/-- The host's value is higher and the module's is applied; the allowance is compared unrounded. -/
def policyDiffers (s : State) (kind object : Nat) : Bool :=
  let h := hostValue s kind object
  if h = none32 then false
  else if kind = 3 then (match s.al.allowV with | some v => object == 0 && flt v (f32k h 10) | none => false)
  else decide (moduleValue s kind object < h)

/-- POLICY_CONFLICT (R22, R126): a disagreement, or the agreement that ends it, has stood for 1 s. The value applied is the lower of the two, the module's where the host has withdrawn its own. -/
def execPolicyConflict (kind object : Nat) (clear : Bool) (s : State) : Host.Outcome State Fault Refusal :=
  live (fun s =>
    let key := kind * 65536 + object
    let h := hostValue s kind object
    let m := moduleValue s kind object
    let args := aw kind ++ aw object ++ aw h ++ aw (min h m)
    if clear then
      if s.al.conflicts.contains key && !policyDiffers s kind object then
        emit 0x0110 srcAlloc args { s with al.conflicts := s.al.conflicts.filter (· != key) } true
      else s
    else if policyDiffers s kind object && !s.al.conflicts.contains key then
      emit 0x0110 srcAlloc args { s with al.conflicts := s.al.conflicts ++ [key] }
    else s) s

end Sys2Proof.Machine
end

