-- ==== Sys2Proof/Machine/Model.lean ====
section
/-! DEFINITION. Loading a model (R74 to R83): the container, the loader's checks, placement, activation, the fit rule. The spec gives no widths for the step count and state size of MANIFEST and for the entries of ADAPTER_SCHEMA: 4 bytes each here. -/

namespace Sys2Proof.Machine

/-! ### The container (R74, R76) -/

/-- A directory entry: type, flags, CRC, offset, length. -/
structure SecEntry where
  typ : Nat := 0
  flags : Nat := 0
  crc : Nat := 0
  off : Nat := 0
  len : Nat := 0
  deriving DecidableEq, Repr, Inhabited

/-- The entries of a section directory of `n` 32-byte entries at `base` (R74, R371). -/
def dirEntries (bs : Bytes) (base n : Nat) : List SecEntry :=
  (List.range n).map (fun i => let o := base + 32 * i
    { typ := fld bs o 2, flags := fld bs (o + 2) 2, crc := fld bs (o + 4) 4, off := fld bs (o + 8) 8, len := fld bs (o + 16) 8 })

/-- The bytes of a section. -/
def secBytes (bs : Bytes) (e : SecEntry) : Bytes := (bs.drop e.off).take e.len

/-- The section of a type. -/
def secOf (es : List SecEntry) (t : Nat) : Option SecEntry := es.find? (fun e => e.typ == t)

/-- Two sections overlap. -/
def secOverlap (a b : SecEntry) : Bool := a.off < b.off + b.len && b.off < a.off + a.len

/-- No two of a list overlap. -/
def noOverlap : List SecEntry → Bool
  | [] => true
  | a :: t => t.all (fun b => !secOverlap a b) && noOverlap t

/-- A tensor descriptor of 48 bytes. -/
def tensorRec (bs : Bytes) : TensorRec :=
  { fmt := byteAt bs 2
    dims := (List.range (min 4 (byteAt bs 3))).map (fun i => fld bs (4 + 4 * i) 4)
    scale := BitVec.ofNat 32 (fld bs 0x14 4)
    kind := byteAt bs 0x18
    scaleId := fld bs 0x1A 2
    off := fld bs 0x20 8
    len := fld bs 0x28 8 }

/-- An operator record of 32 bytes with its attributes. -/
def opRec (bs attrs : Bytes) : OpRec :=
  { opcode := byteAt bs 0
    inputs := ((List.range (min 4 (byteAt bs 1))).map (fun i => fld bs (4 + 2 * i) 2)).filter (· != 0xFFFF)
    out := fld bs 2 2
    attr := (attrs.drop (fld bs 0xC 4)).take (fld bs 0x10 4) }

/-- The GRAPH section: descriptors and operators. -/
def graphOf (g : Bytes) : List TensorRec × List OpRec :=
  let nt := fld g 0 4
  let nt := min nt (g.length / 48)
  let o := 4 + 48 * nt
  let no := min (fld g o 4) (g.length / 32)
  let attrs := g.drop (o + 4 + 32 * no)
  ((List.range nt).map (fun i => tensorRec ((g.drop (4 + 48 * i)).take 48)),
   (List.range no).map (fun i => opRec ((g.drop (o + 4 + 32 * i)).take 32) attrs))

/-- A binding entry of 16 bytes (R80). -/
def bindEntry (bs : Bytes) : BindEntry :=
  { tensor := fld bs 0 2, kind := byteAt bs 2, index := byteAt bs 3, window := fld bs 4 2, stride := fld bs 6 2,
    offset := BitVec.ofNat 32 (fld bs 8 4), scale := BitVec.ofNat 32 (fld bs 12 4) }

/-- Splits bytes into whole records of `n`. -/
def recordsOf (n : Nat) (bs : Bytes) : List Bytes := (List.range (bs.length / max 1 n)).map (fun i => (bs.drop (n * i)).take n)

/-- Directory entries of a container. -/
def modelDir (raw : Bytes) : List SecEntry := dirEntries raw 0x100 (min 16 (fld raw 0x12 2))

/-- The container as the loader reads it. -/
def parseModel (raw : Bytes) : ModelC :=
  let es := modelDir raw
  let sec (t : Nat) : Bytes := match secOf es t with | some e => secBytes raw e | none => []
  let man := sec 1
  let g := graphOf (sec 2)
  { raw := raw
    cls := byteAt raw 0x10
    mode := byteAt raw 0x11
    baseSize := fld raw 0x14 4
    adapterSize := fld raw 0x18 4
    minRuntime := fld raw 0x1C 2
    digest := slice raw 0x20 64
    schemaDigest := slice raw 0x60 64
    keyRef := fld raw 0xA0 2
    version := fld man 64 4
    stateSize := fld man 72 4
    tensors := g.1
    ops := g.2
    data := sec 3
    tables := sec 4
    binds := (recordsOf 16 (sec 5)).map bindEntry
    schema := (recordsOf 16 (sec 6)).map (fun b => { op := fld b 0 4, rank := fld b 4 4, aOff := fld b 8 4, bOff := fld b 12 4 }) }

/-! ### The loader's checks (R76) -/

/-- Check 1. -/
def mdlCheck1 (raw : Bytes) (len : Nat) : Bool :=
  raw.take 4 == [0x50#8, 0x4D#8, 0x44#8, 0x4C#8] && fld raw 4 2 == 1 && fld raw 6 2 == 256 && fld raw 8 8 == len && raw.length == len

/-- Check 2: TABLES where an operator uses a table, ADAPTER_SCHEMA where there is an adapter; SIGNATURE last in the directory, with no section behind it. -/
def mdlCheck2 (m : ModelC) : Bool :=
  let es := modelDir m.raw
  let n := fld m.raw 0x12 2
  let need := [1, 2, 3, 5, 0xFF] ++ (if m.ops.any (fun o => o.opcode == 5 || o.opcode == 8) then [4] else []) ++ (if 0 < m.adapterSize then [6] else [])
  5 ≤ n && n ≤ 16 && es.all (fun e => e.off % 256 == 0 && 0x100 + 32 * n ≤ e.off && e.off + e.len ≤ m.raw.length) && noOverlap es &&
    need.all (fun t => es.any (fun e => e.typ == t)) &&
    (match es.getLast? with | some z => z.typ == 0xFF && es.all (fun e => e.typ == 0xFF || e.off + e.len ≤ z.off) | none => false)

/-- Check 3. -/
def mdlCheck3 (m : ModelC) : Bool := (modelDir m.raw).all (fun e => crc32c (secBytes m.raw e) == e.crc)

/-- Check 4: the digest of R75. -/
def mdlCheck4 (m : ModelC) : Bool := modelDigest m.raw == m.digest

/-- The public key data of a key reference of kind 2 (R304). -/
def falconKey (s : State) (ref : Nat) : Option Bytes := ((pat s).peers.keys.find? (fun k => k.ref == ref && k.kind == 2)).map (·.data)

/-- The signature of a SIGNATURE section: its length, then its bytes. -/
def sigOf (bs : Bytes) : Bytes := (bs.drop 2).take (fld bs 0 2)

/-- Check 5: classes 2 and 3 are Elvael's own and refused from every other signer. -/
def mdlCheck5 (s : State) (m : ModelC) : Bool :=
  m.cls == 1 && (pat s).bind.keyRef == m.keyRef &&
    (match falconKey s m.keyRef, secOf (modelDir m.raw) 0xFF with
     | some k, some e => Config.falconVerify k m.digest (sigOf (secBytes m.raw e))
     | _, _ => false)

/-- Check 6. -/
def mdlCheck6 (s : State) (m : ModelC) : Bool := allZero (pat s).bind.expDigest || (pat s).bind.expDigest == m.digest

/-- Version of a part's image in use. -/
def partVersion (s : State) (k : Nat) : Nat :=
  let p := tgetD s.pf.parts k {}
  match nth p.banks p.bank none with
  | some i => i.version
  | none => 0

/-- Check 7. -/
def mdlCheck7 (s : State) (m : ModelC) : Bool := m.mode == (pat s).bind.mode && m.minRuntime ≤ partVersion s 4

/-- Columns of R77 that mark an operator: 8-bit float, MX, 16-bit float, FP32, INT8, Q15. LOWRANK's 'any float format' takes the MX column too (DEDUCED, log 146). -/
def opColumns (op : Nat) (isAdd : Bool) : List Bool :=
  if op = 1 || op = 10 || op = 11 then [true, true, true, true, true, true]
  else if op = 2 then [true, true, true, true, true, false]
  else if op = 3 then [true, false, true, true, false, isAdd]
  else if op = 4 then [true, false, true, true, false, true]
  else if op = 5 || op = 7 || op = 13 || op = 14 then [true, false, true, true, false, false]
  else if op = 6 then [true, false, true, true, true, true]
  else if op = 8 || op = 9 then [false, false, true, true, false, false]
  else if op = 12 then [true, true, true, true, false, false]
  else []

/-- Column of a format. -/
def fmtColumn (f : Nat) : Nat :=
  if f = 4 || f = 5 then 0 else if 6 ≤ f && f ≤ 9 then 1 else if f = 2 || f = 3 then 2 else if f = 1 then 3 else if f = 10 then 4 else if f = 11 then 5 else 6

/-- The GRAPH section holds what its counts say: whole descriptors and records, identifiers equal to their index, ranks and input counts of 1 to 4, attributes inside the attribute area (R76). -/
def graphWhole (g : Bytes) : Bool :=
  let nt := fld g 0 4
  let o := 4 + 48 * nt
  let no := fld g o 4
  let a := o + 4 + 32 * no
  decide (a ≤ g.length) &&
    (List.range nt).all (fun i => let b := (g.drop (4 + 48 * i)).take 48; fld b 0 2 == i && 1 ≤ byteAt b 3 && byteAt b 3 ≤ 4) &&
    (List.range no).all (fun i => let b := (g.drop (o + 4 + 32 * i)).take 32; 1 ≤ byteAt b 1 && byteAt b 1 ≤ 4 && fld b 0xC 4 + fld b 0x10 4 ≤ g.length - a)

/-- The GRAPH section of a container. -/
def graphBytes (m : ModelC) : Bytes :=
  match secOf (modelDir m.raw) 2 with
  | some e => secBytes m.raw e
  | none => []

/-- The kernel length of a CONV1D operator: rows of w over the channels of x (R77). -/
def convKernel (m : ModelC) (o : OpRec) : Nat :=
  match m.tensors[nth o.inputs 0 0]?, m.tensors[nth o.inputs 1 0]? with
  | some x, some w => (lastDim w.dims + lastDim x.dims - 1) / lastDim x.dims
  | _, _ => 0

/-- An adapter-schema entry: its operator stands in the graph, its rank is 1 to 64, and both factors lie within the adapter (R79). -/
def schemaOk (m : ModelC) (e : SchemaEntry) : Bool :=
  match m.ops[e.op]? with
  | none => false
  | some o =>
    let dim (i : Nat) : Nat := match m.tensors[i]? with
      | some t => lastDim t.dims
      | none => 0
    1 ≤ e.rank && e.rank ≤ 64 && e.aOff + 2 * e.rank * dim (nth o.inputs 0 0) ≤ m.adapterSize && e.bOff + 2 * e.rank * dim o.out ≤ m.adapterSize

/-- Check 8: every operator and format pair is supported, a CONV1D kernel is at most 16 long (R77), references in range. -/
def mdlCheck8 (m : ModelC) : Bool :=
  graphWhole (graphBytes m) && m.ops.all (fun o => o.opcode != 2 || convKernel m o ≤ 16) && m.tensors.all (fun t => 1 ≤ t.fmt && t.fmt ≤ 12 && t.kind ≤ 4 && 1 ≤ t.dims.length && (t.kind != 0 || t.off + t.len ≤ m.data.length) &&
    (!isMx t.fmt || t.scaleId < m.tensors.length)) &&
  m.ops.all (fun o =>
    (o.out :: o.inputs).all (fun i =>
      match m.tensors[i]? with
      | none => false
      | some t => nth (opColumns o.opcode (Config.attrNat o.opcode o.attr 0 == 0)) (fmtColumn t.fmt) false)) &&
  m.binds.all (fun b => b.tensor < m.tensors.length) && m.schema.all (schemaOk m)

/-- Check 9: BASE_SIZE, and the stored size that it states (R73). -/
def mdlCheck9 (m : ModelC) : Bool := m.baseSize ≤ 32 * 2 ^ 20 && storedBytes m ≤ 32 * 2 ^ 20 && m.adapterSize ≤ 262144 && m.stateSize ≤ 2048

/-- An input binding that a plate does not have (R80). -/
def bindMissing (s : State) (r : PlateRec) (b : BindEntry) : Bool :=
  if b.kind = 0x40 then (manifoldRec s r.manifold).supplyCh == 0xFFFF
  else if b.kind = 0x41 then (manifoldRec s r.manifold).flowCh == 0xFFFF
  else if b.kind = 0x42 || b.kind = 0x43 then false
  else !(r.chans.any (fun c => c.kind == b.kind && c.index == b.index && c.kind != 0))

/-- A plate is UNBOUND under a model. -/
def plateUnbound (s : State) (m : ModelC) (r : PlateRec) : Bool := m.binds.any (fun b => bindKind m b 3 && bindMissing s r b)

/-- Input values per plate. -/
def inputCount (m : ModelC) : Nat := ((m.binds.filter (fun b => bindKind m b 3)).map (fun b => b.window / max 1 b.stride)).foldl (· + ·) 0

/-- Check 10: it fails where every plate is UNBOUND, or where the bindings break R80's own limits. -/
def mdlCheck10 (s : State) (m : ModelC) : Bool :=
  m.binds.all (fun b =>
    if bindKind m b 3 then 1 ≤ b.window && b.window ≤ 512 && 1 ≤ b.stride && b.stride ≤ 64
    else if bindKind m b 4 then (outSlot b.kind b.index).isSome else false) &&
  inputCount m ≤ (if m.mode = 3 then 8192 else 4096) && (accelPlates s).any (fun r => !plateUnbound s m r)

/-- The first of checks 1 to 10 that a container fails, 0 for none. -/
def mdlCheck (s : State) (raw : Bytes) (len : Nat) : Nat :=
  let m := parseModel raw
  if !mdlCheck1 raw len then 1
  else if !mdlCheck2 m then 2
  else if !mdlCheck3 m then 3
  else if !mdlCheck4 m then 4
  else if !mdlCheck5 s m then 5
  else if !mdlCheck6 s m then 6
  else if !mdlCheck7 s m then 7
  else if !mdlCheck8 m then 8
  else if !mdlCheck9 m then 9
  else if !mdlCheck10 s m then 10
  else 0

/-! ### Activation (R83) -/

/-- Check `c` refuses a container (R76, R105). -/
def modelRefused (c us bytes : Nat) (s : State) : State :=
  emit 0x0A41 srcSup (aw c ++ aw us ++ aw bytes) { s with fc.mdl.lastCheck := c }

/-- The loader takes the container at an address: checks 1 to 10, then the activation at the next t0. A load already under way answers BUSY. -/
def activateRun (d : Dgram) (addr len : Nat) (s : State) : CmdRes × State :=
  if s.fc.mdl.st = 2 || s.fc.mdl.st = 3 || s.fc.mdl.st = 6 then (.now stBusy 0 [], s)
  else
    let raw := memRdN s.mem addr (min len (hbmTop s - addr))
    let c := mdlCheck s raw len
    if c != 0 then (cmdRefused c, modelRefused c 0 0 s)
    else
      (.later, { s with
        fc.mdl.st := 2
        fc.mdl.next := some (parseModel raw)
        fc.mdl.begun := false
        fc.mdl.prevFit := (s.fc.mdl.k, s.fc.mdl.rate, s.fc.mdl.fitDegraded)
        fc.mdl.cmd := some d })

/-- What MODEL_ACTIVATE does: its transfer's data first (R321). -/
def activateKern (d : Dgram) (p : PeerRec) (_ : Nat) (args : Bytes) (s : State) : CmdRes × State :=
  if !zeroAt args 4 4 then (.now stMalformed 0 [], s)
  else signalGate p.index (fld args 0 4) (fld args 16 8) d s (activateRun d (fld args 8 8) (fld args 16 8))

/-- MODEL_ACTIVATE (R83, R321, R328). -/
def execModelActivate (d : Dgram) (s : State) : Host.Outcome State Fault Refusal := live (critical 1 24 0 d · (activateKern d)) s

/-- The plates under a model: UNBOUND where an input is missing, else DEMOTED; one record gives the UNBOUND ones (R80). -/
def bindPlates (m : ModelC) (s : State) : State :=
  let s := each (accelPlates s) (fun r s =>
    let x := plateRun s r.plate
    setPlate r.plate { x with st := if plateUnbound s m r then 0 else max 1 x.st, lastIn := [] } s) s
  let un := ((accelPlates s).filter (fun r => plateUnbound s m r)).map (·.plate)
  match un with
  | [] => s
  | p :: _ => emit 0x0A43 srcSup (aw un.length ++ aw p) s

/-- Model space holds the active container as two copies, and during an activation those of the previous one below them (R67, R83). -/
def loaderCopies (s : State) : State :=
  match s.fc.mdl.active with
  | none => s
  | some m =>
    let s := putCopies m 0 s
    match s.fc.mdl.prev with
    | some o => putCopies o (copySpace s m) s
    | none => s

/-- The activation begins at a t0: every plate is demoted, the model changes, adapters are kept or zeroed, the warm hold applies. -/
def activateBegin (m : ModelC) (s : State) : State :=
  let keep := match s.fc.mdl.active with
    | some o => o.schemaDigest == m.schemaDigest
    | none => false
  let s := warmStart 4 s
  let s := { s with
    mem := if keep then s.mem else memClear s.mem (areaBase s 5) (areaBase s 6)
    fc.mdl.begun := true
    fc.mdl.keepAdapters := keep
    fc.mdl.startRound := s.round
    fc.mdl.prev := if s.fc.mdl.st = 2 then s.fc.mdl.active else none
    fc.mdl.active := some m
    fc.mdl.next := none
    fc.mdl.k := 1
    fc.adLost := if keep then s.fc.adLost else [] }
  updateDegraded (bindPlates m (loaderCopies s))

/-- Base models are in the region stores. -/
def storesLoaded (m : ModelC) (s : State) : State :=
  { s with fc.regions := tmap s.fc.regions (fun r => if r.st = 0 then r else { r with st := if r.st = 1 then 2 else r.st, modelKb := modelKbOf (some m) }) }

/-- The loader at a t0: an activation begins, after a supply dip where one is in progress (R413), or its replacement of 4 rounds ends in the trial, or in the previous model's return. -/
def modelRound (s : State) : State :=
  if s.fc.mdl.st != 2 && s.fc.mdl.st != 6 then s
  else if !s.fc.mdl.begun then
    match s.fc.mdl.next with
    | some m => if s.pwr.dip && s.fc.mdl.st = 2 then s else activateBegin m s
    | none => s
  else if s.round < s.fc.mdl.startRound + 4 then s
  else
    match s.fc.mdl.active with
    | none => s
    | some m =>
      let s := storesLoaded m { s with fc.mdl.begun := false, fc.mdl.startRound := s.round }
      if s.fc.mdl.st = 2 then { s with fc.mdl.st := 3 }
      else
        let (k, rate, deg) := s.fc.mdl.prevFit
        let s := { s with fc.mdl.st := if deg then 5 else 4, fc.mdl.k := k, fc.mdl.rate := rate, fc.mdl.fitDegraded := deg }
        updateDegraded (emit 0x0A49 srcSup (aw m.version ++ aw 11) s)

/-! ### The fit rule (R82) -/


/-- k of R82: ceil(T_roll / 0.30 P), at least 1. -/
def fitK (P tRoll : Nat) : Nat := max 1 ((10 * tRoll + 3 * P - 1) / max 1 (3 * P))

/-- Forecasts per second. -/
def fitRate (P k : Nat) : Nat := 1000000 / max 1 (k * P)

/-- The two shortfalls of a fit error: µs, bytes; 0.30 P is exact in tenths. -/
def fitShort (P minRate tRoll tStall e : Nat) : Nat × Nat :=
  let km := max 1 (1000000 / max 1 (minRate * P))
  let u := 10 * tRoll - 3 * km * P
  let b := if tStall = 0 then 0 else if 10 * tStall ≤ u then (e + 4095) / 4096 * 4096 else (e * u + 10 * tStall * 4096 - 1) / (10 * tStall * 4096) * 4096
  (u / 10, b)

/-- Completes the activating command. -/
def mdlAnswer (st det : Nat) (s : State) : State :=
  match s.fc.mdl.cmd with
  | some d => finishCmd d st det [] { s with fc.mdl.cmd := none }
  | none => s

/-- MODEL_FIT_TRIAL_END (R82, R83): the two figures measured in the trial of 16 rounds. -/
def execModelFitTrialEnd (tRoll tStall : Nat) (s : State) : Host.Outcome State Fault Refusal :=
  live (fun s =>
    match s.fc.mdl.active with
    | none => s
    | some m =>
      if s.fc.mdl.st != 3 || s.round < s.fc.mdl.startRound + 16 then s
      else
        let P := (pat s).bind.period
        let k := fitK P tRoll
        let rate := fitRate P k
        let e := streamedBytes m
        if (pat s).bind.minRate ≤ rate && k ≤ 16 then
          let deg := k != 1 || e != 0
          let s := { s with
            fc.mdl.st := if deg then 5 else 4
            fc.mdl.k := k
            fc.mdl.rate := rate
            fc.mdl.fitDegraded := deg
            fc.mdl.streamed := e
            fc.mdl.shortUs := 0
            fc.mdl.shortB := 0
            fc.mdl.prev := none }
          mdlAnswer stOk 0 (updateDegraded (emit 0x0A40 srcSup (aw m.version ++ adig m.digest ++ aw k ++ aw rate) s))
        else
          let (us, b) := fitShort P (pat s).bind.minRate tRoll tStall e
          let s := modelRefused 11 us b { s with fc.mdl.shortUs := us, fc.mdl.shortB := b }
          let s :=
            match s.fc.mdl.prev with
            | some o => { s with fc.mdl.st := 6, fc.mdl.next := some o, fc.mdl.begun := false }
            | none =>
              { (each (allPlates s) (demoteZero 4) s) with
                fc.mdl.st := 0, fc.mdl.active := none, fc.mdl.k := 0, fc.mdl.rate := 0, fc.mdl.fitDegraded := false }
          mdlAnswer stRefused 11 (updateDegraded s)) s

end Sys2Proof.Machine
end

