-- ==== Sys2Proof/Machine/PatternRaw.lean ====
section
/-! DEFINITION. Check 7 of R375 on the bytes of a section: the fields that a layout fixes at zero, the counts, the offsets and the codes that a decoded record no longer shows. -/

namespace Sys2Proof.Machine

/-- Ranges (offset, length) of a string that are zero. -/
def zerosAt (b : Bytes) (l : List (Nat × Nat)) : Bool := l.all (fun r => zeroAt b r.1 r.2)

/-- `n` records of `size` bytes from offset `o`, as many as the string holds. -/
def recsAt (b : Bytes) (o n size : Nat) : List Bytes := (List.range (min n ((b.length - o) / max 1 size))).map (fun i => slice b (o + i * size) size)

/-- A table of `n` records of `size` bytes from offset `o` lies inside the string. -/
def tableIn (b : Bytes) (o n size : Nat) : Bool := n == 0 || decide (o + n * size ≤ b.length)

/-- The pattern header (R371), its delivery block included. -/
def rawHeader (b : Bytes) : Bool := zerosAt b [(0x13, 1), (0xA8, 24), (0xCB, 21), (0xE0, 32)]

/-- Fabric (R376). -/
def rawFabric (b : Bytes) : Bool := fld b 0 2 == 1 && zerosAt b [(0xB, 1), (0x10, 16)]

/-- One pin's record (R441): the flags; A, B and PARAM where the kind and mode have no use for them. -/
def rawPin (b : Bytes) : Bool :=
  let k := byteAt b 0
  let m := byteAt b 2
  decide (byteAt b 3 < 2) && zeroAt b 0xE 2 && ((k == 1 && decide (m ≤ 2)) || k == 2 || k == 4 || zeroAt b 4 8) && (k == 4 || k == 5 || zeroAt b 0xC 2)

/-- I/O map (R441). -/
def rawIo (b : Bytes) : Bool :=
  fld b 0 2 == 1 && decide (fld b 2 2 ≤ 168) && zeroAt b 4 12 && tableIn b 16 (fld b 2 2) 16 && (recsAt b 16 (fld b 2 2) 16).all rawPin

/-- Vote group (R170): its type, its third member. -/
def rawGroup (b : Bytes) : Bool := (byteAt b 1 == 3 || byteAt b 1 == 2 && fld b 8 2 == 0xFFFF) && zerosAt b [(3, 1), (0x12, 6)]

/-- Output map (R171): its type. -/
def rawMap (b : Bytes) : Bool := (byteAt b 3 == 1 || byteAt b 3 == 2) && zeroAt b 0x30 16

/-- A coefficient bank (R168). -/
def rawBank (b : Bytes) : Bool := decide (byteAt b 0x1E < 2) && zeroAt b 0x1F 1

/-- Loop channel (R167). -/
def rawChan (b : Bytes) : Bool := decide (byteAt b 3 < 128) && zerosAt b [(0x1F, 1), (0x2A, 22)] && rawBank (slice b 0x40 32) && rawBank (slice b 0x60 32)

/-- Selvedge (R231). -/
def rawSv (b : Bytes) : Bool :=
  fld b 0 2 == 1 && zerosAt b [(0x28, 24), (0x110, 48)] &&
    (recsAt b 0x140 16 16).all (fun r => decide (byteAt r 0 ≤ 15) && zeroAt r 0xE 2) &&
    (recsAt b 0x240 16 16).all (fun r => decide (byteAt r 0 ≤ 15) && zerosAt r [(2, 2), (0xC, 4)]) &&
    (recsAt b 0x340 64 16).all (fun r => decide (byteAt r 0 ≤ 63) && zerosAt r [(3, 1), (6, 2)]) &&
    (recsAt b 0x740 32 8).all (fun r => zeroAt r 7 1) && (recsAt b 0x840 64 8).all (fun r => decide (byteAt r 0 ≤ 63) && zeroAt r 6 2)

/-- Bus record (R298). -/
def rawBus (b : Bytes) : Bool := decide (byteAt b 0 ≤ 15) && zerosAt b [(0x25, 3), (0x44, 60)]

/-- Field buses (R298): the header's counts and offsets as they stand. -/
def rawFb (b : Bytes) : Bool :=
  fld b 0 2 == 1 && zerosAt b [(0xA, 2), (0x1C, 36)] && (recsAt b 0x40 16 128).all rawBus && tableIn b 0x40 16 128 &&
    decide (fld b 2 2 ≤ 2048) && decide (fld b 4 2 ≤ 256) && decide (fld b 6 2 ≤ 896) && decide (fld b 8 2 ≤ 512) &&
    tableIn b (fld b 0xC 4) (fld b 2 2) 20 && tableIn b (fld b 0x10 4) (fld b 4 2) 32 && tableIn b (fld b 0x14 4) (fld b 6 2) 24 && tableIn b (fld b 0x18 4) (fld b 8 2) 24 &&
    (recsAt b (fld b 0xC 4) (fld b 2 2) 20).all (fun r => zeroAt r 0x12 2) &&
    (recsAt b (fld b 0x10 4) (fld b 4 2) 32).all (fun r => zerosAt r [(0xD, 1), (0x16, 2), (0x1B, 1)]) &&
    (recsAt b (fld b 0x14 4) (fld b 6 2) 24).all (fun r => zeroAt r 0x12 6) && (recsAt b (fld b 0x18 4) (fld b 8 2) 24).all (fun r => zeroAt r 0x14 4)

/-- Plate records one after another (R85); the fuel bounds their number. -/
def rawPlates : Nat → Bytes → Bool
  | 0, _ => true
  | f + 1, b => decide (b.length < 68) || (zerosAt b [(0x15, 1), (0x26, 26)] && rawPlates f (b.drop (64 + 4 * max 1 (fld b 6 2))))

/-- Forecast model binding (R103). -/
def rawBind (b : Bytes) : Bool := zerosAt b [(0x4B, 1), (0x60, 32)]

/-- Allocator and leases (R130). -/
def rawAlloc (b : Bytes) : Bool := zerosAt b [(0x1B, 1), (0x3C, 4), (0x246, 2), (0x24E, 2), (0x256, 2), (0x25E, 2)]

/-- Redundancy (R259). -/
def rawRed (b : Bytes) : Bool := fld b 0 2 == 1 && (byteAt b 2 == 1 || byteAt b 2 == 2) && zerosAt b [(3, 1), (6, 2), (0x18, 8)]

/-- A key reference (R304): kind 1 carries no data, the data of kind 2 lies inside the section. -/
def rawKey (b r : Bytes) : Bool :=
  zerosAt r [(3, 1), (0xC, 4)] && (if byteAt r 2 = 1 then zeroAt r 4 8 else tableIn b (fld r 4 4) (fld r 8 4) 1)

/-- Host peers and key references (R304): the header's counts and the VID's upper bits as they stand. -/
def rawPeers (b : Bytes) : Bool :=
  let np := fld b 2 2
  let nk := fld b 4 2
  fld b 0 2 == 1 && decide (1 ≤ np) && decide (np ≤ 64) && decide (nk ≤ 64) && decide (fld b 0xA 2 < 4096) && zerosAt b [(6, 2), (0xC, 4)] &&
    tableIn b 64 np 32 && tableIn b (64 + 32 * np) nk 16 && (recsAt b 64 np 32).all (fun r => zerosAt r [(3, 1), (0x18, 8)]) &&
    (recsAt b (64 + 32 * np) nk 16).all (rawKey b)

/-- Event rate limits (R368). -/
def rawRates (b : Bytes) : Bool :=
  fld b 0 2 == 1 && decide (fld b 2 2 ≤ 1024) && zeroAt b 9 7 && tableIn b 16 (fld b 2 2) 8 && (recsAt b 16 (fld b 2 2) 8).all (fun r => zeroAt r 6 2)

end Sys2Proof.Machine
end

