-- ==== Sys2Proof/Machine/PatternParse.lean ====
section
/-! DEFINITION. A pattern container (R371 to R376): its sections decoded record by record, and the checks of R375. -/

namespace Sys2Proof.Machine

/-! ### Reading records -/

/-- A 16-bit two's complement field. -/
def q15 (b : Bytes) (o : Nat) : Int := sgn 16 (fld b o 2)

/-- An FP32 field. -/
def f32At (b : Bytes) (o : Nat) : F32 := BitVec.ofNat 32 (fld b o 4)


/-- Bit `i` of the byte at an offset. -/
def flagAt (b : Bytes) (o i : Nat) : Bool := bitOf (byteAt b o) i

/-- Fabric section (R376). -/
def parseFabric (b : Bytes) : FabricRec := { weights := (List.range 9).map (fun i => byteAt b (2 + i)), seed := fld b 0xC 4 }

/-- I/O map record (R441). -/
def parseIo (b : Bytes) : IoRec :=
  { kind := byteAt b 0, index := byteAt b 1, mode := byteAt b 2, enable := flagAt b 3 0, a := f32At b 4, b := f32At b 8, param := fld b 0xC 2 }

/-- Input health record (R169). -/
def parseInput (b : Bytes) : InputRec :=
  { input := fld b 0 2, source := byteAt b 2, subst := flagAt b 3 0, frozenRaw := flagAt b 3 1, frozenRef := flagAt b 3 2
    zero := f32At b 4, invFs := f32At b 8, rangeLo := q15 b 0xC, rangeHi := q15 b 0xE, rangeTime := fld b 0x10 2, staleTime := fld b 0x12 2
    frozenTime := fld b 0x14 2, frozenDelta := q15 b 0x16, refInput := fld b 0x18 2, refDelta := q15 b 0x1A, recoverTime := fld b 0x1C 2
    substGroup := fld b 0x1E 2 }

/-- Vote group record (R170). -/
def parseGroup (b : Bytes) : GroupRec :=
  { group := byteAt b 0, three := byteAt b 1 == 3, safeHigh := flagAt b 2 0, fcVoter := flagAt b 2 1
    members := ([fld b 4 2, fld b 6 2] ++ (if byteAt b 1 = 3 then [fld b 8 2] else [])), disBand := q15 b 0xA, disTime := fld b 0xC 2
    fcPlate := fld b 0xE 2, fcKind := byteAt b 0x10, fcIndex := byteAt b 0x11 }

/-- Output map record (R171). -/
def parseMap (b : Bytes) : MapRec :=
  { num := fld b 0 2, target := byteAt b 2, piecewise := byteAt b 3 == 2, index := fld b 4 2, readback := fld b 6 2, rbTol := q15 b 8
    rbTime := fld b 0xA 2, y := (List.range 9).map (fun i => f32At b (0xC + 4 * i)) }

/-- Loop channel record (R167, R168). -/
def parseChan (b : Bytes) : ChanRec :=
  { ch := fld b 0 2, engine := byteAt b 2, enable := flagAt b 3 0, action := flagAt b 3 1, spSafe := flagAt b 3 2, extSp := flagAt b 3 3
    trims := flagAt b 3 4, cascInner := flagAt b 3 5, bankB := flagAt b 3 6, period := fld b 4 2, phase := fld b 6 2, pv := fld b 8 2
    outMap := fld b 0xA 2, outer := fld b 0xC 2, unkAction := byteAt b 0xE, spLoss := byteAt b 0xF, sp := q15 b 0x10, spLo := q15 b 0x12
    spHi := q15 b 0x14, spRate := q15 b 0x16, extIn := fld b 0x18 2, extOff := q15 b 0x1A, extGain := q15 b 0x1C, extShift := byteAt b 0x1E
    spFail := q15 b 0x20, cascOff := q15 b 0x22, cascGain := q15 b 0x24, cascShift := byteAt b 0x26, feAction := byteAt b 0x27
    initOut := q15 b 0x28, bankA := (List.range 8).map (fun i => fld b (0x40 + 4 * i) 4), bankBw := (List.range 8).map (fun i => fld b (0x60 + 4 * i) 4) }

/-- Fallback estimator record (R172). -/
def parseEst (b : Bytes) : EstRec := { slot := fld b 0 2, a := q15 b 2, kH := q15 b 4, kS := q15 b 6, kO := q15 b 8, initS := q15 b 0xA }

/-- The records of the selvedge section (R231). -/
def parseCmp (b : Bytes) : CmpRec :=
  { enable := flagAt b 1 0, above := flagAt b 1 1, pulse := flagAt b 1 2, input := fld b 2 2, thr := f32At b 4, hyst := f32At b 8, filt := fld b 0xC 2 }
def parseRope (b : Bytes) : RopeRec := { enable := flagAt b 1 0, racks := fld b 4 4, valves := fld b 8 4 }
def parseRow (b : Bytes) : RowRec := { imm := byteAt b 1, delayed := byteAt b 2, delay := fld b 4 2, racks := fld b 8 4, valves := fld b 0xC 4 }
def parseMb (b : Bytes) : MbRec := { sup := fld b 0 2, ret := fld b 2 2, gauge := fld b 4 2, enable := flagAt b 6 0 }
def parseSubst (b : Bytes) : SubstRec := { group := byteAt b 0, safeHigh := flagAt b 1 0, offset := q15 b 2, limit := q15 b 4 }
def parseLoc (b : Bytes) : LocRec := { manifold := byteAt b 0, branch := byteAt b 1, pos := fld b 2 2 }

/-- Selvedge section (R231). -/
def parseSv (b : Bytes) : SvSection :=
  { raw := slice b 0 2688, ecapLevel := byteAt b 2, tripFrac := byteAt b 3, recoverFrac := byteAt b 4, standby := byteAt b 5, clearHold := fld b 6 2
    dpGrace := fld b 8 2, mbThresh := fld b 0xA 2, subOffset := fld b 0xC 2, locDrop := fld b 0xE 2, flMin := f32At b 0x10, dStatic := f32At b 0x14
    plateLo := fld b 0x18 2, plateHi := fld b 0x1A 2, buses := fld b 0x1C 2, waveSpeed := fld b 0x1E 2, lvArea := f32At b 0x20
    makeupIn := fld b 0x24 2, drefCh := fld b 0x26 2
    busIds := (List.range 32).map (fun i => fld b (0x40 + 4 * i) 4)
    pumpDio := (List.range 8).map (fun i => fld b (0xC0 + 2 * i) 2)
    isoOut := (List.range 32).map (fun i => fld b (0xD0 + 2 * i) 2)
    cmps := (recsAt b 0x140 16 16).map parseCmp, ropes := (recsAt b 0x240 16 16).map parseRope, rows := (recsAt b 0x340 64 16).map parseRow
    mb := (recsAt b 0x740 32 8).map parseMb, subst := (recsAt b 0x840 64 8).map parseSubst, loc := (recsAt b 0xA40 16 4).map parseLoc }

/-- Bus record (R298). -/
def parseBus (b : Bytes) : BusRec :=
  { enable := flagAt b 1 0, restricted := flagAt b 1 1, auto := flagAt b 1 2, tt := flagAt b 1 3, sleepOk := flagAt b 1 4, large := flagAt b 1 5
    autoRecover := flagAt b 1 6, triple := flagAt b 1 7, dataFmt := byteAt b 2, modeSw := flagAt b 3 0, nbrp := fld b 4 2, ntseg1 := fld b 6 2
    ntseg2 := byteAt b 8, nsjw := byteAt b 9, dbrp := byteAt b 0xA, dtseg1 := byteAt b 0xB, dtseg2 := byteAt b 0xC, dsjw := byteAt b 0xD
    tdcOff := byteAt b 0xE, maxAttempts := byteAt b 0xF, refId := fld b 0x10 4, idleSleep := fld b 0x14 2, lockMax := fld b 0x16 2
    firstFilter := fld b 0x18 2, filterCount := fld b 0x1A 2, wakeId := fld b 0x1C 4, wakeMask := fld b 0x20 4, wakeDlc := byteAt b 0x24
    wakeData := fld b 0x28 8
    cands := ((List.range 8).map (fun i => (byteAt b (0x30 + 2 * i), byteAt b (0x31 + 2 * i)))).takeWhile (fun (c : Nat × Nat) => c.1 != 0)
    autoFrames := byteAt b 0x40, autoDwell := byteAt b 0x41, pmReaders := fld b 0x42 2 }

/-- The tables of the field-bus section (R298). -/
def parseFilter (b : Bytes) : FilterRec :=
  { id := fld b 0 4 % 2 ^ 29, xtd := bitOf (fld b 0 4) 29, mask := fld b 4 4, fmts := byteAt b 8, prio := flagAt b 9 0, dest := byteAt b 0xA
    index := byteAt b 0xB, vcid := fld b 0xC 2, poff := fld b 0xE 2, cap := fld b 0x10 2 }
def parseTxMsg (b : Bytes) : TxMsgRec :=
  { msg := fld b 0 2, bus := byteAt b 2, owner := byteAt b 3, idA := fld b 4 4, idB := fld b 8 4, fmt := byteAt b 0xC, len := fld b 0xE 2
    pr := fld b 0x10 2, ph := fld b 0x12 2, mark := fld b 0x14 2, sdt := byteAt b 0x18, vcid := byteAt b 0x19, sec := byteAt b 0x1A, af := fld b 0x1C 4 }
def parseRxSig (b : Bytes) : RxSigRec :=
  { sig := fld b 0 2, filter := fld b 2 2, start := fld b 4 2, len := byteAt b 6, signed := flagAt b 7 0, factor := f32At b 8, offset := f32At b 0xC
    period := fld b 0x10 2 }
def parseTxSig (b : Bytes) : TxSigRec :=
  { target := fld b 0 2, msg := fld b 2 2, start := fld b 4 2, len := byteAt b 6, signed := flagAt b 7 0, factor := f32At b 8, offset := f32At b 0xC
    init := fld b 0x10 4 }

/-- Field-bus section (R298). -/
def parseFb (b : Bytes) : FbSection :=
  { buses := (recsAt b 0x40 16 128).map parseBus
    filters := (recsAt b (fld b 0xC 4) (fld b 2 2) 20).map parseFilter
    txMsgs := (recsAt b (fld b 0x10 4) (fld b 4 2) 32).map parseTxMsg
    rxSigs := (recsAt b (fld b 0x14 4) (fld b 6 2) 24).map parseRxSig
    txSigs := (recsAt b (fld b 0x18 4) (fld b 8 2) 24).map parseTxSig }

/-- One plate record (R85), its channel entries behind the head. -/
def parsePlate (b : Bytes) : PlateRec :=
  { plate := fld b 0 2, rack := byteAt b 2, manifold := byteAt b 3, position := fld b 4 2
    chans := (recsAt b 64 (fld b 6 2) 4).map (fun c => { kind := byteAt c 0, index := byteAt c 1, num := fld c 2 2 })
    rated := fld b 8 4, floor := fld b 0xC 4, band := fld b 0x10 2, fcEnable := flagAt b 0x12 0, adaptEnable := flagAt b 0x12 1
    selfPlate := flagAt b 0x12 2, nHot := byteAt b 0x13, nStack := byteAt b 0x14, estCh := fld b 0x16 2, addr := fld b 0x18 8
    limHot := fld b 0x20 2, limStack := fld b 0x22 2, limOut := fld b 0x24 2 }

/-- Plate records one after another; the fuel bounds their number. -/
def parsePlates : Nat → Bytes → List PlateRec
  | 0, _ => []
  | f + 1, b => if b.length < 68 then [] else parsePlate b :: parsePlates f (b.drop (64 + 4 * max 1 (fld b 6 2)))

/-- Forecast model binding (R103). -/
def parseBind (b : Bytes) : BindRec :=
  { expDigest := slice b 0 64, keyRef := fld b 0x40 2, mode := byteAt b 0x42, horizon := byteAt b 0x43, period := fld b 0x44 2, minRate := fld b 0x46 2
    band := fld b 0x48 2, demote := byteAt b 0x4A, promote := fld b 0x4C 2, confMin := fld b 0x4E 2, warmHold := fld b 0x50 2, mirrorS := byteAt b 0x52
    adaptEn := byteAt b 0x53 != 0, learnRate := f32At b 0x54, srSeed := fld b 0x58 4, plates := fld b 0x5C 4 }

/-- Allocator and leases (R130). -/
def parseAlloc (b : Bytes) : AllocRec :=
  { validity := fld b 0 2, bisect := byteAt b 2, passes := byteAt b 3, cv := f32At b 4, capture := fld b 8 2, demandHead := fld b 0xA 2
    rampUp := fld b 0xC 2, provEn := byteAt b 0xE, ackLag := byteAt b 0xF, provMinStep := fld b 0x10 2, fbMargin := fld b 0x12 2
    rowDt := fld b 0x14 2, rowRetMax := fld b 0x16 2, fwRetMax := fld b 0x18 2, defaultClass := byteAt b 0x1A
    classWeight := (List.range 4).map (fun i => f32At b (0x1C + 4 * i)), allowFail := f32At b 0x2C, rowLimit := fld b 0x30 4
    rowFlowCh := fld b 0x34 2, speedCh := fld b 0x36 2, tfwCh := fld b 0x38 2, allowCh := fld b 0x3A 2
    racks := (List.range 32).map (fun r => { budget := fld b (0x40 + 8 * r) 4, margin := fld b (0x44 + 8 * r) 4 })
    manifolds := (List.range 32).map (fun m => let o := 0x140 + 8 * m
      { flowCh := fld b o 2, valveCh := fld b (o + 2) 2, dt := fld b (o + 4) 2, supplyCh := fld b (o + 6) 2 })
    trains := (List.range 4).map (fun i => { ua := f32At b (0x240 + 8 * i), statusCh := fld b (0x244 + 8 * i) 2 }) }

/-- Redundancy record (R259). -/
def parseRed (b : Bytes) : RedRec := { hot := byteAt b 2 == 1, partner := fld b 4 2, hbIds := (List.range 4).map (fun i => fld b (8 + 4 * i) 4) }

/-- Host peers and key references (R304). The addresses are in network order (PRESUMED, the order of RFC 4291). -/
def parsePeers (b : Bytes) : PeerSection :=
  let np := min 64 (fld b 2 2)
  let nk := min 64 (fld b 4 2)
  { port := fld b 8 2, vid := fld b 0xA 2 % 4096, unicast := unBe (slice b 0x10 16), telGroup := unBe (slice b 0x20 16), svGroup := unBe (slice b 0x30 16)
    peers := (recsAt b 64 np 32).map (fun r =>
      { index := byteAt r 0, kind := byteAt r 1, rack := byteAt r 2, rights := fld r 4 2, keyRef := fld r 6 2, addr := unBe (slice r 8 16) })
    keys := (recsAt b (64 + 32 * np) nk 16).map (fun r =>
      { ref := fld r 0 2, kind := byteAt r 2, data := (b.drop (fld r 4 4)).take (fld r 8 4) }) }

/-- Event rate limits (R368). -/
def parseRates (b : Bytes) : RateSection :=
  { r := fld b 4 2, b := fld b 6 2, recMin := byteAt b 8
    codes := (recsAt b 16 (fld b 2 2) 8).map (fun c => { code := fld c 0 2, r := fld c 2 2, b := fld c 4 2 }) }

/-- Directory of a pattern. -/
def patDir (raw : Bytes) : List SecEntry := dirEntries raw 0x100 (min 32 (fld raw 0x10 2))

/-- Bytes of a pattern's section; empty where it is absent. -/
def patSec (raw : Bytes) (t : Nat) : Bytes :=
  match secOf (patDir raw) t with
  | some e => secBytes raw e
  | none => []

/-- The signer's public key of the SIGNER section. -/
def signerKey (raw : Bytes) : Bytes := let b := patSec raw 0xFE; (b.drop 2).take (fld b 0 2)

/-- A container as the module loads it. -/
def parsePattern (raw : Bytes) : Pattern :=
  let opt {α : Type} (t : Nat) (f : Bytes → α) (d : α) : α := if (secOf (patDir raw) t).isSome then f (patSec raw t) else d
  let io := patSec raw 0x11
  { serial := fld raw 0x18 8
    version := fld raw 4 2
    digest := slice raw 0x20 64
    nextAnchor := slice raw 0x60 64
    signerDigest := shake256 (signerKey raw)
    fabric := opt 0x10 parseFabric {}
    io := (recsAt io 16 (fld io 2 2) 16).map parseIo
    inputs := (recordsOf 32 (patSec raw 0x12)).map parseInput
    groups := (recordsOf 24 (patSec raw 0x13)).map parseGroup
    maps := (recordsOf 64 (patSec raw 0x14)).map parseMap
    chans := (recordsOf 128 (patSec raw 0x15)).map parseChan
    est := (recordsOf 16 (patSec raw 0x16)).map parseEst
    sv := parseSv (patSec raw 0x17)
    fb := parseFb (patSec raw 0x18)
    plates := let b := patSec raw 0x19; parsePlates (b.length / 68) b
    bind := parseBind (patSec raw 0x1A)
    alloc := parseAlloc (patSec raw 0x1B)
    red := parseRed (patSec raw 0x1C)
    peers := parsePeers (patSec raw 0x1D)
    rates := opt 0x1E parseRates {} }

/-! ### Checks 1 to 5 (R375) -/

/-- Check 1. -/
def patCheck1 (raw : Bytes) (len : Nat) : Bool :=
  raw.take 4 == [0x50#8, 0x54#8, 0x52#8, 0x4E#8] && fld raw 6 2 == 256 && fld raw 4 2 ≤ 1 && fld raw 8 8 == len && raw.length == len &&
    decide (len ≤ 16 * 2 ^ 20) && byteAt raw 0x12 == 1

/-- Length that a section's own content takes, where its layout fixes one (R376, R441, R231, R103, R130, R259, R368). -/
def secContent (t : Nat) (b : Bytes) : Option Nat :=
  if t = 0x10 then some 32
  else if t = 0x11 then some (16 + 16 * fld b 2 2)
  else if t = 0x17 then some 2688
  else if t = 0x1A then some 128
  else if t = 0x1B then some 608
  else if t = 0x1C then some 32
  else if t = 0x1E then some (16 + 8 * fld b 2 2)
  else if t = 0xFE then some 1802
  else if t = 0xFF then some 1538
  else none

/-- Types that a pattern must have. -/
def patRequired : List Nat := [0x11, 0x12, 0x13, 0x14, 0x15, 0x16, 0x17, 0x18, 0x19, 0x1A, 0x1B, 0x1C, 0x1D, 0xFE, 0xFF]

/-- A type of R372. -/
def patKnown (t : Nat) : Bool := patRequired.contains t || t == 0x10 || t == 0x1E

/-- The sections lie one after another with SIGNER and SIGNATURE last. -/
def patEndsSigned (es : List SecEntry) : Bool :=
  match es.reverse with
  | g :: r :: t => g.typ == 0xFF && r.typ == 0xFE && r.off + r.len ≤ g.off && t.all (fun e => e.off + e.len ≤ r.off)
  | _ => false

/-- Check 2. A section is within 8 bytes of its stated length where its content takes SLENGTH, or up to 8 bytes less (DEDUCED). -/
def patCheck2 (raw : Bytes) : Bool :=
  let es := patDir raw
  let n := fld raw 0x10 2
  3 ≤ n && n ≤ 32 && es.all (fun e => e.off % 256 == 0 && 0x100 + 32 * n ≤ e.off && e.off + e.len ≤ raw.length &&
    (match secContent e.typ (secBytes raw e) with | some c => c ≤ e.len && e.len ≤ c + 8 | none => true)) && noOverlap es &&
    es.all (fun e => (es.filter (fun x => x.typ == e.typ)).length == 1) &&
    patRequired.all (fun t => es.any (fun e => e.typ == t)) &&
    es.all (fun e => patKnown e.typ || bitOf e.flags 0) && patEndsSigned es

/-- Check 3. -/
def patCheck3 (raw : Bytes) : Bool := (patDir raw).all (fun e => crc32c (secBytes raw e) == e.crc)

/-- The pattern digest (R373). -/
def patDigestOf (raw : Bytes) : Bytes :=
  let n := match secOf (patDir raw) 0xFF with
    | some e => e.off
    | none => 0
  shake256 (zeroRange (zeroRange (raw.take n) 0x20 64) 0xC0 32)

/-- Check 4. -/
def patCheck4 (raw : Bytes) : Bool := patDigestOf raw == slice raw 0x20 64

/-- Check 5: the signer is the anchor's, and the signature verifies (R374). -/
def patCheck5 (anchor : Option Bytes) (raw : Bytes) : Bool :=
  match anchor with
  | none => false
  | some a => shake256 (signerKey raw) == a && Config.falconVerify (signerKey raw) (slice raw 0x20 64) (sigOf (patSec raw 0xFF))

/-! ### Check 7: ranges and references -/

/-- A number lies in a range. -/
def within (lo hi x : Nat) : Bool := lo ≤ x && x ≤ hi

/-- Pins of a kind (R436) and the modes of R439. -/
def ioPins (kind : Nat) : Nat := nth [0, 48, 16, 16, 16, 16, 16, 24] kind 0
def ioModes (kind : Nat) : Nat := nth [0, 4, 2, 2, 2, 1, 1, 2] kind 0

/-- Records in ascending order of a key. -/
def rising : List Nat → Bool
  | a :: b :: t => a < b && rising (b :: t)
  | _ => true

/-- The ranges of R441. -/
def ioOk (p : Pattern) : Bool :=
  p.io.all (fun r => decide (r.index < ioPins r.kind) && within 1 (ioModes r.kind) r.mode && (r.kind != 5 || within 1 2000 r.param) && (r.kind != 4 || r.param ≤ 400)) &&
    rising (p.io.map (fun r => r.kind * 256 + r.index))

/-- An input has a health record. -/
def hasInput (p : Pattern) (i : Nat) : Bool := p.inputs.any (fun r => r.input == i)
def hasInputOr (p : Pattern) (i : Nat) : Bool := i == 0xFFFF || hasInput p i
def hasChan (p : Pattern) (c : Nat) : Bool := c == 0xFFFF || p.chans.any (fun r => r.ch == c)

/-- The ranges of R169. -/
def inputsOk (p : Pattern) : Bool :=
  p.inputs.all (fun r => r.input ≤ 1023 && within 1 5 r.source && r.rangeTime ≤ 60000 && r.staleTime ≤ 60000 && (r.source != 3 || 1 ≤ r.staleTime) &&
    within 10 6000 r.frozenTime && within 100 60000 r.recoverTime && (!r.frozenRef || hasInput p r.refInput) && (!r.subst || r.substGroup ≤ 63))

/-- The ranges of R170. -/
def groupsOk (p : Pattern) : Bool :=
  p.groups.all (fun g => g.group ≤ 127 && g.members.all (hasInput p) && (!g.fcVoter || (p.plates.any (fun x => x.plate == g.fcPlate) &&
    (g.fcKind == 1 || g.fcKind == 2 || g.fcKind == 4))))

/-- The ranges of R171. -/
def mapsOk (p : Pattern) : Bool :=
  p.maps.all (fun m => m.num ≤ 255 && within 1 3 m.target && hasInputOr p m.readback &&
    (if m.target = 1 then decide (m.index < 16) else if m.target = 2 then decide (m.index < 16) else p.fb.txSigs.any (fun t => t.target == m.index)))

/-- A process value's source: an input or a vote group. -/
def pvOk (p : Pattern) (v : Nat) : Bool := if v < 0x8000 then hasInput p v else p.groups.any (fun g => g.group + 0x8000 == v)

/-- The ranges of R167 and R168. -/
def chansOk (p : Pattern) : Bool :=
  p.chans.all (fun c => c.ch ≤ 255 && c.engine ≤ 7 && 1 ≤ c.period && decide (c.phase < c.period) && pvOk p c.pv &&
    (c.outMap == 0xFFFF || p.maps.any (fun m => m.num == c.outMap)) && hasChan p c.outer && c.unkAction ≤ 2 && c.spLoss ≤ 1 && hasInputOr p c.extIn &&
    c.extShift ≤ 7 && c.cascShift ≤ 7 && c.feAction ≤ 1 && (bankCheck c.bankA).isNone && (bankCheck c.bankBw).isNone)

/-- The ranges of R231. -/
def svOk (p : Pattern) : Bool :=
  let v := p.sv
  within 10 100 v.ecapLevel && within 5 50 v.tripFrac && within (v.tripFrac + 5) 100 v.recoverFrac && within 500 60000 v.clearHold &&
    within 500 30000 v.dpGrace && within 10 1000 v.mbThresh && v.subOffset ≤ 2000 && within 5 1000 v.locDrop && within 300 1600 v.waveSpeed &&
    hasInputOr p v.makeupIn && v.cmps.all (fun c => !c.enable || (within 1 14 c.filt && hasInputOr p c.input)) &&
    v.pumpDio.all (fun d => d ≤ 23 || d == 0xFFFF) && v.isoOut.all (fun d => d ≤ 23 || d == 0x8000 || d == 0xFFFF) &&
    v.mb.all (fun m => !m.enable || (hasInput p m.sup && hasInput p m.ret))

/-- The bit-timing ranges of R267; the data ones where the bus carries FD or XL frames. -/
def timingOk (b : BusRec) : Bool :=
  within 1 256 b.nbrp && within 2 256 b.ntseg1 && within 1 128 b.ntseg2 && within 1 b.ntseg2 b.nsjw &&
    (b.dataFmt = 0 || within 1 32 b.dbrp && within 1 128 b.dtseg1 && within 1 64 b.dtseg2 && within 1 b.dtseg2 b.dsjw)

/-- The ranges of R298. -/
def fbOk (p : Pattern) : Bool :=
  let f := p.fb
  f.buses.all (fun b => (b.dataFmt ≤ 2 && timingOk b && within 1 32 b.maxAttempts && within 1 100 b.lockMax && b.filterCount ≤ 256 &&
    b.firstFilter + b.filterCount ≤ f.filters.length && within 2 32 b.autoFrames && within 1 100 b.autoDwell && b.cands.all (fun c => c.1 ≤ 5 && c.2 ≤ 6))) &&
  f.filters.length ≤ 2048 && f.txMsgs.length ≤ 256 && f.rxSigs.length ≤ 896 && f.txSigs.length ≤ 512 &&
  f.filters.all (fun e => within 1 4 e.dest && (e.dest != 1 || e.index < 128 && within 1 256 e.cap && e.poff + e.cap * 8 ≤ 32768) && (e.dest != 2 || e.index < 8)) &&
  f.txMsgs.all (fun m => m.msg ≤ 255 && m.bus ≤ 15 && within 1 2 m.owner && m.fmt ≤ 3 && within 1 1000 m.pr && decide (m.ph < m.pr)) &&
  f.rxSigs.all (fun g => g.sig ≤ 895 && within 1 32 g.len && decide (g.filter < f.filters.length)) &&
    f.txSigs.all (fun g => g.target ≤ 511 && within 1 32 g.len && f.txMsgs.any (fun m => m.msg == g.msg))

/-- The ranges of R85. -/
def platesOk (p : Pattern) : Bool :=
  p.plates.all (fun r => r.plate ≤ 4095 && r.selfPlate == (r.plate == 0) && (r.band == 0 || within 50 1000 r.band) && (r.rack ≤ 31 || r.rack == 0xFF) && r.manifold ≤ 31 && within 1 256 r.chans.length && r.nHot ≤ 64 &&
    r.nStack ≤ 16 && r.chans.all (fun c => c.kind ≤ 9)) && rising (p.plates.map (·.plate)) && p.plates.any (·.selfPlate)

/-- The ranges of R103, and of R81 for the period. -/
def bindOk (p : Pattern) : Bool :=
  let b := p.bind
  within 1 3 b.mode && within 8 64 b.horizon && within (if b.mode = 1 then 500 else 1000) 4000 b.period && within 1 2000 b.minRate && within 50 1000 b.band &&
    within 1 15 b.demote && within 10 10000 b.promote && b.confMin ≤ 1000 && b.warmHold ≤ 60000 && within 1 60 b.mirrorS && within 1 4096 b.plates &&
    p.plates.length == b.plates && p.peers.keys.any (fun k => k.ref == b.keyRef && k.kind == 2)

/-- An FP32 value lies in a range. -/
def fwithin (lo hi x : F32) : Bool := fle lo x && fle x hi

/-- The ranges of R130. -/
def allocOk (p : Pattern) : Bool :=
  let a := p.alloc
  within 4 1000 a.validity && within 8 32 a.bisect && within 1 4 a.passes && fwithin (f32k 3000 1) (f32k 4500 1) a.cv && within 500 1000 a.capture &&
    a.demandHead ≤ 500 && within 1 1000 a.rampUp && a.provEn ≤ 1 && within 2 100 a.ackLag && within 1 500 a.provMinStep && a.fbMargin ≤ 1000 && within 100 3000 a.rowDt &&
    within 2000 7000 a.rowRetMax && within 2000 7000 a.fwRetMax && a.defaultClass ≤ 3 && a.classWeight.all (fwithin (f32k 625 10000) (f32k 16 1)) &&
    hasChan p a.rowFlowCh && hasChan p a.speedCh && hasChan p a.tfwCh && hasChan p a.allowCh &&
    a.manifolds.all (fun m => hasChan p m.flowCh && hasChan p m.valveCh && hasChan p m.supplyCh) && a.trains.all (fun t => hasChan p t.statusCh)

/-- The ranges of R304. -/
def peersOk (p : Pattern) : Bool :=
  let h := p.peers
  within 1 64 h.peers.length && h.peers.all (fun r => r.index ≤ 63 && within 1 4 r.kind && decide (r.rights < 2048) &&
    (r.keyRef == 0xFFFF || h.keys.any (fun k => k.ref == r.keyRef)) && (!bitOf r.rights 5 || h.keys.any (fun k => k.ref == r.keyRef && k.kind == 1))) &&
  h.keys.all (fun k => within 1 2 k.kind)

/-- The ranges of R259. -/
def redOk (p : Pattern) : Bool := p.peers.peers.any (fun r => r.index == p.red.partner) && p.red.hbIds.length == 4

/-- The ranges of R368. -/
def ratesOk (p : Pattern) : Bool := within 1 10000 p.rates.r && within 1 1000 p.rates.b && p.rates.recMin ≤ 3 && rising (p.rates.codes.map (·.code))

/-- Check 7 on the decoded records, by section type; 0 is the header. -/
def patRanges (p : Pattern) : List (Nat × Bool) :=
  [(0, decide (1 ≤ p.serial)), (0x10, p.fabric.weights.all (within 1 15)), (0x11, ioOk p), (0x12, inputsOk p), (0x13, groupsOk p), (0x14, mapsOk p),
    (0x15, chansOk p), (0x16, p.est.all (fun r => r.slot ≤ 4095)), (0x17, svOk p)] ++
  [(0x18, fbOk p), (0x19, platesOk p), (0x1A, bindOk p), (0x1B, allocOk p), (0x1C, redOk p), (0x1D, peersOk p), (0x1E, ratesOk p)]

/-- A check of a section that may be absent. -/
def ifPresent (raw : Bytes) (t : Nat) (f : Bytes → Bool) : Bool := (secOf (patDir raw) t).isNone || f (patSec raw t)

/-- Check 7 on the bytes, by section type. -/
def patRaw (raw : Bytes) : List (Nat × Bool) :=
  [(0, rawHeader raw), (0x10, ifPresent raw 0x10 rawFabric), (0x11, rawIo (patSec raw 0x11)), (0x13, (recordsOf 24 (patSec raw 0x13)).all rawGroup),
    (0x14, (recordsOf 64 (patSec raw 0x14)).all rawMap), (0x15, (recordsOf 128 (patSec raw 0x15)).all rawChan),
    (0x16, (recordsOf 16 (patSec raw 0x16)).all (fun r => zeroAt r 0xC 4))] ++
  [(0x17, rawSv (patSec raw 0x17)), (0x18, rawFb (patSec raw 0x18)), (0x19, let b := patSec raw 0x19; rawPlates (b.length / 68) b), (0x1A, rawBind (patSec raw 0x1A)),
    (0x1B, rawAlloc (patSec raw 0x1B)), (0x1C, rawRed (patSec raw 0x1C)), (0x1D, rawPeers (patSec raw 0x1D)), (0x1E, ifPresent raw 0x1E rawRates)]

/-- The section in which check 7 fails first, for PATTERN_REFUSED; none where every section passes. -/
def patFailSec (raw : Bytes) (p : Pattern) : Option Nat := ((patRaw raw ++ patRanges p).find? (fun e => !e.2)).map (·.1)

/-! ### Checks 6, 8 and 9 -/

/-- Plates the variant holds in the pattern's mode (R6). -/
def plateRoom (s : State) (p : Pattern) : Nat := if p.bind.mode = 3 then variantPlates s / 2 else variantPlates s

/-- The section that check 2 refuses a container for: one that lies wrong, comes twice or is unknown, else a missing one; 0 where none is named. -/
def secFail2 (raw : Bytes) : Nat :=
  let es := patDir raw
  match es.find? (fun e => e.off % 256 != 0 || decide (raw.length < e.off + e.len) || (es.filter (fun x => x.typ == e.typ)).length != 1 ||
      !(patKnown e.typ || bitOf e.flags 0) || (match secContent e.typ (secBytes raw e) with | some c => !(decide (c ≤ e.len) && decide (e.len ≤ c + 8)) | none => false)) with
  | some e => e.typ
  | none => (patRequired.find? (fun t => !(es.any (fun e => e.typ == t)))).getD 0

/-- The section whose CRC check 3 finds wrong. -/
def secFail3 (raw : Bytes) : Nat :=
  match (patDir raw).find? (fun e => crc32c (secBytes raw e) != e.crc) with
  | some e => e.typ
  | none => 0

/-- Check 8. The record layouts of R371 to R376 name no forecast region, stack or HBM address. -/
def patCheck8 (s : State) (p : Pattern) : Bool := p.bind.plates ≤ plateRoom s p

/-- Check 9: the full-load fields of R382 are unchanged. -/
def patCheck9 (o n : Pattern) : Bool :=
  o.bind.mode == n.bind.mode && o.bind.horizon == n.bind.horizon && o.bind.period == n.bind.period && o.bind.plates == n.bind.plates &&
    o.plates.map (fun r => (r.plate, r.rack, r.manifold)) == n.plates.map (fun r => (r.plate, r.rack, r.manifold)) && o.red == n.red &&
    o.peers.port == n.peers.port && o.peers.vid == n.peers.vid && o.peers.unicast == n.peers.unicast && o.peers.telGroup == n.peers.telGroup &&
    o.peers.svGroup == n.peers.svGroup && o.fb.buses.map (·.tt) == n.fb.buses.map (·.tt) && o.fb.buses.map (·.refId) == n.fb.buses.map (·.refId) &&
    o.io.map (fun r => (r.kind, r.index, r.mode)) == n.io.map (fun r => (r.kind, r.index, r.mode))

/-- The section of a full-load field that check 9 finds changed. -/
def secFail9 (o n : Pattern) : Nat :=
  if o.io.map (fun r => (r.kind, r.index, r.mode)) != n.io.map (fun r => (r.kind, r.index, r.mode)) then 0x11
  else if o.fb.buses.map (·.tt) != n.fb.buses.map (·.tt) || o.fb.buses.map (·.refId) != n.fb.buses.map (·.refId) then 0x18
  else if o.plates.map (fun r => (r.plate, r.rack, r.manifold)) != n.plates.map (fun r => (r.plate, r.rack, r.manifold)) then 0x19
  else if o.bind.mode != n.bind.mode || o.bind.horizon != n.bind.horizon || o.bind.period != n.bind.period || o.bind.plates != n.bind.plates then 0x1A
  else if o.red != n.red then 0x1C
  else 0x1D

/-- How a container is checked: a re-knit, a full load staged beside a pattern in force, a full load without one. -/
inductive PatUse where
  | reknit
  | staged
  | first
  deriving DecidableEq, Repr

/-- The first check of R375 that a container fails, 0 for none, with the section it names. -/
def patCheck (s : State) (use : PatUse) (raw : Bytes) (len : Nat) : Nat × Nat :=
  let p := parsePattern raw
  if !patCheck1 raw len then (1, 0)
  else if !patCheck2 raw then (2, secFail2 raw)
  else if !patCheck3 raw then (3, secFail3 raw)
  else if !patCheck4 raw then (4, 0)
  else if !patCheck5 s.pf.anchor raw then (5, 0)
  else if use != .first && p.serial ≤ (pat s).serial then (6, 0)
  else
    match patFailSec raw p with
    | some t => (7, t)
    | none =>
      if !patCheck8 s p then (8, 0x1A)
      else if use == .reknit && !patCheck9 (pat s) p then (9, secFail9 (pat s) p)
      else (0, 0)

end Sys2Proof.Machine
end

