-- ==== Sys2Proof/Machine/Redundancy.lean ====
section
/-! DEFINITION. The redundancy commands (chapter 08): heartbeats, paths, claims, takeover, qualification, alignment. -/

namespace Sys2Proof.Machine

/-! ### Heartbeats (R239 to R241) -/

/-- The module sends heartbeats: it holds a role other than SAFE. -/
def sendsHb (s : State) : Bool := !(s.glb.role == .none || s.glb.role == .safe)

/-- The next tick T, the present one included, with T mod `m` = `r`; `last`: the tick already served. -/
def dueTick (last : Option Nat) (m r : Nat) (s : State) : Nat :=
  let p := if s.clock < s.tickAt then s.tick - 1 else s.tick
  let p := if last = some p then p + 1 else p
  p + (r + (m - p % m)) % m

/-- The clock at a tick. -/
def toTick (t : Nat) (s : State) : State := if t < s.tick then s else clockTo (s.tickAt + (t - s.tick) * tickNs) s

/-- CHAIN_WORD_SEND (R239): at the next tick with T mod 20 = 0. The first word with HREQ starts the 5 ms of R250. -/
def execChainWordSend (s : State) : Host.Outcome State Fault Refusal :=
  live (fun s =>
    if sendsHb s then
      let t := dueTick s.red.wordTick 20 0 s
      let s := toTick t s
      let n := (s.red.hbSeq + 1) % 16
      { s with
        red.hbSeq := n
        red.wordTick := some t
        red.txWord := BitVec.ofNat 32 (chainWord s n)
        red.ho := if s.glb.role == .active then s.red.ho.map (fun h => { h with firstWord := some (h.firstWord.getD s.clock) }) else s.red.ho }
    else s) s

/-- HEARTBEAT_SEND (R240): at the next tick with T mod 40 = 0 for slot A or 20 for slot B, the chain word of that tick and the round number in the urgent slot of buses 0 and 8. Where the word of the tick is still to go out, it is the same word. -/
def execHeartbeatSend (s : State) : Host.Outcome State Fault Refusal :=
  live (fun s =>
    if sendsHb s then
      let t := dueTick s.red.hbTick 40 (if slotB s then 20 else 0) s
      let s := toTick t s
      let w := if s.red.wordTick = some t then s.red.txWord.toNat else chainWord s ((s.red.hbSeq + 1) % 16)
      each [0, 8] (fun k s =>
        let key := hbKey s k (slotB s)
        urgPut k { key := 6, content := 1, f := { xtd := 2 ^ 29 ≤ key, id := key % 2 ^ 29, data := le w 4 ++ le s.round 4 } } s)
        { s with red.hbTick := some t }
    else s) s

/-- The straps are one of the two combinations of R234. -/
def strapsOk (s : State) : Bool := s.red.straps == 2 || s.red.straps == 1

/-- A strap fault is recorded once; a HELD module stays HELD with HELD_CAUSE 6 (R234). -/
def strapFault (partnerSlot : Nat) (s : State) : State :=
  if s.red.strapFault then s
  else
    emit 0x012F srcChip (aw s.red.straps ++ aw partnerSlot)
      { s with red.strapFault := true, glb.heldCause := if s.glb.role == .held then 6 else s.glb.heldCause }

/-- SYNC is right and the CRC matches (R241). -/
def wordIntact (w : Nat) : Bool := bits w 28 4 == 11 && crc4 w == w % 16

/-- A valid word of the partner has come by a path; the first one with HREQ counts for the claim of R250. -/
def partnerValid (w : Word) (s : State) : State :=
  settleDriving { s with red.partnerWord := w, red.hreqAt := if w.getLsbD 7 then some (s.red.hreqAt.getD s.clock) else none }

/-- CHAIN_WORD_RECEIVE (R241, R234). -/
def execChainWordReceive (w : Word) (s : State) : Host.Outcome State Fault Refusal :=
  live (fun s =>
    if !wordIntact w.toNat then s
    else if bitOf w.toNat 24 == slotB s then strapFault (b2n (bitOf w.toNat 24)) s
    else
      let q := bits w.toNat 16 4
      let ok := s.red.seqChain == some ((q + 15) % 16) && decide (s.clock ≤ s.red.chainT + 8000000)
      let s := { s with red.seqChain := some q, red.chainT := s.clock }
      if ok then
        partnerValid w { s with red.chainLast := some s.clock, red.chainSince := some (s.red.chainSince.getD s.clock) }
      else s) s

/-- HEARTBEAT_RECEIVE (R240, R241): bus 0 and bus 8 are separate routes of one path. -/
def execHeartbeatReceive (bus : Nat) (f : BusFrame) (s : State) : Host.Outcome State Fault Refusal :=
  live (fun s =>
    if !(bus = 0 || bus = 8) then s
    else
      let n := fld f.data 0 4
      if !wordIntact n then s
      else if bitOf n 24 == slotB s then strapFault (b2n (bitOf n 24)) s
      else
        let q := bits n 16 4
        let (prev, at_) := if bus = 0 then (s.red.seqFb0, s.red.fb0T) else (s.red.seqFb8, s.red.fb8T)
        let ok := prev == some ((q + 14) % 16) && decide (s.clock ≤ at_ + 8000000)
        let s := if bus = 0 then { s with red.seqFb0 := some q, red.fb0T := s.clock } else { s with red.seqFb8 := some q, red.fb8T := s.clock }
        if ok then
          let s := if bus = 0 then { s with red.fb0Last := some s.clock } else { s with red.fb8Last := some s.clock }
          partnerValid (BitVec.ofNat 32 n) { s with red.fbSince := some (s.red.fbSince.getD s.clock) }
        else s) s

/-- Instant of the last valid heartbeat frame on either bus. -/
def fbLast (s : State) : Option Nat :=
  match s.red.fb0Last, s.red.fb8Last with
  | some a, some b => some (max a b)
  | some a, none => some a
  | none, b => b

/-- An age in 0.1 ms, saturating at `top`. -/
def ageOf (s : State) (t : Option Nat) (top : Nat) : Nat :=
  match t with
  | some x => min top ((s.clock - x) / 100000)
  | none => top


/-- The partner is lost: both paths are lost at the same time (R241). -/
def partnerLost (s : State) : State :=
  if s.red.lost || s.red.chainOk || s.red.fbOk then s
  else
    settleDriving (emit 0x0122 srcChip (aw (ageOf s s.red.chainLast 0xFFFF) ++ aw (ageOf s (fbLast s) 0xFFFF) ++ aw (partnerRole s))
      { s with red.lost := true, red.lostAt := s.clock })

/-- A path falls silent: `was`, it was valid. The partner is lost with both paths (R241), also one that was heard for less than 100 ms and falls silent on both. -/
def pathSilent (path : Nat) (was : Bool) (s : State) : State :=
  if was then partnerLost (emit 0x0123 srcChip (aw path) s)
  else if s.red.chainSince.isNone && s.red.fbSince.isNone && partnerHeard s then partnerLost s
  else s

/-- HB_PATH_LOST (R241): path 1 the chain pair after 8 ms, path 2 the field buses after 10 ms without a valid word. -/
def execHbPathLost (path : Nat) (s : State) : Host.Outcome State Fault Refusal :=
  live (fun s =>
    if path = 1 then
      let s := match s.red.chainLast with
        | some t => if s.red.chainSince.isSome then clockTo (t + 8000000) s else s
        | none => s
      let was := s.red.chainOk
      let s := { s with red.chainOk := false, red.chainSince := none, red.chainDown := s.red.chainDown || was }
      pathSilent 1 was s
    else if path = 2 then
      let s := match fbLast s with
        | some t => if s.red.fbSince.isSome then clockTo (t + 10000000) s else s
        | none => s
      let was := s.red.fbOk
      let s := { s with red.fbOk := false, red.fbSince := none, red.fbDown := s.red.fbDown || was }
      pathSilent 2 was s
    else s) s

/-- A path is restored; the partner is no longer lost. -/
def pathBack (path : Nat) (down : Bool) (s : State) : State :=
  let s := { s with red.lost := false }
  settleDriving (if down then emit 0x0123 srcChip (aw path) s true else s)

/-- HB_PATH_RESTORED (R241): 100 ms of valid words. -/
def execHbPathRestored (path : Nat) (s : State) : Host.Outcome State Fault Refusal :=
  live (fun s =>
    if path = 1 then
      match s.red.chainSince with
      | some t => if s.red.chainOk then s else
          pathBack 1 s.red.chainDown (clockTo (t + 100000000) { s with red.chainOk := true, red.chainDown := false })
      | none => s
    else if path = 2 then
      match s.red.fbSince with
      | some t => if s.red.fbOk then s else
          pathBack 2 s.red.fbDown (clockTo (t + 100000000) { s with red.fbOk := true, red.fbDown := false })
      | none => s
    else s) s

/-! ### Claims (R242 to R246) -/

/-- The loaded pattern is inconsistent with a readable identity store (R380). -/
def idsBad (s : State) : Bool := s.pf.idsOk && !s.pf.idsMatch

/-- A HELD or STANDBY module without a strap fault and with a consistent pattern may claim. -/
def mayClaim (s : State) : Bool := (s.glb.role == .held || s.glb.role == .standby) && !s.red.strapFault && !idsBad s && s.link.claim == .idle && s.link.driveAt.isNone

/-- The partner's claim and any answer to it are still under way: a module that waits for the line does not claim (R243). -/
def partnerClaims (s : State) : Bool :=
  match s.link.partnerTc with
  | some t => !s.link.fault && decide (s.clock < t + 20000000)
  | none => false

/-- The instant from which CLAIM_N has been high for 0.2 ms, this module's own pulses included (R243). -/
def lineFree (s : State) : Nat := (s.link.pulses.foldl (fun m (p : Nat × Nat × Nat) => max m p.2.2) s.link.highAt) + 200000

/-- The case of R243 that `reason` codes holds. With the line absent a claim needs a time of partner loss (R246, DEDUCED). -/
def claimReason (s : State) (reason : Nat) : Bool :=
  if reason = 1 then s.red.lost && !s.link.aborted
  else if reason = 2 then s.link.claimDeferred
  else if reason = 3 then s.glb.role == .standby && partnerHeard s && partnerRole s == 3 && bitOf s.red.partnerWord.toNat 7 && !s.link.fault
  else if reason = 4 then
    s.glb.role == .held && s.link.aborted && s.red.lost && readbacksReleased s &&
      (match s.link.relSince with | some t => decide (t + 20000000 ≤ s.clock) | none => false)
  else false

/-- The instant a claim waits for before the line: a planned handover's claim comes at the first t0 after the word with HREQ (R250). -/
def claimDue (s : State) (reason : Nat) : Nat :=
  match (if reason = 3 then s.red.hreqAt else none) with
  | some t => if t < s.t0At then s.t0At else s.t0At + periodNs s
  | none => s.clock

/-- CLAIM_ISSUED (R243): t_c is the start of the pulse of the slot's length, once the line has been high for 0.2 ms; with a faulty line no pulse is sent and t_c is the time of partner loss. -/
def execClaimIssued (reason : Nat) (s : State) : Host.Outcome State Fault Refusal :=
  live (fun s =>
    if mayClaim s && claimReason s reason && !partnerClaims s then
      let s := clockTo (if s.link.fault then s.clock else max (claimDue s reason) (lineFree s)) s
      let len := if slotB s then 1000000 else 3000000
      let tc := if s.link.fault && s.red.lost then s.red.lostAt else s.clock
      { s with
        link.claim := .watching tc
        link.tc := tc
        link.reason := reason
        link.claims := satAdd 0xFFFF s.link.claims 1
        link.claimDeferred := false
        link.listenSince := none
        link.pulses := if s.link.fault then [] else [(if slotB s then 2 else 4, s.clock, s.clock + len)] }
    else s) s

/-- What one request for a handover waited for (R250, R455). -/
def handoverDone (h : HandoverSt) (s : State) : State :=
  if h.cause = 1 then
    match h.cmd with
    | some d => finishCmd d stOk 0 [] s
    | none => s
  else if h.cause = 3 then (if h.arg = 0 then ctlResetOp 2 s else loopRestartOp (h.arg - 1) s)
  else if h.cause = 7 then { s with dg.pend := 1 }
  else s

/-- What waits on a planned handover goes on once the module has yielded (R250, R455), a SAFE entry last (R464). -/
def afterHandover (s : State) : State :=
  let l := s.red.ho.toList ++ s.red.hoNext
  let s := each l handoverDone { s with red.ho := none, red.hoNext := [] }
  if l.any (fun h => h.cause == 6) then enterSafe 1 s else s

/-- CLAIM_PULSE (R242, R244): a driving module answers RELEASE or HOLD; a faulty line gets no answer (R246). The command stands where the module acts, at the pulse's end and 2.0 ms after its start at the latest (R251); `us`: the length measured in the end. -/
def execClaimPulse (us : Nat) (s : State) : Host.Outcome State Fault Refusal :=
  live (fun s =>
    let e := s.clock + (us - 2000) * 1000
    if !(pulseClass us == some 2 || pulseClass us == some 4) then s
    else if !drives s then
      let s := { s with link.lastPulse := some e, link.partnerTc := some (e - us * 1000), link.highAt := e }
      if s.link.claimDeferred then { s with link.claimDeferred := false, link.listenSince := some (max s.clock e), link.listenSecond := false } else s
    else if s.link.fault then s
    else if s.red.lost then { s with link.highAt := e, link.pulses := [(3, e + 200000, e + 2200000)] }
    else
      let w := s.red.partnerWord.toNat
      let s := yieldRole 3 s
      let s := { s with link.highAt := e, link.pulses := [(1, e + 200000, e + 700000)], link.releaseEnd := e + 700000 }
      let s := emit 0x0125 srcChip (aw (2 * b2n (bitOf w 21) + b2n (bitOf w 20)) ++ aq s.round) s
      afterHandover (keeperOff 2 s)) s

/-- RELEASE_PULSE (R243): the claimant drives at the end of the pulse. -/
def execReleasePulse (us : Nat) (s : State) : Host.Outcome State Fault Refusal :=
  live (fun s =>
    match s.link.claim with
    | .watching _ => if pulseClass us == some 1 then claimEnd 1 { s with link.driveAt := some s.clock, link.highAt := s.clock } else s
    | .idle => s) s

/-- CLAIM_HELD_OFF (R243): HOLD seen; the claimant enters HELD. -/
def execClaimHeldOff (us : Nat) (s : State) : Host.Outcome State Fault Refusal :=
  live (fun s =>
    match s.link.claim with
    | .watching _ =>
      if pulseClass us == some 3 then
        let s := claimEnd 2 { s with link.highAt := s.clock }
        let s := if s.glb.role == .held then { s with glb.heldCause := 4 } else setRole .held 4 s
        emit 0x0126 srcChip (aq s.round) s
      else s
    | .idle => s) s

/-- CLAIM_TIMEOUT (R243): no answer by t_c + 20 ms; the claimant drives then. -/
def execClaimTimeout (s : State) : Host.Outcome State Fault Refusal :=
  live (fun s =>
    match s.link.claim with
    | .watching tc => let s := clockTo (tc + 20000000) s; claimEnd 3 { s with link.driveAt := some s.clock }
    | .idle => s) s

/-- CLAIM_WITHDRAWN (R243, R245): the line is still low 0.1 ms after slot B released it. -/
def execClaimWithdrawn (s : State) : Host.Outcome State Fault Refusal :=
  live (fun s =>
    match s.link.claim with
    | .watching _ => if slotB s then claimEnd 4 s else s
    | .idle => s) s

/-- CLAIM_LINE_FAULT (R246): CLAIM_N has been low for more than 5 ms without interruption. -/
def execClaimLineFault (lowMs : Nat) (s : State) : Host.Outcome State Fault Refusal :=
  live (fun s =>
    if s.link.fault || lowMs < 5 then s
    else emit 0x012E srcChip (aw lowMs) { s with link.fault := true, link.lineLow := true, link.lowStart := s.clock - lowMs * 1000000 }) s

/-- CLAIM_LINE_FAULT_CLEAR (R246): the line has been high for 1 s. -/
def execClaimLineFaultClear (s : State) : Host.Outcome State Fault Refusal :=
  live (fun s =>
    if s.link.fault then
      emit 0x012E srcChip (aw ((s.clock - s.link.lowStart - 1000000000) / 1000000)) { s with link.fault := false, link.lineLow := false, link.highAt := s.clock - 1000000000 } true
    else s) s

/-! ### Taking over (R247 to R249) -/

/-- TAKEOVER (R247): the first tick boundary after the drive time. Time mastership follows at the next t0; the lease keeper is armed from the first lease-out. -/
def execTakeover (s : State) : Host.Outcome State Fault Refusal :=
  live (fun s =>
    match s.link.driveAt with
    | none => s
    | some t =>
      if !(s.glb.role == .held || s.glb.role == .standby) then { s with link.driveAt := none }
      else
        let s := clockTo (tickAfter s t) s
        let s := setRole .alone 0 { s with link.driveAt := none, link.aborted := false, link.mustStep := false }
        let s := initAll (heldTrips { s with red.driving := true, red.watch := true, red.firstDrive := s.clock })
        let from_ := if (s.link.reason = 1 || s.link.reason = 4) then s.red.lostAt else s.link.tc
        let dt := min 0xFFFF ((s.clock - from_) / 10000)
        let s := { s with
          al.armed := false
          al.keepOn := false
          al.keepAsked := false
          al.keepStop := false
          al.late := false
          al.first := true
          link.takeovers := satAdd 0xFFFF s.link.takeovers 1
          link.takeoverLast := dt }
        settleDriving (emit 0x0128 srcChip (aw dt ++ aw s.lp.fromRb ++ aw s.lp.fromSnap ++ aw s.lp.fromInit) s)) s

/-- TAKEOVER_WATCH_END (R248): 100 ms after the first drive. -/
def execTakeoverWatchEnd (s : State) : Host.Outcome State Fault Refusal :=
  live (fun s => if s.red.watch then { (clockTo (s.red.firstDrive + 100000000) s) with red.watch := false } else s) s

/-- DUAL_ACTIVE_ABORT (R248): trigger 1, a readback above the command for 15 ms; trigger 2, one identifier conflict. -/
def execDualActiveAbort (trigger object : Nat) (s : State) : Host.Outcome State Fault Refusal :=
  live (fun s =>
    if trigger = 1 then
      match (mapSt s object).fSince with
      | some t => if s.red.watch then abortTakeover 1 object (clockTo (t + 15000000) s) else s
      | none => s
    else if trigger = 2 then abortTakeover 2 object s
    else s) s

/-- FOREIGN_DRIVE (R249): outside the watch the condition is recorded once per episode. -/
def execForeignDrive (m : Nat) (s : State) : Host.Outcome State Fault Refusal :=
  live (fun s =>
    let x := mapSt s m
    match mapRec s m, x.fSince with
    | some r, some t =>
      if !drives s || s.red.watch || x.fDone then s
      else
        let s := clockTo (t + 15000000) s
        emit 0x012B srcChip (aw m ++ ai (milli x.y) ++ ai (milli ((readback s r).getD fzero)))
          { s with lp.maps := tset s.lp.maps m { x with fDone := true } }
    | _, _ => s) s

/-! ### Qualification (R238) -/

/-- A path has been valid without interruption for 1 s. -/
def pathSecond (s : State) (since : Option Nat) : Bool :=
  match since with
  | some t => decide (t + 1000000000 ≤ s.clock)
  | none => false

/-- Criterion `i` of R238, 1 to 7. -/
def qualMet (s : State) (i : Nat) : Bool :=
  if i = 1 then strapsOk s && !s.red.strapFault
  else if i = 2 then !s.mir.patDigest.isEmpty && s.mir.patDigest == dig64 (pat s).digest
  else if i = 3 then decide ((pat s).bind.plates ≤ (if (pat s).bind.mode = 3 then variantPlates s / 2 else variantPlates s))
  else if i = 4 then
    s.red.chainOk && s.red.fbOk && pathSecond s s.red.chainSince && pathSecond s s.red.fbSince &&
      bitOf s.red.partnerWord.toNat 21 && bitOf s.red.partnerWord.toNat 20
  else if i = 5 then s.link.aligned
  else if i = 6 then decide (s.link.snapAge ≤ 10) && decide (s.link.leaseAge ≤ 10)
  else partnerHeard s && (partnerRole s == 3 || partnerRole s == 4)

/-- GLB_QUAL.MET (R260). -/
def qualBits (s : State) : Nat := (List.range 7).foldl (fun a i => a + b2n (qualMet s (i + 1)) * 2 ^ i) 0

/-- STANDBY_QUALIFIED (R238): a HELD module meets every criterion. -/
def execStandbyQualified (s : State) : Host.Outcome State Fault Refusal :=
  live (fun s => if s.glb.role == .held && qualBits s == 127 && !idsBad s then setRole .standby 0 { s with link.aborted := false } else s) s

/-- HELD_CAUSE of a lost criterion. -/
def qualCause (crit : Nat) : Nat := if crit = 1 then 6 else if crit = 2 || crit = 3 then 7 else 2

/-- QUALIFICATION_LOST (R238): criterion 1, 2, 3 or 5 fails, or 6 has failed for 1000 rounds: it fails from an age of 11. -/
def execQualificationLost (criterion : Nat) (s : State) : Host.Outcome State Fault Refusal :=
  live (fun s =>
    let fails := ((criterion = 1 || criterion = 2 || criterion = 3 || criterion = 5) && !qualMet s criterion) ||
      (criterion = 6 && !qualMet s 6 && 1000 ≤ s.link.staleRounds)
    if s.glb.role == .standby && fails then setRole .held (qualCause criterion) (emit 0x012D srcChip (aw criterion) s) else s) s

/-! ### Planned handover and start-up (R250, R252) -/

/-- A freeze request is refused (R454, R467). -/
def freezeRefused (source cause : Nat) (s : State) : State :=
  emit 0x0902 srcChip (aw source ++ aw cause) { s with dg.outcome := 2 }

/-- What a failed handover comes to, by its cause (R250). -/
def handoverLost (h : HandoverSt) (s : State) : State :=
  if h.cause = 1 then
    let s := emit 0x012A srcChip (aw 1) s
    match h.cmd with
    | some d =>
      let (w, s) := freshWord s
      finishCmd d stRefused w.toNat [] s
    | none => s
  else if h.cause = 3 then (if h.arg = 0 then ctlResetOp 2 s else loopRestartOp (h.arg - 1) s)
  else if h.cause = 5 then keeperOff 3 s
  else if h.cause = 6 then enterSafe 2 s
  else if h.cause = 7 then
    let s := freezeRefused s.dg.source 2 (emit 0x012A srcChip (aw 7) { s with dg.pend := 0 })
    match s.dg.frzCmd with
    | some d => finishCmd d stRefused 2 [] { s with dg.frzCmd := none }
    | none => s
  else s

/-- HANDOVER_FAILED (R250): no claim within 5 ms of the first word with HREQ; each cause goes on as for a module without a partner, at once in a module that has become ALONE. -/
def execHandoverFailed (s : State) : Host.Outcome State Fault Refusal :=
  live (fun s =>
    match s.red.ho with
    | none => s
    | some h =>
      match (if s.glb.role == .active then h.firstWord else some (s.clock - 5000000)) with
      | none => s
      | some t =>
        nextHandover (handoverLost h { (clockTo (t + 5000000) s) with red.ho := none })) s

/-- STARTUP_LISTEN_END (R252). A claim pulse heard while listening makes the module listen again; a faulty line is taken as absent (R246, R256). -/
def execStartupListenEnd (s : State) : Host.Outcome State Fault Refusal :=
  live (fun s =>
    match s.link.listenSince with
    | none => s
    | some t =>
      let s := clockTo (t + (if s.link.listenSecond then 80000000 else 50000000)) s
      let pulse := match s.link.lastPulse with
        | some u => decide (t < u)
        | none => false
      let heard := partnerHeard s
      if s.glb.role != .held || s.red.strapFault || idsBad s then { s with link.listenSince := none }
      else if heard && (partnerRole s == 3 || partnerRole s == 4) then { s with link.listenSince := none }
      else if pulse then { s with link.listenSince := some (max s.clock s.link.highAt), link.listenSecond := false }
      else if heard && slotB s && !s.link.listenSecond then { s with link.listenSecond := true }
      else { s with link.listenSince := none, link.claimDeferred := true }) s

/-! ### Round alignment (R253) -/

/-- Moves the round timer by an offset in 10 ns units. -/
def moveTimer (offset : Int) (s : State) : State :=
  { s with t0At := ((s.t0At : Int) + offset * 10).toNat, tickAt := ((s.tickAt : Int) + offset * 10).toNat }

/-- The offset of a reference message is taken by a HELD or STANDBY module: it steps from 50 µs (R9), or slews by at most 1 µs per round. -/
def takeOffset (offset : Int) (s : State) : State :=
  let s := { s with link.offset := offset }
  let s :=
    if 5000 ≤ offset.natAbs || s.link.mustStep then
      emit 0x0130 srcChip (ai offset) { (moveTimer offset s) with link.mustStep := false }
    else moveTimer (clampI (-100) 100 offset) s
  let n := if offset.natAbs ≤ 200 then satAdd 100 s.link.alignRounds 1 else 0
  { s with
    link.alignRounds := n
    link.aligned := if 1000 ≤ offset.natAbs then false else s.link.aligned || (decide (100 ≤ n) && s.link.roundTaken) }

/-- The offset of a reference message in 10 ns units (R253, R275): its cycle start, the SOF instant minus DELAY, against this module's nearest t0. `sof` counts from the present round's t0. -/
def refOffset (s : State) (sof : Int) (delay : Nat) : Int :=
  let p := periodNs s / 10
  (sof - 10 * delay + p / 2) % p - p / 2

/-- A frame is the reference message of a bus that receives (R275). -/
def isReference (s : State) (k : Nat) (f : BusFrame) : Bool :=
  isTt s k && frameKey f == fieldKey (busRec s k).refId && f.data.length == 8 && ((busSt s k).st == bsNormal || (busSt s k).st == bsRestricted)

/-- REFERENCE_MESSAGE (R253, R274, R275): the receiver of a time-triggered bus takes the cycle; bus 0, or bus 8 while bus 0 carries none, aligns the timer. `sof`: the received SOF instant after the present t0, in 10 ns units. -/
def execReferenceMessage (bus : Nat) (f : BusFrame) (sof : Int) (s : State) : Host.Outcome State Fault Refusal :=
  live (fun s =>
    if !isReference s bus f || s.red.timeMaster then s
    else
      let b := busSt s bus
      let offset := refOffset s sof (fld f.data 1 2)
      let s := setBus bus { b with cycle := byteAt f.data 0 % 64, delay := fld f.data 1 2, ttRound := 0, ttSync := true, ttLost := false } s
      let s := if b.ttLost then fbEmit bus 0x0308 6 (aw bus ++ aw b.ttRound) s true else s
      if (s.glb.role == .held || s.glb.role == .standby) && (bus = 0 || (bus = 8 && !(busSt s 0).ttSync)) then takeOffset offset s else s) s

/-- MIRROR_LOST (R255): no complete loop snapshot or lease mirror for 100 rounds; the clear record on recovery. -/
def execMirrorLost (clear : Bool) (s : State) : Host.Outcome State Fault Refusal :=
  live (fun s =>
    let gone := 100 ≤ s.link.snapAge || 100 ≤ s.link.leaseAge
    let args := aw s.link.snapAge ++ aw s.link.leaseAge
    if clear then
      if s.link.mirrorLost && !gone then emit 0x012C srcChip args { s with link.mirrorLost := false } true else s
    else if (s.glb.role == .held || s.glb.role == .standby) && gone && !s.link.mirrorLost then
      emit 0x012C srcChip args { s with link.mirrorLost := true }
    else s) s

/-- What ROLE_SWAP does (R250): refused unless ACTIVE; the spec names no detail. Answered once the module has yielded or the handover has failed. -/
def roleSwapKern (d : Dgram) (_ : PeerRec) (_ : Nat) (_ : Bytes) (s : State) : CmdRes × State :=
  if s.glb.role == .active && s.red.ho.isNone then (.later, requestHandover 1 (some d) 0 s)
  else
    let (w, s) := freshWord s
    (cmdRefused w.toNat, s)

/-- ROLE_SWAP (R250). -/
def execRoleSwap (d : Dgram) (s : State) : Host.Outcome State Fault Refusal := live (critical 6 0 0 d · (roleSwapKern d)) s

end Sys2Proof.Machine
end

