-- ==== Sys2Proof/Machine/Lease.lean ====
section
/-! DEFINITION. The lease engine, the lease keeper (R116 to R124), power statistics (R127 to R129), and the round boundary (R31, R34). -/

namespace Sys2Proof.Machine

/-! ### Lease records (R116, R315) -/

/-- RAMP of a plate in 0.1 W per ms. -/
def rampOf (s : State) (r : PlateRec) : Nat := max 1 ((pat s).alloc.rampUp * r.rated / max 1 (pat s).bind.period)

/-- One lease record of 48 bytes. -/
def leaseRec (s : State) (r : PlateRec) (kind flags cap ramp seq ref : Nat) : Bytes :=
  le r.addr 8 ++ le r.plate 2 ++ le kind 1 ++ le flags 1 ++ le cap 4 ++ le ramp 4 ++ le seq 4 ++ le s.round 8 ++
    le (s.round + (pat s).alloc.validity) 8 ++ le ref 4 ++ le (pat s).bind.period 2 ++ le (b2n (slotB s)) 1 ++ le 0 1

/-- The aggregator of a rack that receives leases. -/
def rackPeer (s : State) (r : Nat) : Option PeerRec := (pat s).peers.peers.find? (fun p => p.kind == 2 && p.rack == r && hasRight p 7)

/-- Payload of one fragment of a lease bundle. -/
def leasePayload (rack : Nat) (keeper : Bool) (first total : Nat) (recs : List Bytes) : Bytes :=
  le rack 1 ++ le (b2n keeper) 1 ++ le recs.length 2 ++ le first 2 ++ le total 2 ++ le 0 8 ++ recs.flatten

/-- Sends a rack's lease bundle, 185 records to a fragment. -/
def sendLeases (rack : Nat) (keeper : Bool) (recs : List Bytes) (s : State) : State :=
  match rackPeer s rack with
  | none => s
  | some p =>
    if recs.isEmpty then s
    else
      let ps := parts 185 recs
      sendFrags p.addr 0x02 (s.round % 2 ^ 32) (((List.range ps.length).zip ps).map (fun e => leasePayload rack keeper (e.1 * 185) recs.length e.2)) s

/-- Sends every rack's records, then the mirror of all of them. -/
def sendAllLeases (keeper : Bool) (recs : List (PlateRec × Bytes)) (s : State) : State :=
  let s := each (List.range 32) (fun r s => sendLeases r keeper ((recs.filter (fun e => e.1.rack == r)).map (·.2)) s) s
  if recs.isEmpty then s else mirrorSend 4 48 (recs.map (·.2)) s

/-- A record is issued for a plate: its sequence and what the plate state shows. -/
def issueRec (r : PlateRec) (kind flags cap ramp ref : Nat) (keeper : Bool) (s : State) : Bytes × State :=
  let l := plateLs s r.plate
  let q := (l.seq + 1) % 2 ^ 32
  (leaseRec s r kind flags cap ramp q ref, setLs r.plate { l with kind := kind, keeper := keeper, cap := cap, seq := q, flags := flags } s)

/-! ### The lease engine (R117 to R119) -/

/-- State of the forecast an outstanding provisional lease rests on: 1 pending, 2 confirmed, 3 withdrawn or discarded (R94, R117). -/
def provFcState (s : State) (p : Nat) : Nat :=
  match (plateRun s p).fcs.find? (fun f => f.round == (plateLs s p).provRound) with
  | some f => f.st
  | none => 3

/-- FLAGS of a record of the lease engine (R116); E_p is the one latched with the cap. -/
def leaseFlags (s : State) (r : PlateRec) (cap : Nat) : Nat :=
  2 * b2n ((plateLs s r.plate).ecap == some cap) + 4 * b2n (5 ≤ (plateRun s r.plate).q) + 8 * b2n ((plateLs s r.plate).limit == 1)

/-- The record of a plate in this round, by the first row of R117 that applies. -/
def engineRec (r : PlateRec) (s : State) : Bytes × State :=
  let l := plateLs s r.plate
  let ramp := rampOf s r
  let out := l.kind = 2
  let put (kind cap ref : Nat) (s : State) : Bytes × State := issueRec r kind (leaseFlags s r cap) cap ramp ref false s
  match l.provCap with
  | some c =>
    let s := setLs r.plate { l with provRound := s.round } s
    put 2 c (if out then l.seq else 0) { s with al.cntProv := satAdd 0xFFFFFFFF s.al.cntProv 1 }
  | none =>
    if !out then put 1 l.firm 0 s
    else
      let st := provFcState s r.plate
      if st = 3 then
        let s := emit 0x0B08 (src 11 0) (aw r.plate ++ aw l.cap ++ aw l.firm) { s with al.cntRetract := satAdd 0xFFFFFFFF s.al.cntRetract 1 }
        put 3 l.firm l.seq s
      else if st = 1 then put 2 (min l.firm l.cap) l.seq { s with al.cntProv := satAdd 0xFFFFFFFF s.al.cntProv 1 }
      else put 1 l.firm 0 s

/-- Records of every plate of a list. -/
def recordsOfPlates (f : PlateRec → State → Bytes × State) : List PlateRec → State → List (PlateRec × Bytes) × State
  | [], s => ([], s)
  | r :: t, s =>
    let (b, s) := f r s
    let (l, s) := recordsOfPlates f t s
    ((r, b) :: l, s)

/-- The keeper's copy of a plate: firm cap, RAMP, SEQ, the flags it carries (R123). -/
def keeperCopy (r : PlateRec) (s : State) : State :=
  let l := plateLs s r.plate
  setLs r.plate { l with kCap := l.firm, kRamp := rampOf s r, kSeq := l.seq, kFlags := l.flags } s

/-! ### Power statistics (R127 to R129) -/

/-- Rounds of the 1 s window. -/
def w1Of (s : State) : Nat := max 1 ((1000000 + (pat s).bind.period / 2) / max 1 (pat s).bind.period)

/-- One round of a statistics block: its value and peak where it has any, the count of what is missing. A round without a value leaves words 0 and 1 as they are (DESIGN CHOICE, log 148: R129 is silent). -/
def statRound (n w : Nat) (v : Option (Nat × Nat)) (miss : Nat) (b : StatBlk) : StatBlk :=
  let b := match v with
    | some (x, p) => { b with val := x, peak := p, sum1 := b.sum1 + x, n1 := b.n1 + 1, pk1 := max b.pk1 p,
                              sum60 := b.sum60 + x, n60 := b.n60 + 1, pk60 := max b.pk60 p }
    | none => b
  let b := { b with m1 := b.m1 + miss, m60 := b.m60 + miss, stamp := n % 2 ^ 32 }
  let b := if (n + 1) % w = 0 then
      { b with avg1 := b.sum1 / max 1 b.n1, peak1 := b.pk1, miss1 := min 0xFFFF b.m1, sum1 := 0, n1 := 0, pk1 := 0, m1 := 0 }
    else b
  if (n + 1) % (60 * w) = 0 then
    { b with avg60 := b.sum60 / max 1 b.n60, peak60 := b.pk60, miss60 := min 0xFFFF b.m60, sum60 := 0, n60 := 0, pk60 := 0, m60 := 0 }
  else b

/-- A power in 0.1 W from FP32 W, cut. -/
def deciW (v : F32) : Nat := downTenth v

/-- Round value and peak of a plate in 0.1 W. -/
def plateStat (s : State) (p : Nat) : Option (Nat × Nat) :=
  let l := (plateRun s p).powers
  if l.isEmpty then none else some (deciW (mean16 l), deciW ((maxF (l.map f16to32)).getD fzero))

/-- Value, peak and substitutions of a set of plates, in 0.1 W. -/
def sumStat (s : State) (ps : List PlateRec) : Nat × Nat × Nat :=
  ps.foldl (fun (a : Nat × Nat × Nat) r =>
    match plateStat s r.plate with
    | some (v, p) => (a.1 + v, a.2.1 + p, a.2.2)
    | none => let f := (plateLs s r.plate).firm; (a.1 + f, a.2.1 + f, a.2.2 + 1)) (0, 0, 0)

/-- The statistics of a round. -/
def statsOp (s : State) : State :=
  let w := w1Of s
  let n := s.round
  let ps := accelPlates s
  let s := each ps (fun r s => let l := plateLs s r.plate; let v := plateStat s r.plate
                               setLs r.plate { l with stat := statRound n w v (b2n v.isNone) l.stat } s) s
  let s := each (List.range 32) (fun k s =>
    let m := ps.filter (fun r => r.rack == k)
    if m.isEmpty then s
    else
      let (v, p, x) := sumStat s m
      { s with al.racks := tmod s.al.racks k {} (statRound n w (some (v / 10, p / 10)) x) }) s
  let (v, p, x) := sumStat s ps
  { s with al.row := statRound n w (some (v / 10, p / 10)) x s.al.row }

/-! ### Lease-out -/

/-- Firm caps where the allocator has not completed (R114). -/
def lateCaps (s : State) : State :=
  let s :=
    if s.al.late then s
    else each (accelPlates s) (fun r s => let l := plateLs s r.plate; setLs r.plate { l with firm := minOpt l.firm [ecapOf s r, policyCap s r.plate], ecap := ecapOf s r, provCap := none } s) s
  emit 0x0B0A srcAlloc (aq s.round ++ aw s.al.timeLast) { s with al.late := false }

/-- The allocator has not completed at the lease-out milestone (R114): of a module that issues leases, where it has allocated since it began to drive; of a HOT standby, where it was started and ran late. A supervisor that restarted in this round writes nothing. -/
def allocLate (s : State) : Bool :=
  allocRuns s && !s.al.first && !s.al.allocQuar && s.al.restarted != some s.round && s.al.ran != some s.round && (issues s || s.al.late)

/-- The lease engine issues in this round: not before the first allocation while driving (R107), not while the allocator or the lease engine is absent (R23), not in the round of a supervisor restart (R419) and not while the protocol engine is silent (R394). -/
def engineUp (s : State) : Bool :=
  issues s && !s.al.first && !s.al.leaseQuar && !s.al.allocQuar && s.al.restarted != some s.round && !engineSilent s

/-- Trims for the next round (R34, R147). -/
def writeTrims (s : State) : State :=
  if modelRuns s && !arrayGated s then
    each ((pat s).chans.filter (fun r => r.enable && r.trims)) (fun r s =>
      setSp r.ch { chSp s r.ch with trimsNext := (Config.trims s.round r.ch).map (fun v => sgn 16 v.toNat) } s) s
  else s

/-- The bundles of a round: one record per plate, mirrored and copied to the keeper. -/
def engineOp (s : State) : State :=
  let s := keeperOff 1 s
  let (recs, s) := recordsOfPlates engineRec (accelPlates s) s
  let s := sendAllLeases false recs s
  let s := each (accelPlates s) keeperCopy s
  { s with al.armed := true, al.done := some s.round, al.lastFirm := s.round, al.keepStop := false }

/-- LEASE_OUT (R117): at 0.98P. -/
def execLeaseOut (s : State) : Host.Outcome State Fault Refusal :=
  live (fun s =>
    if !s.began || s.glb.role == .safe then s
    else
      let s := writeTrims (clockTo (s.t0At + periodNs s * 98 / 100) s)
      let s := if allocLate s then lateCaps s else s
      let s := if engineUp s then engineOp s else s
      statsOp s) s

/-! ### The lease keeper (R123, R124) -/

/-- The keeper's record of a plate: min(the held firm cap, E_p). -/
def keeperRec (r : PlateRec) (s : State) : Bytes × State :=
  let l := plateLs s r.plate
  let e := ecapOf s r
  let cap := minOpt l.kCap [e]
  let fl := 1 + 2 * b2n (e == some cap) + Nat.land l.kFlags 12
  let q := (l.kSeq + 1) % 2 ^ 32
  (leaseRec s r 1 fl cap l.kRamp q 0,
    setLs r.plate { l with kind := 1, keeper := true, cap := cap, firm := cap, kSeq := q, seq := q, flags := fl } s)

/-- LEASE_KEEPER_ISSUE (R123): the engine has not completed its bundles by 0.99P. It reads the ECAP_N line as it issues. -/
def execLeaseKeeperIssue (s : State) : Host.Outcome State Fault Refusal :=
  live (fun s =>
    if !issues s || !s.al.armed || s.al.keepStop || s.al.done == some s.round then s
    else
      let s := clockTo (s.t0At + periodNs s * 99 / 100) s
      let s := { s with sv.ecapLine := Config.ecapLine s.clock }
      let s := if s.al.keepOn then s
        else emit 0x0B01 (src 11 1) (aq s.round ++ aq s.al.lastFirm) { s with al.keepOn := true, al.keepRounds := 0 }
      let s := { s with al.keepRounds := satAdd 0xFFFF s.al.keepRounds 1 }
      let (recs, s) := recordsOfPlates keeperRec (accelPlates s) s
      sendAllLeases true recs s) s

/-- Rounds of R124's limit: ceil(2000 / P), P in ms. -/
def keepLimit (s : State) : Nat := (2000000 + (pat s).bind.period - 1) / max 1 (pat s).bind.period

/-- LEASE_KEEPER_LIMIT (R124): with a qualified partner a handover is requested and the keeper goes on; without one it stops. -/
def execLeaseKeeperLimit (s : State) : Host.Outcome State Fault Refusal :=
  live (fun s =>
    if s.al.keepOn && keepLimit s ≤ s.al.keepRounds then
      if s.glb.role == .active then requestHandover 5 none 0 { s with al.keepAsked := true } else keeperOff 3 s
    else s) s

/-! ### The round boundary (R31, R34, R137) -/

/-- Time and round number of a boundary: the first one after cast-on begins round 0, or the round the mirror gave. -/
def boundaryTime (s : State) : State :=
  let s :=
    if s.began then { s with t0At := s.t0At + periodNs s, round := s.round + 1 }
    else { s with began := true, t0At := max s.clock s.tickAt }
  clockTo s.t0At { s with tick := s.round * ticksPerRound s, tickAt := s.t0At }

/-- Trims of the previous round take effect; those not renewed lapse (R34). -/
def applyTrims (s : State) : State :=
  { s with lp.sps := tmap s.lp.sps (fun x => { x with trims := x.trimsNext, trimsNext := [] }) }

/-- A module that does not drive adopts the mirrored estimator accumulators (R137). -/
def adoptEst (s : State) : State :=
  if drives s || s.mir.estReady.isEmpty then s
  else
    let s := s.mir.estReady.foldl (fun s e => { s with lp.est := tset s.lp.est e.1 { estSt s e.1 with sacc := e.2 } }) s
    { s with mir.estReady := [] }

/-- A plate's mirrored adapter in the order of its fragments, where all of them have come. -/
def adapterWhole (l : List (Nat × Nat × Nat × Bytes)) (p : Nat) : Option (List Bytes) :=
  let mine := l.filter (fun e => e.1 == p)
  match mine with
  | [] => none
  | e :: _ =>
    let fs := (List.range e.2.2.1).map (fun i => (mine.find? (fun x => x.2.1 == i)).map (·.2.2.2))
    if fs.all (·.isSome) then some (fs.map (·.getD [])) else none

/-- A mirrored adapter is applied, or discarded for its CRC (R100). Each part is a record of subtype 6. -/
def applyAdapter (p : Nat) (s : State) : State :=
  match adapterWhole s.mir.adParts p with
  | none => s
  | some rs =>
    let a := rs.flatMap (·.drop 24)
    let h := nth rs 0 []
    let s := { s with mir.adParts := s.mir.adParts.filter (fun e => e.1 != p) }
    if a.length = fld h 20 4 && crc32c a = fld h 16 4 then
      { s with mem := memWrN s.mem (adapterBase s p) a, fc.sweepApplied := s.fc.sweepApplied + 1, fc.adLost := s.fc.adLost.filter (· != p) }
    else { s with fc.mirrorBad := satAdd 0xFFFF s.fc.mirrorBad 1, fc.sweepBad := s.fc.sweepBad + 1 }

/-- Mirrored adapters at a boundary. -/
def applyAdapters (s : State) : State :=
  let ps := (accelPlates s).map (·.plate)
  each (if drives s then ps.filter s.fc.adLost.contains else ps) applyAdapter s

/-- What happens at every t0, in order; a slice still under way is pre-empted (R339). -/
def boundaryOp (s : State) : State :=
  let s := settleMsgs (dropWhere 2 (·.adapt) (applyTrims (boundaryTime s)))
  let s := busRound { s with red.timeMaster := s.red.driving }
  let s := applyAdapters (adoptEst s)
  let s := { s with link.snapAge := satAdd 0xFFFF s.link.snapAge 1, link.leaseAge := satAdd 0xFFFF s.link.leaseAge 1 }
  let s := { s with link.staleRounds := if qualMet s 6 then 0 else satAdd 0xFFFF s.link.staleRounds 1 }
  let s := gateTiles (shedT0 (blockResume (reformStacks s)))
  let s := tilesWork (if modelRuns s then 3 else 1) (modelRound s)
  mirrorRound (ringOpenRound { s with fc.plates := tmap s.fc.plates (fun x => { x with fallback := false }) })

/-- ROUND_BOUNDARY (R31). -/
def execRoundBoundary (s : State) : Host.Outcome State Fault Refusal :=
  live (fun s => if s.glb.role == .none then s else boundaryOp s) s

end Sys2Proof.Machine
end

