-- ==== Sys2Proof/Machine/Power.lean ====
section
/-! DEFINITION. Supplies, clocks, resets, thermal shedding and the chip-level fatal conditions as commands (chapters 14 and 16). -/

namespace Sys2Proof.Machine

/-! ### Resets (R408, R419) -/

/-- POWER_ON_RESET (R408): released with the supplies and straps of `p`. -/
def execPowerOnReset (p : PorInfo) (s : State) : Host.Outcome State Fault Refusal := .next (powerOn p s)

/-- BROWN_OUT_RESET (R407, R419): a dip under way is no dip any more (R412). -/
def execBrownOutReset (s : State) : Host.Outcome State Fault Refusal := .next (brownOut s)

/-- RESET_N (R419): pulses below 10 µs are ignored. -/
def execResetN (lowUs : Nat) (s : State) : Host.Outcome State Fault Refusal := .next (if 10 ≤ lowUs then chipReset 3 s else s)

/-- REFERENCE_LOSS (R415): the chip reset that follows once the reference has run for 1 ms. -/
def execReferenceLoss (s : State) : Host.Outcome State Fault Refusal := .next (chipReset 6 s)

/-- WATCHDOG_EXPIRY (R418): the watchdog is suspended while the module is frozen (R456). -/
def execWatchdogExpiry (s : State) : Host.Outcome State Fault Refusal :=
  .next (
    if s.glb.life == .rom || s.glb.life == .up then
      chipReset 4 { s with glb.wdPhase := s.glb.phase, glb.wdCount := if s.glb.phase < 6 then satAdd 0xFF s.glb.wdCount 1 else 0 }
    else s)

/-- What the critical command RESET does (R420): kind 1 asks for the chip reset, kind 2 restarts the supervisor. -/
def resetKern (_ : Dgram) (_ : PeerRec) (flags : Nat) (args : Bytes) (s : State) : CmdRes × State :=
  let kind := byteAt args 0
  if !zeroAt args 1 7 || !(kind = 1 || kind = 2) then (.now stMalformed 0 [], s)
  else if kind = 2 then (cmdOk, supervisorRestartOp s)
  else if s.glb.role == .alone && !bitOf flags 0 then (cmdRefused 1, s)
  else (cmdOk, { s with glb.rstPend := s.glb.rstPend + 1 })

/-- The chip reset that a RESET asked for between `s` and `t`, once its response is sent (R420). -/
def resetAsked (s t : State) : State := if t.glb.rstPend = s.glb.rstPend + 1 then chipReset 5 t else t

/-- The critical command RESET (R420, R328). -/
def resetCmd (d : Dgram) (s : State) : State := resetAsked s (critical 9 8 1 d s (resetKern d))

/-- RESET (R420). -/
def execReset (d : Dgram) (s : State) : Host.Outcome State Fault Refusal := live (resetCmd d) s

/-- SUPERVISOR_RESTART (R419, R420). -/
def execSupervisorRestart (d : Dgram) (s : State) : Host.Outcome State Fault Refusal := live (resetCmd d) s

/-- GLB_RST_CTRL.CTL_RESET (R419): handed over first by an ACTIVE module. -/
def ctlResetReq (s : State) : State := if s.glb.role == .active then requestHandover 3 none 0 s else ctlResetOp 1 s

/-- CTL_RESET (R419). -/
def execCtlReset (s : State) : Host.Outcome State Fault Refusal := live ctlResetReq s

/-- HST_RESET (R419): refused while ACTIVE or ALONE. -/
def execHstReset (s : State) : Host.Outcome State Fault Refusal := live hstResetOp s

/-- BLOCK_RESET (R421). `pass`: the block's self-test. -/
def execBlockReset (kind index : Nat) (pass : Bool) (s : State) : Host.Outcome State Fault Refusal := live (blockResetOp kind index pass) s

/-! ### Supplies (R407 to R413) -/

/-- A sample of VMAIN, with its minimum since the last read. -/
def sampleVmain (v : Nat) (s : State) : State := { s with pwr.vmain := v, pwr.vmainMin := some (min (s.pwr.vmainMin.getD v) v) }
def sampleVfield (v : Nat) (s : State) : State := { s with pwr.vfield := v, pwr.vfieldMin := some (min (s.pwr.vfieldMin.getD v) v) }
def sampleVsafe (v : Nat) (s : State) : State := { s with pwr.vsafe := v, pwr.vsafeMin := some (min (s.pwr.vsafeMin.getD v) v) }

/-- A level has crossed its threshold of R407, anywhere inside the tolerance (R9): VFIELD low at 18.0 V falling, its end at 18.8 V rising; VMAIN high at 61.0 V rising, its end at 60.5 V falling. -/
def vfieldCrossed (v : Nat) (clear : Bool) : Bool := if clear then decide (1860 ≤ v) else decide (v ≤ 1820)
def vmainCrossed (v : Nat) (clear : Bool) : Bool := if clear then decide (v ≤ 6080) else decide (6070 ≤ v)

/-- SUPPLY_DIP (R412, R413): VMAIN crosses 45.0 V falling, anywhere in ±0.3 V (R9); stage 1 at once, flash writes deferred, the staging buffer programmed. -/
def execSupplyDip (vmain : Nat) (s : State) : Host.Outcome State Fault Refusal :=
  live (fun s =>
    if s.pwr.dip || 4530 < vmain then s
    else
      let s := programStaging (sampleVmain vmain s)
      shedNow { s with
        pwr.dip := true
        pwr.vmainOk := false
        pwr.dipStart := s.clock
        pwr.dipMin := vmain
        pwr.dipStage := 1
        pwr.dipStageMax := max 1 s.pwr.shed
        ev.pstDefer := true
        pf.flashAt := some (flashNow s)
        pf.deferred := true }) s

/-- DIP_SHED (R413): the dip has lasted 200 ms; stage 2 is entered at the next t0. -/
def execDipShed (s : State) : Host.Outcome State Fault Refusal :=
  live (fun s => if s.pwr.dip then { (clockTo (s.pwr.dipStart + 200000000) s) with pwr.dipStage := 2 } else s) s

/-- A re-knit that is due waits for the end of a dip (R386). -/
def reknitDue (s : State) : Bool :=
  match s.pf.sched with
  | some x => decide (x.na ≤ s.round)
  | none => false

/-- Flash work deferred by a dip goes on in the order deferred (R413): the records staged during the dip. -/
def resumeFlash (s : State) : State :=
  let s := if s.ev.pstDefer then programStaging s else s
  { s with ev.pstDefer := false, pf.flashAt := none, pf.deferred := reknitDue s }

/-- SUPPLY_DIP_END (R412, R413): VMAIN crosses 46.0 V rising, anywhere in ±0.3 V (R9). A re-knit that the dip postponed keeps PF_STATUS.DEFERRED until it applies. A dip that a reset cut short ends without a record (R422). -/
def execSupplyDipEnd (vmain vmin : Nat) (s : State) : Host.Outcome State Fault Refusal :=
  live (fun s =>
    if vmain < 4570 then s
    else if s.pwr.dip then
      let m := min s.pwr.dipMin vmin
      let ms := (s.clock - s.pwr.dipStart) / 1000000
      let s := sampleVmain vmain (sampleVmain m s)
      let s := emit 0x0103 srcChip (aw m ++ aw ms ++ aw s.pwr.dipStageMax) s
      shedNow (resumeFlash { s with
        pwr.dip := false
        pwr.vmainOk := true
        pwr.dipStage := 0
        pwr.lastDipDur := min 0xFFFF ms
        pwr.lastDipMin := m })
    else if s.pwr.vmainOk then s
    else { (sampleVmain vmain (sampleVmain vmin s)) with pwr.vmainOk := true }) s

/-- VSAFE_LOW (R409, R463): VSAFE below 10.5 V, anywhere in ±0.1 V (R9), and not yet a power-on reset; FATAL; an ACTIVE module hands over and enters SAFE, any other keeps its role. -/
def execVsafeLow (v : Nat) (s : State) : Host.Outcome State Fault Refusal :=
  live (fun s =>
    if s.pwr.vsafeLow.isSome || v < 830 || 1060 < v then s
    else
      let r := roleCode s.glb.role
      let s := { (sampleVsafe v s) with pwr.vsafeOk := false, pwr.vsafeLow := some r }
      if s.glb.role == .active then fatal 2 0x0104 srcChip (aw v ++ aw r) s else emit 0x0104 srcChip (aw v ++ aw r) s) s

/-- VSAFE_RECOVER (R409): VSAFE reaches 10.7 V, anywhere in ±0.1 V (R9). -/
def execVsafeRecover (v : Nat) (s : State) : Host.Outcome State Fault Refusal :=
  live (fun s =>
    match if v < 1060 then none else s.pwr.vsafeLow with
    | none => s
    | some r => emit 0x0104 srcChip (aw v ++ aw r) { (sampleVsafe v s) with pwr.vsafeOk := true, pwr.vsafeLow := none } true) s

/-- The flag of VFIELD follows its level: low, then good again, and good where VFIELD first rises after the chip (R407, R430). -/
def vfieldLevel (v : Nat) (clear : Bool) (s : State) : State := { (sampleVfield v s) with pwr.vfieldOk := clear }

/-- VFIELD_LOW (R407, R410): below 18.0 V, and again at 18.8 V, anywhere in ±0.2 V (R9); the role is kept. The flag follows at any time, the record is the running chip's. -/
def execVfieldLow (v : Nat) (clear : Bool) (s : State) : Host.Outcome State Fault Refusal :=
  if !vfieldCrossed v clear then .next s
  else .next (
    if running s && s.pwr.vfieldLow == clear then
      emit 0x0105 srcChip (aw v) { (vfieldLevel v clear s) with pwr.vfieldLow := !clear } clear
    else vfieldLevel v clear s)

/-- VFIELD_OVERLOAD (R410): the draw, in 0.1 W, has been above 150 W for 1 s; the clear record when it is below. -/
def execVfieldOverload (p : Nat) (clear : Bool) (s : State) : Host.Outcome State Fault Refusal :=
  live (fun s =>
    if s.pwr.vfieldOver == clear && decide (1500 ≤ p) != clear then emit 0x010F srcChip (aw p) { s with pwr.vfieldP := p, pwr.vfieldOver := !clear } clear else s) s

/-- VMAIN_HIGH (R407): at 61.0 V rising and again at 60.5 V falling. -/
def execVmainHigh (v : Nat) (clear : Bool) (s : State) : Host.Outcome State Fault Refusal :=
  live (fun s =>
    if s.pwr.vmainHigh == clear && vmainCrossed v clear then emit 0x0106 srcChip (aw v) { (sampleVmain v s) with pwr.vmainHigh := !clear } clear else s) s

/-! ### Clocks (R415) -/

/-- CLOCK_FAULT (R415): 1 the main PLL, 2 the SerDes PLL. -/
def execClockFault (clk : Nat) (s : State) : Host.Outcome State Fault Refusal :=
  live (fun s =>
    let s := if clk = 1 then { s with glb.clkMain := false } else { s with glb.clkSerdes := false }
    fatal 1 0x0108 srcChip (aw clk) s) s

/-- OSC_TOLERANCE (R415): the deviation, in 0.01 %, lies outside ±5 %, or inside it again. -/
def execOscTolerance (dev : Int) (clear : Bool) (s : State) : Host.Outcome State Fault Refusal :=
  live (fun s =>
    let ok := decide (dev.natAbs < 500)
    let s := { s with glb.oscDev := dev, glb.oscOk := ok }
    if s.glb.oscBad == clear && ok == clear then emit 0x010E srcCore (ai dev) { s with glb.oscBad := !clear } clear else s) s

/-! ### Thermal self-protection (R428, R429) -/

/-- The temperature of R428, in 0.1 °C, at which a thermal stage is entered. -/
def shedTemp (stage : Nat) : Nat := if stage = 2 then 1000 else 950

/-- THERMAL_SHED (R428): the die has been at the stage's temperature for 10 ms. -/
def execThermalShed (stage temp : Nat) (s : State) : Host.Outcome State Fault Refusal :=
  live (fun s =>
    let s := { s with pwr.dieMax := temp }
    if s.pwr.thermStage < stage && stage ≤ 2 && shedTemp stage ≤ temp then shedNow { s with pwr.thermStage := stage } else s) s

/-- THERMAL_SHED_EXIT (R428): the die has been below the stage's leaving temperature for 1 s. -/
def execThermalShedExit (temp : Nat) (s : State) : Host.Outcome State Fault Refusal :=
  live (fun s =>
    let s := { s with pwr.dieMax := temp }
    if s.pwr.thermStage = 2 && temp ≤ 950 then shedNow { s with pwr.thermStage := 1 }
    else if s.pwr.thermStage = 1 && temp ≤ 920 then shedNow { s with pwr.thermStage := 0 }
    else s) s

/-- SELF_COOLANT_HIGH (R429): the inlet, in 0.1 °C, has been above 40.0 °C for 1 s, or below 39.0 °C for 1 s. -/
def execSelfCoolantHigh (inlet : Nat) (clear : Bool) (s : State) : Host.Outcome State Fault Refusal :=
  live (fun s =>
    let s := { s with pwr.inlet := inlet }
    if s.pwr.coolantHigh == clear && (if clear then decide (inlet ≤ 390) else decide (400 ≤ inlet)) then emit 0x010D srcChip (aw inlet) { s with pwr.coolantHigh := !clear } clear else s) s

/-! ### Fatal conditions (R463) -/

/-- FABRIC_FAULT (R463 cause 3). -/
def execFabricFault (unit cls addr : Nat) (s : State) : Host.Outcome State Fault Refusal :=
  live (fatal 3 0x0907 unit (aw unit ++ aw cls ++ aq addr)) s

/-- CORE_LOCKSTEP (R463 cause 4). -/
def execCoreLockstep (stage : Nat) (s : State) : Host.Outcome State Fault Refusal := live (fatal 4 0x0908 srcCore (aw stage)) s

end Sys2Proof.Machine
end

