-- ==== Sys2Proof/Machine/Recorder.lean ====
section
/-! DEFINITION. The event recorder's own commands (chapter 12): drop summaries, the persistent store, the wall clock, export. -/

namespace Sys2Proof.Machine

/-- Source unit of the recorder (R352). -/
def srcRec : Nat := src 6 0

/-! ### Drops and the persistent store (R359, R360, R369) -/

/-- Drops of a tier since its last EVENTS_DROPPED, TRACE to FATAL. -/
def newDrops (s : State) (t : Nat) : List Nat := (List.range 6).map (fun v => tgetD s.ev.dropsNew (t * 8 + v) 0)

/-- A tier has drops to report. -/
def dropsPend (s : State) (t : Nat) : Bool := (newDrops s t).any (· != 0)

/-- Uptime from which a tier may report again: at once, or one second after its last report (R359). -/
def dropDue (s : State) (t : Nat) : Nat :=
  match tget s.ev.dropAt t with
  | some a => a + 1000000000
  | none => 0

/-- EVENTS_DROPPED of one tier, where its second is over (R359). -/
def dropReport (t : Nat) (s : State) : State :=
  if dropsPend s t && decide (dropDue s t ≤ uptime s) then
    let l := newDrops s t
    emit 0x0502 srcRec (aw t ++ al16 l)
      { s with
        ev.dropsNew := s.ev.dropsNew.filter (fun (e : Nat × Nat) => e.1 / 8 != t)
        ev.dropAt := tset s.ev.dropAt t (uptime s) }
  else s

/-- The tiers with drops report; where each still waits for its second, the first to end is the instant of the command. -/
def dropsOp (s : State) : State :=
  let l := (List.range 3).filter (dropsPend s)
  if l.isEmpty then s
  else
    let due := (l.map (dropDue s)).foldl min (dropDue s (nth l 0 0))
    each (List.range 3) dropReport (clockTo (due + s.upBase) s)

/-- EVENTS_DROPPED (R359). -/
def execEventsDropped (s : State) : Host.Outcome State Fault Refusal := live dropsOp s

/-- PERSISTENT_PROGRAM (R360): staged records are programmed, but wait during a dip. -/
def execPersistentProgram (s : State) : Host.Outcome State Fault Refusal :=
  live (fun s => if s.pwr.dip then s else programStaging s) s

/-- Loads a page of 4096 slots of the persistent store into the page buffer (R369). -/
def pageLoad (page : Nat) (s : State) : State :=
  let p := page % 1024
  { s with
    ev.pstPage := p
    ev.pstReady := true
    ev.pageBuf := (s.ev.pst.filter (fun (e : Nat × EvSlot) => e.1 / 4096 == p)).map (fun (e : Nat × EvSlot) => (e.1 % 4096, e.2)) }

/-- PST_PAGE_LOAD (R369). -/
def execPstPageLoad (page : Nat) (s : State) : Host.Outcome State Fault Refusal := live (pageLoad page) s

/-! ### Wall clock (R365) -/

/-- The staged wall time of EV_WALL_LO and EV_WALL_HI. -/
def wallStaged (s : State) : Nat := s.wall.stageLo.toNat + 2 ^ 32 * s.wall.stageHi.toNat

/-- SET: the offset takes the staged value; a change of 1 µs or more is a step (R365). -/
def wallSetOp (peer : Nat) (s : State) : State :=
  let old := wallNow s
  let d : Int := (wallStaged s : Int) - ((uptime s : Int) + wallOff s)
  let s := { s with wall.off := (wallStaged s : Int) - (uptime s : Int), wall.slew := none, wall.set := true }
  if 1000 ≤ d.natAbs then
    emitRec { code := 0x0501, sev := sevOf 0x0501, flags := 1, uptime := uptime s, source := srcRec, args := aq old ++ aq (wallNow s) ++ aw peer } s
  else s

/-- SLEW: towards the staged value at 500 ppm; above 1 s it is a SET (R365). -/
def wallSlewOp (peer : Nat) (s : State) : State :=
  let d : Int := (wallStaged s : Int) - ((uptime s : Int) + wallOff s)
  if 1000000000 < d.natAbs then wallSetOp peer s
  else { s with wall.off := wallOff s, wall.slew := some (d, uptime s), wall.set := true }

/-- The end of a slew; a slew ends when 500 ppm of the time since its start make up its difference (R365). -/
def wallSlewedOp (s : State) : State :=
  match s.wall.slew with
  | none => s
  | some (d, t) =>
    let s := clockTo (s.upBase + t + d.natAbs * 2000) s
    emit 0x0504 srcRec (ai (Int.tdiv d 1000)) { s with wall.off := s.wall.off + d, wall.slew := none }

/-- WALL_SET (R365). -/
def execWallSet (peer : Nat) (s : State) : Host.Outcome State Fault Refusal := live (wallSetOp peer) s

/-- WALL_SLEW (R365). -/
def execWallSlew (peer : Nat) (s : State) : Host.Outcome State Fault Refusal := live (wallSlewOp peer) s

/-- WALL_SLEWED (R365). -/
def execWallSlewed (s : State) : Host.Outcome State Fault Refusal := live wallSlewedOp s

/-! ### Export (R367) -/

/-- The records of this boot that tiers 0 and 1 hold, by SEQ. -/
def heldSlots (s : State) : Tab EvSlot :=
  let put (t : Tab EvSlot) (e : Nat × EvSlot) : Tab EvSlot := if s.ev.bootFirst ≤ e.2.r.seq then tset t e.2.r.seq e.2 else t
  s.ev.hbm.foldl put (s.ev.ring.foldl put [])

/-- Where export to a peer starts: its cursor, or the oldest record held where the cursor lies before this boot (R367). -/
def expCursor (s : State) (p : Nat) (held : Tab EvSlot) : Nat :=
  let c := tgetD s.ev.cursors p 0
  if c = 0 || c < s.ev.bootFirst then
    match held with
    | [] => s.ev.bootFirst
    | e :: _ => e.1
  else c

/-- An EVENT message of a peer is unanswered. -/
def evtOpen (s : State) (p : Nat) : Bool := s.hl.reqs.any (fun r => r.peer == p && r.d.typ == 0x23)

/-- One EVENT message to a peer (R367). -/
def exportOp (p : Nat) (s : State) : State :=
  match peerRec s p with
  | none => s
  | some r =>
    if !(hasRight r 10) || evtOpen s p || s.ev.quar || decide (s.clock < tgetD s.ev.resumeAt p 0) || tget s.ev.expRound p == some s.round then s
    else
      let held := heldSlots s
      let cur := expCursor s p held
      let recs := ((held.filter (fun (e : Nat × EvSlot) => decide (cur ≤ e.1) && decide (s.ev.expMin ≤ e.2.r.sev))).take 139).map (·.2)
      match recs with
      | [] => s
      | x :: _ =>
        let between := (held.filter (fun (e : Nat × EvSlot) => decide (cur ≤ e.1) && decide (e.1 < x.r.seq))).length
        let skipped := min (x.r.seq - cur - between) 0xFFFFFFFF
        let last := recs.foldl (fun (m : Nat) (y : EvSlot) => max m y.r.seq) 0
        let hdr := le x.r.seq 8 ++ le recs.length 2 ++ le (if skipped = 0 then 0 else 1) 2 ++ le skipped 4
        let s := request p 0x23 (hdr ++ (recs.map slotBytes).flatten) (last + 1) { s with ev.expRound := tset s.ev.expRound p s.round }
        if skipped = 0 then s else emit 0x0503 srcRec (aw p ++ aq cur ++ aw skipped) s

/-- EVENT_EXPORT (R367). -/
def execEventExport (peer : Nat) (s : State) : Host.Outcome State Fault Refusal := live (exportOp peer) s

end Sys2Proof.Machine
end

