-- ==== Sys2Proof/Machine/Stitch.lean ====
section
/-! DEFINITION. The stitch-counter commands (chapter 11): the operations of every party, the limits of a TAKE, the block fault. -/

namespace Sys2Proof.Machine

/-- A record's SC message is open: its last record has not come. -/
def scMsgOpen (s : State) (p : Nat) (k : ScCall) : Bool :=
  s.sc.msgs.any (fun m => m.peer == p && m.session == k.session && m.xid == k.xid && !m.lastIn)

/-- The request header that answers to an SC message go to (R323): its source address and port, and the COUNTER of a tagged message (R305, R324). -/
def scDgram (p : PeerRec) (k : ScCall) : Dgram :=
  { src := p.addr, sport := k.sport, typ := 0x20, session := k.session, xid := k.xid, trailer := (match k.tag with | some t => t.1 | none => []) }

/-- The message that a record belongs to. -/
def scMsgIs (p : Nat) (k : ScCall) (m : ScMsg) : Bool := m.peer == p && m.session == k.session && m.xid == k.xid

/-- A record makes its message a long operation (R309): a TAKE, or a data-bound operation whose data is missing. -/
def scLong (s : State) (p op : Nat) (k : ScCall) : Bool :=
  op == opTake || (bitOf k.flags 0 && !scMalformed op k && !s.sc.quar && xferMissing s p k.xfer k.len != 0)

/-- Adds a record to its message; a long operation is acknowledged, once for the message (R309, R323). -/
def scAppend (p : PeerRec) (op : Nat) (k : ScCall) (s : State) : State :=
  let long := scLong s p.index op k && s.sc.msgs.any (fun m => scMsgIs p.index k m && !m.acked)
  let s := { s with sc.msgs := s.sc.msgs.map (fun m =>
    if scMsgIs p.index k m then { m with todo := m.todo ++ [(op, k)], lastIn := k.last, acked := m.acked || long } else m) }
  let s := if long then sendAck (scDgram p k) s else s
  settleMsgs s

/-- An SC message that is refused as a whole: its status; BAD_TAG goes untagged (R323, R324). -/
def scRefusal (s : State) (p : PeerRec) (k : ScCall) : Option Nat :=
  if (match k.tag with | some t => !t.2 || (keyOfPeer s p.index).isEmpty | none => false) then some stBadTag
  else if s.glb.role == .safe then some stDenied
  else if !hasRight p 4 then some stNotPermitted
  else if k.records = 0 || 32 < k.records then some stMalformed
  else none

/-- A record from a host peer: delivery class 1 (R309, R310), right 4, then its place in the message. A message that is refused is answered with its last record. -/
def scFromPeer (i op : Nat) (k : ScCall) (s : State) : State :=
  match peerRec s i with
  | none => s
  | some p =>
    if engineSilent s then s
    else
      let s := noteSession i k.session s
      let d := scDgram p k
      if scMsgOpen s i k then scAppend p op k s
      else
        let l := freshSeen s.clock (tgetD s.hl.seen i [])
        let s := { s with hl.seen := tset s.hl.seen i l }
        match l.find? (fun e => e.session == k.session && e.xid == k.xid) with
        | some e => if e.done && k.last then { s with outbox := s.outbox ++ e.resp } else s
        | none =>
          if 64 ≤ outstanding s then (if k.last then sendDgram (tagResp s i (reqCounter d) (mkResp s d stBusy 0 [] 0 0 1)) s else s)
          else
            match scRefusal s p k with
            | some st =>
              if !k.last then s
              else if st = stBadTag then
                sendDgram (mkResp s d st 0 [] 0 0 1) (emit 0x0705 (src 8 1) (aw i ++ aw 0 ++ aq (unLe d.trailer)) { s with ks.tagFail := tmod s.ks.tagFail i 0 (satAdd 0xFFFF · 1) })
              else answer i d st 0 [] { s with hl.seen := tset s.hl.seen i (l ++ [{ session := k.session, xid := k.xid, at_ := s.clock }]) }
            | none =>
              scAppend p op k { s with
                hl.seen := tset s.hl.seen i (l ++ [{ session := k.session, xid := k.xid, at_ := s.clock }])
                sc.msgs := s.sc.msgs ++ [{ peer := i, session := k.session, xid := k.xid, sport := k.sport, ctr := d.trailer }] }

/-- One stitch-counter operation of any party (R334, R335). -/
def scCommand (op : Nat) (k : ScCall) (s : State) : State :=
  match k.party with
  | .peer i => scFromPeer i op k s
  | _ =>
    match scOp op k s with
    | (some (st, det, v), s) => settleMsgs (deliver op k st det v s)
    | (none, s) => settleMsgs s

/-- POST (R335, R336). -/
def execPost (c : ScCall) (s : State) : Host.Outcome State Fault Refusal := live (scCommand opPost c) s

/-- TAKE (R335, R336, R337). -/
def execTake (c : ScCall) (s : State) : Host.Outcome State Fault Refusal := live (scCommand opTake c) s

/-- TRY (R335). -/
def execTry (c : ScCall) (s : State) : Host.Outcome State Fault Refusal := live (scCommand opTry c) s

/-- DEC (R335). -/
def execDec (c : ScCall) (s : State) : Host.Outcome State Fault Refusal := live (scCommand opDec c) s

/-- READ (R335). -/
def execRead (c : ScCall) (s : State) : Host.Outcome State Fault Refusal := live (scCommand opRead c) s

/-- SET (R335, R338). -/
def execSet (c : ScCall) (s : State) : Host.Outcome State Fault Refusal := live (scCommand opSet c) s

/-- SC_RELEASE (R338): a SET with flag bit 1. -/
def execScRelease (c : ScCall) (s : State) : Host.Outcome State Fault Refusal := live (scCommand opSet { c with flags := Nat.lor c.flags 2 }) s

/-- The waiter of a party whose limit comes first. -/
def nextToEnd (p : Party) (q : List ScWaiter) : Option ScWaiter :=
  (q.filter (fun w => w.call.party == p)).foldl (fun m w => match m with
    | some y => if w.ends < y.ends then some w else m
    | none => some w) none

/-- SC_TAKE_TIMEOUT (R337): the party's TAKE leaves the queue; the next waiter is served. -/
def takeTimeout (c : Nat) (p : Party) (s : State) : State :=
  let x := ctr s c
  match nextToEnd p x.queue with
  | none => s
  | some w =>
    let s := clockTo w.ends s
    let s := setCtr c { x with queue := x.queue.erase w } s
    let s := emit 0x0604 (src 7 0) (aw c ++ aw w.call.n ++ aw (partyCode p) ++ aw ((s.clock - w.since) / 1000)) s
    settleMsgs (serveWaiters c (fullEnds c p (addSpin w (deliver opTake w.call stRefused 2 0 s))))

/-- SC_TAKE_TIMEOUT (R337). -/
def execScTakeTimeout (counter : Nat) (party : Party) (s : State) : Host.Outcome State Fault Refusal := live (takeTimeout counter party) s

/-- SC_BLOCK_QUARANTINED (R346): every LIVE counter is dropped with DROP_CAUSE 6. -/
def execScBlockQuarantined (s : State) : Host.Outcome State Fault Refusal :=
  live scQuarantine s

end Sys2Proof.Machine
end

