-- ==== Sys2Proof/Machine/RegsArr.lean ====
section
/-! DEFINITION. Registers of the forecast array (R71, R104), of the allocator and lease engine (R131) and of the loop engines (R173): values read, effects of reading, effects of writing. Offsets are from the window base. -/

namespace Sys2Proof.Machine

/-- A register from its fields (lowest bit, width, value). -/
def rv (l : List (Nat × Nat × Nat)) : Nat := l.foldl (fun a e => a + e.2.2 % 2 ^ e.2.1 * 2 ^ e.1) 0

/-- What a write comes to: a status of R311 and the state. -/
abbrev WrRes := Nat × State

/-- A write that completes. -/
def wok (s : State) : WrRes := (stOk, s)

/-- Notes an override in force with its value (R427). -/
def ovrNote (a v : Nat) (s : State) : State := { s with glb.ovr := tset s.glb.ovr a (BitVec.ofNat 32 v) }

/-! ### Forecast regions -/

/-- Registers 0x0000 to 0x002C of region `k`, but for the error pair. -/
def fcRegRead (s : State) (k off : Nat) : Nat :=
  let r := regSt s k
  if off = 0x0 then rv [(8, 8, 24), (4, 4, k), (3, 1, b2n s.hw.variantH), (0, 3, k)]
  else if off = 0x4 then
    let n := (tilesUp s k).length
    rv [(22, 10, regionFree s k), (12, 10, (hosted s k).length), (8, 4, n / 2), (7, 1, n), (6, 1, b2n (r.stackLost || (allPlates s).any (fun p => (plateRun s p).place.isNone && (plateRun s p).fromReg == k))),
      (5, 1, b2n r.stackLost), (0, 3, r.st)]
  else if off = 0x14 then r.cell
  else if off = 0x18 then r.resend
  else if off = 0x1C then ((List.range 24).filter (fun t => (tileSt s k t).quar)).foldl (fun a t => a + 2 ^ t) 0
  else if off = 0x20 then r.ce
  else if off = 0x24 then r.ue
  else if off = 0x28 then rv [(22, 10, (hosted s k).length), (0, 15, r.modelKb)]
  else if off = 0x2C then nth (pat s).fabric.weights k 1
  else 0

/-- FC_TILE_STATUS, FC_TILE_ERR and the counters of tile `t`. -/
def fcTileRead (s : State) (k t off : Nat) : Nat :=
  let x := tileSt s k t
  if off = 0x0 then rv [(24, 8, x.phys), (16, 6, (platesOn s k t).length), (0, 4, x.st)]
  else if off = 0x4 then x.err
  else if off = 0x8 then x.cell
  else if off = 0xC then x.resend
  else 0

/-- Array-wide registers at 0x8_0000. -/
def fcArrRead (s : State) (off : Nat) : Nat :=
  if off = 0x0 then rv [(24, 8, 152), (16, 8, if s.hw.variantH then 72 else 144), (12, 4, 8), (8, 4, regionCount s), (0, 8, 1)]
  else if off = 0x4 then
    let up := !s.fc.regions.isEmpty
    rv [(8, 4, if up then workingStacks s else 0), (4, 4, if up then (sparesFree s).length else 0), (2, 1, b2n (s.fc.degraded != 0)), (1, 1, b2n s.glb.clkMain), (0, 1, b2n (arrReady s))]
  else if off = 0x8 then errVal s fmtStat
  else if off = 0xC then s.fc.srSeed.toNat
  else if 0x10 ≤ off && off < 0x30 then
    let x := tgetD s.fc.spares ((off - 0x10) / 4) {}
    match x.bound with
    | some (k, t) => rv [(31, 1, 1), (30, 1, b2n x.quar), (8, 3, k), (0, 5, t)]
    | none => rv [(30, 1, b2n x.quar)]
  else 0

/-- Digest word `i`. -/
def digWord (d : Bytes) (i : Nat) : Nat := fld d (4 * i) 4

/-- Plates that meet a test. -/
def plateCount (s : State) (f : PlateRun → Bool) : Nat := ((allPlates s).filter (fun p => f (plateRun s p))).length

/-- Model and round registers at 0x10_0000. -/
def fcMdlRead (s : State) (off : Nat) : Nat :=
  let m := s.fc.mdl
  let b := (pat s).bind
  if off = 0x0 then rv [(16, 16, match m.active with | some c => c.version | none => 0), (8, 4, m.lastCheck), (0, 3, m.st)]
  else if off = 0x4 then rv [(16, 16, m.rate), (5, 5, m.k)]
  else if off = 0x8 then m.shortUs
  else if off = 0xC then m.shortB
  else if 0x10 ≤ off && off < 0x50 then digWord (match m.active with | some c => c.digest | none => []) ((off - 0x10) / 4)
  else if off = 0x50 then (if s.pf.st = 0 then 0 else rv [(30, 2, b.mode), (23, 7, b.horizon), (11, 12, b.period)])
  else if off = 0x54 then s.round % 2 ^ 32
  else if off = 0x5C then (if s.pf.st = 0 then 0 else rv [(18, 14, b.promote), (14, 4, b.demote), (0, 10, s.fc.band)])
  else if off = 0x60 then rv [(16, 13, s.fc.staleN), (0, 13, s.fc.late)]
  else if off = 0x64 then rv [(16, 13, s.fc.fallbackN), (13, 3, s.fc.discarded), (0, 13, s.fc.stale5)]
  else if off = 0x68 then rv [(16, 13, plateCount s (fun x => x.st == 2)), (0, 13, plateCount s (fun x => x.st != 2))]
  else if off = 0x6C then rv [(31, 1, b2n s.fc.pause), (30, 1, b2n (s.pf.st != 0 && b.adaptEn && !s.fc.pause)), (0, 16, s.fc.slices)]
  else if off = 0x70 then rv [(16, 16, s.fc.mirrorBad), (0, 13, s.fc.mirrorApplied)]
  else if off = 0x74 then s.fc.degraded
  else 0

/-- FC of a plate's status: its newest forecast's state (R94). -/
def plateFc (x : PlateRun) : Nat :=
  match x.fcs.getLast? with
  | some f => f.st
  | none => 0

/-- Plate status words (R104). -/
def fcPlateRead (s : State) (p w : Nat) : Nat :=
  let x := plateRun s p
  let st := if x.forced then 3 else x.st
  if w = 0 then
    rv [(24, 8, match plateRec s p with | some r => staleOf s r | none => 0), (16, 8, x.exc), (2, 14, x.inband), (0, 2, st)]
  else
    let (k, t) := x.place.getD (0, 0)
    rv [(16, 16, x.resid.toNat), (9, 3, k), (4, 5, t), (0, 4, plateFc x)]

/-- A range of the FC0 window that the other windows do not have (R71, R104). -/
def fcOnly0 (off : Nat) : Bool := (0x80000 ≤ off && off < 0x81000) || (0x100000 ≤ off && off < 0x100080) || (0x200000 ≤ off && off < 0x208000)

/-- A read in the window of region `k`. -/
def fcRead (s : State) (k off : Nat) : Nat :=
  if off < 0x1000 then fcRegRead s k off
  else if 0x10000 ≤ off && off < 0x11800 then fcTileRead s k ((off - 0x10000) / 256) (off % 256)
  else if 0x80000 ≤ off && off < 0x81000 then fcArrRead s (off - 0x80000)
  else if 0x100000 ≤ off && off < 0x100080 then fcMdlRead s (off - 0x100000)
  else if 0x200000 ≤ off && off < 0x208000 then fcPlateRead s ((off - 0x200000) / 8) (off / 4 % 2)
  else 0

/-- Fields that a read clears in the window of region `k`. -/
def fcReadEff (k off : Nat) (s : State) : State :=
  let r := regSt s k
  if off = 0x14 then setReg k { r with cell := 0 } s
  else if off = 0x18 then setReg k { r with resend := 0 } s
  else if off = 0x20 then setReg k { r with ce := 0 } s
  else if off = 0x24 then setReg k { r with ue := 0 } s
  else if 0x10000 ≤ off && off < 0x11800 && off % 256 = 0x8 then
    let t := (off - 0x10000) / 256
    setTile k t { tileSt s k t with cell := 0 } s
  else if 0x10000 ≤ off && off < 0x11800 && off % 256 = 0xC then
    let t := (off - 0x10000) / 256
    setTile k t { tileSt s k t with resend := 0 } s
  else if off = 0x10006C then { s with fc.slices := 0 }
  else if off = 0x100070 then { s with fc.mirrorBad := 0 }
  else s

/-- A write in the window of region `k`, the error registers apart. -/
def fcWrite (k off v : Nat) (s : State) : WrRes :=
  if off = 0x8 then
    if v % 2 = 0 || (regSt s k).st = 4 then wok s
    else if drives s && (regSt s k).st = 2 && lastRegion s k then (stDenied, s)
    else wok (regionResetOp k s)
  else if 0x10000 ≤ off && off < 0x11800 && off % 256 = 0x4 then
    let t := (off - 0x10000) / 256
    let x := tileSt s k t
    wok (setTile k t { x with err := x.err - Nat.land x.err v } s)
  else if off = 0x8000C then wok (ovrNote 0x1008000C v { s with fc.srSeed := BitVec.ofNat 32 v })
  else if off = 0x10005C then wok (ovrNote 0x1010005C v { s with fc.band := v % 1024 })
  else if off = 0x10006C then wok (ovrNote 0x1010006C v { s with fc.pause := bitOf v 31 })
  else if off = 0x100078 then
    let p := v % 4096
    let a := bits v 30 2
    wok (if a = 1 then forceOp p s else if a = 2 then releaseOp p s else s)
  else wok s

/-! ### Allocator and lease engine -/

/-- A statistics block (R129). -/
def statWord (b : StatBlk) (w : Nat) : Nat :=
  nth [b.val, b.peak, b.avg1, b.peak1, b.avg60, b.peak60, min 0xFFFF b.miss60 * 65536 + min 0xFFFF b.miss1, b.stamp % 2 ^ 32] w 0

/-- Allocator registers. -/
def alcRead (s : State) (off : Nat) : Nat :=
  let a := (pat s).alloc
  if off = 0x0 then
    rv [(6, 2, s.al.rowSrc), (5, 1, b2n s.al.shortNow), (4, 1, b2n (s.al.unk.contains (inKey 6 0))), (3, 1, b2n (!s.al.unk.isEmpty)),
      (2, 1, b2n (allocRuns s))]
  else if off = 0x4 then (if s.pf.current.isNone then 0 else rv [(16, 16, a.validity), (8, 8, a.bisect), (4, 4, a.passes), (0, 1, a.provEn)])
  else if off = 0x8 then rv [(16, 16, s.al.timeMax), (0, 16, min 0xFFFF s.al.timeLast)]
  else if off = 0xC then s.al.rowCap
  else if off = 0x10 then s.al.allow
  else if off = 0x14 then s.al.shortW
  else if 0x18 ≤ off && off < 0x2C then
    let i := (off - 0x18) / 4
    nth s.al.lims (2 * i) 0 * 65536 + nth s.al.lims (2 * i + 1) 0
  else 0

/-- An emergency ceiling is in force on some plate (R217). -/
def ecapAny (s : State) : Bool := (accelPlates s).any (fun r => (ecapOf s r).isSome)

/-- Lease engine registers. -/
def lsRead (s : State) (off : Nat) : Nat :=
  if off = 0x1000 then
    rv [(3, 1, b2n (s.al.keepOn && issues s)), (2, 1, b2n ((pat s).alloc.provEn == 1 && !s.al.provOff && s.pf.current.isSome)), (1, 1, b2n (issues s)), (0, 1, b2n (ecapAny s))]
  else if off = 0x1004 then b2n s.al.provOff
  else if off = 0x1010 then s.al.cntProv
  else if off = 0x1014 then s.al.cntRetract
  else if off = 0x1018 then min 0xFFFF s.al.keepRounds
  else if off = 0x101C then rv [(16, 13, plateCount s (·.unacked)), (0, 13, plateCount s (fun x => decide (5 ≤ x.q)))]
  else if off = 0x1020 then s.al.rowLimit
  else if off = 0x1024 then s.al.allowOvr
  else if 0x1040 ≤ off && off < 0x1060 then statWord s.al.row ((off - 0x1040) / 4)
  else 0

/-- Plate lease state. -/
def plateLsRead (s : State) (p w : Nat) : Nat :=
  let l := plateLs s p
  let x := plateRun s p
  if w = 0 then rv [(28, 4, l.limit), (24, 4, min 15 x.q), (0, 24, l.firm)]
  else if w = 1 then rv [(30, 2, l.kind), (29, 1, b2n l.keeper), (28, 1, b2n x.unacked), (0, 24, l.cap)]
  else if w = 2 then l.seq % 2 ^ 32
  else rv [(30, 2, x.ack.st), (24, 6, min 63 x.lag), (0, 24, x.ack.cap)]

/-- A read in the allocator and lease window. -/
def alRead (s : State) (off : Nat) : Nat :=
  if off < 0x1000 then alcRead s off
  else if off < 0x2000 then lsRead s off
  else if off < 0x2080 then tgetD s.al.rackBud ((off - 0x2000) / 4) none32
  else if 0x40000 ≤ off && off < 0x40400 then statWord (tgetD s.al.racks ((off - 0x40000) / 32) {}) (off / 4 % 8)
  else if 0x100000 ≤ off && off < 0x120000 then statWord (plateLs s ((off - 0x100000) / 32)).stat (off / 4 % 8)
  else if 0x200000 ≤ off && off < 0x210000 then plateLsRead s ((off - 0x200000) / 16) (off / 4 % 4)
  else if 0x300000 ≤ off && off < 0x304000 then
    let l := plateLs s ((off - 0x300000) / 4)
    rv [(30, 2, l.cls.getD (if s.pf.current.isSome then (pat s).alloc.defaultClass else 0)), (0, 24, l.pcap)]
  else 0

/-- Fields that a read clears. -/
def alReadEff (off : Nat) (s : State) : State :=
  if off = 0x8 then { s with al.timeMax := 0 }
  else if off = 0x1010 then { s with al.cntProv := 0 }
  else if off = 0x1014 then { s with al.cntRetract := 0 }
  else s

/-- A write in the allocator and lease window: the host values of R125. -/
def alWrite (off v : Nat) (s : State) : WrRes :=
  let a := 0x16000000 + off
  if off = 0x1004 then wok (ovrNote a v { s with al.provOff := bitOf v 0 })
  else if off = 0x1020 then wok (ovrNote a v { s with al.rowLimit := v })
  else if off = 0x1024 then wok (ovrNote a v { s with al.allowOvr := v })
  else if 0x2000 ≤ off && off < 0x2080 then wok (ovrNote a v { s with al.rackBud := tset s.al.rackBud ((off - 0x2000) / 4) v })
  else if 0x300000 ≤ off && off < 0x304000 then
    let p := (off - 0x300000) / 4
    wok (ovrNote a v (setLs p { plateLs s p with cls := some (bits v 30 2), pcap := v % 2 ^ 24 } s))
  else wok s

/-! ### Loop engines -/

/-- Ticks since the present t0 (R134). -/
def tickInRound (s : State) : Nat :=
  let base := s.round * ticksPerRound s
  max s.tick (base + 1) - 1 - base

/-- Global loop registers. -/
def lpGlobRead (s : State) (off : Nat) : Nat :=
  if off = 0x0 then rv [(24, 8, 8), (12, 12, 0x100), (0, 8, 1)]
  else if off = 0x4 then
    let ok := if s.lp.st = 0 then 0 else ((List.range 8).filter (fun e => !s.lp.engBad.contains e)).foldl (fun a e => a + 2 ^ e) 0
    rv [(24, 8, ok), (16, 8, min 255 s.lp.load), (3, 1, b2n (s.lp.st != 0 && !drives s)), (0, 3, s.lp.st)]
  else if off = 0x14 then s.lp.cellCnt
  else if off = 0x18 then
    let g := ((pat s).groups.filter (fun r => decide (2 ≤ (grpSt s r.group).mode))).length
    let i := ((pat s).inputs.filter (fun r => (inSt s r.input).unknown)).length
    rv [(16, 16, g), (0, 16, i)]
  else if off = 0x1C then (if s.pf.current.isNone then 0 else rv [(16, 16, ticksPerRound s), (0, 16, tickInRound s)])
  else 0

/-- LP_CH_TRIM: the safest trim in force (R147). -/
def trimRead (s : State) (c : Nat) : Nat :=
  match chanRec s c, (chSp s c).trims with
  | some r, t :: l => 0x10000 + twos 16 (spMerge r.spSafe t l)
  | _, _ => 0

/-- Channel registers. -/
def lpChanRead (s : State) (c off : Nat) : Nat :=
  let x := chView s c
  let p := chSp s c
  if off = 0x0 then
    rv [(31, 1, b2n x.tripped), (30, 1, b2n x.approach), (29, 1, b2n x.cascHold), (28, 1, b2n x.pvUnk), (27, 1, b2n p.spLost),
      (26, 1, b2n (0 < x.fe)), (25, 1, b2n x.satHi), (24, 1, b2n x.satLo), (23, 1, b2n x.bankB), (22, 1, b2n x.swapPend),
      (19, 3, x.engine), (16, 3, x.law), (0, 16, x.cnt)]
  else if off = 0x4 then rv [(16, 16, twos 16 (if x.spEff.isSome then x.spUsed else 0)), (0, 16, twos 16 x.pvUsed)]
  else if off = 0x8 then rv [(16, 16, twos 16 x.u), (0, 16, twos 16 x.e)]
  else if off = 0xC then twos 40 x.acc % 2 ^ 32
  else if off = 0x14 then p.host.toNat
  else if off = 0x18 then p.man.toNat
  else if off = 0x20 then min 0xFFFFFFFF x.fe
  else if off = 0x24 then trimRead s c
  else 0

/-- Input status words; VALUE reads 0 where the input delivers none (DESIGN CHOICE, log 149: R173 gives no value). -/
def lpInRead (s : State) (i w : Nat) : Nat :=
  let x := inSt s i
  if w = 0 then rv [(31, 1, b2n x.unknown), (28, 3, x.cause), (0, 16, twos 16 ((inVal s i).1.getD 0))]
  else rv [(16, 16, if x.conv || (s.lp.st != 0 && (inputRec s i).isSome) then min 0xFFFF ((s.clock - ageFrom s x) / tickNs) else 0), (0, 16, twos 16 x.code)]

/-- Vote group status words. -/
def lpGrpRead (s : State) (g w : Nat) : Nat :=
  let x := grpSt s g
  if w = 0 then
    rv [(23, 1, b2n x.fcCounted), (20, 3, x.used), (19, 1, b2n x.disagree), (16, 3, x.mode), (0, 16, twos 16 x.value)]
  else
    rv [(16, 16, match x.disSince with | some t => min 0xFFFF ((s.clock - t) / 1000000) | none => 0), (0, 16, twos 16 (x.fcVal.getD 0))]

/-- Estimator slot status words. -/
def lpEstRead (s : State) (n w : Nat) : Nat :=
  let x := estSt s n
  let a := twos 40 x.sacc
  if w = 0 then a % 2 ^ 32
  else if w = 1 then rv [(16, 16, twos 16 x.pw), (0, 8, a / 2 ^ 32)]
  else if w = 2 then rv [(16, 16, twos 16 x.tS), (0, 16, twos 16 x.tH)]
  else rv [(16, 16, twos 16 x.tin), (0, 16, twos 16 x.tO)]

/-- A read in the LP_ window. -/
def lpRead (s : State) (off : Nat) : Nat :=
  if off < 0x20 then lpGlobRead s off
  else if 0x10000 ≤ off && off < 0x14000 then lpChanRead s ((off - 0x10000) / 64) (off % 64)
  else if 0x20000 ≤ off && off < 0x24000 then
    let p := chSp s ((off - 0x20000) / 64)
    nth (if off % 64 < 32 then p.bankA else p.bankBw) (off / 4 % 8) 0
  else if 0x40000 ≤ off && off < 0x42000 then lpInRead s ((off - 0x40000) / 8) (off / 4 % 2)
  else if 0x50000 ≤ off && off < 0x50400 then lpGrpRead s ((off - 0x50000) / 8) (off / 4 % 2)
  else if 0x60000 ≤ off && off < 0x70000 then lpEstRead s ((off - 0x60000) / 16) (off / 4 % 4)
  else 0

/-- LP_CELL_CNT clears on reading. -/
def lpReadEff (off : Nat) (s : State) : State := if off = 0x14 then { s with lp.cellCnt := 0 } else s

/-- A write to a coefficient bank (R159): the active bank and a bank under a pending swap refuse it. -/
def bankWrite (c : Nat) (b : Bool) (w v a : Nat) (s : State) : WrRes :=
  let x := chSt s c
  let p := chSp s c
  if x.bankB == b || x.swapPend then (stDenied, s)
  else
    let set (l : List Nat) : List Nat := (List.range 8).map (fun i => if i = w then v else nth l i 0)
    wok (ovrNote a v (setSp c (if b then { p with bankBw := set p.bankBw } else { p with bankA := set p.bankA }) s))

/-- A write in the LP_ window. -/
def lpWrite (off v : Nat) (s : State) : WrRes :=
  let a := 0x01000000 + off
  if off = 0x8 then wok (if bitOf v 0 then loopRestartFree s else s)
  else if 0x10000 ≤ off && off < 0x14000 then
    let c := (off - 0x10000) / 64
    let r := off % 64
    if r = 0x14 then wok (ovrNote a v (setSp c { chSp s c with host := BitVec.ofNat 32 (v % 2 ^ 17) } s))
    else if r = 0x18 then wok (ovrNote a v (setSp c { chSp s c with man := BitVec.ofNat 32 (v % 2 ^ 17) } s))
    else if r = 0x1C then wok (whenS (bitOf v 0) (swapOp c) (whenS (bitOf v 1) (tripResetOp c) s))
    else wok s
  else if 0x20000 ≤ off && off < 0x24000 then bankWrite ((off - 0x20000) / 64) (decide (32 ≤ off % 64)) (off / 4 % 8) v a s
  else wok s

end Sys2Proof.Machine
end

