-- ==== Sys2Proof/Machine/RegsCtl.lean ====
section
/-! DEFINITION. Registers of the field buses (R299), the selvedge (R232), the event recorder (R369) and the stitch counters (R347). -/

namespace Sys2Proof.Machine

/-! ### Field buses -/

/-- Standard nominal settings (R268): NBRP, NTSEG1, NTSEG2, NSJW by code. -/
def nomCode (c : Nat) : Nat × Nat × Nat × Nat := (nth [0, 1, 2, 4, 8, 20] c 0, 31, 8, 8)

/-- Standard data settings (R268): DBRP, DTSEG1, DTSEG2, DSJW by code. -/
def dataCode (c : Nat) : Nat × Nat × Nat × Nat :=
  nth [(0, 0, 0, 0), (1, 63, 16, 16), (1, 29, 10, 10), (1, 23, 8, 8), (1, 14, 5, 5), (1, 11, 4, 4), (1, 5, 2, 2)] c (0, 0, 0, 0)

/-- The bit timing in use: the record's, or that of the candidate under test or locked (R271). -/
def busTiming (s : State) (k : Nat) : (Nat × Nat × Nat × Nat) × (Nat × Nat × Nat × Nat) :=
  let r := busRec s k
  if r.auto then
    let c := (busSt s k).er.locked.getD (nth r.cands (busSt s k).er.cand (0, 0))
    (nomCode c.1, dataCode c.2)
  else ((r.nbrp, r.ntseg1, r.ntseg2, r.nsjw), (r.dbrp, r.dtseg1, r.dtseg2, r.dsjw))

/-- Transmitter delay compensation is enabled: the data rate exceeds 1 Mbit/s (R269). -/
def tdcOn (s : State) (k : Nat) : Bool :=
  let (b, a, c, _) := (busTiming s k).2
  (busRec s k).dataFmt != 0 && b != 0 && decide (b * (1 + a + c) < 160)

/-- Controller registers of bus `k`. -/
def fbCtlRead (s : State) (k off : Nat) : Nat :=
  let b := busSt s k
  let x := busBuf s k
  let r := busRec s k
  let e := b.er
  let ((nb, n1, n2, nj), (db, d1, d2, dj)) := busTiming s k
  if off = 0x0 then rv [(16, 8, 128), (12, 4, 8), (8, 4, k), (0, 8, 1)]
  else if off = 0x4 then
    rv [(29, 3, b.st), (28, 1, b2n (ownerSent s 1)), (27, 1, b2n (s.red.timeMaster && isTt s k)), (26, 1, b2n b.ttSync), (25, 1, b2n e.epass),
      (24, 1, b2n (decide (96 ≤ e.tec) || decide (96 ≤ e.recCnt))), (8, 6, b.q.length), (0, 8, e.quar.length)]
  else if off = 0x14 then rv [(24, 8, nb - 1), (16, 8, n1 - 1), (9, 7, n2 - 1), (2, 7, nj - 1), (1, 1, b2n r.triple)]
  else if off = 0x18 then rv [(27, 5, db - 1), (20, 7, d1 - 1), (14, 6, d2 - 1), (8, 6, dj - 1), (6, 2, r.dataFmt), (5, 1, b2n r.modeSw)]
  else if off = 0x1C then rv [(31, 1, b2n (tdcOn s k)), (8, 8, r.tdcOff), (0, 8, b.tdcMeas)]
  else if off = 0x20 then rv [(16, 9, e.tec), (0, 8, min 255 e.recCnt)]
  else if off = 0x24 then rv [(28, 4, e.autoSt), (24, 4, e.cand), (16, 8, min 255 e.passes), (0, 16, e.frames)]
  else if off = 0x28 then rv [(26, 6, b.cycle), (0, 16, b.delay)]
  else if off = 0x30 then
    match b.q with
    | [] => 0
    | h :: _ => rv [(16, 16, h.tag), (8, 8, h.attempts), (6, 2, if b.st = bsBusOff || b.st = bsSleep then 2 else b2n (onWire s k)), (0, 6, b.q.length)]
  else if off = 0x3C then rv [(16, 16, b.tagS), (0, 4, b.outS)]
  else if off = 0x44 then rv [(16, 16, b.tagH), (0, 4, b.outH)]
  else if off = 0x48 then rv [(16, 16, b.lastTag), (0, 4, b.lastOut)]
  else if off = 0x4C then rv [(31, 1, b2n b.urg.isSome), (28, 3, match b.urg with | some u => u.content | none => 0), (0, 16, b.skipped)]
  else if off = 0x50 then e.cntRx
  else if off = 0x54 then e.cntTx
  else if off = 0x58 then rv [(16, 16, e.noMatch), (0, 16, e.tooLong)]
  else if off = 0x5C then rv [(16, 16, e.lateUpd), (0, 16, e.lateFull)]
  else if 0x60 ≤ off && off < 0x70 then bits b.rxNew (8 * (off - 0x60)) 32
  else if 0x70 ≤ off && off < 0x80 then bits b.rxOvr (8 * (off - 0x70)) 32
  else if off = 0x80 then e.idcClass % 4 * 2 ^ 30 + e.idcKey % 2 ^ 30
  else if off = 0x88 then rv [(28, 4, x.wakeCause), (0, 16, x.sleeps)]
  else 0

/-- Descriptor words 1 and 2 of a frame. -/
def descWord1 (f : BusFrame) : Nat := rv [(30, 2, f.fmt), (29, 1, b2n f.xtd), (0, 29, f.id)]
def descWord2 (x : RxBuf) : Nat :=
  rv [(16, 12, x.f.data.length), (15, 1, b2n x.f.brs), (14, 1, b2n x.f.esi), (8, 6, x.cycle), (0, 8, x.f.sdt)]

/-- The filter entry that gives receive buffer `n` of a bus its payload area (R282, R298). -/
def bufFilter (s : State) (k n : Nat) : Option FilterRec :=
  let r := busRec s k
  (((pat s).fb.filters.drop r.firstFilter).take r.filterCount).find? (fun e => e.dest == 1 && e.index == n)

/-- Receive descriptor words. -/
def fbDescRead (s : State) (k n w : Nat) : Nat :=
  let x := tgetD (busBuf s k).bufs n {}
  if w = 0 then x.seq
  else if w = 1 then descWord1 x.f
  else if w = 2 then descWord2 x
  else if w = 3 then x.time
  else if w = 4 then
    match bufFilter s k n with
    | some e => rv [(16, 16, e.cap * 8), (0, 16, 0x8000 + e.poff)]
    | none => 0
  else if w = 5 then x.f.af
  else if w = 6 then rv [(8, 8, x.f.vcid), (0, 1, b2n x.f.sec)]
  else 0

/-- Priority-buffer words (R284, R299). -/
def fbPmRead (s : State) (k i w : Nat) : Nat :=
  let p := tgetD (busBuf s k).pms i {}
  if w = 0 then descWord1 p.buf.f
  else if w = 1 then descWord2 p.buf
  else if w = 2 then p.buf.time
  else if 4 ≤ w && w < 20 then fld p.buf.f.data (4 * (w - 4)) 4
  else if w = 31 then rv [(16, 16, p.buf.seq), (8, 8, p.lost), (0, 1, b2n p.stale)]
  else 0

/-- A word of the receive store (R282). -/
def fbStoreRead (s : State) (k off : Nat) : Nat :=
  unLe ((List.range 4).map (fun i => tgetD (busBuf s k).store (off + i) 0))

/-- A read in the window of bus `k`. -/
def fbRead (s : State) (k off : Nat) : Nat :=
  if off < 0x8C then fbCtlRead s k off
  else if 0x1000 ≤ off && off < 0x2000 then fbDescRead s k ((off - 0x1000) / 32) (off / 4 % 8)
  else if 0x2000 ≤ off && off < 0x2400 then fbPmRead s k ((off - 0x2000) / 128) (off / 4 % 32)
  else if 0x3000 ≤ off && off < 0x3820 then tgetD (busBuf s k).stageS (off - 0x3000) 0
  else if 0x4000 ≤ off && off < 0x4820 then tgetD (busBuf s k).stageH (off - 0x4000) 0
  else if 0x8000 ≤ off then fbStoreRead s k (off - 0x8000)
  else 0

/-- What a read does in the window of bus `k`: counters clear, priority buffers lock and release. -/
def fbReadEff (k off : Nat) (s : State) : State :=
  let b := busSt s k
  if off = 0x4C then setBus k { b with skipped := 0 } s
  else if off = 0x50 then setBus k { b with er.cntRx := 0 } s
  else if off = 0x54 then setBus k { b with er.cntTx := 0 } s
  else if off = 0x58 then setBus k { b with er.noMatch := 0, er.tooLong := 0 } s
  else if off = 0x5C then setBus k { b with er.lateUpd := 0, er.lateFull := 0 } s
  else if 0x2000 ≤ off && off < 0x2400 then
    let i := (off - 0x2000) / 128
    if off % 128 = 0 then pmLockOp k i s else if off % 128 = 124 then pmReleaseOp k i s else s
  else s

/-- A written 1 clears a bit. -/
def w1c (old v : Nat) : Nat := old - Nat.land old v

/-- What a staging area keeps of a written word (R299): the header is descriptor words 1, 2, 5 and 6 without CYCLE and reserved bits, its words 4 to 7 are zero. -/
def stageMask (off v : Nat) : Nat :=
  if off = 4 then Nat.land v 0x0FFFC0FF else if off = 12 then Nat.land v 0xFF01 else if 16 ≤ off && off < 32 then 0 else v

/-- A write in the window of bus `k`, the error registers apart. -/
def fbWrite (k off v : Nat) (s : State) : WrRes :=
  let b := busSt s k
  let x := busBuf s k
  if off = 0x8 then
    if bitOf v 1 && !(busRec s k).sleepOk then (stDenied, s)
    else wok (whenS (bitOf v 0) (autoRestartOp k) (whenS (bitOf v 1) (sleepOp k 1) (whenS (bitOf v 2) (startWake k) (whenS (bitOf v 3) (recoverOp k) s))))
  else if off = 0x34 then wok (txCancelOp k (v % 65536) (onWire s k) s)
  else if off = 0x38 then wok (if v % 65536 = 1 then txCommitOp k false s else s)
  else if off = 0x40 then wok (if v % 65536 = 1 then txCommitOp k true s else s)
  else if 0x60 ≤ off && off < 0x70 then wok (setBus k { b with rxNew := w1c b.rxNew (v * 2 ^ (8 * (off - 0x60))) } s)
  else if 0x70 ≤ off && off < 0x80 then wok (setBus k { b with rxOvr := w1c b.rxOvr (v * 2 ^ (8 * (off - 0x70))) } s)
  else if off = 0x84 then wok (releaseId k 1 (v % 2 ^ 30) s)
  else if 0x3000 ≤ off && off < 0x3820 then wok (setBuf k { x with stageS := tset x.stageS (off - 0x3000) (stageMask (off - 0x3000) v) } s)
  else if 0x4000 ≤ off && off < 0x4820 then wok (setBuf k { x with stageH := tset x.stageH (off - 0x4000) (stageMask (off - 0x4000) v) } s)
  else wok s

/-! ### Selvedge -/

/-- Rows whose state meets a test, as a 64-bit mask. -/
def rowMask (f : RowSt → Bool) (s : State) : Nat := ((List.range 64).filter (fun r => f (rowSt s r))).foldl (fun a r => a + 2 ^ r) 0

/-- A mass-balance register. -/
def mbWord (x : MbSt) : Nat := rv [(16, 16, twos 16 (clampI (-32768) 32767 (centi x.mean))), (8, 8, (x.bins.filter (·.2)).length), (0, 2, x.st)]

/-- The D_ref value as a whole number of L/min. -/
def drefWord (s : State) : Nat := (clampI 0 0xFFFF (froundI (2 ^ 20) (drefNow s))).toNat

/-- A read in the SV_ window. -/
def svRead (s : State) (off : Nat) : Nat :=
  let n := rowMask (fun r => r.st != 0) s
  let act := rowMask (fun r => r.st == 1 || r.st == 2) s
  let lat := ((List.range 64).filter (fun r => latching (rowForce s r) != 0)).foldl (fun a r => a + 2 ^ r) 0
  if off = 0x0 then rv [(16, 8, 16), (8, 8, 64), (0, 8, 1)]
  else if off = 0x4 then
    rv [(31, 1, b2n s.pwr.vsafeOk), (30, 1, b2n s.glb.oscOk), (29, 1, b2n s.sv.patternSet), (28, 1, b2n s.sv.relock.isSome), (27, 1, b2n (alarmReleased s)),
      (26, 1, b2n (ecapOut s)), (25, 1, b2n (ecapOut s || s.sv.ecapLine)), (24, 1, b2n s.red.chainOk), (16, 8, ((List.range 64).filter (bitOf n)).length),
      (0, 16, ((List.range 16).filter (fun z => (ropeSt s z).st == 3)).foldl (fun a z => a + 2 ^ z) 0)]
  else if off = 0x10 then act % 2 ^ 32
  else if off = 0x14 then act / 2 ^ 32
  else if off = 0x18 then lat % 2 ^ 32
  else if off = 0x1C then lat / 2 ^ 32
  else if off = 0x20 then rv [(24, 8, if s.glb.life == .rom then 0 else ecapLevel s), (2, 1, b2n (isoValves s != 0)), (1, 1, b2n (stopMask s != 0)), (0, 1, b2n (ecapMask s != 0))]
  else if off = 0x24 then ecapMask s
  else if off = 0x28 then stopMask s
  else if off = 0x2C then isoValves s
  else if off = 0x30 then rv [(16, 16, drefWord s), (15, 1, b2n s.sv.drefAt.isSome)]
  else if off = 0x34 then rv [(16, 16, s.svf.frmFb), (0, 16, s.svf.frmEth)]
  else if off = 0x38 then (match s.sv.relock with | some r => r.nt % 2 ^ 32 | none => 0)
  else if 0x100 ≤ off && off < 0x180 then
    let k := (off - 0x100) / 8
    let c := cmpSt s k
    if off % 8 = 0 then
      rv [(31, 1, b2n (s.glb.life != .rom && (cmpRec s k).enable && cmpArmed s k)), (30, 1, b2n (cmpTrip s k)), (29, 1, b2n (cmpUnknown s k)), (28, 1, b2n c.advTrip),
        (27, 1, b2n c.advUnk), (0, 16, c.reading)]
    else if s.glb.life == .rom then 0
    else if k = 2 && (cmpRec s 2).enable then
      rv [(16, 16, cmpCode s (cmpRec s 2) (flThreshold s)), (0, 16, cmpCode s (cmpRec s 2) (pct s.sv.sec.recoverFrac s.sv.dEntry))]
    else rv [(16, 16, c.thrTrip), (0, 16, c.thrClear)]
  else if 0x200 ≤ off && off < 0x240 then
    let z := ropeSt s ((off - 0x200) / 4)
    rv [(29, 3, z.st), (0, 16, min 0xFFFF z.z)]
  else if 0x300 ≤ off && off < 0x380 then mbWord (tgetD s.svf.mb ((off - 0x300) / 4) {})
  else if off = 0x380 then mbWord s.svf.res
  else if off = 0x390 then s.svf.locA
  else if off = 0x394 then s.svf.locB
  else if off = 0x398 then s.svf.locC
  else 0

/-- Fields that a read clears in the SV_ window. -/
def svReadEff (off : Nat) (s : State) : State :=
  if off = 0x34 then { s with svf.frmFb := 0, svf.frmEth := 0 } else if off = 0x398 then { s with svf.locC := 0 } else s

/-! ### Event recorder -/

/-- A read in the EV_ window. -/
def evRead (s : State) (off : Nat) : Nat :=
  if off = 0x0 then rv [(16, 8, 6), (0, 8, 1)]
  else if off = 0x4 then
    rv [(31, 1, b2n s.wall.set), (30, 1, b2n s.wall.slew.isSome), (29, 1, b2n s.ev.pstDefer), (28, 1, b2n s.ev.hbmOk), (27, 1, b2n (decide (65536 ≤ s.ev.ring.length))),
      (26, 1, b2n (decide (s.ev.hbmCap ≤ s.ev.hbm.length))), (25, 1, b2n (decide (4194304 ≤ s.ev.pst.length))), (0, 9, s.ev.staging.length)]
  else if off = 0x10 then s.ev.seqLast % 2 ^ 32
  else if off = 0x18 then uptime s % 2 ^ 32
  else if off = 0x20 then wallNow s % 2 ^ 32
  else if off = 0x2C then rv [(28, 4, (pat s).rates.recMin), (24, 4, s.ev.expMin)]
  else if off = 0x30 then s.ev.ringLast
  else if off = 0x34 then s.ev.hbmLast
  else if off = 0x38 then s.ev.pst.length
  else if off = 0x3C then s.ev.pstPage
  else if off = 0x40 then rv [(31, 1, b2n s.ev.pstReady), (0, 10, s.ev.pstPage)]
  else if 0x100 ≤ off && off < 0x158 then
    let t := (off - 0x100) / 32
    let v := off % 32 / 4
    if v < 6 then tgetD s.ev.drops (t * 8 + v) 0 else 0
  else if 0x200 ≤ off && off < 0x400 && off % 8 = 0 then tgetD s.ev.cursors ((off - 0x200) / 8) 0 % 2 ^ 32
  else if 0x400000 ≤ off && off < 0x800000 then slotWord s.ev.ring ((off - 0x400000) / 64) (off / 4 % 16)
  else if 0x800000 ≤ off && off < 0x840000 then slotWord s.ev.pageBuf ((off - 0x800000) / 64) (off / 4 % 16)
  else 0

/-- A write in the EV_ window by peer `p`, the error registers apart. -/
def evWrite (p off v : Nat) (s : State) : WrRes :=
  let a := 0x04000000 + off
  if off = 0x20 then wok { s with wall.stageLo := BitVec.ofNat 32 v }
  else if off = 0x24 then wok { s with wall.stageHi := BitVec.ofNat 32 v }
  else if off = 0x28 then wok (if bitOf v 0 then wallSetOp p s else if bitOf v 1 then wallSlewOp p s else s)
  else if off = 0x2C then wok (ovrNote a v { s with ev.expMin := bits v 24 4 })
  else if off = 0x3C then wok { s with ev.pstPage := v % 1024, ev.pstReady := false }
  else if 0x200 ≤ off && off < 0x400 then
    let q := (off - 0x200) / 8
    if off % 8 = 0 then wok { s with ev.curStage := tset s.ev.curStage q v }
    else
      let s := ovrNote (a - 4) (tgetD s.ev.curStage q 0) s
      wok (ovrNote a v { s with ev.cursors := tset s.ev.cursors q (tgetD s.ev.curStage q 0 + v * 2 ^ 32) })
  else wok s

/-! ### Stitch counters -/

/-- A read in the SC_ window. -/
def scRegRead (s : State) (off : Nat) : Nat :=
  if off = 0x0 then rv [(16, 16, 4096), (8, 8, 64), (0, 8, 1)]
  else if off = 0x4 then rv [(16, 13, liveCount s), (15, 1, b2n s.sc.quar), (0, 10, slotsUsed s)]
  else if off = 0x10 then s.sc.ops
  else if off = 0x14 then spinNow s
  else if 0x10000 ≤ off && off < 0x20000 then
    let x := ctr s ((off - 0x10000) / 16)
    let w := off / 4 % 4
    if w = 0 then x.val
    else if w = 1 then rv [(30, 2, x.st), (0, 20, if x.owned then partyCode x.owner else 0)]
    else if w = 2 then rv [(16, 10, x.queue.length), (0, 4, x.cause)]
    else 0
  else if 0x20000 ≤ off && off < 0x20400 then
    let x := tgetD s.sc.watches ((off - 0x20000) / 16) {}
    let w := off / 4 % 4
    if w = 0 then rv [(31, 1, b2n x.enable), (30, 1, b2n x.consume), (29, 1, b2n x.rep), (16, 6, x.peer), (0, 12, x.counter)]
    else if w = 1 then x.thr
    else if w = 2 then x.ntf
    else 0
  else 0

/-- Fields that a read clears in the SC_ window. -/
def scReadEff (off : Nat) (s : State) : State :=
  if off = 0x10 then { s with sc.ops := 0 }
  else if off = 0x14 then { s with sc.spin := 0, sc.spinFrom := s.clock }
  else if 0x20000 ≤ off && off < 0x20400 && off % 16 = 8 then
    let w := (off - 0x20000) / 16
    { s with sc.watches := tset s.sc.watches w { tgetD s.sc.watches w {} with ntf := 0 } }
  else s

/-- A write in the SC_ window: watches only (R347). -/
def scRegWrite (off v : Nat) (s : State) : WrRes :=
  if 0x20000 ≤ off && off < 0x20400 then
    let w := (off - 0x20000) / 16
    let x := tgetD s.sc.watches w {}
    let put (y : ScWatch) : WrRes := wok (ovrNote (0x05000000 + off) v { s with sc.watches := tset s.sc.watches w y })
    if off % 16 = 0 then put { x with enable := bitOf v 31, consume := bitOf v 30, rep := bitOf v 29, peer := bits v 16 6, counter := v % 4096 }
    else if off % 16 = 4 then (if v = 0 then wok s else put { x with thr := v })
    else wok s
  else wok s

end Sys2Proof.Machine
end

