-- ==== Sys2Proof/Machine/RegsSys.lean ====
section
/-! DEFINITION. Registers of the global block (R430), the redundancy block (R260), the host link (R331), the pattern and firmware block (R404) and of diagnostics with the swatch and trace stores (R466, R194). -/

namespace Sys2Proof.Machine

/-! ### Global and redundancy registers -/

/-- A supply's register: the lowest sample since the last read, 0 before one, and the present value. -/
def supplyWord (low : Option Nat) (now : Nat) : Nat := rv [(16, 16, low.getD 0), (0, 16, now)]

/-- The draw of a supply (GLB_POWER): a measurement, so a free value; 0 until the chip has cast on. -/
def drawNow (i : Nat) (s : State) : Nat := if s.glb.life == .rom then 0 else (Config.draw i s.clock s.freeCtr).toNat

/-- Global registers. -/
def glbCtlRead (s : State) (off : Nat) : Nat :=
  let g := s.glb
  if off = 0x0 then rv [(24, 8, 40), (8, 8, if s.hw.variantH then 0x48 else 0x46), (0, 8, 1)]
  else if off = 0x4 then
    rv [(31, 1, b2n s.pwr.vmainOk), (30, 1, b2n s.pwr.vfieldOk), (29, 1, b2n s.pwr.vsafeOk), (28, 1, b2n s.pwr.dip), (26, 2, s.pwr.shed),
      (25, 1, b2n (g.clkMain && g.clkSerdes && g.clkRef)), (0, 4, g.phase)]
  else if off = 0x10 then rv [(28, 4, g.rstCause), (24, 4, g.wdPhase), (16, 8, min 255 g.wdCount)]
  else if off = 0x18 then rv [(31, 1, b2n g.blkBusy.isSome), (29, 2, g.blkResult)]
  else if off = 0x20 then supplyWord s.pwr.vmainMin s.pwr.vmain
  else if off = 0x24 then supplyWord s.pwr.vfieldMin s.pwr.vfield
  else if off = 0x28 then supplyWord s.pwr.vsafeMin s.pwr.vsafe
  else if off = 0x2C then rv [(16, 16, if s.pwr.vfieldOver then s.pwr.vfieldP else drawNow 1 s), (0, 16, drawNow 0 s)]
  else if off = 0x30 then rv [(16, 16, min 0xFFFF s.pwr.lastDipDur), (0, 16, s.pwr.lastDipMin)]
  else if off = 0x34 then
    rv [(16, 16, twos 16 g.oscDev), (4, 1, b2n g.oscOk), (3, 1, b2n g.clkFb), (2, 1, b2n g.clkSerdes), (1, 1, b2n g.clkMain), (0, 1, b2n g.clkRef)]
  else if off = 0x38 then
    rv [(24, 8, min 255 (s.pwr.dieMax / 10)), (16, 8, min 255 (s.pwr.inlet / 10)), (8, 8, min 255 (s.pwr.outlet / 10)), (0, 2, s.pwr.thermStage)]
  else if off = 0x3C then rv [(16, 16, g.ovrLastCleared), (0, 16, min 0xFFFF g.ovr.length)]
  else if off = 0x40 then rv [(28, 4, g.phase), (0, 16, min 0xFFFF g.castonTime)]
  else 0

/-- This module pulls CLAIM_N low now (R242). -/
def pullsNow (s : State) : Bool := s.link.pulses.any (fun (p : Nat × Nat × Nat) => decide (p.2.1 ≤ s.clock) && decide (s.clock < p.2.2))

/-- Redundancy registers. -/
def redRead (s : State) (off : Nat) : Nat :=
  if off = 0x1000 then
    rv [(20, 4, s.glb.heldCause), (11, 1, b2n s.red.timeMaster), (10, 1, b2n s.red.driving), (9, 1, b2n s.red.watch), (8, 1, b2n (slotB s)),
      (4, 2, modeNow s), (0, 3, roleCode s.glb.role)]
  else if off = 0x1004 then s.red.partnerWord.toNat
  else if off = 0x1008 then
    rv [(31, 1, b2n s.red.lost), (30, 1, b2n s.red.chainOk), (29, 1, b2n (decide (ageOf s s.red.fb0Last 255 < 100))),
      (28, 1, b2n (decide (ageOf s s.red.fb8Last 255 < 100))), (8, 8, ageOf s s.red.chainLast 255), (0, 8, ageOf s (fbLast s) 255)]
  else if off = 0x100C then
    rv [(31, 1, b2n (s.link.lineLow || pullsNow s || decide (s.clock < s.link.highAt))), (30, 1, b2n (pullsNow s)), (29, 1, b2n s.link.fault), (20, 4, s.link.result), (0, 16, min 0xFFFF s.link.claims)]
  else if off = 0x1018 then rv [(16, 16, min 0xFFFF s.link.takeovers), (0, 16, min 0xFFFF s.link.takeoverLast)]
  else if off = 0x101C then rv [(31, 1, b2n s.link.aligned), (0, 16, twos 16 (clampI (-32768) 32767 s.link.offset))]
  else if off = 0x1020 then (if s.glb.role == .none then 0 else qualBits s)
  else if off = 0x1024 then rv [(16, 16, s.link.snapAge), (0, 16, s.link.leaseAge)]
  else 0

/-- A read in the GLB_ window. -/
def glbRead (s : State) (off : Nat) : Nat := if off < 0x1000 then glbCtlRead s off else if off < 0x1100 then redRead s off else 0

/-- Fields that a read clears in the GLB_ window: the lowest samples. -/
def glbReadEff (off : Nat) (s : State) : State :=
  if off = 0x20 then { s with pwr.vmainMin := none }
  else if off = 0x24 then { s with pwr.vfieldMin := none }
  else if off = 0x28 then { s with pwr.vsafeMin := none }
  else s

/-- A write in the GLB_ window. The outcome of a block's self-test is the hardware's: a free value. -/
def glbWrite (off v : Nat) (s : State) : WrRes :=
  if off = 0x14 then
    if bitOf v 1 && drives s then (stDenied, s)
    else wok (whenS (bitOf v 0) ctlResetReq (whenS (bitOf v 1) hstResetOp s))
  else if off = 0x18 then
    let kind := bits v 12 4
    let idx := v % 4096
    let (w, s) := freshWord s
    let s := blockResetOp kind idx (w.getLsbD 0) s
    (if blkEligible kind idx then stOk else stDenied, s)
  else wok s

/-! ### Host link registers -/

/-- The counter floor of a peer with a key reference of kind 1 (R331); 0 for another. -/
def peerFloor (s : State) (p : Nat) : Nat :=
  match (peerRec s p).bind (peerKey s) with
  | some _ => (ctrSt s p).floor
  | none => 0

/-- A count of FEC codewords at a read (R331): while the link is up, the codewords since the last read or LINK_UP join it; how many is the hardware's, a free value. -/
def fecNow (s : State) (n : Nat) : Nat := if s.hl.linkUp then min 0xFFFFFFFF (n + (Config.freeWord s.freeCtr).toNat) else n

/-- A read of a FEC count uses its free value up. -/
def fecRead (s : State) : State := if s.hl.linkUp then { s with freeCtr := s.freeCtr + 1 } else s

/-- Peer status words. -/
def hlPeerRead (s : State) (p w : Nat) : Nat :=
  if w = 0 then
    match peerRec s p with
    | some r => rv [(24, 8, r.kind), (16, 8, r.rack), (0, 16, r.rights)]
    | none => 0
  else if w = 1 then peerFloor s p % 2 ^ 32
  else if w = 3 then rv [(16, 16, tgetD s.ks.tagFail p 0), (0, 16, tgetD s.ks.replay p 0)]
  else 0

/-- A read in the HL_ window. -/
def hlRead (s : State) (off : Nat) : Nat :=
  let h := s.hl
  if off = 0x0 then rv [(8, 8, 1), (0, 8, 1)]
  else if off = 0x4 then
    rv [(31, 1, b2n h.linkUp), (29, 2, h.rate), (28, 1, b2n h.fecLock), (27, 1, b2n h.optic), (8, 8, outstanding s), (0, 8, h.opticTemp)]
  else if off = 0x10 then fecNow s h.fecCorr
  else if off = 0x14 then fecNow s h.fecUncorr
  else if off = 0x18 then rv [(16, 16, h.dropRej), (0, 16, h.dropCrc)]
  else if off = 0x1C then rv [(16, 16, h.latMax), (0, 16, h.latLast)]
  else if off = 0x20 then rv [(16, 16, h.telDone), (0, 16, h.telBad)]
  else if off = 0x24 then fld s.hw.target 0 4
  else if off = 0x28 then fld s.hw.target 4 4
  else if 0x1000 ≤ off && off < 0x1400 then hlPeerRead s ((off - 0x1000) / 16) (off / 4 % 4)
  else 0

/-- Fields that a read clears in the HL_ window. -/
def hlReadEff (off : Nat) (s : State) : State :=
  if off = 0x10 then { (fecRead s) with hl.fecCorr := 0 }
  else if off = 0x14 then { (fecRead s) with hl.fecUncorr := 0 }
  else if off = 0x18 then { s with hl.dropRej := 0, hl.dropCrc := 0 }
  else if off = 0x1C then { s with hl.latMax := 0 }
  else if off = 0x20 then { s with hl.telDone := 0, hl.telBad := 0 }
  else if 0x1000 ≤ off && off < 0x1400 && off % 16 = 12 then
    let p := (off - 0x1000) / 16
    { s with ks.tagFail := tdel s.ks.tagFail p, ks.replay := tdel s.ks.replay p }
  else s

/-! ### Pattern and firmware registers -/

/-- Seconds of the trial that remain. -/
def trialRemain (s : State) : Nat :=
  if s.pf.st = 3 then (s.pf.trialWindow * 1000000000 - (uptime s - s.pf.trialStart) + 999999999) / 1000000000 else 0

/-- A firmware part. -/
def partSt (s : State) (k : Nat) : PartSt := tgetD s.pf.parts k {}

/-- A part's active image. -/
def partImage (s : State) (k : Nat) : Option FwImage := (nth (partSt s k).banks (partSt s k).bank none)

/-- Start limit of a part in ns (R394). -/
def startLimit (s : State) (k : Nat) : Nat := if k = 1 then 1500000000 else if k = 2 then 60000000 else if k = 3 then 200000000 else 8 * periodNs s

/-- PF_PART_k.STATE: a part whose start limit has passed without a revert has reported ready (R394). -/
def partState (s : State) (k : Nat) : Nat :=
  let x := partSt s k
  if x.st = 2 && decide (x.restartAt + startLimit s k < s.clock) then 1 else x.st

/-- PF_PART_k. -/
def pfPartRead (s : State) (k w : Nat) : Nat :=
  let x := partSt s k
  if w = 0 then (match partImage s k with | some i => i.version | none => 0)
  else if w = 1 then x.floor
  else if w = 2 then
    rv [(31, 1, x.bank), (28, 3, partState s k), (0, 16, if (partImage s k).isNone then 0 else min 0xFFFF ((uptime s - x.since) / 1000000000))]
  else 0

/-- Digest of a pattern slot; none is empty. -/
def slotDigest (p : Option Pattern) : Bytes :=
  match p with
  | some x => x.digest
  | none => []

/-- A read in the PF_ window; from 0x80_0000 up the staging window. -/
def pfRead (s : State) (off : Nat) : Nat :=
  let p := s.pf
  if off = 0x0 then rv [(8, 8, 1), (0, 8, 1)]
  else if off = 0x4 then
    rv [(29, 3, p.st), (28, 1, b2n p.lifeline.isSome), (27, 1, b2n p.nextP.isSome), (26, 1, b2n p.relockPend), (25, 1, b2n p.idsOk), (24, 1, b2n p.idsMatch),
      (23, 1, b2n p.anchor.isSome), (22, 1, b2n p.deferred), (12, 4, p.lastCheck)]
  else if off = 0x10 then p.force.serial % 2 ^ 32
  else if off = 0x18 then rv [(16, 16, min 0xFFFF (trialRemain s)), (0, 16, p.trialWindow)]
  else if off = 0x1C then p.applyRound % 2 ^ 32
  else if off = 0x24 then rv [(31, 1, b2n p.idsPresent), (30, 1, p.idsBlock), (29, 1, b2n p.gaugeOk), (0, 11, p.gauge.length)]
  else if 0x40 ≤ off && off < 0x80 then digWord (slotDigest p.current) ((off - 0x40) / 4)
  else if 0x80 ≤ off && off < 0xC0 then digWord (slotDigest p.lifeline) ((off - 0x80) / 4)
  else if 0x110 ≤ off && off < 0x160 then pfPartRead s ((off - 0x100) / 16) (off / 4 % 4)
  else if 0x800000 ≤ off then unLe (memRdN s.stage off 4)
  else 0

/-- A write in the PF_ window: the staging window only. -/
def pfWrite (off v : Nat) (s : State) : WrRes :=
  if 0x800000 ≤ off then wok { s with stage := memWrN s.stage off (le v 4) } else wok s

/-! ### Diagnostics, swatch slots and trace buffers -/

/-- Units of region `k` now quarantined: 0 to 5 the forecast regions, 6 CTL, 7 HST. -/
def quarUnits (s : State) (k : Nat) : Nat :=
  let out (kind : Nat) : Bool := match s.glb.blkBusy with
    | some (b, _, pass) => b == kind && pass
    | none => false
  if k < 6 then
    ((regSt s k).tiles.filter (fun (t : Nat × TileSt) => t.2.quar)).length + (s.fc.spares.filter (fun (e : Nat × SpareSt) => e.2.quar && e.2.home == some k)).length +
      b2n (s.fc.lostStacks.contains k)
  else if k = 6 then
    s.lp.engBad.length + ((List.range 16).filter (fun b => (busSt s b).st == bsQuar)).length + b2n s.sc.quar + b2n (s.ev.quar && !out 6)
  else b2n (s.ks.quar && !out 8)

/-- Freeze and counter registers. -/
def dgCtlRead (s : State) (off : Nat) : Nat :=
  let d := s.dg
  if off = 0x0 then rv [(16, 8, 4), (8, 8, 8), (0, 8, 1)]
  else if off = 0x4 then
    rv [(30, 2, if s.glb.life == .frozen then 2 else if d.pend != 0 then 1 else 0), (28, 2, d.source), (24, 4, d.outcome), (0, 16, min 0xFFFF d.frozenMs)]
  else if off = 0x10 then rv [(31, 1, b2n d.safe), (28, 3, d.cause), (26, 2, d.handover), (0, 16, d.unit)]
  else if off = 0x20 then d.cntCell
  else if off = 0x24 then d.cntResend
  else if off = 0x28 then d.cntQuar
  else if off = 0x2C then d.cntRemap
  else if 0x40 ≤ off && off < 0x60 then
    let k := (off - 0x40) / 4
    rv [(24, 8, min 255 (quarUnits s k)), (16, 8, min 255 (tgetD d.regResend k 0)), (0, 16, min 0xFFFF (tgetD d.regCell k 0))]
  else 0

/-- Slot registers (R194): `w` the word in the slot. -/
def swRead (s : State) (k w : Nat) : Nat :=
  let x := swSt s k
  if w < 13 then x.reg w
  else if w = 14 then rv [(28, 4, x.st), (24, 4, x.cause), (0, 24, x.samples)]
  else if w = 15 then swCount x
  else 0

/-- Trace buffer registers. -/
def trRead (s : State) (b w : Nat) : Nat :=
  let x := trSt s b
  if w = 0 then x.cfg % 2 ^ 29 + b2n x.stopped * 2 ^ 29 + x.cfg / 2 ^ 30 * 2 ^ 30
  else if w = 1 then x.trig
  else if w = 2 then x.wr
  else 0

/-- The 64-byte header of a capture buffer (R187); a cleared store reads zero. -/
def capHeader (k : Nat) (x : SwSt) : Bytes :=
  if x.capRegs.isEmpty then []
  else
    let y := x.capv
    let first := if y.pre ≤ y.preCnt && y.pre != 0 then y.preCnt % y.pre else 0
    let sel (j : Nat) : Bytes := le (if j < y.nsig then y.sel j else 0) 2
    [0x53#8, 0x57#8, 0x43#8, 0x48#8] ++ le 1 2 ++ le k 1 ++ le y.chan 1 ++ le y.mode 1 ++ le y.signal 1 ++ le y.nsig 1 ++ le y.dec 1 ++
      le y.recSz 2 ++ le y.capN 2 ++ ((List.range 8).map sel).flatten ++ le (if y.trigged then y.trigRound else 0) 8 ++ le first 4 ++ le (swCount y) 4 ++
      le (if y.trigged then min y.preCnt y.pre else 0xFFFFFFFF) 4 ++ le y.endCode 1 ++ le (if y.endCode = 2 then y.capCause else 0) 1 ++
      le (bits (y.reg 1) 0 16) 2 ++ le (bits (y.reg 1) 16 16) 2

/-- Word of a capture buffer. -/
def capRead (s : State) (k o : Nat) : Nat :=
  let x := swSt s k
  if o < 64 then fld (capHeader k x) o 4 else tgetD x.words (o / 4) 0

/-- A read in the DG_ window. -/
def dgRead (s : State) (off : Nat) : Nat :=
  if off < 0x60 then dgCtlRead s off
  else if 0x100100 ≤ off && off < 0x100300 && (off - 0x100100) % 0x80 < 0x40 then swRead s ((off - 0x100100) / 0x80) (off / 4 % 16)
  else if 0x101000 ≤ off && off < 0x101080 then trRead s ((off - 0x101000) / 16) (off / 4 % 4)
  else if 0x200000 ≤ off && off < 0x380000 then capRead s ((off - 0x200000) / 0x60000) ((off - 0x200000) % 0x60000)
  else if 0x380000 ≤ off && off < 0x400000 then
    nth (tgetD (trSt s ((off - 0x380000) / 0x10000)).entries ((off - 0x380000) / 16 % 4096) []) (off / 4 % 4) 0
  else 0

/-- CNT_CLEAR (R465). -/
def cntClearOp (s : State) : State :=
  { s with dg.cntCell := 0, dg.cntResend := 0, dg.cntQuar := 0, dg.cntRemap := 0, dg.regCell := [], dg.regResend := [] }

/-- CNT_CLEAR (R465). -/
def execCntClear (s : State) : Host.Outcome State Fault Refusal := live cntClearOp s

/-- Bits of slot register `w` that exist. -/
def swMask (w : Nat) : Nat := if w = 0 then 0xFFC707 else if w = 7 then 0xFFFFFF3F else 0xFFFFFFFF

/-- A write to a slot register (R194): refused while ARMED or RUNNING, DG_SW_CTRL apart. -/
def swWrite (k w v : Nat) (s : State) : WrRes :=
  let x := swSt s k
  if w = 13 then wok (whenS (bitOf v 2) (swHostTrigger k) (whenS (bitOf v 1) (swHostAbort k) (whenS (bitOf v 0) (swArmOp k) s)))
  else if x.st = 1 || x.st = 2 then (stDenied, s)
  else if w < 13 then wok (setSw k { x with regs := setNth x.regs w (Nat.land v (swMask w)) } s)
  else wok s

/-- A write to a trace buffer register (R190). -/
def trWrite (b w v : Nat) (s : State) : State :=
  let x := trSt s b
  if w = 0 then
    let s := setTr b { x with cfg := Nat.land v 0xC000FFFF } s
    if bitOf v 31 && !bitOf x.cfg 31 then trEnable b s else s
  else if w = 1 then setTr b { x with trig := Nat.land v 0xFFFF003F } s
  else s

/-- A write in the DG_ window, the error registers apart. -/
def dgWrite (off v : Nat) (s : State) : WrRes :=
  if off = 0x14 then wok (whenS (bitOf v 0) cntClearOp s)
  else if 0x100100 ≤ off && off < 0x100300 && (off - 0x100100) % 0x80 < 0x40 then swWrite ((off - 0x100100) / 0x80) (off / 4 % 16) v s
  else if 0x101000 ≤ off && off < 0x101080 then wok (trWrite ((off - 0x101000) / 16) (off / 4 % 4) v s)
  else wok s

end Sys2Proof.Machine
end

