-- ==== Sys2Proof/Machine/Regs.lean ====
section
/-! DEFINITION. The register and memory space as a whole (R13, R14, R35, R36): which addresses are mapped, reading with its effects, writing, overrides (R318, R427), the access filter of the firmware parts (R390, R391). -/

namespace Sys2Proof.Machine

/-- A mapped address (R5, R35, R36, R58, R71, R104). -/
def mapped (s : State) (a : Nat) : Bool :=
  let w := windowOf a
  if w ≤ 8 then w != 2 || a < 0x02100000
  else if 0x10 ≤ w && w ≤ 0x15 then decide (w - 0x10 < regionCount s) && !(w != 0x10 && fcOnly0 (a % 0x1000000))
  else if w = 0x16 then true
  else decide (hbmBase ≤ a) && decide (a < hbmTop s)

/-- The ERR register an address belongs to, its bits, and whether the address is the IRQ_EN register beside it. -/
def errReg (a : Nat) : Option (Nat × Nat × Bool) :=
  let w := windowOf a
  if w = 2 then
    if a < 0x02100000 && a % 0x10000 = 0xC then some (a, 0xFF07FF, false)
    else if a < 0x02100000 && a % 0x10000 = 0x10 then some (a - 4, 0xFFFFFF, true) else none
  else if 0x10 ≤ w && w ≤ 0x15 then
    if a % 0x1000000 = 0xC then some (a, 0xFF, false) else if a % 0x1000000 = 0x10 then some (a - 4, 0xFF, true)
    else if a = fmtStat then some (a, 0x7F, false) else none
  else
    let l : List (Nat × Nat) := [(0x8, 0x3FF), (0x1010, 0x3FF), (0x100000C, 0x1FF), (0x3000008, 0x1FF), (0x4000008, 0xF), (0x5000008, 0x3F),
      (0x6000008, 0x1FF), (0x7000008, 0x3FF), (0x8000008, 0x1F), (0x8100000, 0xFFF), (0x16001008, 0xFF)]
    match l.find? (fun (e : Nat × Nat) => e.1 == a || e.1 + 4 == a) with
    | some (r, m) => some (r, m, r != a)
    | none => none

/-- The HI register that a read of an address latches, with its value now. -/
def hiOf (s : State) (a : Nat) : Option (Nat × Nat) :=
  let off := a % 0x1000000
  if a = 0x04000010 then some (a + 4, s.ev.seqLast / 2 ^ 32)
  else if a = 0x04000018 then some (a + 4, uptime s / 2 ^ 32)
  else if a = 0x04000020 then some (a + 4, wallNow s / 2 ^ 32)
  else if 0x04000200 ≤ a && a < 0x04000400 && a % 8 = 0 then some (a + 4, tgetD s.ev.cursors ((off - 0x200) / 8) 0 / 2 ^ 32)
  else if a = 0x10100054 then some (a + 4, s.round / 2 ^ 32)
  else if 0x01010000 ≤ a && a < 0x01014000 && a % 64 = 0xC then some (a + 4, twos 40 (chView s ((off - 0x10000) / 64)).acc / 2 ^ 32)
  else if a = 0x03000038 then some (a + 4, match s.sv.relock with | some r => r.nt / 2 ^ 32 | none => 0)
  else if a = 0x07000010 then some (a + 4, s.pf.force.serial / 2 ^ 32)
  else if a = 0x0700001C then some (a + 4, s.pf.applyRound / 2 ^ 32)
  else if 0x06001000 ≤ a && a < 0x06001400 && a % 16 = 4 then some (a + 4, peerFloor s ((off - 0x1000) / 16) / 2 ^ 32)
  else none

/-- The event extension in the HBM (R101, R357): word at byte offset `o` of its area. -/
def evExtWord (s : State) (o : Nat) : Nat := slotWord s.ev.hbm (o / 64) (o / 4 % 16)

/-- The workspace header (R101, R102): base and size of the nine areas, 8 bytes each, then N_p, D_t, D_h and D_a, 4 bytes each (DESIGN CHOICE: the rules name the contents and give no layout). -/
def workspaceHeader (s : State) : Bytes :=
  (List.range 9).flatMap (fun i => le (areaBase s i) 8 ++ le (if i = 8 then hbmTop s - areaBase s 8 else areaMb s i * 0x100000) 8) ++
    le (variantPlates s) 4 ++ le (depthRing s) 4 ++ le (depthHist s) 4 ++ le (depthArch s) 4

/-- A word of the HBM window. The workspace beyond its header and the leak-stream buffer, whose samples no command brings, hold contents that no rule fixes: free values. -/
def hbmWord (s : State) (a : Nat) : Nat :=
  let i := areaOf s a
  let o := a - areaBase s i
  if i = 6 then evExtWord s o
  else if i = 3 && o < 160 then fld (workspaceHeader s) o 4
  else if i = 3 then (Config.storeWord (16 + i) 0 o s.freeCtr).toNat
  else unLe (hbmRdN s a 4)

/-- The value of a register or memory word, HI registers apart. -/
def rdWindow (s : State) (a : Nat) : Nat :=
  let w := windowOf a
  let off := a % 0x1000000
  if w = 0 then glbRead s off
  else if w = 1 then lpRead s off
  else if w = 2 then fbRead s (off / 0x10000) (off % 0x10000)
  else if w = 3 then svRead s off
  else if w = 4 then evRead s off
  else if w = 5 then scRegRead s off
  else if w = 6 then hlRead s off
  else if w = 7 then pfRead s off
  else if w = 8 then dgRead s off
  else if w = 0x16 then alRead s off
  else if w < 0x16 then fcRead s (w - 0x10) off
  else hbmWord s a

/-- The value at a mapped, aligned address; `live`: a HI register gives the present high half (a read-out, R462) and not the latched one. -/
def regVal (s : State) (a : Nat) (live : Bool) : Nat :=
  match errReg a with
  | some (r, _, true) => irqEn s r
  | some (r, _, false) => errVal s r
  | none =>
    match hiOf s (a - 4) with
    | some (h, v) => if h = a then (if live then v else (tgetD s.latches a 0#32).toNat) else rdWindow s a
    | none => rdWindow s a

/-- What reading a mapped, aligned address does: RC fields clear, a LO register latches its HI register. -/
def regReadEff (a : Nat) (s : State) : State :=
  let s := match hiOf s a with
    | some (h, v) => { s with latches := tset s.latches h (BitVec.ofNat 32 v) }
    | none => s
  let w := windowOf a
  let off := a % 0x1000000
  if w = 0 then glbReadEff off s
  else if w = 1 then lpReadEff off s
  else if w = 2 then fbReadEff (off / 0x10000) (off % 0x10000) s
  else if w = 3 then svReadEff off s
  else if w = 5 then scReadEff off s
  else if w = 6 then hlReadEff off s
  else if w = 0x16 then alReadEff off s
  else if 0x10 ≤ w && w < 0x16 then fcReadEff (w - 0x10) off s
  else s

/-- A 32-bit read (R14, R36): status, value, state. An address both unmapped and misaligned is answered UNMAPPED (DESIGN CHOICE: R14 gives no precedence). -/
def regRead (a : Nat) (s : State) : Nat × Nat × State :=
  if !mapped s a then (stUnmapped, 0, s)
  else if a % 4 != 0 then (stAlign, 0, s)
  else (stOk, regVal s a false % 2 ^ 32, regReadEff a s)

/-- An override register (R427): host values, coefficient banks, counter watches, export cursors. -/
def isOverride (a : Nat) : Bool :=
  let w := windowOf a
  let off := a % 0x1000000
  a == 0x1008000C || a == 0x1010005C || a == 0x1010006C || a == 0x0400002C ||
  w == 0x16 && (off == 0x1004 || off == 0x1020 || off == 0x1024 || decide (0x2000 ≤ off) && decide (off < 0x2080) || decide (0x300000 ≤ off) && decide (off < 0x304000)) ||
  w == 1 && (decide (0x10000 ≤ off) && decide (off < 0x14000) && (off % 64 == 0x14 || off % 64 == 0x18) || decide (0x20000 ≤ off) && decide (off < 0x24000)) ||
  w == 5 && decide (0x20000 ≤ off) && decide (off < 0x20400) && off % 16 < 8 ||
  w == 4 && decide (0x200 ≤ off) && decide (off < 0x400)

/-- A word written into the HBM; the event extension and the two areas without contents of their own take no write (R101). -/
def hbmWrite (a v : Nat) (s : State) : WrRes :=
  let i := areaOf s a
  if i = 3 || i = 6 || i = 7 then wok s else wok (hbmPut a (le v 4) s)

/-- A write in a window, the error registers apart. -/
def wrWindow (p a v : Nat) (s : State) : WrRes :=
  let w := windowOf a
  let off := a % 0x1000000
  if w = 0 then glbWrite off v s
  else if w = 1 then lpWrite off v s
  else if w = 2 then fbWrite (off / 0x10000) (off % 0x10000) v s
  else if w = 4 then evWrite p off v s
  else if w = 5 then scRegWrite off v s
  else if w = 7 then pfWrite off v s
  else if w = 8 then dgWrite off v s
  else if w = 0x16 then alWrite off v s
  else if 0x10 ≤ w && w < 0x16 then fcWrite (w - 0x10) off v s
  else if w < 0x10 then wok s
  else hbmWrite a v s

/-- A write to the ERR or IRQ_EN register pair: a written 1 clears an ERR bit (R13). -/
def errWrite (r mask : Nat) (irq : Bool) (v : Nat) (s : State) : State :=
  if irq then { s with irqs := tset s.irqs r (BitVec.ofNat 32 (Nat.land v mask)) }
  else { s with errs := tset s.errs r (BitVec.ofNat 32 (w1c (errVal s r) (Nat.land v mask))) }

/-- A partner drives (R318): its last word says ACTIVE or ALONE. -/
def partnerDrives (s : State) : Bool := partnerHeard s && (partnerRole s == 3 || partnerRole s == 4)

/-- The override records that a write changed go to the partner (R254). -/
def ovrChanged (before : Tab Word) (s : State) : State :=
  let l := s.glb.ovr.filter (fun (e : Nat × Word) => tget before e.1 != some e.2)
  if drives s && !l.isEmpty then mirrorSend 5 16 (l.map (fun (e : Nat × Word) => ovrBytes e.1 e.2.toNat true)) s else s

/-- The write itself at a mapped, aligned address. -/
def regPut (p a v : Nat) (s : State) : WrRes :=
  match errReg a with
  | some (r, m, irq) => wok (errWrite r m irq v s)
  | none => wrWindow p a v s

/-- A 32-bit write by peer `p` (R14, R36, R318): status and state. -/
def regWrite (p a v : Nat) (s : State) : WrRes :=
  if !mapped s a then (stUnmapped, s)
  else if a % 4 != 0 then (stAlign, s)
  else if isOverride a && (s.glb.role == .held || s.glb.role == .standby) && partnerDrives s then (stDenied, s)
  else
    let (st, t) := regPut p a (v % 2 ^ 32) s
    (st, if isOverride a && st = stOk then ovrChanged s.glb.ovr t else t)

end Sys2Proof.Machine
end

