-- ==== Sys2Proof/Machine/PatternFw.lean ====
section
/-! DEFINITION. Re-knit, trial, frog back, the identity store, firmware parts and the access filter (R374 to R395, R399 to R401). -/

namespace Sys2Proof.Machine

/-! ### The identity store (R399 to R401) -/

/-- A digest block whose CRC matches. -/
def idsValid (b : Option Bytes) : Option Bytes :=
  match b with
  | some x => if x.length = 512 && fld x 508 4 == crc32c (x.take 508) then some x else none
  | none => none

/-- The digest block in use: the valid block with the higher generation, with its number. -/
def idsBlock (s : State) : Option (Nat × Bytes) :=
  match idsValid s.hw.idsBlk0, idsValid s.hw.idsBlk1 with
  | some a, some b => if fld a 0 4 < fld b 0 4 then some (1, b) else some (0, a)
  | some a, none => some (0, a)
  | none, some b => some (1, b)
  | none, none => none

/-- The header of the store (R399): its name, version 1, sixteen bytes of serial number, zero. -/
def idsHeaderOk (s : State) : Bool := s.hw.idsHeader.take 6 == [0x43#8, 0x44#8, 0x55#8, 0x49#8, 1#8, 0#8] && zeroAt s.hw.idsHeader 22 42

/-- The store answers and its header is right. -/
def idsReadable (s : State) : Bool := s.hw.idsAnswers && idsHeaderOk s

/-- The digests of a block: expected, lifeline, anchor, staged. -/
def idsExpected (b : Bytes) : Bytes := slice b 4 64
def idsLifeline (b : Bytes) : Bytes := slice b 68 64
def idsAnchor (b : Bytes) : Bytes := slice b 132 64
def idsStaged (b : Bytes) : Bytes := slice b 205 64

/-- A digest is consistent with the store (R380). -/
def idsConsistent (s : State) (dig : Bytes) : Bool :=
  match idsBlock s with
  | some (_, b) => dig == idsExpected b || dig == idsLifeline b || dig == idsStaged b
  | none => true

/-- IDS_FAULT (R405). -/
def idsFault (cause : Nat) (s : State) : State :=
  emit 0x080A srcCore (aw cause) { s with pf.idsFaults := if s.pf.idsFaults.contains cause then s.pf.idsFaults else s.pf.idsFaults ++ [cause] }

/-- IDS_FAULT with the clear flag, for a cause that was recorded and is over (R405; DEDUCED: no rule says when a cause clears). -/
def idsClear (cause : Nat) (s : State) : State :=
  if s.pf.idsFaults.contains cause then emit 0x080A srcCore (aw cause) { s with pf.idsFaults := s.pf.idsFaults.filter (· != cause) } true else s

/-- A digest block is programmed: not blank. -/
def blkWritten (b : Option Bytes) : Bool :=
  match b with
  | some x => !allZero x
  | none => false

/-- Neither digest block is valid, and one is not blank: IDS_FAULT cause 2 (R405; DEDUCED: R399 names the fault for the header alone). -/
def idsBlocksBad (s : State) : Bool := (idsBlock s).isNone && (blkWritten s.hw.idsBlk0 || blkWritten s.hw.idsBlk1)

/-- The store is addressed (R399): no answer and a bad header or blocks are faults, a good answer ends them. -/
def idsReach (s : State) : State :=
  let s := { s with pf.idsPresent := s.hw.idsAnswers }
  if !s.hw.idsAnswers then idsFault 1 s
  else if !idsHeaderOk s || idsBlocksBad s then idsFault 2 (idsClear 1 s)
  else idsClear 2 (idsClear 1 s)

/-- A record of the gauge table (R400). -/
def gaugeOf (r : Bytes) : GaugeRec := { index := fld r 0 2, kind := byteAt r 2, gain := f32At r 4, offset := f32At r 8, tol := f32At r 12 }

/-- The records of the gauge table, none where the count or the CRC is wrong (R400). -/
def gaugeParse (b : Bytes) : Option (List GaugeRec) :=
  let n := fld b 0 2
  if n ≤ 1024 && crc32c (slice b 16 (16 * n)) == fld b 12 4 then some ((List.range n).map (fun i => gaugeOf (slice b (16 + 16 * i) 16))) else none

/-- The gauge table is taken (R401): a table that fails its CRC gives the neutral gauge. -/
def gaugeTake (s : State) : State :=
  if !idsReadable s then { s with pf.gaugeOk := false, pf.gauge := [] }
  else
    match gaugeParse s.hw.idsGauge with
    | some g => idsClear 3 { s with pf.gaugeOk := true, pf.gauge := g }
    | none => idsFault 3 { s with pf.gaugeOk := false, pf.gauge := [] }

/-- The gauge table is read at a re-knit (R399, R401). -/
def gaugeRead (s : State) : State := gaugeTake (idsReach s)

/-- The pattern now in force is one that the store names (R380); a change just applied never makes a consistent module inconsistent (R389). -/
def idsMeets (dig : Bytes) (s : State) : State := if idsReadable s && idsConsistent s dig then idsClear 5 { s with pf.idsMatch := true } else s

/-- The block that the driving module writes (R389, R399). -/
def idsNewBlock (s : State) (gen : Nat) : Bytes :=
  let x := le gen 4 ++ dig64 (slotDigest s.pf.current) ++ dig64 (slotDigest s.pf.lifeline) ++ dig64 (s.pf.anchor.getD []) ++ le (pat s).serial 8 ++
    le (b2n (slotB s)) 1 ++ dig64 (slotDigest s.pf.nextP)
  let x := slice x 0 508
  x ++ le (crc32c x) 4

/-- IDS_WRITTEN (R389): a module that does not drive never writes the store. -/
def execIdsWritten (s : State) : Host.Outcome State Fault Refusal :=
  live (fun s =>
    if !s.pf.idsWrite || !drives s then s
    else if !idsReadable s then idsFault 4 { s with pf.idsWrite := false, pf.idsPresent := s.hw.idsAnswers }
    else
      let (k, gen) := match idsBlock s with
        | some (k, b) => (1 - k, (fld b 0 4 + 1) % 2 ^ 32)
        | none => (0, 1)
      let b := some (idsNewBlock s gen)
      let s := [1, 2, 4].foldl (fun s c => idsClear c s) { s with pf.idsWrite := false, pf.idsPresent := true, pf.idsBlock := k, pf.idsMatch := true }
      let s := if k = 0 then { s with hw.idsBlk0 := b } else { s with hw.idsBlk1 := b }
      emit 0x080B srcCore (aw k ++ aw gen ++ aq (pat s).serial) s) s

/-! ### Anchor and acceptance (R374, R387) -/

/-- The anchor becomes `a`: cause 1 adopted from the store, 2 NEXT_ANCHOR. -/
def setAnchor (a : Bytes) (cause : Nat) (s : State) : State :=
  if s.pf.anchor == some a then s else emit 0x080C srcCore (adig a ++ aw cause) { s with pf.anchor := some a }

/-- A pattern that is loaded at cast-on or accepted makes its NEXT_ANCHOR the anchor. -/
def takeAnchor (p : Pattern) (s : State) : State := if p.nextAnchor.isEmpty || allZero p.nextAnchor then s else setAnchor p.nextAnchor 2 s

/-- A refused pattern (R375, R405). -/
def patRefused (chk sec detail : Nat) (s : State) : State := emit 0x0802 srcCore (aw chk ++ aw sec ++ aw detail) { s with pf.lastCheck := chk }

/-- The section type of a refusal by `loadCheck`: the plate count stands in the binding (R103). -/
def loadSec (check : Nat) : Nat := if check = 8 then 0x1A else 0

/-- The check of R375 that a pattern held in a slot fails, 0 for none: what checks 1 to 4, the signature and check 7 found at its delivery holds; its signer against the present anchor and the variant are checked again. -/
def loadCheck (s : State) (p : Pattern) : Nat := if s.pf.anchor != some p.signerDigest then 5 else if patCheck8 s p then 0 else 8

/-! ### Applying a pattern (R385, R388) -/

/-- Keys of a list of records that differ between two patterns. -/
def changedKeys {α : Type} [BEq α] (key : α → Nat) (o n : List α) : List Nat :=
  let ks := (o.map key ++ n.map key).foldl (fun (l : List Nat) k => if l.contains k then l else l ++ [k]) []
  ks.filter (fun k => !(o.find? (fun r => key r == k) == n.find? (fun r => key r == k)))

/-- Section types whose content differs. -/
def sectionsChanged (o n : Pattern) : List Nat :=
  let l : List (Nat × Bool) :=
    [(0x10, o.fabric == n.fabric), (0x11, o.io == n.io), (0x12, o.inputs == n.inputs), (0x13, o.groups == n.groups), (0x14, o.maps == n.maps),
      (0x15, o.chans == n.chans), (0x16, o.est == n.est), (0x17, o.sv == n.sv), (0x18, o.fb == n.fb), (0x19, o.plates == n.plates), (0x1A, o.bind == n.bind),
      (0x1B, o.alloc == n.alloc), (0x1C, o.red == n.red), (0x1D, o.peers == n.peers), (0x1E, o.rates == n.rates)]
  (l.filter (fun e => !e.2)).map (·.1)

/-- One changed channel record: the state carries by R160, for a TRIPPED channel too, which leaves TRIPPED (R158, R385); a new channel is initialised where the module drives. -/
def reknitChan (o n : Pattern) (c : Nat) (s : State) : State :=
  let s := swAbortAll 7 (fun w => w.injects && w.chan == c) s
  match n.chans.find? (fun r => r.ch == c) with
  | none => { s with lp.chans := tdel s.lp.chans c, lp.sps := tdel s.lp.sps c }
  | some r =>
    let s := setSp c { chSp s c with bankA := r.bankA, bankBw := r.bankBw, host := 0#32, man := 0#32 } s
    if o.chans.any (fun q => q.ch == c && q.enable) then
      let x := chSt s c
      let b := if r.bankB then r.bankBw else r.bankA
      let x := bankCarry b { x with tripped := false, feDone := x.feDone && decide (bkFeTime b ≤ x.fe), bankB := r.bankB, swapPend := false }
      setCh c { x with engine := if s.lp.engBad.contains r.engine then x.engine else r.engine } s
    else
      let s := setCh c { bankB := r.bankB, engine := r.engine, placed := !s.lp.engBad.contains r.engine } s
      if drives s && r.enable then (initChannel c s).2 else s

/-- A changed input: its timers restart, its state stays until the new rules decide. -/
def reknitInput (i : Nat) (s : State) : State :=
  setIn i { inSt s i with rangeSince := none, recSince := none, rawSince := s.clock, wAny := false, rAny := false, refBad := false, frozenBad := false } s

/-- A changed bus record ends the bus's quarantines and empties its queue (R280, R298). -/
def reknitBus (o n : Pattern) (k : Nat) (s : State) : State :=
  if nth o.fb.buses k {} == nth n.fb.buses k {} then s
  else
    let s := txRemove k 5 (fun _ => true) (releaseIds k 3 s)
    let r := nth n.fb.buses k {}
    let q := nth o.fb.buses k {}
    if (busSt s k).st = bsQuar || (r.enable == q.enable && r.auto == q.auto && r.restricted == q.restricted && r.cands == q.cands) then s
    else
      let b := busSt s k
      let st := startState s r
      setBus k { b with
        st := st
        held := 0
        er := { b.er with autoSt := if st = bsAuto then 1 else 0, cand := 0, candAt := s.clock, passes := 0, frames := 0, dataSeen := false, lockPend := false, locked := none } } s

/-- A plate whose channel entries or bundle position change is re-bound and demoted; another keeps its state. -/
def reknitPlate (o n : Pattern) (p : Nat) (s : State) : State :=
  match o.plates.find? (fun r => r.plate == p), n.plates.find? (fun r => r.plate == p) with
  | some a, some b =>
    if a.chans == b.chans && a.position == b.position then s
    else
      let s := demote 3 p s
      let un := match s.fc.mdl.active with
        | some m => plateUnbound s m b
        | none => false
      let x := plateRun s p
      let s := setPlate p { x with st := if un then 0 else max 1 x.st, lastIn := [] } s
      if un then emit 0x0A43 srcSup (aw 1 ++ aw p) s else s
  | _, _ => s

/-- Peers whose record changes or goes: their counters drop and what is remembered of them is forgotten (R339). -/
def reknitPeer (p : Nat) (s : State) : State :=
  let s := settleMsgs (dropOwner 5 (.peer p) s)
  { s with
    hl.seen := tdel s.hl.seen p
    hl.sessions := tdel s.hl.sessions p
    hl.xfers := tdel s.hl.xfers p
    hl.reqs := s.hl.reqs.filter (fun r => r.peer != p)
    hl.newErr := tdel s.hl.newErr p
    hl.sentErr := tdel s.hl.sentErr p }

/-- Addresses of the overrides that the changed records load (R427). -/
def reverts (o n : Pattern) (a : Nat) : Bool :=
  let off := a % 0x1000000
  if a = 0x1010005C then !(o.bind == n.bind)
  else if a = 0x1008000C then !(o.bind == n.bind) || !(o.fabric == n.fabric)
  else if windowOf a = 0x16 && 0x300000 ≤ off then !(o.alloc == n.alloc)
  else if windowOf a = 1 then
    let c := if off < 0x20000 then (off - 0x10000) / 64 else (off - 0x20000) / 64
    !(o.chans.find? (fun r => r.ch == c) == n.chans.find? (fun r => r.ch == c))
  else false

/-- FC_SR_SEED as a pattern loads it (R376). -/
def seedOf (p : Pattern) : Word := BitVec.ofNat 32 (if p.fabric.seed = 0 then p.bind.srSeed else p.fabric.seed)

/-- The registers that the changed records load take the new values; an input no longer named is not unknown (R131). -/
def reknitRegs (o n : Pattern) (s : State) : State :=
  let s := if reverts o n 0x1010005C then { s with fc.band := n.bind.band } else s
  let s := if reverts o n 0x1008000C then { s with fc.srSeed := seedOf n } else s
  let s := if !(o.alloc == n.alloc) then { s with al.plates := tmap s.al.plates (fun p => { p with cls := none, pcap := 0xFFFFFF }) } else s
  { s with al.unk := s.al.unk.filter (capNamed n.alloc) }

/-- Buckets of the codes whose limits change refill (R385). -/
def reknitBuckets (o n : Pattern) (s : State) : State :=
  let rate (p : Pattern) (c : Nat) : Nat × Nat := match p.rates.codes.find? (fun x => x.code == c) with
    | some x => (x.r, x.b)
    | none => (p.rates.r, p.rates.b)
  { s with ev.buckets := s.ev.buckets.filter (fun (e : Nat × Bucket) => rate o e.1 == rate n e.1) }

/-- The changes from the pattern in force to `n` take effect together (R385); `occasion` is that of OVERRIDES_CLEARED, 4 a re-knit, 5 a frog back. -/
def applyPattern (n : Pattern) (occasion : Nat) (s : State) : State :=
  let o := pat s
  let s := each (changedKeys (·.index) o.peers.peers n.peers.peers) reknitPeer s
  let s := each allBuses (fun k s => reknitBus o n k s) s
  let s := reknitRegs o n (reknitBuckets o n { s with pf.force := n })
  let s := each (changedKeys (·.ch) o.chans n.chans) (fun c s => reknitChan o n c s) s
  let s := each (changedKeys (·.input) o.inputs n.inputs) reknitInput s

  let s := each (n.plates.map (·.plate)) (fun p s => reknitPlate o n p s) s
  let s := { s with pf.relockPend := s.pf.relockPend || !(o.sv == n.sv) }
  idsMeets n.digest (gaugeRead (dropOverrides occasion (reverts o n) s))

/-! ### REKNIT (R381, R383) -/

/-- Bytes of a container in the staging window or in the HBM user and model space; empty where it lies elsewhere. -/
def blobAt (s : State) (addr len : Nat) : Bytes :=
  if 0x07800000 ≤ addr && addr + len ≤ 0x08000000 then memRdN s.stage (addr % 0x1000000) len
  else if areaBase s 8 ≤ addr && addr + len ≤ hbmTop s then memRdN s.mem addr len
  else []

/-- The t0 that begins a round. -/
def roundAt (s : State) (n : Nat) : Nat := s.t0At + (n - s.round) * periodNs s

/-- The first round that begins at least 10 rounds from now. -/
def soonest (s : State) : Nat := if s.clock ≤ s.t0At then s.round + 10 else s.round + 11

/-- LIFELINE becomes CURRENT where it stands (R388). -/
def slotBack (s : State) : State :=
  { s with pf.slotEnd := tdel (match tget s.pf.slotEnd 3 with
    | some t => tset s.pf.slotEnd 1 t
    | none => tdel s.pf.slotEnd 1) 3 }

/-- A container is being written to slot `k`, 1 CURRENT, 2 NEXT (R377, R383): the instant of its header, within 2 s, is a free value. -/
def slotWrite (k : Nat) (s : State) : State :=
  { s with pf.slotEnd := tset s.pf.slotEnd k (s.clock + min 2000000000 (Config.slotWriteNs k s.freeCtr)), freeCtr := s.freeCtr + 1 }

/-- CURRENT becomes LIFELINE where it stands; the write that fills it goes on. -/
def slotShift (s : State) : State :=
  { s with pf.slotEnd := match tget s.pf.slotEnd 1 with
    | some t => tset s.pf.slotEnd 3 t
    | none => tdel s.pf.slotEnd 3 }

/-- The full load of R383: staged in NEXT, or NEXT emptied. -/
def stageFull (addr len : Nat) (s : State) : CmdRes × State :=
  if s.pwr.dip then (cmdRefused 4, s)
  else if len = 0 then
    let (ser, dig) := match s.pf.nextP with
      | some p => (p.serial, p.digest)
      | none => (0, [])
    (cmdOk, emit 0x080F srcCore (aq ser ++ adig dig ++ aw 0) { s with pf.nextP := none, pf.idsWrite := true })
  else
    let raw := blobAt s addr len
    let (c, sec) := patCheck s .staged raw len
    if c != 0 then (cmdRefused 1, patRefused c sec 1 s)
    else
      let p := parsePattern raw
      (cmdOk, emit 0x080F srcCore (aq p.serial ++ adig p.digest ++ aw 1) (slotWrite 2 { s with pf.nextP := some p, pf.idsWrite := true }))

/-- The re-knit of R381. -/
def scheduleReknit (trial : Bool) (addr len : Nat) (s : State) : CmdRes × State :=
  let raw := blobAt s addr len
  let (c, sec) := patCheck s .reknit raw len
  let ar := fld raw 0xC0 8
  let w := fld raw 0xC8 2
  let tf := byteAt raw 0xCA
  let soon := ar != 0 && (decide (ar < soonest s) || decide (s.round + 3600000 < ar))
  if c != 0 then (cmdRefused 1, patRefused c sec 1 s)
  else if soon || !(w = 0 || (10 ≤ w && w ≤ 3600)) || 4 ≤ tf then (cmdRefused 2, s)
  else if s.pf.st = 2 || s.pf.st = 3 then (cmdRefused 3, s)
  else if s.pwr.dip then (cmdRefused 4, s)
  else
    let p := parsePattern raw
    let na := if ar = 0 then soonest s else ar
    let s := { s with
      pf.st := 2
      pf.applyRound := na
      pf.sched := some { pat := p, na := na, trial := trial, window := if w = 0 then 60 else w, flags := tf } }
    (cmdOk, emit 0x0803 srcCore (aq na ++ aq p.serial ++ aw (sectionsChanged (pat s) p).length) s)

/-- REKNIT_APPLIED (R385, R386): the t0 of N_a; a supply dip postpones it. -/
def reknitApply (s : State) : State :=
  match s.pf.sched with
  | none => s
  | some x =>
    if s.pf.st != 2 || s.round < x.na then s
    else if s.pwr.dip then { s with pf.deferred := true }
    else
      let o := pat s
      let secs := (sectionsChanged o x.pat).length
      let chs := (changedKeys (·.ch) o.chans x.pat.chans).length
      let s := applyPattern x.pat 4 s
      let s := { s with
        pf.lifeline := s.pf.current
        pf.current := some x.pat
        pf.sched := none
        pf.deferred := false
        pf.st := if x.trial then 3 else 1
        pf.changeTrial := x.trial
        pf.trialStart := uptime s
        pf.trialWindow := if x.trial then x.window else s.pf.trialWindow
        pf.trialFlags := x.flags
        pf.frog := none
        pf.idsWrite := true }
      let s := emit 0x0804 srcCore (aq s.round ++ aw secs ++ aw chs ++ aw (b2n x.trial)) (slotWrite 1 (slotShift s))
      if x.trial then s else takeAnchor x.pat s

/-- REKNIT_APPLIED (R385). -/
def execReknitApplied (s : State) : Host.Outcome State Fault Refusal := live reknitApply s

/-! ### Trial and frog back (R387 to R389) -/

/-- The trial is accepted: cause 1 window, 2 command. -/
def trialAccept (cause : Nat) (s : State) : State :=
  let s := emit 0x0805 srcCore (aq (pat s).serial ++ aw cause) { s with pf.st := 1, pf.changeTrial := false, pf.idsWrite := true }
  takeAnchor (pat s) s

/-- TRIAL_ACCEPTED (R387): the window, counted in uptime, ends without a failure. -/
def execTrialAccepted (s : State) : Host.Outcome State Fault Refusal :=
  live (fun s => if s.pf.st = 3 && s.pf.frog.isNone then trialAccept 1 (clockTo (s.upBase + s.pf.trialStart + s.pf.trialWindow * 1000000000) s) else s) s

/-- What TRIAL_ACCEPT does (R387). Outside a trial, and in one that has failed and is frogged back, it is refused; the spec gives no detail for that, so the detail is a free value. -/
def trialAcceptKern (_ : Dgram) (_ : PeerRec) (_ : Nat) (_ : Bytes) (s : State) : CmdRes × State :=
  if s.pf.st = 3 && s.pf.frog.isNone then (cmdOk, trialAccept 2 s)
  else
    let (w, s) := freshWord s
    (cmdRefused (w.toNat % 2 ^ 24), s)

/-- TRIAL_ACCEPT (R387, R328). -/
def execTrialAccept (d : Dgram) (s : State) : Host.Outcome State Fault Refusal := live (critical 4 0 0 d · (trialAcceptKern d)) s

/-- What FROG_BACK does (R388): during SCHEDULED it cancels the re-knit instead. -/
def frogBackKern (_ : Dgram) (_ : PeerRec) (_ : Nat) (_ : Bytes) (s : State) : CmdRes × State :=
  if s.pf.st = 2 then (cmdOk, { s with pf.st := 1, pf.sched := none, pf.deferred := false })
  else if s.pf.lifeline.isNone then (cmdRefused 5, s)
  else (cmdOk, { s with pf.frog := some (s.pf.frog.getD (4, 0)) })

/-- FROG_BACK (R388). -/
def execFrogBack (d : Dgram) (s : State) : Host.Outcome State Fault Refusal := live (critical 3 0 0 d · (frogBackKern d)) s

/-- The lifeline takes effect (R388): a pending relock is refused with cause 3. -/
def frogApply (cause arg : Nat) (l : Pattern) (s : State) : State :=
  let s := if s.sv.relock.isSome then relockRefused 3 s else s
  let s := applyPattern l 5 s
  emit 0x0806 srcCore (aw cause ++ aq s.round ++ aw arg)
    (slotBack { s with pf.current := some l, pf.lifeline := none, pf.frog := none, pf.st := 1, pf.changeTrial := false, pf.relockPend := false, pf.idsWrite := true })

/-- FROGGED_BACK (R388): at a round boundary the lifeline takes effect as a re-knit would, without checks 6 and 9. One that fails another check is refused, the pattern in force unchanged (R375): after a NEXT_ANCHOR was accepted, a lifeline of the old anchor fails check 5. -/
def frogBackOp (s : State) : State :=
  match s.pf.frog, s.pf.lifeline with
  | some (cause, arg), some l =>
    let c := loadCheck s l
    if c = 0 then frogApply cause arg l s else patRefused c (loadSec c) 1 { s with pf.frog := none }
  | _, _ => { s with pf.frog := none }

/-- FROGGED_BACK (R388). -/
def execFroggedBack (s : State) : Host.Outcome State Fault Refusal := live (fun s => if s.pf.frog.isSome then frogBackOp s else s) s

/-! ### Firmware parts (R390 to R395) -/

/-- Replaces a part's record. -/
def setPart (k : Nat) (x : PartSt) (s : State) : State := { s with pf.parts := tset s.pf.parts k x }

/-- A firmware image as the commit reads it (R392): part, versions, its directory at the end. -/
def parseFw (raw : Bytes) : FwImage :=
  { part := byteAt raw 6, version := fld raw 8 4, rollback := fld raw 0xC 4, requires := (List.range 5).map (fun i => fld raw (0x18 + 4 * i) 4), digest := slice raw 0x40 64 }

/-- Bytes of an image's SIGNER and SIGNATURE sections: the last 1538 bytes are SIGNATURE, the 1802 before them SIGNER. -/
def fwSignature (raw : Bytes) : Bytes := raw.drop (raw.length - 1538)
def fwSigner (raw : Bytes) : Bytes := let b := (raw.drop (raw.length - 3340)).take 1802; (b.drop 2).take (fld b 0 2)

/-- Check 1 of R393. -/
def fwCheck1 (s : State) (part : Nat) (raw : Bytes) (len : Nat) : Bool :=
  raw.take 4 == [0x45#8, 0x46#8, 0x57#8, 0x49#8] && fld raw 4 2 == 1 && zerosAt raw [(7, 1), (0x2C, 20), (0x80, 128)] && fld raw 0x10 8 == len && raw.length == len &&
    decide (len ≤ 16 * 2 ^ 20) && decide (256 + 3340 ≤ len) && byteAt raw 6 == part && within 1 5 part &&
    shake256 (zeroRange (raw.take (len - 1538)) 0x40 64) == slice raw 0x40 64 && s.hw.fwKeyDigests.contains (shake256 (fwSigner raw)) &&
    Config.falconVerify (fwSigner raw) (slice raw 0x40 64) (sigOf (fwSignature raw))

/-- Check 3 of R393: the REQUIRES entries both ways, and the model's MIN_RUNTIME for part 4. -/
def fwCheck3 (s : State) (i : FwImage) : Bool :=
  ([1, 2, 3, 4, 5] : List Nat).all (fun k => k == i.part ||
    (decide (nth i.requires (k - 1) 0 ≤ partVersion s k) &&
      (match partImage s k with | some o => decide (nth o.requires (i.part - 1) 0 ≤ i.version) | none => true))) &&
  (i.part != 4 || (match s.fc.mdl.active with | some m => decide (m.minRuntime ≤ i.version) | none => true))

/-- Check 4 of R393, the roles of R394. -/
def fwRoleOk (s : State) (part : Nat) (held : Bool) : Bool :=
  s.glb.role == .held || s.glb.role == .standby || (s.glb.role == .alone && held && part != 5)

/-- The first check of R393 that fails, 0 for none. -/
def fwCheck (s : State) (part : Nat) (held : Bool) (raw : Bytes) (len : Nat) : Nat :=
  let i := parseFw raw
  if !fwCheck1 s part raw len then 1
  else if i.rollback < (partSt s part).floor then 2
  else if !fwCheck3 s i then 3
  else if !fwRoleOk s part held then 4
  else if s.pwr.dip || s.pf.commit.isSome then 5
  else 0

/-- FIRMWARE_COMMIT with its data (R393): the bank write begins, or the image is refused. -/
def commitRun (d : Dgram) (part : Nat) (held : Bool) (addr len : Nat) (s : State) : CmdRes × State :=
  let raw := blobAt s addr len
  let c := fwCheck s part held raw len
  if c != 0 then (cmdRefused c, emit 0x0809 srcCore (aw part ++ aw c) s)
  else (.later, setPart part { partSt s part with st := 4 } { s with pf.commit := some (part, parseFw raw, some d) })

/-- What FIRMWARE_COMMIT does: its transfer's data first (R321). -/
def commitKern (d : Dgram) (p : PeerRec) (fl : Nat) (args : Bytes) (s : State) : CmdRes × State :=
  if !zeroAt args 1 3 then (.now stMalformed 0 [], s)
  else signalGate p.index (fld args 4 4) (fld args 16 8) d s (commitRun d (byteAt args 0) (bitOf fl 0) (fld args 8 8) (fld args 16 8))

/-- FIRMWARE_COMMIT (R393). -/
def execFirmwareCommit (d : Dgram) (s : State) : Host.Outcome State Fault Refusal := live (critical 5 24 1 d · (commitKern d)) s

/-- What a part's restart does (R394): 1 the supervisor, 2 the loops, 3 the protocol engine is silent, 4 the regions reload the model. -/
def partRestart (k : Nat) (byFilter : Bool) (s : State) : State :=
  let s := setPart k { partSt s k with st := 2, restartAt := s.clock, byFilter := byFilter } s
  if k = 1 then supervisorRestartOp s
  else if k = 2 then loopRestartFree s
  else if k = 3 then { s with hl.session := (s.hl.session + 1) % 65536 }
  else if k = 4 then
    let s := warmStart 4 s
    match s.fc.mdl.active with
    | some m => { s with fc.mdl.next := some m, fc.mdl.st := 2, fc.mdl.begun := false }
    | none => s
  else s

/-- FIRMWARE_ACTIVATE (R393, R394): the bank write is complete; the bank is activated by the part's restart, that of the cast-on image by the next chip reset. -/
def execFirmwareActivate (s : State) : Host.Outcome State Fault Refusal :=
  live (fun s =>
    match s.pf.commit with
    | none => s
    | some (k, img, cmd) =>
      if s.pwr.dip then { s with pf.deferred := true }
      else
        let x := partSt s k
        let nb := 1 - x.bank
        let x := { x with banks := (List.range 2).map (fun i => if i = nb then some img else nth x.banks i none) }
        let x := if k = 5 then { x with bootBank := true, st := 1 } else { x with bank := nb, since := uptime s, raised := false }
        let s := emit 0x0807 srcCore (aw k ++ aw img.version ++ aw nb) (setPart k x { s with pf.commit := none })
        let s := if k = 5 then s else partRestart k false s
        match cmd with
        | some d => finishCmd d stOk 0 [] s
        | none => s) s

/-- A part goes back to its previous bank (R394). -/
def revertPart (k : Nat) (s : State) : State :=
  let x := partSt s k
  let v := partVersion s k
  let s := emit 0x0808 srcCore (aw k ++ aw v ++ aw (if x.byFilter then 2 else 1)) s
  setPart k { x with bank := 1 - x.bank, since := uptime s, raised := false, young := false } s

/-- FIRMWARE_REVERTED (R394): the part has not reported ready within its start limit. -/
def execFirmwareReverted (part : Nat) (s : State) : Host.Outcome State Fault Refusal :=
  live (fun s =>
    if (partSt s part).st = 2 && within 1 4 part then
      let s := partRestart part false (revertPart part (clockTo ((partSt s part).restartAt + startLimit s part) s))
      setPart part { partSt s part with st := 3 } s
    else s) s

/-- ROLLBACK_FLOOR_RISE (R395): the active image, be it one that a revert brought back, has run 600 s without a revert. -/
def execRollbackFloorRise (part : Nat) (s : State) : Host.Outcome State Fault Refusal :=
  live (fun s =>
    match partImage s part with
    | some i =>
      let x := partSt s part
      if x.raised then s
      else setPart part { x with floor := max x.floor i.rollback, raised := true } (clockTo (s.upBase + x.since + 600000000000) s)
    | none => s) s

/-! ### The access filter (R390, R391) -/

/-- A part may write an address: 1 the supervisor every window; 2 the loop microcode the loop engines; 3 the protocol engine the host link; 4 the forecast runtime the regions and the HBM. -/
def partMay (k a : Nat) : Bool :=
  let w := windowOf a
  if k = 1 then true
  else if k = 2 then w == 1
  else if k = 3 then w == 6
  else if k = 4 then (0x10 ≤ w && w ≤ 0x15) || decide (hbmBase ≤ a)
  else k == 5

/-- FIREWALL_BLOCKED (R391): a second filtered access within 1 s restarts the part. -/
def firewallBlock (k a : Nat) (s : State) : State :=
  let x := partSt s k
  let again := match x.lastBlock with
    | some t => decide (s.clock ≤ t + 1000000000)
    | none => false
  let s := emit 0x080D srcCore (aw k ++ aq a) (setPart k { x with lastBlock := if again then none else some s.clock } s)
  if again then partRestart k true s else s

/-- FIREWALL_BLOCKED (R391). The cast-on core itself is trusted. -/
def execFirewallBlocked (part addr : Nat) (s : State) : Host.Outcome State Fault Refusal :=
  live (fun s => if within 1 4 part then firewallBlock part addr s else s) s

/-- REGISTER_WRITE (R12): by a host peer, or by a firmware part through the access filter. -/
def execRegisterWrite (w : Writer) (addr : Nat) (value : Word) (s : State) : Host.Outcome State Fault Refusal :=
  live (fun s =>
    match w with
    | .peer p => (regWrite p addr value.toNat s).2
    | .part k => if partMay k addr then (regWrite 0xFFFF addr value.toNat s).2 else if within 1 4 k then firewallBlock k addr s else s) s

end Sys2Proof.Machine
end

