-- ==== Sys2Proof/Machine/CastOn.lean ====
section
/-! DEFINITION. Cast-on (R416 to R418): the ROM, memory and self-test, parts, identity store, the choice and loading of a pattern (R374 to R380), completion. -/

namespace Sys2Proof.Machine

/-! ### Phases 0 to 3 -/

/-- Phase 1: the bank that the ROM boots. A new cast-on image is active from this reset; true where an image failed and the previous bank boots (R392, R394, R418). -/
def castBank (bad : Bool) (s : State) : Bool × State :=
  let x := partSt s 5
  let s := if x.bootBank then setPart 5 { x with bank := 1 - x.bank, bootBank := false, young := true, since := uptime s, raised := false } s else s
  (bad || ((partSt s 5).young && decide (3 ≤ s.glb.wdCount)), s)

/-- The boot number, SEQ and the sessions (R354, R305). -/
def newBoot (s : State) : State :=
  let b := s.ev.boot + 1
  { s with
    ev.boot := b
    ev.seqNext := b * 2 ^ 40
    ev.bootFirst := b * 2 ^ 40
    hl.session := (s.hl.session + 1) % 65536
    hl.upSince := s.clock }

/-- The records with which a boot begins: RESET_CAUSE, SUPPLY_ORDER, a strap fault (R408, R234). -/
def bootRecords (s : State) : State :=
  let s := emit 0x0101 srcCore (aw s.glb.rstCause ++ aw s.ev.boot ++ aw s.glb.wdPhase ++ aw s.glb.wdCount) s
  let s := match s.glb.supplyOrder with
    | some v => emit 0x0107 srcChip (aw v) { s with glb.supplyOrder := none }
    | none => s
  if strapsOk s then s else strapFault (if slotB s then 0 else 1) s

/-- The rows scheduled in stack `k` are repaired (R59); one lost unit is one row (DESIGN CHOICE: no rule gives a row's size). -/
def repairRows (k : Nat) (s : State) : State :=
  let n := (s.hw.repair.filter (fun r => r.1 == k)).length
  if n = 0 then s
  else emit 0x0A06 (src 9 k) (aw k ++ aw n) { s with hw.repair := s.hw.repair.filter (fun r => r.1 != k) }

/-- HBM: the stacks that train, the rows repaired, the recorder's extension (R59, R67, R357). -/
def hbmStart (c : CastInfo) (s : State) : State :=
  let bad := (List.range (regionCount s)).filter (fun k => c.stacksBad.contains k)
  let s := each bad (fun k s =>
    let s := holdContainer k s
    let s := { s with fc.lostStacks := s.fc.lostStacks ++ [k], fc.reform := true }
    let s := setReg k { regSt s k with stackLost := true } s
    setErr (fcRegErr k) 4 (emit 0x0A07 (src 9 k) (aw k ++ aw 1 ++ aw (workingStacks s)) (countQuar s))) s
  let s := each (stacksUp s) repairRows s
  reformStacks { s with ev.hbmOk := true, ev.hbmCap := 16777216 * workingStacks s / regionCount s }

/-- A forecast region after its self-test: 24 tiles in their own positions (R39, R66). -/
def regionStart (k : Nat) (s : State) : State :=
  setReg k { regSt s k with st := 2, tiles := (List.range 24).map (fun t => (t, ({ phys := 24 * k + t, st := 1 } : TileSt))) } s

/-- The self-tests of the array and the CTL blocks (R24, R66, R162, R294, R346). -/
def selfTests (c : CastInfo) (s : State) : State :=
  let s := each (List.range (regionCount s)) regionStart s
  let s := each c.tilesBad (fun ph s =>
    if 144 ≤ ph then countQuar { s with fc.spares := tset s.fc.spares (ph - 144) { quar := true } }
    else tileQuarantine (ph / 24) (ph % 24) 3 s) s
  let s := each c.storesBad (fun k s => regionOffline k 1 s) s
  if c.scBad then emit 0x0606 (src 7 0) (aw 0 ++ aw 0) { (countQuar s) with sc.quar := true } else s

/-- Phase 3: parts 1 to 4 are verified and started; one that does not start runs its previous bank (R391, R394). -/
def partsStart (bad : List Nat) (s : State) : State :=
  each [1, 2, 3, 4] (fun k s =>
    if bad.contains k then
      let s := revertPart k s
      setPart k { partSt s k with st := 3 } s
    else setPart k { partSt s k with st := 1, since := uptime s, raised := false, lastBlock := none, byFilter := false } s) s

/-! ### Phase 4: the identity store (R374, R399) -/

/-- This cast-on is counted in the slot data. -/
def slotSeen (x : Bytes × Nat) (s : State) : Bytes × Nat := (s.hw.target, (x.2 + 1) % 2 ^ 32)

/-- The store that the cast-on finds (R399): the one seen last, none, or another one, of which every byte is its maker's. -/
def idsPlugged (x : Option (Option IdsStore)) (s : State) : State :=
  match x with
  | none => s
  | some none => { s with hw.idsAnswers := false }
  | some (some i) =>
    { s with
      hw.idsAnswers := true
      hw.idsHeader := i.header
      hw.idsBlk0 := i.blk0
      hw.idsBlk1 := i.blk1
      hw.idsSlotA := i.slotA
      hw.idsSlotB := i.slotB
      hw.idsGauge := i.gauge }

/-- The store is read (R374, R399); the anchor is adopted where its own slot is empty. -/
def idsStart (s : State) : State :=
  let s := idsReach { s with pf.idsOk := idsReadable s, pf.idsBlock := (match idsBlock s with | some (k, _) => k | none => 0) }
  if !idsReadable s then s
  else
    let s := if slotB s then { s with hw.idsSlotB := slotSeen s.hw.idsSlotB s } else { s with hw.idsSlotA := slotSeen s.hw.idsSlotA s }
    match s.pf.anchor, idsBlock s with
    | none, some (_, b) => if allZero (idsAnchor b) then s else setAnchor (idsAnchor b) 1 s
    | _, _ => s

/-! ### Phase 5: the pattern (R378 to R380) -/

/-- A slot's pattern that passes checks 1 to 5, 7 and 8; one that fails is refused with the check (R375, R378). -/
def slotTry (p : Option Pattern) (s : State) : Option Pattern × State :=
  match p with
  | none => (none, s)
  | some p => if loadCheck s p = 0 then (some p, s) else (none, patRefused (loadCheck s p) (loadSec (loadCheck s p)) 0 s)

/-- The last rows of R378: CURRENT, else LIFELINE. -/
def chooseHeld (s : State) : Option (Pattern × Nat) × State :=
  match slotTry s.pf.current s with
  | (some p, s) => (some (p, 1), s)
  | (none, s) =>
    match slotTry s.pf.lifeline s with
    | (some l, s) => (some (l, 3), { s with pf.current := some l })
    | (none, s) => (none, s)

/-- The choice of R378: the pattern, its slot's code (R405), and the slots afterwards. -/
def choosePattern (s : State) : Option (Pattern × Nat) × State :=
  match slotTry s.pf.nextP s with
  | (some p, s) =>
    (some (p, 2), { s with pf.lifeline := s.pf.current, pf.current := some p, pf.nextP := none, pf.changeTrial := false })
  | (none, s) =>
    match (if s.pf.changeTrial then s.pf.lifeline else none) with
    | some l =>
      (some (l, 3), emit 0x0806 srcCore (aw 6 ++ aq s.round ++ aw 0)
        { s with pf.current := some l, pf.lifeline := none, pf.changeTrial := false })
    | none => chooseHeld s

/-- The selvedge latches take the pattern's section where they hold the ROM set or another section (R17). -/
def svCastOn (p : Pattern) (s : State) : State :=
  let d := shake256 p.sv.raw
  if !s.sv.patternSet || s.sv.digest != d then svLoad p.sv d s else s

/-- The plates of the table in their home places, DEMOTED (R63, R426). -/
def platesStart (s : State) : State :=
  each (pat s).plates (fun r s => setPlate r.plate { st := 1, place := some (homePlace s r.plate) } s) s

/-- A self-test fails of the engines and bus controllers, whose channels and buses the pattern names. -/
def ctlFailures (c : CastInfo) (s : State) : State :=
  let s := each c.enginesBad (fun e s => engineQuarantine e c.moves s) s
  each c.busesBad (fun k s => busQuarantine k 3 s) s

/-- A pattern is loaded into the fabric from slot code `slot`; the inconsistency of R380 is recorded. -/
def loadPattern (p : Pattern) (slot : Nat) (c : CastInfo) (s : State) : State :=
  let s := { s with pf.force := p, pf.st := 1, fc.band := p.bind.band, fc.srSeed := seedOf p, glb.slotLoaded := slot }
  let s := platesStart (ctlFailures c (busStart (lpLoad (svCastOn p s))))
  let s := takeAnchor p (emit 0x0801 srcCore (aq p.serial ++ adig p.digest ++ aw slot) s)
  let ok := idsConsistent s p.digest
  let s := { s with pf.idsWrite := true, pf.idsMatch := idsReadable s && ok }
  if idsReadable s && !ok then idsFault 5 s else s

/-! ### Phases 6 and 7 -/

/-- A retained model passes checks 1 to 10 and is resident in every region; its trial follows (R83, R416). Its adapters are kept where pattern and model are those of the boot before (R417). -/
def retainedModel (before : Option Pattern) (s : State) : State :=
  match s.fc.mdl.active with
  | none => s
  | some m =>
    let c := mdlCheck s m.raw m.raw.length
    let same := match before with
      | some p => p.digest == (pat s).digest
      | none => false
    let s := if same && c = 0 then s else { s with mem := memClear s.mem (areaBase s 4) (areaBase s 6) }
    if c != 0 then modelRefused c 0 0 { s with fc.mdl := {} }
    else storesLoaded m (bindPlates m { s with fc.mdl := { st := 3, active := some m, k := 1, startRound := s.round, keepAdapters := same } })

/-- What reverted or ended at the reset is recorded in phase 6 (R326, R427, R460). -/
def castRecords (s : State) : State :=
  let n := s.glb.ovrLatch
  let s := if n = 0 then s else
    emit 0x010A srcCore (aw n ++ aw (if s.glb.rstCause = 2 then 2 else 1)) { s with glb.ovrLatch := 0, glb.ovrLastCleared := min n 0xFFFF }
  let s := match s.dg.byReset with
    | some (ms, cause) => emit 0x0905 srcCore (aw ms ++ aw cause) { s with dg.byReset := none }
    | none => s
  each ((pat s).peers.peers.filter (fun p => (peerKey s p).isSome)) (fun (p : PeerRec) s =>
    emit 0x070D (src 8 1) (aw p.index ++ aq (ctrSt s p.index).floor) s) s

/-- Cast-on is complete: the time, and the record of the phase reached. -/
def castDone (phase : Nat) (s : State) : State :=
  let s := { s with
    glb.phase := phase
    glb.life := .up
    glb.wdCount := 0
    round := 0
    began := false
    tick := 0
    tickAt := s.clock
    t0At := s.clock }
  emit 0x0102 srcCore (aw s.glb.castonTime ++ aw s.glb.slotLoaded ++ aw phase) s

/-- Phase 6: HELD, the loops shadowing, the heartbeats and the listening time begin (R31, R137, R252). -/
def castSix (before : Option Pattern) (s : State) : State :=
  let s := castRecords (castDone 6 s)
  let cause := if s.red.strapFault then 6 else if idsBad s then 7 else 1
  let s := setRole .held cause { s with link.listenSince := some s.clock, link.listenSecond := false, lp.phase6At := s.clock }
  let s := retainedModel before s
  svFlushLog (setPart 5 { partSt s 5 with st := 1, young := false } (updateDegraded (warmStart 3 s)))

/-- Phase 5 (R416): the chosen pattern is loaded; then phase 6. Where every pattern is refused, for its plate count too, the module has no role (R236, R379; DEDUCED: R6 says that it stays HELD, which at cast-on it is not yet). -/
def castFive (before : Option Pattern) (c : CastInfo) (s : State) : State :=
  match choosePattern { s with glb.phase := 5 } with
  | (none, s) => svFlushLog (castDone 7 { s with clock := s.clock + c.timeMs * 1000000, glb.slotLoaded := 0, glb.cast := c })
  | (some (p, slot), s) =>
    let s := loadPattern p slot c s
    if c.reach = 5 then s else castSix before { s with clock := s.clock + c.timeMs * 1000000 }

/-- Phase 4 (R416): the identity store and its gauge table are read; then phase 5. -/
def castFour (before : Option Pattern) (c : CastInfo) (s : State) : State :=
  let s := gaugeTake (idsStart (idsPlugged c.ids { s with glb.phase := 4 }))
  if c.reach = 4 then s else castFive before c s

/-- Phase 3 (R416): the firmware parts start; then phase 4. -/
def castThree (before : Option Pattern) (c : CastInfo) (s : State) : State :=
  let s := partsStart c.partsBad { s with glb.phase := 3 }
  if c.reach = 3 then s else castFour before c s

/-- Phase 2 (R416): the recorder, the HBM and the self-tests; `failed`: the cast-on image of phase 1 failed. Then phase 3. -/
def castTwo (before : Option Pattern) (failed : Bool) (c : CastInfo) (s : State) : State :=
  let s := bootRecords (newBoot { s with glb.phase := 2 })
  let s := if failed then revertPart 5 s else s
  let s := selfTests c (hbmStart c s)
  if c.reach = 2 then s else castThree before c s

/-- CAST_ON (R416): from reset release to phase 6, or to phase 7 without a pattern (R379), as far as the sequence reaches. Three failed PLL locks leave the module in reset (R415). -/
def castOn (c : CastInfo) (s : State) : State :=
  if s.glb.life != .rom || s.glb.phase != 0 then s
  else if 3 < c.pllAttempts then { s with glb.life := .inReset }
  else
    let before := s.pf.current
    let s := { s with glb.clkRef := true, glb.clkMain := true, glb.clkSerdes := true, glb.clkFb := true, glb.oscOk := !s.glb.oscBad, glb.castonTime := min c.timeMs 0xFFFF }
    if c.reach = 0 then s
    else
      let (failed, s) := castBank c.castBankBad { s with glb.phase := 1 }
      if c.reach = 1 then s else castTwo before failed c s

/-- CAST_ON (R416). -/
def execCastOn (c : CastInfo) (s : State) : Host.Outcome State Fault Refusal := .next (castOn c s)

/-! ### REKNIT and REKNIT_FULL (R379, R381, R383) -/

/-- A full pattern delivered to a module without one: CURRENT is written and cast-on goes on (R379), with what its phase 2 found. -/
def firstPattern (addr len : Nat) (s : State) : CmdRes × State :=
  let raw := blobAt s addr len
  let (chk, sec) := patCheck s .first raw len
  if chk != 0 then (cmdRefused 1, patRefused chk sec 1 s)
  else
    let p := parsePattern raw
    let before := s.pf.current
    let s := loadPattern p 4 s.glb.cast (slotWrite 1 { s with pf.current := some p })
    (cmdOk, castSix before s)

/-- REKNIT with its data: a first pattern, a full load to be staged, or a re-knit. -/
def reknitRun (flags addr len : Nat) (s : State) : CmdRes × State :=
  if awaiting s then firstPattern addr len s
  else if bitOf flags 1 then stageFull addr len s
  else scheduleReknit (bitOf flags 0) addr len s

/-- What the critical command REKNIT does (R328): its transfer's data first (R321). An empty full load names no data. -/
def reknitKern (d : Dgram) (p : PeerRec) (fl : Nat) (args : Bytes) (s : State) : CmdRes × State :=
  if !zeroAt args 4 4 then (.now stMalformed 0 [], s)
  else
    let addr := fld args 8 8
    let len := fld args 16 8
    signalGate p.index (fld args 0 4) len d s (reknitRun fl addr len)

/-- The critical command REKNIT (R328). -/
def reknitCmd (d : Dgram) (s : State) : State := critical 2 24 3 d s (reknitKern d)

/-- REKNIT (R381). -/
def execReknit (d : Dgram) (s : State) : Host.Outcome State Fault Refusal := live (reknitCmd d) s

/-- REKNIT_FULL (R383). -/
def execReknitFull (d : Dgram) (s : State) : Host.Outcome State Fault Refusal := live (reknitCmd d) s

end Sys2Proof.Machine
end

