-- ==== Sys2Proof/Machine/HostLink.lean ====
section
/-! DEFINITION. The host link (chapter 10): the port, REG, bulk transfers, signals and their data, notifications, attestation (R397), KEY_SET (R330). -/

namespace Sys2Proof.Machine

/-! ### The port (R302) -/

/-- The rate tried now with an optic that advertises `ifaces` (R302): 1 is 400, 2 is 800 Gbit/s; bit 1 of `ifaces` is 800GAUI-4, without which 400 Gbit/s alone is tried. -/
def attemptRate (s : State) (ifaces : Nat) : Nat := if bitOf ifaces 1 then s.hl.tryRate else 1

/-- LINK_UP (R302) at the rate tried, with no optic that R450 leaves unpowered. The optic's temperature is a free value. -/
def linkUpOp (rate ifaces : Nat) (s : State) : State :=
  if s.hl.linkUp || s.hl.opticBad || rate != attemptRate s ifaces then s
  else
    let (w, s) := freshWord s
    let s := { s with
      hl.linkUp := true
      hl.rate := rate
      hl.fecLock := true
      hl.optic := true
      hl.opticTemp := w.toNat % 256
      hl.ifaces := ifaces
      hl.upSince := s.clock }
    let s := emit 0x0701 (src 8 0) (aw rate) s
    if rate = 1 && bitOf ifaces 1 then emit 0x0703 (src 8 0) (aw ifaces) s else s

/-- LINK_UP (R302). -/
def execLinkUp (rate ifaces : Nat) (s : State) : Host.Outcome State Fault Refusal := live (linkUpOp rate ifaces) s

/-- The optic after LINK_DOWN of a cause (R450): a removal takes it and its fault away; a fault, or an optic of more than 15 W, leaves it unpowered until it is removed. The attempts begin again. -/
def opticAfter (cause : Nat) (s : State) : State :=
  { s with
    hl.optic := s.hl.optic && cause = 1
    hl.opticBad := cause = 3 || (s.hl.opticBad && cause != 2)
    hl.opticTemp := if cause = 1 then s.hl.opticTemp else 0
    hl.ifaces := if cause = 2 then 0 else s.hl.ifaces
    hl.tryRate := 2
    hl.tryAt := s.clock }

/-- LINK_DOWN (R302): cause 1 alignment, 2 optic removed, 3 optic fault; the attempts begin again. `corr` and `uncorr` are the FEC codewords corrected and not corrected since LINK_UP or the last read, which the two saturating counts take (R331). With the link down already, a removal is no record, and an optic that is left unpowered is LINK_DOWN with cause 3 and 0 s (R450, log 133). -/
def linkDownOp (cause corr uncorr : Nat) (s : State) : State :=
  if s.hl.linkUp then
    emit 0x0702 (src 8 0) (aw ((s.clock - s.hl.upSince) / 1000000000) ++ aw cause)
      (opticAfter cause { s with
        hl.linkUp := false
        hl.rate := 0
        hl.fecLock := false
        hl.fecCorr := min 0xFFFFFFFF (s.hl.fecCorr + corr)
        hl.fecUncorr := min 0xFFFFFFFF (s.hl.fecUncorr + uncorr) })
  else if cause = 1 || (cause = 3 && s.hl.opticBad) then s
  else whenS (cause == 3) (emit 0x0702 (src 8 0) (aw 0 ++ aw cause)) (opticAfter cause s)

/-- LINK_DOWN (R302). -/
def execLinkDown (cause corr uncorr : Nat) (s : State) : Host.Outcome State Fault Refusal := live (linkDownOp cause corr uncorr) s

/-- The attempts at 800 and 400 Gbit/s alternate (R302). -/
def nextRate (h : HlSt) : Nat := if h.tryRate = 2 then 1 else 2

/-- LINK_RATE_ATTEMPT (R302): 2 s after the last attempt began, the next begins; an optic that is tried is present and readable. -/
def execLinkRateAttempt (s : State) : Host.Outcome State Fault Refusal :=
  live (fun s =>
    if s.hl.linkUp || s.hl.opticBad then s
    else
      let s := clockTo (s.hl.tryAt + 2000000000) s
      { s with hl.tryRate := nextRate s.hl, hl.tryAt := s.clock, hl.optic := true }) s

/-! ### Register access (R318) -/

/-- The response record of an operation: the request's, with status and value. -/
def regEcho (r : Bytes) (st v : Nat) : Bytes := r.take 9 ++ le st 1 ++ le 0 2 ++ le v 4

/-- One operation record (R318); its rights decide per operation. A module in SAFE answers reads only (R464). -/
def regOne (p : PeerRec) (r : Bytes) (s : State) : Bytes × State :=
  let a := fld r 0 8
  let op := byteAt r 8
  let v := fld r 12 4
  if 2 ^ 40 ≤ a || !zeroAt r 10 2 || !(op = 1 || op = 2) then (regEcho r stMalformed v, s)
  else if op = 1 then
    if !hasRight p 0 then (regEcho r stNotPermitted 0, s)
    else
      let (st, x, s) := regRead a s
      (regEcho r st x, s)
  else if !hasRight p 1 then (regEcho r stNotPermitted v, s)
  else if s.glb.role == .safe then (regEcho r stDenied v, s)
  else
    let (st, s) := regWrite p.index a v s
    (regEcho r st v, s)

/-- The operations in record order (R318). -/
def regAll (p : PeerRec) : List Bytes → State → Bytes × State
  | [], s => ([], s)
  | r :: t, s =>
    let (b, s) := regOne p r s
    let (bs, s) := regAll p t s
    (b ++ bs, s)

/-- REG (R318). The service time is the hardware's: a free value in HL_REG_LAT. A host region reset by one of the writes takes the answer with it. -/
def regCmd (d : Dgram) (s : State) : State :=
  withRequest 0x10 none d s (fun p s =>
    let n := d.payload.length / 16
    if d.payload.length % 16 != 0 || n = 0 || 64 < n then answer p.index d stMalformed 0 [] s
    else
      let (w, s) := freshWord s
      let session := s.hl.session
      let (b, s) := regAll p (recordsOf 16 d.payload) s
      if s.hl.session != session then s
      else answer p.index d stOk 0 b { s with hl.latLast := w.toNat % 65536, hl.latMax := max s.hl.latMax (w.toNat % 65536) })

/-- REG (R318). -/
def execReg (d : Dgram) (s : State) : Host.Outcome State Fault Refusal := live (regCmd (untag d)) s

/-! ### Bulk transfers (R319, R320) -/

/-- A range joins the committed ranges, which stay rising and apart. -/
def addRange : List (Nat × Nat) → Nat → Nat → List (Nat × Nat)
  | [], b, e => [(b, e)]
  | (b', e') :: t, b, e =>
    if e < b' then (b, e) :: (b', e') :: t
    else if e' < b then (b', e') :: addRange t b e
    else addRange t (min b b') (max e e')

/-- Bytes committed of the first `len`. -/
def committed (rs : List (Nat × Nat)) (len : Nat) : Nat := len - missingIn rs 0 len

/-- The missing ranges of the first `len` bytes (offset, length). -/
def missingRanges : List (Nat × Nat) → Nat → Nat → List (Nat × Nat)
  | [], a, len => if a < len then [(a, len - a)] else []
  | (b, e) :: t, a, len => (if a < min b len then [(a, min b len - a)] else []) ++ missingRanges t (max a e) len

/-- Where a bulk write may go: the staging window, and the HBM user and model space (R101, R319). -/
def bulkTarget (s : State) (a n : Nat) : Bool :=
  (decide (0x07800000 ≤ a) && decide (a + n ≤ 0x08000000)) || (decide (areaBase s 8 ≤ a) && decide (a + n ≤ hbmTop s))

/-- Data in memory. -/
def bulkPut (a : Nat) (data : Bytes) (s : State) : State :=
  if a < 0x08000000 then { s with stage := memWrN s.stage (a % 0x1000000) data } else hbmPut a data s

/-- Keeps a transfer among a peer's 16: a new one displaces the oldest. -/
def putXfer (l : List XferSt) (x : XferSt) : List XferSt :=
  if l.any (fun y => y.id == x.id) then l.map (fun y => if y.id == x.id then x else y)
  else (l ++ [x]).drop (l.length + 1 - 16)

/-- A BULK_WRITE fragment is committed, or marks its transfer as denied (R308, R319). A new start address begins the transfer anew. A fragment at an address that is not a multiple of 4 is committed as it stands (DESIGN CHOICE: R319 names no alignment, R14's is that of register accesses). -/
def bulkWriteOp (d : Dgram) (s : State) : State :=
  match accept 0x11 d s with
  | (none, s) => s
  | (some p, s) =>
    let b := d.payload
    let id := fld b 0 4
    let base := fld b 8 8
    let off := fld b 16 8
    let data := b.drop 24
    if !hasRight p 2 || s.glb.role == .safe || b.length < 28 || 24 + 8192 < b.length || data.length % 4 != 0 || !zeroAt b 4 4 || 2 ^ 30 < off + data.length then s
    else
      let l := tgetD s.hl.xfers p.index []
      let fresh : XferSt := { id := id, base := base }
      let x := match findXfer s p.index id with
        | some y => if y.base = base then y else fresh
        | none => fresh
      if d.round < x.newest then s
      else
        let x := { x with newest := d.round, last := s.clock }
        if bulkTarget s (base + off) data.length then
          let x := { x with ranges := addRange x.ranges off (off + data.length) }
          bulkPut (base + off) data { s with hl.xfers := tset s.hl.xfers p.index (putXfer l x) }
        else { s with hl.xfers := tset s.hl.xfers p.index (putXfer l { x with denied := true }) }

/-- BULK_WRITE (R319). -/
def execBulkWrite (d : Dgram) (s : State) : Host.Outcome State Fault Refusal := live (bulkWriteOp (untag d)) s

/-- BULK_STATUS (R319): transfer identifier (4), length (4); answered with the committed count (8) and the missing ranges. -/
def bulkStatusOp (d : Dgram) (s : State) : State :=
  withRequest 0x15 (some 2) d s (fun p s =>
    if d.payload.length != 8 then answer p.index d stMalformed 0 [] s
    else
      let id := fld d.payload 0 4
      let len := fld d.payload 4 4
      match xferDenied p.index id s with
      | (true, s) => answer p.index d stDenied 0 [] s
      | (false, s) =>
        let rs := match findXfer s p.index id with
          | some x => x.ranges
          | none => []
        answer p.index d stOk 0 (le (committed rs len) 8 ++ (((missingRanges rs 0 len).take 64).map (fun (r : Nat × Nat) => le r.1 8 ++ le r.2 8)).flatten) s)

/-- BULK_STATUS (R319). -/
def execBulkStatus (d : Dgram) (s : State) : Host.Outcome State Fault Refusal := live (bulkStatusOp (untag d)) s

/-- Words read in ascending order from `a`, with the last status that is not OK (R320). -/
def bulkWords : Nat → Nat → State → Bytes × Nat × State
  | 0, _, s => ([], stOk, s)
  | n + 1, a, s =>
    let (st, v, s) := regRead a s
    let (b, st', s) := bulkWords n (a + 4) s
    (le v 4 ++ b, (if st' = stOk then st else st'), s)

/-- The BULK_DATA fragments of `n` bytes from `a`: the fragment number, then the fragments still to make. -/
def bulkFrags (d : Dgram) (a n total : Nat) : Nat → Nat → State → List Dgram × State
  | 0, _, s => ([], s)
  | k + 1, i, s =>
    let off := 8192 * i
    let (b, st, s) := bulkWords (min 8192 (n - off) / 4) (a + off) s
    let m := mkResp s { d with typ := 0x13 } st 0 (le off 8 ++ b) 0 i total
    let (l, s) := bulkFrags d a n total k (i + 1) s
    (m :: l, s)

/-- BULK_READ (R320): address (8), length (8), at most 64 MB. A length that is no multiple of 4 is answered MALFORMED, an address that is none ALIGNMENT (DESIGN CHOICE: R14 speaks of ALIGNMENT for another width, R320 of no length's multiple). -/
def bulkReadOp (d : Dgram) (s : State) : State :=
  withRequest 0x12 (some 3) d s (fun p s =>
    let a := fld d.payload 0 8
    let n := fld d.payload 8 8
    if d.payload.length != 16 || n = 0 || n % 4 != 0 || 64 * 2 ^ 20 < n || 2 ^ 40 < a + n then answer p.index d stMalformed 0 [] s
    else if a % 4 != 0 then answer p.index d stAlign 0 [] s
    else
      let k := (n + 8191) / 8192
      let (l, s) := bulkFrags d a n k k 0 s
      answerWith p.index d l s)

/-- BULK_READ (R320). -/
def execBulkRead (d : Dgram) (s : State) : Host.Outcome State Fault Refusal := live (bulkReadOp (untag d)) s

/-! ### Signals and their data (R321) -/

/-- What a DOORBELL does once its data is complete: status and detail of its answer. -/
def doorbellRun (p : Nat) (d : Dgram) (s : State) : Nat × Nat × State :=
  if fld d.payload 8 4 = 0 then (stOk, 0, s)
  else
    match scApply opPost { party := .peer p, counter := fld d.payload 12 2, n := fld d.payload 16 4 } s with
    | (some (st, det, _), s) => (st, det, s)
    | (none, s) => (stOk, 0, s)

/-- A DOORBELL's layout: action 0 or 1; a POST names a counter and at least one unit (R334). -/
def doorbellBad (d : Dgram) : Bool :=
  let b := d.payload
  b.length != 20 || 2 ≤ fld b 8 4 || !zeroAt b 14 2 || (fld b 8 4 == 1 && (fld b 16 4 == 0 || decide (4096 ≤ fld b 12 2)))

/-- DOORBELL (R321): right 2, and right 4 for its POST. -/
def doorbellOp (d : Dgram) (s : State) : State :=
  withRequest 0x14 (some 2) d s (fun p s =>
    if doorbellBad d then answer p.index d stMalformed 0 [] s
    else if fld d.payload 8 4 = 1 && !hasRight p 4 then answer p.index d stNotPermitted 0 [] s
    else
      let id := fld d.payload 0 4
      let len := fld d.payload 4 4
      match xferDenied p.index id s with
      | (true, s) => answer p.index d stDenied 0 [] s
      | (false, s) =>
        if xferMissing s p.index id len = 0 then
          let (st, det, s) := doorbellRun p.index d s
          settleMsgs (answer p.index d st det [] (whenS (st == stOk) (forgetXfer p.index id) s))
        else
          sendAck d { s with hl.waits := s.hl.waits ++ [{ peer := p.index, xfer := id, len := len, round := s.round, d := d }] })

/-- DOORBELL (R321). -/
def execDoorbell (d : Dgram) (s : State) : Host.Outcome State Fault Refusal := live (doorbellOp (untag d)) s

/-- Answers a critical command whose peer and key reference were found before it ran. -/
def answerAs (who : Option (PeerRec × Nat)) (d : Dgram) (res : CmdRes) (s : State) : State :=
  match who, res with
  | some (p, r), .now st det pl => tagAnswer p (keyOf s r) d st det pl s
  | _, _ => s

/-- The peer and key reference of a critical datagram. -/
def critPeer (s : State) (d : Dgram) : Option (PeerRec × Nat) :=
  match senderOf s d with
  | some p => (peerKey s p).map (fun r => (p, r))
  | none => none

/-- Forgets a signal's transfer where the signal succeeds (R319). -/
def forgetTook (w : WaitSig) (ok : Bool) (s : State) : State := whenS ok (forgetXfer w.peer w.xfer) s

/-- A waiting signal takes effect: a stitch-counter operation, a DOORBELL, or a critical command (R321, R341); a success forgets its transfer (R319). -/
def runSignal (w : WaitSig) (s : State) : State :=
  match w.sc with
  | some k =>
    match scApply w.op k (fullEnds k.counter k.party s) with
    | (some (st, det, v), s) => deliver w.op k st det v (forgetTook w (st == stOk) s)
    | (none, s) => s
  | none =>
    if w.d.typ = 0x14 then
      let (st, det, s) := doorbellRun w.peer w.d s
      answer w.peer w.d st det [] (forgetTook w (st == stOk) s)
    else
      let who := critPeer s w.d
      let args := critArgs w.d
      let (res, s) :=
        if critCode w.d = 1 then activateRun w.d (fld args 8 8) (fld args 16 8) s
        else if critCode w.d = 2 then reknitRun (critFlags w.d) (fld args 8 8) (fld args 16 8) s
        else commitRun w.d (byteAt args 0) (bitOf (critFlags w.d) 0) (fld args 8 8) (fld args 16 8) s
      answerAs who w.d res (forgetTook w (cmdTook res) s)

/-- Signals of a transfer whose every byte has been committed. -/
def readySignals (s : State) (peer xfer : Nat) : List WaitSig :=
  s.hl.waits.filter (fun w => !w.behind && w.peer == peer && w.xfer == xfer && xferMissing s peer xfer w.len == 0)

/-- The signals that wait on the transfer take effect (R321). -/
def dataComplete (peer xfer : Nat) (s : State) : State :=
  match readySignals s peer xfer with
  | [] => s
  | ws => settleMsgs (each ws runSignal { s with hl.waits := s.hl.waits.filter (fun w => !ws.contains w) })

/-- One signal fails with DATA_LATE: the detail is the missing byte count; the transfer is kept. -/
def lateSignal (w : WaitSig) (s : State) : State :=
  let miss := xferMissing s w.peer w.xfer w.len
  let s := emit 0x0709 (src 8 0) (aw w.peer ++ aw w.xfer ++ aw miss) { s with hl.waits := s.hl.waits.erase w }
  match w.sc with
  | some k => deliver w.op k stDataLate miss 0 (fullEnds k.counter k.party s)
  | none =>
    if w.d.typ = 0x14 then answer w.peer w.d stDataLate miss [] s
    else answerAs (critPeer s w.d) w.d (.now stDataLate miss []) s

/-- The signals of a transfer that the t0 of round r + 2 has found without their data (R321). -/
def dataLateOp (peer xfer : Nat) (s : State) : State :=
  settleMsgs (each (s.hl.waits.filter (fun w => !w.behind && w.peer == peer && w.xfer == xfer && decide (w.round + 2 ≤ s.round) && xferMissing s peer xfer w.len != 0)) lateSignal s)

/-- TRANSFER_FORGOTTEN (R319): 10 s after its last fragment. -/
def execTransferForgotten (peer xfer : Nat) (s : State) : Host.Outcome State Fault Refusal :=
  live (fun s =>
    match findXfer s peer xfer with
    | some x => forgetXfer peer xfer (clockTo (x.last + 10000000000) s)
    | none => s) s

/-! ### Notifications (R309, R322) -/

/-- Register window base of the block whose ERR register lies at `a`; the redundancy block and the swatch block have the second of their window. -/
def errBase (a : Nat) : Nat :=
  if a / 0x1000000 = 2 then a / 0x10000 * 0x10000 else if a = 0x1010 then 0x1000 else if a = 0x08100000 then a else a / 0x1000000 * 0x1000000

/-- ERR bits of a peer that no NOTIFY it acknowledged has carried and that are enabled. -/
def pendingErr (s : State) (p : Nat) : List Nat :=
  (tgetD s.hl.sentErr p [] ++ tgetD s.hl.newErr p []).filter (fun e => bitOf (irqEn s (e / 32)) (e % 32))

/-- The ERR registers of a list of bits, each once, rising. -/
def errRegs (l : List Nat) : List Nat := (l.foldl (fun (t : Tab Unit) e => tset t (e / 32) ()) []).map (·.1)

/-- One peer's NOTIFY: an unacknowledged one is merged into it. -/
def notifyPeer (p : Nat) (s : State) : State :=
  let l := pendingErr s p
  if l.isEmpty then s
  else
    let body := ((errRegs l).map (fun a => le (errBase a) 8 ++ le (errVal s a) 4 ++ le 0 4)).flatten
    let rest := (tgetD s.hl.newErr p []).filter (fun e => !l.contains e)
    request p 0x22 body 0 { s with
      hl.reqs := s.hl.reqs.filter (fun r => !(r.peer == p && r.d.typ == 0x22))
      hl.sentErr := tset s.hl.sentErr p (l.foldl (fun t e => if t.contains e then t else t ++ [e]) [])
      hl.newErr := tset s.hl.newErr p rest }

/-- NOTIFY (R322): at t0 + 0.50P, one to each peer with right 9. -/
def execNotify (s : State) : Host.Outcome State Fault Refusal :=
  live (fun s =>
    if !s.began || engineSilent s then s
    else each (((pat s).peers.peers.filter (fun p => hasRight p 9)).map (·.index)) notifyPeer (clockTo (s.t0At + periodNs s / 2) s)) s

/-- RETRANSMIT (R309): 1 ms without an answer; after the eighth send NOTIFY_LOST. -/
def retransmitOp (peer xid : Nat) (s : State) : State :=
  match s.hl.reqs.find? (fun r => r.peer == peer && r.d.xid == xid) with
  | none => s
  | some r =>
    let s := clockTo (r.sentAt + 1000000) s
    if r.sends < 8 then
      let s := sendDgram r.d { s with hl.reqs := s.hl.reqs.map (fun q => if q == r then { q with sends := q.sends + 1, sentAt := s.clock } else q) }
      if r.d.typ = 0x21 && r.sends = 1 then flushNotify peer s else s
    else
      let s := emit 0x070B (src 8 0) (aw peer ++ aw r.d.typ) { s with hl.reqs := s.hl.reqs.erase r }
      if r.d.typ = 0x23 then { s with ev.resumeAt := tset s.ev.resumeAt peer (s.clock + 1000000000) }
      else if r.d.typ = 0x21 && !ntfOpen peer s then flushNotify peer s
      else s

/-- RETRANSMIT (R309). -/
def execRetransmit (peer xid : Nat) (s : State) : Host.Outcome State Fault Refusal := live (retransmitOp peer xid) s

/-- ACK (R309): an ACK, or the response to a message of the module. -/
def ackOp (d : Dgram) (s : State) : State :=
  match accept d.typ d s with
  | (none, s) => s
  | (some p, s) =>
    match s.hl.reqs.find? (fun r => r.peer == p.index && r.d.xid == d.xid) with
    | none => s
    | some r =>
      if !(d.typ = 0x24 || (d.typ = r.d.typ && bitOf d.flags 0)) then s
      else
        let s := { s with hl.reqs := s.hl.reqs.erase r }
        if r.d.typ = 0x23 then { s with ev.cursors := tset s.ev.cursors p.index r.seqEnd }
        else if r.d.typ = 0x22 then { s with hl.sentErr := tdel s.hl.sentErr p.index }
        else if ntfOpen p.index s then s
        else flushNotify p.index s

/-- ACK (R309). -/
def execAck (d : Dgram) (s : State) : Host.Outcome State Fault Refusal := live (ackOp (untag d)) s

/-! ### Attestation (R397) -/

/-- The signed part of the report: bytes 0x000 to 0x35F. -/
def attestBody (nonce : Bytes) (s : State) : Bytes :=
  [0x41#8, 0x54#8, 0x53#8, 0x54#8] ++ le 1 2 ++ le 5 2 ++ slice s.hw.target 0 8 ++ le s.ev.boot 8 ++ le s.round 8 ++ le (uptime s) 8 ++
    le (roleCode s.glb.role) 1 ++ le (modeNow s) 1 ++ le (b2n (slotB s)) 1 ++ le 0 5 ++ slice nonce 0 32 ++ dig64 (pat s).digest ++
    dig64 (slotDigest s.pf.lifeline) ++ dig64 (match s.fc.mdl.active with | some m => m.digest | none => []) ++
    dig64 (if s.sv.patternSet then s.sv.digest else []) ++ dig64 (s.pf.anchor.getD []) ++ dig64 s.hw.romDigest ++
    (([1, 2, 3, 4, 5] : List Nat).map (fun k => le k 1 ++ le 0 3 ++ le (partVersion s k) 4 ++ le (partSt s k).floor 4 ++ le 0 4 ++
      dig64 (match partImage s k with | some i => i.digest | none => []))).flatten

/-- The report of 2402 bytes. -/
def attestReportBytes (nonce : Bytes) (s : State) : Bytes :=
  let b := attestBody nonce s
  let sig := Config.falconSign (shake256 b)
  b ++ slice (le sig.length 2 ++ sig) 0 1538

/-- ATTEST (R397): kind 1 the report, kind 2 the three certificates, module first. Any peer with a record may send it. -/
def attestCmd (d : Dgram) (s : State) : State :=
  withRequest 0x31 none d s (fun p s =>
    let kind := byteAt d.payload 0
    if d.payload.length != 40 || !zeroAt d.payload 1 7 || !(kind = 1 || kind = 2) then answer p.index d stMalformed 0 [] s
    else
      let rs := if kind = 1 then [mkResp s d stOk 0 (attestReportBytes (slice d.payload 8 32) s) 0 0 1]
        else (List.range 3).map (fun i => mkResp s d stOk 0 (slice (nth s.hw.certs i []) 0 4096) 0 i 3)
      emit 0x080E srcCore (aw p.index ++ aw kind) (answerWith p.index d rs s))

/-- ATTEST_REPORT (R397). -/
def execAttestReport (d : Dgram) (s : State) : Host.Outcome State Fault Refusal := live (attestCmd (untag d)) s

/-- ATTEST_CHAIN (R397). -/
def execAttestChain (d : Dgram) (s : State) : Host.Outcome State Fault Refusal := live (attestCmd (untag d)) s

/-! ### KEY_SET (R330) -/

/-- Byte by byte exclusive or. -/
def xorBytes (a b : Bytes) : Bytes := List.zipWith (· ^^^ ·) a b

/-- K_new of R330. -/
def newKey (old wrapped counter : Bytes) (ref : Nat) : Bytes := xorBytes wrapped (kmac256 old (counter ++ le ref 2) 256 strHXW1)

/-- What KEY_SET does (R330): it sets the sending peer's own reference, and no other. -/
def keySetKern (d : Dgram) (p : PeerRec) (_ : Nat) (args : Bytes) (s : State) : CmdRes × State :=
  let ref := fld args 0 2
  if !zeroAt args 2 6 then (.now stMalformed 0 [], s)
  else if ref != p.keyRef then (.now stNotPermitted 0 [], s)
  else
    (cmdOk, emit 0x070C (src 8 1) (aw p.index ++ aw ref)
      { s with ks.keys := tset s.ks.keys ref (newKey (keyOf s ref) (slice args 8 32) (tagCounter d) ref) })

/-- KEY_SET (R330): its response is tagged under the old key. -/
def execKeySet (d : Dgram) (s : State) : Host.Outcome State Fault Refusal := live (critical 15 40 0 d · (keySetKern d)) s

end Sys2Proof.Machine
end

