-- ==== Sys2Proof/Machine/Freeze.lean ====
section
/-! DEFINITION. Freeze: requests, THAW, the freeze point (R453 to R457). -/

namespace Sys2Proof.Machine

/-! ### Requests (R453, R454) -/

/-- A freeze request of source 1, FREEZE_N, or 2, the command: by role it is refused, waits for a handover, or waits for its freeze point. -/
def freezeRequest (source : Nat) (held : Bool) (s : State) : CmdRes × State :=
  if s.dg.pend != 0 then (cmdRefused 3, s)
  else
    let s := { s with dg.source := source, dg.outcome := 0 }
    if s.glb.role == .alone && source = 1 then (.now stRefused 0 [], freezeRefused 1 3 s)
    else if s.glb.role == .alone && !held then (cmdRefused 1, freezeRefused 2 1 s)
    else
      let s := emit 0x0901 srcChip (aw source ++ aw (roleCode s.glb.role) ++ aw (b2n held)) s
      if s.glb.role == .active then (.later, requestHandover 7 none 0 { s with dg.pend := 2 })
      else (.later, { s with dg.pend := 1 })

/-- What FREEZE does (R454): it is answered at the freeze point. -/
def freezeKern (d : Dgram) (_ : PeerRec) (fl : Nat) (_ : Bytes) (s : State) : CmdRes × State :=
  match freezeRequest 2 (bitOf fl 0) s with
  | (.later, s) => (.later, { s with dg.frzCmd := some d })
  | (r, s) => (r, s)

/-- FREEZE (R454). -/
def execFreeze (d : Dgram) (s : State) : Host.Outcome State Fault Refusal := live (critical 7 0 1 d · (freezeKern d)) s

/-- FREEZE_N has been high for 1 ms since the reset, or was before (R453). -/
def freezeArmed (s : State) : Bool := s.dg.freezeNArmed || (s.dg.freezeN && decide (s.dg.freezeNSince + 1000000 ≤ s.clock))

/-- The chip can be frozen: it runs, or stands in cast-on without a role (R454). -/
def freezable (s : State) : Bool := s.glb.life == .up || s.glb.life == .rom

/-- FREEZE_N_FALL (R453): the pin falls and stays low for 1 µs or more; a shorter low is no request. -/
def freezeNFall (lowNs : Nat) (s : State) : State :=
  if lowNs < 1000 || !s.dg.freezeN then s
  else
    let armed := freezeArmed s
    let s := { s with dg.freezeN := false, dg.freezeNArmed := armed }
    if armed && freezable s then (freezeRequest 1 false s).2 else s

/-- FREEZE_N_FALL (R453). -/
def execFreezeNFall (lowNs : Nat) (s : State) : Host.Outcome State Fault Refusal := .next (freezeNFall lowNs s)

/-- THAW (R455): it cancels a pending freeze, whose command is answered with the same cause. -/
def thawCmd (s : State) : CmdRes × State :=
  if s.dg.pend = 0 then (cmdRefused 1, s)
  else
    let cmd := s.dg.frzCmd
    let s := freezeRefused s.dg.source 4 { s with dg.pend := 0, dg.frzCmd := none }
    let s := cancelHandover 7 s
    (cmdOk, match cmd with
      | some d => finishCmd d stRefused 4 [] s
      | none => s)

/-- What THAW does (R455). -/
def thawKern (_ : Dgram) (_ : PeerRec) (_ : Nat) (_ : Bytes) (s : State) : CmdRes × State := thawCmd s

/-- THAW (R455). -/
def execThaw (d : Dgram) (s : State) : Host.Outcome State Fault Refusal := live (critical 8 0 0 d · (thawKern d)) s

/-! ### The freeze point (R455 to R457) -/

/-- A SAFE entry of R464 is under way. -/
def safePending (s : State) : Bool :=
  match s.red.ho with
  | some h => h.cause == 6
  | none => false

/-- The freeze point (R455 to R457): the answer, the work in progress, the last record, the output enables, the gated clocks. Transfers in flight, queues and latches stay as they stand, for the read-out. -/
def freezeOp (s : State) : State :=
  let cmd := s.dg.frzCmd
  let s := { s with dg.pend := 0, dg.frzCmd := none }
  let s := match cmd with
    | some d => finishCmd d stOk 0 [] s
    | none => s
  let s := swAbortAll 6 (fun _ => true) s
  let s := if s.pf.st = 2 then { s with pf.st := 1, pf.sched := none, pf.deferred := false } else s
  let s := emit 0x0903 srcChip (aq s.round ++ aw (roleCode s.glb.role)) s
  { s with
    glb.life := .frozen
    red.driving := false
    red.timeMaster := false
    red.watch := false
    dg.frozenAt := s.clock
    dg.frozenRole := s.glb.role
    dg.thawRefused := false }

/-- FREEZE_POINT (R455): the first tick boundary after acceptance, or after the RELEASE pulse of a handover, once a SAFE entry is complete. -/
def execFreezePoint (s : State) : Host.Outcome State Fault Refusal :=
  .next (
    if freezable s && s.dg.pend = 1 && !safePending s && s.glb.role != .active then
      let s := clockTo s.link.releaseEnd s
      freezeOp (if s.began then clockTo (tickAfter s s.clock) s else s)
    else s)

end Sys2Proof.Machine
end

