-- ==== Sys2Proof/Machine/Mirror.lean ====
section
/-! DEFINITION. Receiving the mirror stream (R137, R253, R254, R317) and, with it, the partner's overrides and round number. -/

namespace Sys2Proof.Machine

/-- A loop snapshot record (R317, subtype 2): channel and state. -/
def snapRec (b : Bytes) : Nat × SnapRec :=
  let f := byteAt b 2
  (fld b 0 2, { law := f % 8, tripped := bitOf f 3, approach := bitOf f 4, cnt := fld b 4 2, spEff := sgn 16 (fld b 6 2), acc := sgn 40 (fld b 8 5),
                fe := fld b 16 4, tick := fld b 20 4 })

/-- Fragments received of a message of `n`: a round, its fragment count, a bit for each one received. -/
def fragSeen (t : Nat × Nat × Nat) (d : Dgram) : Nat × Nat × Nat :=
  let t := if t.1 = d.round && t.2.1 = d.frags then t else (d.round, d.frags, 0)
  (d.round, d.frags, Nat.lor t.2.2 (2 ^ (d.frag % 65536)))

/-- Every fragment has arrived. -/
def fragsAll (t : Nat × Nat × Nat) : Bool := t.2.2 == 2 ^ t.2.1 - 1

/-- The snapshot of a round is complete with both its subtypes: channels and estimator slots (R317). Its accumulators wait for the round boundary (R137). -/
def snapsComplete (s : State) : State :=
  if s.mir.snapRound = s.mir.estRound && s.mir.snapFrags.2.1 != 0 && s.mir.estFrags.2.1 != 0 then { s with link.snapAge := 0, mir.estReady := s.mir.est } else s

/-- Subtype 2. -/
def mirSnaps (d : Dgram) (body : Bytes) (s : State) : State :=
  let t := fragSeen s.mir.snapFrags d
  let part := if t.2.2 = 2 ^ (d.frag % 65536) then [] else s.mir.snapPart
  let part := (recordsOf 24 body).foldl (fun p b => let e := snapRec b; tset p e.1 e.2) part
  let s := { s with mir.snapFrags := t, mir.snapPart := part }
  if fragsAll t then snapsComplete { s with mir.snaps := part, mir.snapRound := d.round } else s

/-- Subtype 3. -/
def mirEst (d : Dgram) (body : Bytes) (s : State) : State :=
  let t := fragSeen s.mir.estFrags d
  let part := if t.2.2 = 2 ^ (d.frag % 65536) then [] else s.mir.estPart
  let part := (recordsOf 8 body).foldl (fun p b => tset p (fld b 0 2) (sgn 40 (fld b 2 5))) part
  let s := { s with mir.estFrags := t, mir.estPart := part }
  if fragsAll t then snapsComplete { s with mir.est := part, mir.estRound := d.round } else s

/-- Subtype 4: the newest mirrored record of each plate. -/
def mirLeases (d : Dgram) (body : Bytes) (s : State) : State :=
  { s with
    mir.leases := (recordsOf 48 body).foldl (fun t b => tset t (fld b 8 2) b) s.mir.leases
    mir.leaseRound := d.round
    link.leaseAge := 0 }

/-- The value an override register has without its override. -/
def ovrDefault (s : State) (a : Nat) : Nat :=
  let w := windowOf a
  let off := a % 0x1000000
  if a = 0x1008000C then (seedOf (pat s)).toNat
  else if a = 0x1010005C then (pat s).bind.band
  else if a = 0x0400002C then 0x02000000
  else if w = 0x16 && off != 0x1004 then (if 0x300000 ≤ off then (pat s).alloc.defaultClass * 2 ^ 30 + 0xFFFFFF else 0xFFFFFFFF)
  else if w = 1 && 0x20000 ≤ off then
    match chanRec s ((off - 0x20000) / 64) with
    | some r => nth (if 32 ≤ off % 64 then r.bankBw else r.bankA) (off / 4 % 8) 0
    | none => 0
  else 0

/-- One override record (subtype 5): in force, or reverted (R254). -/
def mirOverride (b : Bytes) (s : State) : State :=
  let a := fld b 0 8
  if !(isOverride a && mapped s a) then s
  else if bitOf (fld b 12 4) 0 then (regPut 0xFFFF a (fld b 8 4) s).2
  else
    let s := (regPut 0xFFFF a (ovrDefault s a) s).2
    { s with glb.ovr := tdel s.glb.ovr a }

/-- One adapter record (subtype 6): it replaces the same fragment, and those of an earlier sweep. -/
def mirAdapter (b : Bytes) (s : State) : State :=
  let p := fld b 0 2
  let f := fld b 2 2
  let n := fld b 4 2
  if b.length < 24 || n ≤ f then s
  else
    let keep := s.mir.adParts.filter (fun e => !(e.1 == p && (e.2.1 == f || fld e.2.2.2 8 8 != fld b 8 8)))
    { s with mir.adParts := keep ++ [(p, f, n, b)] }

/-- The round number of the driving module is taken (R31, R253): the tick count follows it. -/
def takeRound (n : Nat) (s : State) : State :=
  let k := ticksPerRound s
  { s with round := n, tick := n * k + (s.tick - s.round * k), link.roundTaken := true }

/-- Subtype 1: the digests; a module in trial whose partner is back on the lifeline frogs back (R389). -/
def mirStatus (body : Bytes) (s : State) : State :=
  let dig := slice body 16 64
  let s := { s with mir.patDigest := dig, mir.modelDigest := slice body 80 64 }
  let s := if drives s then s else takeRound (fld body 0 8) s
  if s.pf.st = 3 && s.pf.lifeline.isSome && dig64 (slotDigest s.pf.lifeline) == dig then { s with pf.frog := some (s.pf.frog.getD (5, 0)) } else s

/-- Subtype 7: the partner's acceptance of a relock (R228). A refusal of another command leaves the acceptance it gave before as it stands. -/
def mirRelock (body : Bytes) (s : State) : State :=
  let r := (slice body 0 64, fld body 64 8, bitOf (fld body 72 4) 0)
  match s.mir.relock with
  | some (dig, nt, ok) => if ok && !r.2.2 && !(dig == r.1 && nt == r.2.1) then s else { s with mir.relock := some r }
  | none => { s with mir.relock := some r }

/-- A MIRROR message of subtype `t` (R317). -/
def mirrorTake (t : Nat) (d : Dgram) (body : Bytes) (s : State) : State :=
  if t = 1 then (if body.length = 144 then mirStatus body s else s)
  else if t = 7 then (if body.length = 80 then mirRelock body s else s)
  else if drives s then (if t = 6 && s.fc.adLost.contains (fld body 0 2) then mirAdapter body s else s)
  else if t = 2 then mirSnaps d body s
  else if t = 3 then mirEst d body s
  else if t = 4 then mirLeases d body s
  else if t = 5 then each (recordsOf 16 body) mirOverride s
  else if t = 6 then mirAdapter body s
  else s

/-- MIRROR_RECEIVE (R308, R317): from the partner, with right 8; a message older than the newest of its subtype is discarded. -/
def mirrorReceive (d : Dgram) (s : State) : State :=
  match accept 4 d s with
  | (none, s) => s
  | (some p, s) =>
    let t := fld d.payload 0 4
    if s.glb.role == .safe || !hasRight p 8 || p.index != (pat s).red.partner || d.payload.length < 4 || !(d.frag < d.frags) || d.round < tgetD s.mir.lastRound t 0 then s
    else mirrorTake t d (d.payload.drop 4) { s with mir.lastRound := tset s.mir.lastRound t d.round }

/-- MIRROR_RECEIVE (R317). -/
def execMirrorReceive (d : Dgram) (s : State) : Host.Outcome State Fault Refusal := live (mirrorReceive (untag d)) s

end Sys2Proof.Machine
end

