-- ==== Sys2Proof/Machine/Stores.lean ====
section
/-! DEFINITION. The stores of the forecast array as a read-out shows them (R42, R43, R84, R462): partitions, plate slots, resident model. Contents that no rule fixes are free values. -/

namespace Sys2Proof.Machine

/-- Codes packed as in memory (chapter 02, packing table). -/
def packCodes (f : Nat) (cs : List Nat) : Bytes :=
  if f = 8 then (List.range ((cs.length + 1) / 2)).flatMap (fun i => le (nth cs (2 * i) 0 + 16 * nth cs (2 * i + 1) 0) 1)
  else if f = 6 || f = 7 then
    (List.range ((cs.length + 3) / 4)).flatMap (fun i =>
      le (nth cs (4 * i) 0 + 2 ^ 6 * nth cs (4 * i + 1) 0 + 2 ^ 12 * nth cs (4 * i + 2) 0 + 2 ^ 18 * nth cs (4 * i + 3) 0) 3)
  else cs.flatMap (fun c => le c (codeBytes f))

/-- Exactly `n` bytes: cut, or filled with zeros. -/
def fit (n : Nat) (bs : Bytes) : Bytes := slice bs 0 n

/-! ### Plate slots (R84) -/

/-- The 64-byte head and the channel entries of a plate-table record (R85). -/
def plateRecBytes (r : PlateRec) : Bytes :=
  le r.plate 2 ++ le r.rack 1 ++ le r.manifold 1 ++ le r.position 2 ++ le r.chans.length 2 ++ le r.rated 4 ++ le r.floor 4 ++ le r.band 2 ++
    le (b2n r.fcEnable + 2 * b2n r.adaptEnable + 4 * b2n r.selfPlate) 1 ++ le r.nHot 1 ++ le r.nStack 1 ++ le 0 1 ++ le r.estCh 2 ++ le r.addr 8 ++
    le r.limHot 2 ++ le r.limStack 2 ++ le r.limOut 2 ++ le 0 26 ++ r.chans.flatMap (fun c => le c.kind 1 ++ le c.index 1 ++ le c.num 2)

/-- The resolved channel map: for each of 256 channels its ring column, kind and index (DESIGN CHOICE: the rule names column and kind and gives no layout of the 4 bytes). -/
def chanMapBytes (r : PlateRec) : Bytes :=
  (List.range 256).flatMap (fun i =>
    match r.chans[i]? with
    | some c => le c.num 2 ++ le c.kind 1 ++ le c.index 1
    | none => le 0 4)

/-- Recurrent state in stored form, tensors in ascending number. -/
def stateBytes (x : PlateRun) : Bytes := x.rstate.flatMap (fun t => packCodes t.2.fmt t.2.codes)


/-- The guard block: origin, staleness, excursion count, in-band count, state, forecast state (DESIGN CHOICE: the rule gives their order and the width of the first only). -/
def guardBytes (s : State) (r : PlateRec) (x : PlateRun) : Bytes :=
  le (x.tau0.getD 0) 8 ++ le (staleOf s r) 2 ++ le x.exc 2 ++ le x.inband 2 ++ le (if x.forced then 3 else x.st) 2 ++
    le (match x.fcs.getLast? with | some f => f.st | none => 0) 4

/-- The 10 KB slot of a plate (R84). -/
def plateSlotBytes (s : State) (r : PlateRec) : Bytes :=
  let x := plateRun s r.plate
  fit 256 (plateRecBytes r) ++ chanMapBytes r ++ fit 2048 (stateBytes x) ++
    fit 4096 (x.traj.flatMap (fun l => f16Bytes (l.take 82))) ++ fit 512 (guardBytes s r x) ++ fit 2304 []

/-! ### Region stores (R43) -/

/-- The resident base model in its stored format: constant tensors in the loader's order (R82), each with its scale array and scale, as far as they are resident. -/
def residentBytes (m : ModelC) : Bytes :=
  let raw (t : TensorRec) : Bytes := (m.data.drop t.off).take t.len
  ((constOrder m).flatMap (fun i =>
    match m.tensors[i]? with
    | some t => raw t ++ (if isMx t.fmt then match m.tensors[t.scaleId]? with | some u => raw u | none => [] else []) ++
        (if isScaled t.fmt then le t.scale.toNat 4 else [])
    | none => [])).take (storedBytes m - streamedBytes m)

/-- A byte of region `k`'s store; none where no rule fixes it. The slots are taken by the hosted plates in ascending order of their numbers (DESIGN CHOICE, log 136: R43 names no order). -/
def regionByte (s : State) (k b : Nat) : Option Nat :=
  if b < 24 * 2 ^ 20 then
    match s.fc.mdl.active with
    | some m => if (regSt s k).modelKb = 0 then none else ((residentBytes m)[b]?).map (·.toNat)
    | none => none
  else
    let o := b - 24 * 2 ^ 20
    match (hosted s k)[o / 10240]? with
    | some p => if o < 768 * 10240 then (plateRec s p).map (fun r => byteAt (plateSlotBytes s r) (o % 10240)) else none
    | none => none

/-! ### Tile stores (R42) -/


/-- The tensor descriptors of a container's GRAPH section as the tile holds them (R76). -/
def descBytes (m : ModelC) : Bytes :=
  ((List.range m.tensors.length).zip m.tensors).flatMap (fun e =>
    let t := e.2
    le e.1 2 ++ le t.fmt 1 ++ le t.dims.length 1 ++ (List.range 4).flatMap (fun i => le (nth t.dims i 1) 4) ++ le t.scale.toNat 4 ++ le t.kind 1 ++ le 0 1 ++
      le t.scaleId 2 ++ le 0 4 ++ le t.off 8 ++ le t.len 8)

/-- A byte of a tile's store by physical tile; none where no rule fixes it: the halves of the adapter buffer, then the rollout workspace, the input staging, the spill and the descriptors. The staging holds the windows as R89 copied them, in the order of the bindings, each plate's in its equal part, plates ascending (DESIGN CHOICE, log 135: R42 gives its size alone). -/
def tileByte (s : State) (ph b : Nat) : Option Nat :=
  match posOfPhys s ph with
  | none => none
  | some (k, t) =>
    if b < 512 * 1024 then
      (if b < 256 * 1024 then (tileSt s k t).halves.1 else (tileSt s k t).halves.2).map (fun p => (memRd s.mem (adapterBase s p + b % (256 * 1024))).toNat)
    else if 1152 * 1024 ≤ b && b < 1408 * 1024 then
      let o := b - 1152 * 1024
      let w := 256 * 1024 / tileCap s
      (platesOn s k t)[o / w]?.bind (fun p => ((f16Bytes (plateRun s p).staged)[o % w]?).map (·.toNat))
    else if 1472 * 1024 ≤ b then (s.fc.mdl.active).bind (fun m => ((descBytes m)[b - 1472 * 1024]?).map (·.toNat))
    else none

/-- A word from its four bytes; one of them without a rule makes it free. -/
def storeWord (kind idx off free : Nat) (byte : Nat → Option Nat) : Nat :=
  match byte (4 * off), byte (4 * off + 1), byte (4 * off + 2), byte (4 * off + 3) with
  | some a, some b, some c, some d => a + 256 * b + 65536 * c + 16777216 * d
  | _, _, _, _ => (Config.storeWord kind idx off free).toNat

end Sys2Proof.Machine
end

