-- ==== Sys2Proof/Machine/Signals.lean ====
section
/-! DEFINITION. Critical commands that wait behind an earlier accepted one (R329), and the ends of a signal's wait on its data (R321). -/

namespace Sys2Proof.Machine

/-- Argument length and mask of the flags of a critical command, by CODE (R328). -/
def critShape (code : Nat) : Nat × Nat :=
  if code = 1 then (24, 0)
  else if code = 2 then (24, 3)
  else if code = 5 then (24, 1)
  else if code = 7 then (0, 1)
  else if code = 9 then (8, 1)
  else if code = 10 || code = 14 then (8, 0)
  else if code = 11 || code = 12 then (4, 0)
  else if code = 13 then (72, 0)
  else if code = 15 then (40, 0)
  else (0, 0)

/-- What a critical command does, by CODE (R328). -/
def critKern (code : Nat) (d : Dgram) : PeerRec → Nat → Bytes → State → CmdRes × State :=
  match code with
  | 1 => activateKern d
  | 2 => reknitKern d
  | 3 => frogBackKern d
  | 4 => trialAcceptKern d
  | 5 => commitKern d
  | 6 => roleSwapKern d
  | 7 => freezeKern d
  | 8 => thawKern d
  | 9 => resetKern d
  | 10 => selvedgeResetKern d
  | 11 => isolateKern d
  | 12 => isolateReleaseKern d
  | 13 => relockKern d
  | 14 => swatchStartKern d
  | _ => keySetKern d

/-- The wait a command has just begun stands where the command stood, in the round the command came in (R321). -/
def waitInPlace (w : WaitSig) (l : List WaitSig) : List WaitSig :=
  let mine := l.filter (fun v => critWaits v && !v.behind && v.d == w.d)
  mine.map (fun v => { v with round := w.round }) ++ l.filter (fun v => !(critWaits v && !v.behind && v.d == w.d))

/-- A command that waited behind an earlier one executes (R329), as it would have on arrival; a chip reset that it asks for follows. -/
def runBehindOne (w : WaitSig) (s : State) : State :=
  let s := { s with hl.waits := s.hl.waits.erase w }
  match critPeer s w.d with
  | none => s
  | some (p, r) =>
    let code := critCode w.d
    let t := critExec code (critShape code).1 (critShape code).2 w.d p r s (critKern code w.d)
    resetAsked s { t with hl.waits := waitInPlace w t.hl.waits }

/-- Commands that wait behind one that has gone execute in the order of their acceptance, up to the next that waits on data (R329). The fuel is the number of waits. -/
def runBehind : Nat → State → State
  | 0, s => s
  | n + 1, s =>
    match s.hl.waits.find? critWaits with
    | some w => if w.behind then runBehind n (runBehindOne w s) else s
    | none => s

/-- The commands that nothing holds back any longer execute (R329). -/
def drainWaits (s : State) : State := runBehind s.hl.waits.length s

/-- DATA_BOUND_COMPLETE (R321). -/
def execDataBoundComplete (peer xfer : Nat) (s : State) : Host.Outcome State Fault Refusal := live (fun s => drainWaits (dataComplete peer xfer s)) s

/-- DATA_LATE (R321). -/
def execDataLate (peer xfer : Nat) (s : State) : Host.Outcome State Fault Refusal := live (fun s => drainWaits (dataLateOp peer xfer s)) s

end Sys2Proof.Machine
end

