-- ==== Sys2Proof/Machine/Thaw.lean ====
section
/-! DEFINITION. Thaw (R458, R459). -/

namespace Sys2Proof.Machine

/-- R458 accepts a thaw. -/
def thawOk (s : State) : Bool :=
  s.glb.life == .frozen && s.dg.frozenRole == .standby && decide (s.clock ≤ s.dg.frozenAt + 10000000000) && s.dg.freezeN

/-- TAKEs whose limit passed during the freeze end with its outcome (R337, R459). -/
def expiredTakes (s : State) : State :=
  let l : List (Nat × Party) := s.sc.ctrs.flatMap (fun (e : Nat × ScCtr) =>
    (e.2.queue.filter (fun w => decide (w.ends ≤ s.clock))).map (fun w => (e.1, w.call.party)))
  each l (fun (e : Nat × Party) s => takeTimeout e.1 e.2 s) s

/-- A tile's limit is a milestone of a round, which the frozen interval of `ns` moves with the timer (R459). -/
def shiftTakes (ns : Nat) (s : State) : State :=
  { s with sc.ctrs := tmap s.sc.ctrs (fun x => { x with queue := x.queue.map (fun w => match w.call.party with
    | .tile _ => { w with ends := w.ends + ns }
    | _ => w) }) }

/-- Signals whose t0 of round r + 2 passed during a freeze of `ns`, counted on the timer that stood still (R321, R459). -/
def expiredSignals (ns : Nat) (s : State) : State :=
  let n := (s.clock + ns - s.t0At) / max 1 (periodNs s)
  settleMsgs (each (s.hl.waits.filter (fun w => !w.behind && decide (w.round + 2 ≤ s.round + n) && xferMissing s w.peer w.xfer w.len != 0)) lateSignal s)

/-- The frozen interval of `ns` is missing in the telemetry ring (R459). -/
def ringGap (ns : Nat) (s : State) : State :=
  let a := s.round * (pat s).bind.period / 1000 + 1
  each ((List.range (ns / 1000000)).map (· + a)) (fun m s => each (allPlates s) (ringOpen m) s) s

/-- The clocks run again after `ns`: the timer goes on where it stood, the partner's words are waited for anew, the link is brought up again (R302, R459). -/
def resume (ns : Nat) (s : State) : State :=
  let again (t : Option Nat) : Option Nat := t.map (fun _ => s.clock)
  { s with
    glb.life := .up
    tickAt := s.tickAt + ns
    t0At := s.t0At + ns
    red.chainSince := again s.red.chainSince
    red.fbSince := again s.red.fbSince
    link.aligned := false
    link.alignRounds := 0
    link.mustStep := true
    hl.linkUp := false
    hl.rate := 0
    hl.fecLock := false
    hl.tryRate := 2
    hl.tryAt := s.clock
    dg.thawRefused := false
    dg.outcome := 1
    dg.frozenMs := min 0xFFFFFF (ns / 1000000) }

/-- A thaw proceeds (R459): source 1 FREEZE_N, 2 TAP. 10 µs after the request the clocks run; at the next tick boundary the module enters HELD and what ran out in the meantime ends. -/
def thawOp (source : Nat) (s : State) : State :=
  let s := { s with clock := s.clock + 10000 }
  let ns := s.clock - s.dg.frozenAt
  let s := resume ns s
  let s := releaseOutputs (if s.began then clockTo (tickAfter s s.clock) s else s)
  let s := setRole .held 2 s
  let s := drainWaits (expiredSignals ns (shiftTakes ns (expiredTakes s)))
  let s := ringGap ns (updateDegraded (warmStart 3 s))
  svFlushLog (emit 0x0904 srcChip (aw (ns / 1000000) ++ aw source) s)

/-- A thaw request (R458): one that fails a condition is refused, and the status shows it. -/
def thawRequest (source : Nat) (s : State) : State :=
  if s.glb.life != .frozen then s
  else if thawOk s then thawOp source s
  else { s with dg.thawRefused := true }

/-- FREEZE_N_RISE (R458): the pin is high again; a frozen module takes it as a thaw request. -/
def freezeNRise (s : State) : State :=
  let s := if s.dg.freezeN then s else { s with dg.freezeN := true, dg.freezeNSince := s.clock }
  thawRequest 1 s

/-- FREEZE_N_RISE (R458). -/
def execFreezeNRise (s : State) : Host.Outcome State Fault Refusal := .next (freezeNRise s)

end Sys2Proof.Machine
end

