-- ==== Sys2Proof/Machine/Tap.lean ====
section
/-! DEFINITION. Read-out through J4 (R461, R462): the test access port's instructions, each as one scan of its data register. The port is clocked by TCK alone and works in every state of the chip. -/

namespace Sys2Proof.Machine

/-- The next state of the test access port at a rising TCK edge, by TMS (IEEE 1149.1, R461). -/
def tapNext : TapSt → Bool → TapSt
  | .reset, tms => if tms then .reset else .idle
  | .idle, tms => if tms then .selDr else .idle
  | .selDr, tms => if tms then .selIr else .capDr
  | .capDr, tms => if tms then .exit1Dr else .shiftDr
  | .shiftDr, tms => if tms then .exit1Dr else .shiftDr
  | .exit1Dr, tms => if tms then .updDr else .pauseDr
  | .pauseDr, tms => if tms then .exit2Dr else .pauseDr
  | .exit2Dr, tms => if tms then .updDr else .shiftDr
  | .updDr, tms => if tms then .selDr else .idle
  | .selIr, tms => if tms then .reset else .capIr
  | .capIr, tms => if tms then .exit1Ir else .shiftIr
  | .shiftIr, tms => if tms then .exit1Ir else .shiftIr
  | .exit1Ir, tms => if tms then .updIr else .pauseIr
  | .pauseIr, tms => if tms then .exit2Ir else .pauseIr
  | .exit2Ir, tms => if tms then .updIr else .shiftIr
  | .updIr, tms => if tms then .selDr else .idle

/-- The port after a sequence of TMS levels. -/
def tapWalk (st : TapSt) (l : List Bool) : TapSt := l.foldl tapNext st

/-- TMS of one command of the port: an 8-bit scan of the instruction register, a scan of a data register of `n` bits, and back to Run-Test/Idle. -/
def scanTms (n : Nat) : List Bool :=
  [false, true, true, false, false] ++ List.replicate 7 false ++ [true, true, true, false, false] ++ List.replicate (n - 1) false ++ [true, true, false]

/-- The instruction that a code selects: BYPASS for a code that R461 does not list. -/
def irSelects (code : Nat) : Nat := if [0x01, 0x02, 0x10, 0x11, 0x12, 0x20].contains code then code else 0xFF

/-- Bits of the data register that an instruction selects (R461). -/
def drBits (ir : Nat) : Nat := if ir = 0x10 then 64 else if ir = 0x11 then 33 else if ir = 0x20 || ir = 0xFF then 1 else 32

/-- One command of the port: the instruction register captures 0b0000_0001 and takes the code, the data register is shifted out. -/
def tapOut (code v : Nat) (s : State) : State :=
  { s with dg.ir := code, dg.irTdo := 1, dg.tap := tapWalk s.dg.tap (scanTms (drBits (irSelects code))), dg.tdo := BitVec.ofNat 64 v }

/-- TAP_THAW (R458, R461): Update-DR of the instruction THAW. -/
def execTapThaw (s : State) : Host.Outcome State Fault Refusal := .next (thawRequest 2 (tapOut 0x20 0 s))

/-- IDCODE (R461). -/
def execIdcode (s : State) : Host.Outcome State Fault Refusal := .next (tapOut 0x01 0x100287AF s)

/-- Frozen time in ms: the present freeze's, else that of the last thawed one. -/
def frozenMsNow (s : State) : Nat := if s.glb.life == .frozen then (s.clock - s.dg.frozenAt) / 1000000 else s.dg.frozenMs

/-- FRZ_STATUS (R461). -/
def frzStatusWord (s : State) : Nat :=
  rv [(31, 1, b2n (s.glb.life == .frozen)), (30, 1, b2n (thawOk s)), (29, 1, b2n s.dg.thawRefused), (28, 1, b2n s.dg.scanEnd),
    (25, 3, roleCode s.dg.frozenRole), (24, 1, b2n s.dg.freezeN), (0, 24, min 0xFFFFFF (frozenMsNow s))]

/-- FRZ_STATUS (R461). -/
def execFrzStatus (s : State) : Host.Outcome State Fault Refusal := .next (tapOut 0x02 (frzStatusWord s) s)

/-- SCAN_SEL (R461): Update-DR sets the read pointer; the CRC restarts. -/
def scanSel (dr : Nat) (s : State) : State :=
  { (tapOut 0x10 dr s) with
    dg.scanKind := bits dr 56 8
    dg.scanIdx := bits dr 40 16
    dg.scanOff := bits dr 0 40
    dg.scanCrc := 0xFFFFFFFF#32 }

/-- SCAN_SEL (R461). -/
def execScanSel (dr : BitVec 64) (s : State) : Host.Outcome State Fault Refusal := .next (scanSel dr.toNat s)

/-- Words of the selected segment (R462); 0 where there is none. -/
def segWords (s : State) (kind idx : Nat) : Nat :=
  if kind = 1 then (if idx ≤ 8 || (0x10 ≤ idx && idx ≤ 0x16) then 0x400000 else 0)
  else if kind = 2 then (if idx / 24 < regionCount s || (144 ≤ idx && idx < 152) then 393216 else 0)
  else if kind = 3 then (if idx < regionCount s then 8388608 else 0)
  else if kind = 4 then Config.unitWords idx
  else 0

/-- The word at a segment's offset (R462). Registers read as a REG read would, without side effects; the stores of the array as R42, R43 and R84 lay them out; the units' chains are free values. -/
def segWord (s : State) (kind idx off : Nat) : Nat :=
  if kind = 1 then
    let a := idx * 0x1000000 + 4 * off
    if mapped s a then regVal s a true % 2 ^ 32 else 0
  else if kind = 4 then (Config.unitChain idx off).toNat
  else if kind = 3 then storeWord kind idx off s.freeCtr (regionByte s idx)
  else storeWord kind idx off s.freeCtr (tileByte s idx)

/-- SCAN_DATA (R461): the word, VALID in bit 32, the pointer advanced; nothing of it while the module is not frozen. -/
def scanData (s : State) : State :=
  if s.glb.life != .frozen then tapOut 0x11 0 s
  else if s.dg.scanOff < segWords s s.dg.scanKind s.dg.scanIdx then
    let v := segWord s s.dg.scanKind s.dg.scanIdx s.dg.scanOff
    { (tapOut 0x11 (v + 2 ^ 32) s) with dg.scanOff := s.dg.scanOff + 1, dg.scanEnd := false, dg.scanCrc := crcFrom s.dg.scanCrc (le v 4) }
  else { (tapOut 0x11 0 s) with dg.scanOff := s.dg.scanOff + 1, dg.scanEnd := true, dg.scanCrc := crcFrom s.dg.scanCrc (le 0 4) }

/-- SCAN_DATA (R461). -/
def execScanData (s : State) : Host.Outcome State Fault Refusal := .next (scanData s)

/-- SCAN_CRC (R461). -/
def execScanCrc (s : State) : Host.Outcome State Fault Refusal := .next (tapOut 0x12 (s.dg.scanCrc ^^^ 0xFFFFFFFF#32).toNat s)

/-- BYPASS (R461): any code that selects BYPASS, and the bit that is shifted through the one-bit register, which captured 0 (IEEE 1149.1); a code that selects another instruction is no BYPASS. -/
def execBypass (scan : Nat × Bool) (s : State) : Host.Outcome State Fault Refusal :=
  .next (if irSelects scan.1 = 0xFF then tapOut scan.1 (2 * b2n scan.2) s else s)

/-- TRST_N (R461): the test logic is reset, with IDCODE selected; the module is not. -/
def execTrstN (s : State) : Host.Outcome State Fault Refusal := .next { s with dg.ir := 0x01, dg.tap := .reset }

end Sys2Proof.Machine
end

