-- ==== Sys2Proof/Machine/Tick.lean ====
section
/-! DEFINITION. One tick of the loop layer as the chip runs it (R134, R135), with what a tick brings to the leak-stream buffer (R101) and to the allocator's inputs (R111). -/

namespace Sys2Proof.Machine

/-- Frames of the leak-stream buffer: 60 s at 50 kS/s (R101). -/
def leakFrames : Nat := 3000000

/-- Puts an 18-bit code at bit `b` of the leak-stream buffer, least significant bit first. -/
def leakPut (b code : Nat) (s : State) : State :=
  let a := areaBase s 7 + b / 8
  let w := unLe (hbmRdN s a 4)
  let old := w / 2 ^ (b % 8) % 2 ^ 18
  hbmPut a (le (w - old * 2 ^ (b % 8) + code % 2 ^ 18 * 2 ^ (b % 8)) 4) s

/-- One conversion of a pressure input HPIN00 to HPIN15 enters the leak-stream buffer: sample n of input i in frame n mod 3 000 000, at place i of the 16 (DESIGN CHOICE: R101 gives the packing's width only). -/
def leakSample (v : Conv) (s : State) : State :=
  let i := v.input - 48
  if v.input < 48 || 64 ≤ v.input || (ioRec s 2 i).isNone || arrayGated s then s
  else
    let n := tgetD s.lp.leakN i 0
    leakPut ((n * 16 + i) * 18) v.code { s with lp.leakN := tset s.lp.leakN i ((n + 1) % leakFrames) }

/-- One tick, then the tick counter (R134). In SAFE and while the loop layer is off its work is stopped (R137). The layer is in INIT or RESTART until a tick has run (DESIGN CHOICE: R173 names the states only). -/
def tickOp (convs : List Conv) (s : State) : State :=
  let s := clockTo s.tickAt s
  let s :=
    if s.glb.role == .safe || s.lp.st = 0 then s
    else noteInputs { (tickWork convs (each convs leakSample s)) with lp.st := 2 }
  { s with tick := s.tick + 1, tickAt := s.tickAt + tickNs }

/-- LOOP_TICK (R135). -/
def execLoopTick (convs : List Conv) (s : State) : Host.Outcome State Fault Refusal := live (tickOp convs) s

end Sys2Proof.Machine
end

