-- ==== Sys2Proof/Machine/Dispatch.lean ====
section
/-! DEFINITION. The commands, one arm per row of the table. -/

namespace Sys2Proof.Machine

/-- The effect of a command on everything but the queue. -/
def exec (i : Instr) (s : State) : Host.Outcome State Fault Refusal :=
  match i with
  | .roundBoundary => Sys2Proof.Machine.execRoundBoundary s
  | .ingestClose sens => Sys2Proof.Machine.execIngestClose sens s
  | .forecastStart => Sys2Proof.Machine.execForecastStart s
  | .residualGuard late => Sys2Proof.Machine.execResidualGuard late s
  | .allocator runNs ecapLow => Sys2Proof.Machine.execAllocator runNs ecapLow s
  | .capacityShortClear kind index => Sys2Proof.Machine.execCapacityShortClear kind index s
  | .policyConflict kind object clear => Sys2Proof.Machine.execPolicyConflict kind object clear s
  | .leaseOut => Sys2Proof.Machine.execLeaseOut s
  | .leaseKeeperIssue => Sys2Proof.Machine.execLeaseKeeperIssue s
  | .leaseKeeperLimit => Sys2Proof.Machine.execLeaseKeeperLimit s
  | .adaptationSlice region pos completed => Sys2Proof.Machine.execAdaptationSlice region pos completed s
  | .mirrorSweep => Sys2Proof.Machine.execMirrorSweep s
  | .warmHoldEnd => Sys2Proof.Machine.execWarmHoldEnd s
  | .loopTick convs => Sys2Proof.Machine.execLoopTick convs s
  | .inputRangeTimeout n => Sys2Proof.Machine.execInputRangeTimeout n s
  | .inputStale n => Sys2Proof.Machine.execInputStale n s
  | .frozenWindowEnd n => Sys2Proof.Machine.execFrozenWindowEnd n s
  | .inputRecovered n => Sys2Proof.Machine.execInputRecovered n s
  | .sensorDisagree g => Sys2Proof.Machine.execSensorDisagree g s
  | .sensorDisagreeClear g => Sys2Proof.Machine.execSensorDisagreeClear g s
  | .followingError ch => Sys2Proof.Machine.execFollowingError ch s
  | .outputFault m => Sys2Proof.Machine.execOutputFault m s
  | .swap ch => Sys2Proof.Machine.execSwap ch s
  | .bankSwapped ch => Sys2Proof.Machine.execBankSwapped ch s
  | .tripReset ch => Sys2Proof.Machine.execTripReset ch s
  | .loopRestart cause => Sys2Proof.Machine.execLoopRestart cause s
  | .engineQuarantined e moves => Sys2Proof.Machine.execEngineQuarantined e moves s
  | .swatchArm k => Sys2Proof.Machine.execSwatchArm k s
  | .swatchAbort k => Sys2Proof.Machine.execSwatchAbort k s
  | .swatchTrigger k => Sys2Proof.Machine.execSwatchTrigger k s
  | .swatchDone k => Sys2Proof.Machine.execSwatchDone k s
  | .traceEnable b => Sys2Proof.Machine.execTraceEnable b s
  | .traceStopped b => Sys2Proof.Machine.execTraceStopped b s
  | .cellParityError kind index retries attempts pastGuard => Sys2Proof.Machine.execCellParityError kind index retries attempts pastGuard s
  | .blockCrcMismatch kind index attempts => Sys2Proof.Machine.execBlockCrcMismatch kind index attempts s
  | .tileRemap => Sys2Proof.Machine.execTileRemap s
  | .hbmUe addr => Sys2Proof.Machine.execHbmUe addr s
  | .stackLost stack cause => Sys2Proof.Machine.execStackLost stack cause s
  | .regionOffline region cause => Sys2Proof.Machine.execRegionOffline region cause s
  | .regionReset region => Sys2Proof.Machine.execRegionReset region s
  | .regionRestored region failed => Sys2Proof.Machine.execRegionRestored region failed s
  | .forceDemoted plate => Sys2Proof.Machine.execForceDemoted plate s
  | .plateRelease plate => Sys2Proof.Machine.execPlateRelease plate s
  | .modelActivate d => Sys2Proof.Machine.execModelActivate d s
  | .modelFitTrialEnd tRoll tStall => Sys2Proof.Machine.execModelFitTrialEnd tRoll tStall s
  | .telemetryFragment d => Sys2Proof.Machine.execTelemetryFragment d s
  | .bundleIncomplete rack tag => Sys2Proof.Machine.execBundleIncomplete rack tag s
  | .conditionPresent c => Sys2Proof.Machine.execConditionPresent c s
  | .comparatorUnknown k reading => Sys2Proof.Machine.execComparatorUnknown k reading s
  | .ropeStateChange z new => Sys2Proof.Machine.execRopeStateChange z new s
  | .rowHolding r flow => Sys2Proof.Machine.execRowHolding r flow s
  | .rowDelayExpiry r flow => Sys2Proof.Machine.execRowDelayExpiry r flow s
  | .rowClearHold r => Sys2Proof.Machine.execRowClearHold r s
  | .dpArmed k => Sys2Proof.Machine.execDpArmed k s
  | .advisoryLapse l => Sys2Proof.Machine.execAdvisoryLapse l s
  | .drefStale => Sys2Proof.Machine.execDrefStale s
  | .selvedgeFrameRepeat kind => Sys2Proof.Machine.execSelvedgeFrameRepeat kind s
  | .massBalanceSecond => Sys2Proof.Machine.execMassBalanceSecond s
  | .localiserTrigger hpin => Sys2Proof.Machine.execLocaliserTrigger hpin s
  | .leakLocated result => Sys2Proof.Machine.execLeakLocated result s
  | .selvedgeReset d => Sys2Proof.Machine.execSelvedgeReset d s
  | .isolate d => Sys2Proof.Machine.execIsolate d s
  | .isolateRelease d => Sys2Proof.Machine.execIsolateRelease d s
  | .selvedgeRelock d => Sys2Proof.Machine.execSelvedgeRelock d s
  | .relockDeadline => Sys2Proof.Machine.execRelockDeadline s
  | .svSectionSwitched => Sys2Proof.Machine.execSvSectionSwitched s
  | .chainWordSend => Sys2Proof.Machine.execChainWordSend s
  | .chainWordReceive w => Sys2Proof.Machine.execChainWordReceive w s
  | .heartbeatSend => Sys2Proof.Machine.execHeartbeatSend s
  | .heartbeatReceive bus f => Sys2Proof.Machine.execHeartbeatReceive bus f s
  | .hbPathLost path => Sys2Proof.Machine.execHbPathLost path s
  | .hbPathRestored path => Sys2Proof.Machine.execHbPathRestored path s
  | .claimIssued reason => Sys2Proof.Machine.execClaimIssued reason s
  | .claimPulse us => Sys2Proof.Machine.execClaimPulse us s
  | .releasePulse us => Sys2Proof.Machine.execReleasePulse us s
  | .claimHeldOff us => Sys2Proof.Machine.execClaimHeldOff us s
  | .claimTimeout => Sys2Proof.Machine.execClaimTimeout s
  | .claimLineFault lowMs => Sys2Proof.Machine.execClaimLineFault lowMs s
  | .takeover => Sys2Proof.Machine.execTakeover s
  | .takeoverWatchEnd => Sys2Proof.Machine.execTakeoverWatchEnd s
  | .dualActiveAbort trigger object => Sys2Proof.Machine.execDualActiveAbort trigger object s
  | .foreignDrive m => Sys2Proof.Machine.execForeignDrive m s
  | .standbyQualified => Sys2Proof.Machine.execStandbyQualified s
  | .qualificationLost criterion => Sys2Proof.Machine.execQualificationLost criterion s
  | .handoverFailed => Sys2Proof.Machine.execHandoverFailed s
  | .startupListenEnd => Sys2Proof.Machine.execStartupListenEnd s
  | .referenceMessage bus f sof => Sys2Proof.Machine.execReferenceMessage bus f sof s
  | .mirrorReceive d => Sys2Proof.Machine.execMirrorReceive d s
  | .mirrorLost clear => Sys2Proof.Machine.execMirrorLost clear s
  | .frameReceive bus f => Sys2Proof.Machine.execFrameReceive bus f s
  | .pmLock bus n => Sys2Proof.Machine.execPmLock bus n s
  | .pmRelease bus n => Sys2Proof.Machine.execPmRelease bus n s
  | .pmLockTimeout bus n => Sys2Proof.Machine.execPmLockTimeout bus n s
  | .txMessageMark m => Sys2Proof.Machine.execTxMessageMark m s
  | .txAttemptEnd bus src res delay => Sys2Proof.Machine.execTxAttemptEnd bus src res delay s
  | .idConflict bus id xtd => Sys2Proof.Machine.execIdConflict bus id xtd s
  | .txCommit bus host => Sys2Proof.Machine.execTxCommit bus host s
  | .txCancel bus tag started => Sys2Proof.Machine.execTxCancel bus tag started s
  | .idReleased bus id xtd => Sys2Proof.Machine.execIdReleased bus id xtd s
  | .busOff bus kind => Sys2Proof.Machine.execBusOff bus kind s
  | .recover bus => Sys2Proof.Machine.execRecover bus s
  | .busRecovered bus => Sys2Proof.Machine.execBusRecovered bus s
  | .autoRestart bus => Sys2Proof.Machine.execAutoRestart bus s
  | .autoDwellEnd bus => Sys2Proof.Machine.execAutoDwellEnd bus s
  | .ttSyncLost bus => Sys2Proof.Machine.execTtSyncLost bus s
  | .sleep bus => Sys2Proof.Machine.execSleep bus s
  | .idleSleep bus => Sys2Proof.Machine.execIdleSleep bus s
  | .busSleep bus => Sys2Proof.Machine.execBusSleep bus s
  | .wake bus => Sys2Proof.Machine.execWake bus s
  | .busWake bus cause f => Sys2Proof.Machine.execBusWake bus cause f s
  | .busCtrlQuarantined bus cause => Sys2Proof.Machine.execBusCtrlQuarantined bus cause s
  | .linkUp rate ifaces => Sys2Proof.Machine.execLinkUp rate ifaces s
  | .linkDown cause corr uncorr => Sys2Proof.Machine.execLinkDown cause corr uncorr s
  | .linkRateAttempt => Sys2Proof.Machine.execLinkRateAttempt s
  | .reg d => Sys2Proof.Machine.execReg d s
  | .bulkWrite d => Sys2Proof.Machine.execBulkWrite d s
  | .bulkStatus d => Sys2Proof.Machine.execBulkStatus d s
  | .bulkRead d => Sys2Proof.Machine.execBulkRead d s
  | .doorbell d => Sys2Proof.Machine.execDoorbell d s
  | .dataBoundComplete peer xfer => Sys2Proof.Machine.execDataBoundComplete peer xfer s
  | .dataLate peer xfer => Sys2Proof.Machine.execDataLate peer xfer s
  | .notify => Sys2Proof.Machine.execNotify s
  | .retransmit peer xid => Sys2Proof.Machine.execRetransmit peer xid s
  | .ack d => Sys2Proof.Machine.execAck d s
  | .attestReport d => Sys2Proof.Machine.execAttestReport d s
  | .attestChain d => Sys2Proof.Machine.execAttestChain d s
  | .roleSwap d => Sys2Proof.Machine.execRoleSwap d s
  | .reknit d => Sys2Proof.Machine.execReknit d s
  | .reknitFull d => Sys2Proof.Machine.execReknitFull d s
  | .reknitApplied => Sys2Proof.Machine.execReknitApplied s
  | .trialAccept d => Sys2Proof.Machine.execTrialAccept d s
  | .trialAccepted => Sys2Proof.Machine.execTrialAccepted s
  | .frogBack d => Sys2Proof.Machine.execFrogBack d s
  | .froggedBack => Sys2Proof.Machine.execFroggedBack s
  | .idsWritten => Sys2Proof.Machine.execIdsWritten s
  | .firmwareCommit d => Sys2Proof.Machine.execFirmwareCommit d s
  | .firmwareActivate => Sys2Proof.Machine.execFirmwareActivate s
  | .firmwareReverted part => Sys2Proof.Machine.execFirmwareReverted part s
  | .rollbackFloorRise part => Sys2Proof.Machine.execRollbackFloorRise part s
  | .firewallBlocked part addr => Sys2Proof.Machine.execFirewallBlocked part addr s
  | .keySet d => Sys2Proof.Machine.execKeySet d s
  | .swatchStart d => Sys2Proof.Machine.execSwatchStart d s
  | .post c => Sys2Proof.Machine.execPost c s
  | .take c => Sys2Proof.Machine.execTake c s
  | .try_ c => Sys2Proof.Machine.execTry c s
  | .dec c => Sys2Proof.Machine.execDec c s
  | .read c => Sys2Proof.Machine.execRead c s
  | .set c => Sys2Proof.Machine.execSet c s
  | .scRelease c => Sys2Proof.Machine.execScRelease c s
  | .scTakeTimeout counter party => Sys2Proof.Machine.execScTakeTimeout counter party s
  | .scBlockQuarantined => Sys2Proof.Machine.execScBlockQuarantined s
  | .eventsDropped => Sys2Proof.Machine.execEventsDropped s
  | .persistentProgram => Sys2Proof.Machine.execPersistentProgram s
  | .wallSet peer => Sys2Proof.Machine.execWallSet peer s
  | .wallSlew peer => Sys2Proof.Machine.execWallSlew peer s
  | .wallSlewed => Sys2Proof.Machine.execWallSlewed s
  | .pstPageLoad page => Sys2Proof.Machine.execPstPageLoad page s
  | .eventExport peer => Sys2Proof.Machine.execEventExport peer s
  | .powerOnReset p => Sys2Proof.Machine.execPowerOnReset p s
  | .brownOutReset => Sys2Proof.Machine.execBrownOutReset s
  | .resetN lowUs => Sys2Proof.Machine.execResetN lowUs s
  | .castOn c => Sys2Proof.Machine.execCastOn c s
  | .reset d => Sys2Proof.Machine.execReset d s
  | .supervisorRestart d => Sys2Proof.Machine.execSupervisorRestart d s
  | .ctlReset => Sys2Proof.Machine.execCtlReset s
  | .hstReset => Sys2Proof.Machine.execHstReset s
  | .blockReset kind index pass => Sys2Proof.Machine.execBlockReset kind index pass s
  | .supplyDip vmain => Sys2Proof.Machine.execSupplyDip vmain s
  | .dipShed => Sys2Proof.Machine.execDipShed s
  | .supplyDipEnd vmain vmin => Sys2Proof.Machine.execSupplyDipEnd vmain vmin s
  | .vsafeLow v => Sys2Proof.Machine.execVsafeLow v s
  | .vsafeRecover v => Sys2Proof.Machine.execVsafeRecover v s
  | .vfieldLow v clear => Sys2Proof.Machine.execVfieldLow v clear s
  | .vfieldOverload p clear => Sys2Proof.Machine.execVfieldOverload p clear s
  | .vmainHigh v clear => Sys2Proof.Machine.execVmainHigh v clear s
  | .clockFault clk => Sys2Proof.Machine.execClockFault clk s
  | .referenceLoss => Sys2Proof.Machine.execReferenceLoss s
  | .oscTolerance dev clear => Sys2Proof.Machine.execOscTolerance dev clear s
  | .watchdogExpiry => Sys2Proof.Machine.execWatchdogExpiry s
  | .thermalShed stage temp => Sys2Proof.Machine.execThermalShed stage temp s
  | .thermalShedExit temp => Sys2Proof.Machine.execThermalShedExit temp s
  | .selfCoolantHigh inlet clear => Sys2Proof.Machine.execSelfCoolantHigh inlet clear s
  | .fabricFault unit cls addr => Sys2Proof.Machine.execFabricFault unit cls addr s
  | .coreLockstep stage => Sys2Proof.Machine.execCoreLockstep stage s
  | .freeze d => Sys2Proof.Machine.execFreeze d s
  | .freezeNFall lowNs => Sys2Proof.Machine.execFreezeNFall lowNs s
  | .freezePoint => Sys2Proof.Machine.execFreezePoint s
  | .thaw d => Sys2Proof.Machine.execThaw d s
  | .freezeNRise => Sys2Proof.Machine.execFreezeNRise s
  | .tapThaw => Sys2Proof.Machine.execTapThaw s
  | .idcode => Sys2Proof.Machine.execIdcode s
  | .frzStatus => Sys2Proof.Machine.execFrzStatus s
  | .scanSel dr => Sys2Proof.Machine.execScanSel dr s
  | .scanData => Sys2Proof.Machine.execScanData s
  | .scanCrc => Sys2Proof.Machine.execScanCrc s
  | .bypass tdi => Sys2Proof.Machine.execBypass tdi s
  | .cntClear => Sys2Proof.Machine.execCntClear s
  | .registerWrite w addr value => Sys2Proof.Machine.execRegisterWrite w addr value s
  | .comparatorClears k reading => Sys2Proof.Machine.execComparatorClears k reading s
  | .svInputUnknownClear k reading => Sys2Proof.Machine.execSvInputUnknownClear k reading s
  | .dpDisarmed k => Sys2Proof.Machine.execDpDisarmed k s
  | .claimWithdrawn => Sys2Proof.Machine.execClaimWithdrawn s
  | .claimLineFaultClear => Sys2Proof.Machine.execClaimLineFaultClear s
  | .transferForgotten peer xfer => Sys2Proof.Machine.execTransferForgotten peer xfer s
  | .trstN => Sys2Proof.Machine.execTrstN s

end Sys2Proof.Machine
end

