-- ==== Sys2Proof/Machine/Step.lean ====
section
/-! DEFINITION. One step: the command at the front of the queue, or 10 ns of idling. -/

namespace Sys2Proof.Machine

/-- One tick of the 100 MHz reference passes while no command waits (DESIGN CHOICE, log 3). -/
def idle (s : State) : State := { s with clock := s.clock + 10 }

/-- Takes the command at the front of the queue and runs it with the queue's rest; an empty queue idles. -/
def step (s : State) : Host.Outcome State Fault Refusal :=
  match s.pending with
  | [] => .next (idle s)
  | c :: rest => exec c { s with pending := rest }

/-- The command that a table word spells, put at the front of the queue; the state as it is where the word spells none. -/
def State.withFetchWord (s : State) (nbits w : Nat) : State :=
  match decodeTableWord nbits w with
  | some c => { s with pending := c :: s.pending }
  | none => s

end Sys2Proof.Machine
end

