-- ==== Sys2Proof/Safety.lean ====
section
/-! DEFINITION. What claims mean by a safe run, by the effect of a command, and by what a command leaves unchanged. -/

namespace Sys2Proof.Machine

/-- Both byte memories, the HBM window and the staging window, are in canonical form. -/
def State.memOk (s : State) : Prop := Memory.wf s.mem = true ∧ Memory.wf s.stage = true

/-- A step that neither faults nor refuses. -/
def stepsTo (s t : State) : Prop := step s = .next t

/-- Some number of steps lead from one state to another. -/
inductive Reaches : State → State → Prop where
  | refl (s : State) : Reaches s s
  | tail (s t u : State) : Reaches s t → stepsTo t u → Reaches s u

/-- A command completes: it answers a next state, and that state has the property. -/
def Does (c : Instr) (s : State) (P : State → Prop) : Prop := ∃ t, exec c s = .next t ∧ P t

/-- The recorder of `t` is that of `u` once a record of a code, a source unit and its arguments has been handed to it. What the recorder does with a record (number, stores, rate limit) depends on the recorder itself, the clocks, the pattern's rates and the supply dip of `u`. -/
def Wrote (code source : Nat) (args : List Word) (u t : State) (clear : Bool := false) : Prop := t.ev = (emit code source args u clear).ev

/-- `m` answers request `d` of a peer, in state `s`, with `body`: to its source and port, with its XID; where the request came tagged and the peer has a key, the answer carries the request's COUNTER and the tag under that key (R305, R306, R324). -/
def Answers (s : State) (peer : Nat) (d : Dgram) (body : Bytes) (m : Dgram) : Prop :=
  m.dst = d.src ∧ m.port = d.sport ∧ m.xid = d.xid ∧
    (d.trailer = [] ∨ keyOfPeer s peer = [] → m.payload = body) ∧
    (d.trailer ≠ [] → keyOfPeer s peer ≠ [] →
      bitOf m.flags 2 = true ∧ m.payload = body ++ d.trailer.take 8 ++ tagOf (keyOfPeer s peer) m body (d.trailer.take 8) strHXR1)

/-- The parts of State, by the names of its fields. The queue is no part: no command changes it. -/
inductive Part where
  | hw
  | glb
  | pwr
  | red
  | link
  | mir
  | dg
  | ev
  | wall
  | hl
  | ks
  | pf
  | sc
  | lp
  | swt
  | sv
  | svf
  | fb
  | fc
  | al
  | errs
  | irqs
  | latches
  | outbox
  | mem
  | stage
  | clock
  | upBase
  | tick
  | tickAt
  | round
  | began
  | t0At
  | freeCtr
  deriving DecidableEq, Repr

/-- The number of a part: its place among the fields of State. -/
def Part.num : Part → Nat
  | .hw => 0
  | .glb => 1
  | .pwr => 2
  | .red => 3
  | .link => 4
  | .mir => 5
  | .dg => 6
  | .ev => 7
  | .wall => 8
  | .hl => 9
  | .ks => 10
  | .pf => 11
  | .sc => 12
  | .lp => 13
  | .swt => 14
  | .sv => 15
  | .svf => 16
  | .fb => 17
  | .fc => 18
  | .al => 19
  | .errs => 20
  | .irqs => 21
  | .latches => 22
  | .outbox => 23
  | .mem => 24
  | .stage => 25
  | .clock => 26
  | .upBase => 27
  | .tick => 28
  | .tickAt => 29
  | .round => 30
  | .began => 31
  | .t0At => 32
  | .freeCtr => 33

/-- A list of parts as a bit mask. -/
def partMask (l : List Part) : Nat := l.foldl (fun m p => m ||| 2 ^ p.num) 0

/-- The state with the parts of a mask blanked. -/
def State.but (m : Nat) (s : State) : State :=
  { hw := if m.testBit 0 then {} else s.hw
    glb := if m.testBit 1 then {} else s.glb
    pwr := if m.testBit 2 then {} else s.pwr
    red := if m.testBit 3 then {} else s.red
    link := if m.testBit 4 then {} else s.link
    mir := if m.testBit 5 then {} else s.mir
    dg := if m.testBit 6 then {} else s.dg
    ev := if m.testBit 7 then {} else s.ev
    wall := if m.testBit 8 then {} else s.wall
    hl := if m.testBit 9 then {} else s.hl
    ks := if m.testBit 10 then {} else s.ks
    pf := if m.testBit 11 then {} else s.pf
    sc := if m.testBit 12 then {} else s.sc
    lp := if m.testBit 13 then {} else s.lp
    swt := if m.testBit 14 then {} else s.swt
    sv := if m.testBit 15 then {} else s.sv
    svf := if m.testBit 16 then {} else s.svf
    fb := if m.testBit 17 then {} else s.fb
    fc := if m.testBit 18 then {} else s.fc
    al := if m.testBit 19 then {} else s.al
    errs := if m.testBit 20 then [] else s.errs
    irqs := if m.testBit 21 then [] else s.irqs
    latches := if m.testBit 22 then [] else s.latches
    outbox := if m.testBit 23 then [] else s.outbox
    mem := if m.testBit 24 then [] else s.mem
    stage := if m.testBit 25 then [] else s.stage
    clock := if m.testBit 26 then 0 else s.clock
    upBase := if m.testBit 27 then 0 else s.upBase
    tick := if m.testBit 28 then 0 else s.tick
    tickAt := if m.testBit 29 then 0 else s.tickAt
    round := if m.testBit 30 then 0 else s.round
    began := if m.testBit 31 then false else s.began
    t0At := if m.testBit 32 then 0 else s.t0At
    freeCtr := if m.testBit 33 then 0 else s.freeCtr
    pending := s.pending }

/-- Two states agree on everything but the listed parts (and on the queue). -/
def SameBut (l : List Part) (s t : State) : Prop := t.but (partMask l) = s.but (partMask l)

/-- What a reset of the chip leaves, by its cause (R408, R412, R413, R418, R419, R422, R423, R426): the ROM, no role, the flash and the keys as they were, each counter floor at its mark; of a dip, the flash as the dip found it; of a lost supply, no slot or bank that was being written. -/
def ResetLeaves (cause : Nat) (s t : State) : Prop :=
  t.glb.life = .rom ∧ t.glb.phase = 0 ∧ t.glb.role = .none ∧ t.glb.rstCause = cause ∧ t.glb.ovr = [] ∧
  t.ev.pst = s.ev.pst ∧ t.ev.boot = (releaseAll s).ev.boot ∧ t.ev.seqNext = (releaseAll s).ev.seqNext ∧
  ((∀ k, (swSt s k).st ≠ 2) → (∀ k, (busSt s k).er.quar = []) →
    t.ev.boot = s.ev.boot ∧ t.ev.seqNext = s.ev.seqNext ∧ (3 ≤ cause → t.ev.ring = s.ev.ring ∧ t.ev.hbm = s.ev.hbm)) ∧
  (s.pf.flashAt = none →
    t.pf.anchor = s.pf.anchor ∧ t.pf.changeTrial = s.pf.changeTrial ∧ (∀ r, keyOf t r = keyOf s r) ∧
    (3 ≤ cause ∨ (∀ k e, tget s.pf.slotEnd k = some e → e ≤ s.clock) → t.pf.current = s.pf.current ∧ t.pf.lifeline = s.pf.lifeline ∧ t.pf.nextP = s.pf.nextP) ∧
    (cause < 3 → ∀ e, s.clock < e → (tget s.pf.slotEnd 1 = some e → t.pf.current = none) ∧ (tget s.pf.slotEnd 2 = some e → t.pf.nextP = none) ∧ (tget s.pf.slotEnd 3 = some e → t.pf.lifeline = none)) ∧
    (s.pf.commit = none → t.pf.parts = s.pf.parts) ∧
    (∀ k img cmd, s.pf.commit = some (k, img, cmd) → (partSt t k).bank = (partSt s k).bank ∧ nth (partSt t k).banks (1 - (partSt s k).bank) none = none ∧ ∀ j, j ≠ k → partSt t j = partSt s j)) ∧
  (∀ f, s.pf.flashAt = some f →
    t.pf.current = f.current ∧ t.pf.lifeline = f.lifeline ∧ t.pf.nextP = f.nextP ∧ t.pf.anchor = f.anchor ∧ t.pf.changeTrial = f.changeTrial ∧
    (∀ r, keyOf t r = tgetD f.keys r []) ∧ (s.pf.commit = none → t.pf.parts = f.parts) ∧ t.ev.staging = []) ∧
  t.pf.sched = none ∧ t.pf.st = 0 ∧ t.lp = {} ∧ t.sc = {} ∧ t.fb = {} ∧ t.stage = [] ∧ t.errs = [] ∧
  (∀ p, (ctrSt t p).floor = (ctrSt s p).mark ∧ (ctrSt t p).mark = (ctrSt s p).mark) ∧
  (3 ≤ cause →
    t.wall = s.wall ∧ t.upBase = s.upBase ∧ t.ev.ring = (releaseAll s).ev.ring ∧ t.ev.hbm = (releaseAll s).ev.hbm ∧ (∀ a, areaBase s 3 ≤ a → memRd t.mem a = memRd s.mem a) ∧
    t.fc.mdl.active = s.fc.mdl.active ∧ t.red.straps = s.red.straps) ∧
  (cause ≤ 2 → t.wall = {} ∧ t.upBase = s.clock ∧ t.ev.ring = [] ∧ t.ev.hbm = [] ∧ t.mem = [] ∧ t.fc = {}) ∧
  (2 ≤ cause → t.sv.sec = s.sv.sec ∧ t.sv.digest = s.sv.digest ∧ t.sv.patternSet = s.sv.patternSet ∧ t.sv.isoCmd = s.sv.isoCmd ∧ t.sv.cmps = s.sv.cmps ∧ (∀ r, r ≠ 4 → rowSt t r = rowSt s r)) ∧
  SameBut [.glb, .pwr, .red, .link, .mir, .dg, .ev, .wall, .hl, .ks, .pf, .sc, .lp, .swt, .sv, .svf, .fb, .fc, .al, .errs, .irqs, .latches, .mem, .stage, .upBase] s t

/-- What a chip-level fatal condition leaves (R463, R464), `u` being the state in which it was detected: an ACTIVE module notes cause and unit and asks for a handover, ahead of any that it had asked for; one that cannot hand over enters SAFE with its outputs released and its channels stopped; in SAFE, or while the SAFE entry of an earlier condition is under way, its record alone is written. -/
def FatalTaken (cause code unit : Nat) (args : List Word) (u t : State) : Prop :=
  let entering := u.red.ho.any (fun h => h.cause == 6)
  (u.glb.role = .active → entering = false →
    t.glb.role = .active ∧ t.dg = { u.dg with cause := cause, unit := unit } ∧ t.lp = u.lp ∧
      t.red = { u.red with ho := some { cause := 6, since := u.clock }, hoNext := u.red.ho.toList ++ u.red.hoNext }) ∧
  (u.glb.role ≠ .active → u.glb.role ≠ .safe → entering = false →
    t.glb.role = .safe ∧ t.dg.safe = true ∧ t.dg.cause = cause ∧ t.dg.unit = unit ∧ t.red.driving = false ∧ t.lp.st = 0 ∧
      ∃ v, SameBut [.glb, .red, .link, .dg, .ev, .hl, .lp, .swt, .fb, .errs, .freeCtr] u v ∧ Wrote 0x0906 srcChip (aw cause ++ aw 0 ++ aw unit) v t) ∧
  (u.glb.role = .safe ∨ entering = true → t.glb = u.glb ∧ t.dg = u.dg ∧ t.red = u.red ∧ t.lp = u.lp ∧ Wrote code unit args u t) ∧
  SameBut [.glb, .red, .link, .dg, .ev, .hl, .lp, .swt, .fb, .errs, .freeCtr] u t

/-- A CRITICAL message of a code passes the keyed check (R325): its request is taken in from peer `p`, the layout is right, the peer holds right 5 and names key reference `r`, the target and the tag match, the counter is above the peer's floor (and not to be kept waiting by a supply dip), no earlier accepted command waits on data (R329), arguments and flags are those the code defines. `u` is the state once the request has been taken in. -/
def CritTaken (code nargs flags : Nat) (d : Dgram) (s : State) (p : PeerRec) (r : Nat) (u : State) : Prop :=
  takeRequest 0x30 none d s = (some p, u) ∧ u.ks.quar = false ∧ critDenied u code = false ∧ critLayout code d = true ∧ hasRight p 5 = true ∧
    peerKey u p = some r ∧ slice d.payload 8 8 = u.hw.target ∧ (keyOf u r).isEmpty = false ∧
    tagOf (keyOf u r) d (tagBody d) (tagCounter d) strHXP1 = tagBytes d ∧ (ctrSt u p.index).floor < unLe (tagCounter d) ∧
    ((ctrSt u p.index).mark ≤ unLe (tagCounter d) → u.pwr.dip = false) ∧ critBlocked u = false ∧ (critArgs d).length = nargs ∧ critFlags d / (flags + 1) = 0

/-- A CRITICAL message of a code passes the keyed check of some peer. -/
def CritReady (code nargs flags : Nat) (d : Dgram) (s : State) : Prop := ∃ p r u, CritTaken code nargs flags d s p r u

/-- The CRITICAL commands: their code and their datagram (R328). -/
def critOf : Instr → Option (Nat × Dgram)
  | .modelActivate d => some (1, d)
  | .reknit d => some (2, d)
  | .reknitFull d => some (2, d)
  | .frogBack d => some (3, d)
  | .trialAccept d => some (4, d)
  | .firmwareCommit d => some (5, d)
  | .roleSwap d => some (6, d)
  | .freeze d => some (7, d)
  | .thaw d => some (8, d)
  | .reset d => some (9, d)
  | .supervisorRestart d => some (9, d)
  | .selvedgeReset d => some (10, d)
  | .isolate d => some (11, d)
  | .isolateRelease d => some (12, d)
  | .selvedgeRelock d => some (13, d)
  | .swatchStart d => some (14, d)
  | .keySet d => some (15, d)
  | _ => none

/-- Commands that act on a module whose chip does not run: resets, cast-on, the freeze pin and the freeze point of a module that stands in cast-on (R454), the test access port (R461), the level of VFIELD (R430), and the selvedge's own (R17). -/
def actsAtRest : Instr → Bool
  | .castOn _ => true
  | .freezeNFall _ => true
  | .freezeNRise => true
  | .tapThaw => true
  | .freezePoint => true
  | .vfieldLow _ _ => true
  | .powerOnReset _ => true
  | .brownOutReset => true
  | .resetN _ => true
  | .referenceLoss => true
  | .watchdogExpiry => true
  | .conditionPresent _ => true
  | .comparatorUnknown _ _ => true
  | .svInputUnknownClear _ _ => true
  | .comparatorClears _ _ => true
  | .ropeStateChange _ _ => true
  | .rowHolding _ _ => true
  | .rowDelayExpiry _ _ => true
  | .rowClearHold _ => true
  | .dpArmed _ => true
  | .dpDisarmed _ => true
  | .advisoryLapse _ => true
  | .drefStale => true
  | .idcode => true
  | .frzStatus => true
  | .scanSel _ => true
  | .scanData => true
  | .scanCrc => true
  | .bypass _ => true
  | .trstN => true
  | _ => false

end Sys2Proof.Machine
end

