-- ==== Sys2Proof/Certificates/Slice0/Obligations.lean ====
section
/-! DEFINITION. The statements for the provers. -/

open Sys2Proof Sys2Proof.Machine

/-- R134, R135: a tick of a running chip ends with the tick number one higher and the next tick 50 µs later, and nothing outside the loop layer, its outputs, the selvedge's loop-layer part, the pattern's trial, the records, the leak-stream buffer (R101) and what the allocator notes of its inputs (R111) changes. Unless the layer's work is stopped, the tick does its work in the rule's order: every pressure sample enters the leak-stream buffer (its layout is the model's choice: log 49); every conversion that it brings for an input with an enabled pin is latched with the tick's instant; every channel due in a driving module is initialised once it has been sampled; and every output map has the largest value that drives it. -/
def Obligations.loop_tick_completes : Prop :=
  ∀ (convs : List Conv) (s : State), running s = true →
    Does (.loopTick convs) s (fun t =>
      t.tick = s.tick + 1 ∧ t.tickAt = s.tickAt + 50000 ∧ t.clock = max s.clock s.tickAt ∧
      SameBut [.link, .ev, .hl, .pf, .lp, .swt, .sv, .svf, .fb, .al, .errs, .mem, .clock, .tick, .tickAt] s t) ∧
    (s.glb.role = .safe ∨ s.lp.st = 0 → Does (.loopTick convs) s (fun t => SameBut [.clock, .tick, .tickAt] s t)) ∧
    (s.glb.role ≠ .safe → s.lp.st ≠ 0 →
      Does (.loopTick convs) s (fun t =>
        let l := each convs leakSample (clockTo s.tickAt s)
        let w := tickWork convs l
        t.lp = { w.lp with st := 2 } ∧ t.swt = w.swt ∧ t.sv = w.sv ∧ t.svf = w.svf ∧ t.ev = w.ev ∧ t.mem = l.mem ∧ t.al = (noteInputs { w with lp.st := 2 }).al ∧
        (∀ v ∈ convs, v.input < 96 → (inputRec s v.input).isSome = true → (ioRec s (pinOf v.input).1 (pinOf v.input).2).isSome = true →
          (inSt t v.input).conv = true ∧ (inSt t v.input).lastAt = t.clock) ∧
        (drives s = true → ∀ r ∈ dueChans s, (chSt t r.ch).init = true) ∧
        (drives s = true → ∀ r ∈ (pat s).maps, ∀ u, maxL (mapDrivers t r.num) = some u → (mapSt t r.num).valid = true ∧ (mapSt t r.num).u = u)))

/-- R140: an input that has been out of range for RANGE_TIME becomes UNKNOWN with cause 1 (5 where its front end reports open or short), one without a conversion for its stale time with cause 2 unless an earlier cause of the rule's table applies; the record names the input, the cause and its code; no other input changes. R140, R141: at the end of its window an input starts a new one, and the correlation test decides: where its reference moved by more than REF_DELTA while it moved by less than FROZEN_DELTA it becomes UNKNOWN, with cause 4 unless an earlier cause of the rule's table applies, and the record is written; otherwise it stays as it was. (The raw-freeze test holds in every tick: R140.) R142: an UNKNOWN input whose causes have been absent for RECOVER_TIME is GOOD again, with a record of the milliseconds it was not; no other input changes. -/
def Obligations.inputs_become_unknown_and_recover : Prop :=
  ((∀ (n : Nat) (s : State) (r : InputRec) (since : Nat), running s = true → inputRec s n = some r → (inSt s n).rangeSince = some since → (inSt s n).unknown = false →
      Does (.inputRangeTimeout n) s (fun t =>
        (inSt t n).unknown = true ∧ (inSt t n).cause = (if (inSt s n).isOpen then 5 else 1) ∧ (inSt t n).unkSince = t.clock ∧
        t.clock = max s.clock (since + r.rangeTime * 1000000) ∧
        Wrote 0x0201 srcCtl (aw n ++ aw (inSt t n).cause ++ a16 (inSt s n).code) { s with clock := t.clock } t ∧
        (∀ j, j ≠ n → inSt t j = inSt s j) ∧ SameBut [.ev, .hl, .lp, .errs, .clock] s t)) ∧
    (∀ (n : Nat) (s : State) (r : InputRec), running s = true → inputRec s n = some r → staleNs s r ≠ 0 → (inSt s n).unknown = false →
      Does (.inputStale n) s (fun t =>
        (inSt t n).unknown = true ∧ (inSt t n).unkSince = t.clock ∧ t.clock = max s.clock (ageFrom s (inSt s n) + staleNs s r) ∧
        ((inSt s n).isOpen = true → (inSt t n).cause = 5) ∧ ((inSt s n).isOpen = false → (inSt s n).rangeSince = none → (inSt t n).cause = 2) ∧
        Wrote 0x0201 srcCtl (aw n ++ aw (inSt t n).cause ++ a16 (inSt s n).code) { s with clock := t.clock } t ∧
        (∀ j, j ≠ n → inSt t j = inSt s j) ∧ SameBut [.ev, .hl, .lp, .errs, .clock] s t))) ∧
  (∀ (n : Nat) (s : State) (r : InputRec), running s = true → inputRec s n = some r →
      let x := inSt s n
      let ref := r.frozenRef = true ∧ x.wAny = true ∧ x.rAny = true ∧ r.refDelta < x.rHi - x.rLo ∧ x.wHi - x.wLo < r.frozenDelta
      Does (.frozenWindowEnd n) s (fun t =>
        (inSt t n).wAny = false ∧ (inSt t n).rAny = false ∧ ((inSt t n).refBad = true ↔ ref) ∧
        (x.unknown = false → ref → (inSt t n).unknown = true ∧ (inSt t n).cause = firstCause s r x 4 ∧ (inSt t n).unkSince = s.clock ∧
          Wrote 0x0201 srcCtl (aw n ++ aw (inSt t n).cause ++ a16 x.code) s t) ∧
        (¬ref ∨ x.unknown = true → (inSt t n).unknown = x.unknown ∧ (inSt t n).cause = x.cause ∧ t.ev = s.ev) ∧
        (∀ j, j ≠ n → inSt t j = inSt s j) ∧ SameBut [.ev, .hl, .lp, .errs] s t)) ∧
  (∀ (n : Nat) (s : State) (r : InputRec) (since : Nat), running s = true → inputRec s n = some r → (inSt s n).recSince = some since → (inSt s n).unknown = true →
      Does (.inputRecovered n) s (fun t =>
        (inSt t n).unknown = false ∧ (inSt t n).cause = 0 ∧ (inSt t n).recSince = none ∧ t.clock = max s.clock (since + r.recoverTime * 1000000) ∧
        Wrote 0x0202 srcCtl (aw n ++ aw ((t.clock - (inSt s n).unkSince) / 1000000)) { s with clock := t.clock } t ∧
        (∀ j, j ≠ n → inSt t j = inSt s j) ∧ SameBut [.ev, .hl, .lp, .errs, .clock] s t))

/-- R143, R144: a group whose members differ for DIS_TIME begins an episode, in which two members give the safe side's value; the episode ends when they have agreed for 1 s, and two members give their mean again; both write the group's record, the end with the clear flag; no other group changes. -/
def Obligations.vote_group_disagreement_begins_and_ends : Prop :=
  (∀ (g : Nat) (s : State) (r : GroupRec) (since : Nat), running s = true → groupRec s g = some r → (grpSt s g).disSince = some since → (grpSt s g).episode = false →
    Does (.sensorDisagree g) s (fun t =>
      (grpSt t g).episode = true ∧ (grpSt t g).mode = 2 ∧ t.clock = max s.clock (since + r.disTime * 1000000) ∧
      (∀ a b, pairVals s r = [a, b] → (grpSt t g).value = safeSide r a b) ∧
      Wrote 0x0203 srcCtl (aw g ++ al16 ((pairVals s r).map (twos 16)) ++ a16 (grpSt t g).value) { s with clock := t.clock } t ∧
      (∀ j, j ≠ g → grpSt t j = grpSt s j) ∧ SameBut [.ev, .hl, .lp, .errs, .clock] s t)) ∧
  (∀ (g : Nat) (s : State) (r : GroupRec) (since : Nat), running s = true → groupRec s g = some r → (grpSt s g).agreeSince = some since → (grpSt s g).episode = true →
    Does (.sensorDisagreeClear g) s (fun t =>
      (grpSt t g).episode = false ∧ (grpSt t g).mode = 1 ∧ t.clock = max s.clock (since + 1000000000) ∧
      (∀ a b, pairVals s r = [a, b] → (grpSt t g).value = mean2 a b) ∧
      Wrote 0x0203 srcCtl (aw g ++ al16 ((pairVals s r).map (twos 16)) ++ a16 (grpSt t g).value) { s with clock := t.clock } t true ∧
      (∀ j, j ≠ g → grpSt t j = grpSt s j) ∧ SameBut [.ev, .hl, .lp, .errs, .clock] s t))

/-- R158, R161: a following error that lasts FE_TIME trips a channel whose FE_ACTION is 1 (output not below FAIL_OUT, law in HOLD) and is only recorded once otherwise; either record gives the error's size; a trip reset clears the latch and in a driving module initialises the channel, at INIT_OUT where neither a readback nor a snapshot is there; no other channel changes. R153: a readback that has lain below the command for RB_TIME is recorded once in its map, with the command and the readback in thousandths of their unit. R160: a swap with a valid inactive bank is pending until the t0 that follows; a swap with an invalid one changes no channel and is recorded with the check that failed; at the swap the other bank is in force by the carry rules, the request is done and the record is written; no other channel changes. -/
def Obligations.channels_trip_outputs_fault_banks_swap : Prop :=
  ((∀ (c : Nat) (s : State) (r : ChanRec), running s = true → chanRec s c = some r → drives s = true → (chSt s c).tripped = false → feDue (bankOf s c) (chSt s c) = true →
      let fe := (wbSub (chSt s c).spUsed (chSt s c).pvUsed).natAbs
      Does (.followingError c) s (fun t =>
        (r.feAction = 1 → (chSt t c).tripped = true ∧ (chSt t c).law = 0 ∧ (chSt t c).acc = max (chSt s c).acc (bkFailOut (bankOf s c) * 65536) ∧
          (chSt t c).u = wb (chSt t c).acc ∧ Wrote 0x0206 (srcChan s c) (aw c ++ aw fe ++ a16 (chSt t c).u) s t) ∧
        (r.feAction ≠ 1 → chSt t c = { chSt s c with feDone := true } ∧ Wrote 0x0205 (srcChan s c) (aw c ++ aw fe ++ a16 (chSt s c).spUsed) s t) ∧
        (∀ j, j ≠ c → chSt t j = chSt s j) ∧ SameBut [.ev, .hl, .pf, .lp, .errs] s t)) ∧
    (∀ (c : Nat) (s : State), running s = true → (chSt s c).tripped = true →
      Does (.tripReset c) s (fun t =>
        (chSt t c).tripped = false ∧ (drives s = true → (chanRec s c).isSome = true → (chSt t c).init = true) ∧
        (drives s = false → chSt t c = { chSt s c with tripped := false }) ∧
        (∀ r, drives s = true → chanRec s c = some r → mapRec s r.outMap = none → tget s.mir.snaps c = none →
          (chSt t c).acc = max (r.initOut * 65536) (bkULo (bankOf s c) * 65536) ∧ (chSt t c).law = 0) ∧
        (∀ j, j ≠ c → chSt t j = chSt s j) ∧ SameBut [.lp] s t))) ∧
  (∀ (m : Nat) (s : State) (r : MapRec) (since : Nat), running s = true → mapRec s m = some r → (mapSt s m).lowSince = some since → (mapSt s m).lowDone = false →
      Does (.outputFault m) s (fun t =>
        mapSt t m = { mapSt s m with lowDone := true } ∧ t.clock = max s.clock (since + r.rbTime * 1000000) ∧
        Wrote 0x0207 srcCtl (aw m ++ ai (milli (mapSt s m).y) ++ ai (milli ((readback s r).getD fzero))) { s with clock := t.clock } t ∧
        (∀ j, j ≠ m → mapSt t j = mapSt s j) ∧ SameBut [.ev, .hl, .lp, .errs, .clock] s t)) ∧
  ((∀ (c : Nat) (s : State), running s = true → (chanRec s c).isSome = true → (chSt s c).swapPend = false →
      Does (.swap c) s (fun t =>
        (bankCheck (bankOff s c) = none → chSt t c = { chSt s c with swapPend := true, swapAt := s.round + 1 } ∧ t.ev = s.ev) ∧
        (∀ k, bankCheck (bankOff s c) = some k → t.lp = s.lp ∧ Wrote 0x020A (srcChan s c) (aw c ++ aw k) s t) ∧
        (∀ j, j ≠ c → chSt t j = chSt s j) ∧ SameBut [.ev, .hl, .lp, .errs] s t)) ∧
    (∀ (c : Nat) (s : State), running s = true → (chSt s c).swapPend = true → (chSt s c).swapAt ≤ s.round →
      Does (.bankSwapped c) s (fun t =>
        (chSt t c).bankB = !(chSt s c).bankB ∧ (chSt t c).swapPend = false ∧
        ((∀ k, (swSt s k).st ≠ 2) →
          chSt t c = bankCarry (bankOff s c) { chSt s c with bankB := !(chSt s c).bankB, swapPend := false } ∧
          Wrote 0x0209 (srcChan s c) (aw c ++ aw (b2n (chSt t c).bankB) ++ aw (b2n (chSt t c).approach)) s t) ∧
        (∀ j, j ≠ c → chSt t j = chSt s j) ∧
        SameBut [.ev, .hl, .lp, .swt, .errs] s t)))

/-- R23, R161: a loop restart of a module that is not ACTIVE clears every channel's trip latch and pending swap, initialises every enabled channel that an engine serves (unless the layer is off), and records how many came from each source (that a module which does not drive initialises in its shadow and records its sources like any other, and that the layer's state reads RESTART until a tick has run, is the model's choice: log 114); an ACTIVE module asks for a handover, with its record, and changes no channel yet; while another handover is under way the request waits behind it (the model's choice: log 134). R162: a quarantined loop engine is out of service and counted; each of its channels runs on another engine in service and will be initialised there, or does not run; a channel that ran on another engine keeps it. Where all found a place one record is written; where one did not, an ACTIVE module asks for a handover. -/
def Obligations.loop_restart_and_engine_quarantine : Prop :=
  (∀ (cause : Nat) (s : State), running s = true →
      (s.glb.role ≠ .active →
        Does (.loopRestart cause) s (fun t => (∀ c, (chSt t c).tripped = false ∧ (chSt t c).swapPend = false) ∧ (s.lp.st ≠ 0 → t.lp.st = 3) ∧ (s.lp.st = 0 → t.lp.st = 0) ∧ t.tick = s.tick ∧
          (s.lp.st ≠ 0 → ∀ r ∈ (pat s).chans, r.enable = true → (chSt s r.ch).placed = true → (chSt t r.ch).init = true) ∧
          Wrote 0x020B srcCtl (aw cause ++ aw t.lp.fromRb ++ aw t.lp.fromSnap ++ aw t.lp.fromInit) (swAbortAll 7 (fun x => x.injects) (settleMsgs (dropOwners 3 isEngine s))) t ∧
          SameBut [.ev, .hl, .sc, .lp, .swt, .errs, .outbox] s t)) ∧
      (s.glb.role = .active → s.red.ho = none →
        Does (.loopRestart cause) s (fun t => (∃ h, t.red.ho = some h ∧ h.cause = 3) ∧ Wrote 0x0129 srcChip (aw 3) s t ∧ SameBut [.red, .ev, .hl, .errs] s t)) ∧
      (s.glb.role = .active → s.red.ho ≠ none → handoverAsked 3 (cause + 1) s = false →
        Does (.loopRestart cause) s (fun t => t.red.ho = s.red.ho ∧ (∃ h, t.red.hoNext = s.red.hoNext ++ [h] ∧ h.cause = 3 ∧ h.arg = cause + 1) ∧ SameBut [.red] s t))) ∧
  (∀ (e : Nat) (moves : List (Nat × Nat)) (s : State), running s = true → e < 8 → s.lp.engBad.contains e = false →
      Does (.engineQuarantined e moves) s (fun t =>
        t.lp.engBad = s.lp.engBad ++ [e] ∧ t.dg.cntQuar = satAdd 0xFFFFFFFF s.dg.cntQuar 1 ∧
        (∀ c r, chanRec s c = some r → (chSt s c).engine = e →
          (chSt t c).placed = false ∨ ((chSt t c).engine < 8 ∧ t.lp.engBad.contains (chSt t c).engine = false ∧ (chSt t c).reinit = true)) ∧
        (∀ c, (chSt s c).engine ≠ e → (chSt t c).engine = (chSt s c).engine ∧ (chSt t c).placed = (chSt s c).placed) ∧
        (let mine := (pat s).chans.filter (fun r => r.enable && (chSt s r.ch).engine == e);
          unplacedChans t = [] →
            Wrote 0x020C (src 3 e) (aw e ++ aw mine.length)
              (swAbortAll 7 (fun x => x.injects && mine.any (fun r => r.ch == x.chan)) (settleMsgs (dropOwner 3 (.engine e) s))) t) ∧
        (unplacedChans t ≠ [] → s.glb.role = .active → s.red.ho = none → ∃ h, t.red.ho = some h ∧ h.cause = 4) ∧
        SameBut [.red, .dg, .ev, .hl, .sc, .lp, .swt, .errs, .outbox] s t))

/-- R179, R180: ARM of a slot that is not ARMED and not RUNNING: with no cause of refusal an injecting slot becomes ARMED and a slot that only captures RUNNING, both with an open capture on their registers; else it is OFF with the cause, recorded, which is 1 where it would inject and the module does not drive. No other slot and no trace buffer changes. R180, R328: SWATCH_START, once its keyed check has passed, gives every ARMED slot that its mask names the t0 that follows as its start, and changes no other slot. -/
def Obligations.swatch_slots_arm_and_start : Prop :=
  (∀ (k : Nat) (s : State), running s = true → k < 4 → (swSt s k).st ≠ 1 → (swSt s k).st ≠ 2 →
      Does (.swatchArm k) s (fun t =>
        (swSt t k).regs = (swSt s k).regs ∧
        (swRefuse s k = none →
          (swSt t k).st = (if (swSt s k).injects then 1 else 2) ∧ (swSt t k).capOpen = true ∧ (swSt t k).capRegs = (swSt s k).regs ∧
          (swSt t k).samples = 0 ∧ (swSt t k).postCnt = 0 ∧ t.ev = s.ev) ∧
        (∀ cause, swRefuse s k = some cause → swSt t k = { swSt s k with st := 0, cause := cause } ∧ Wrote 0x0984 srcCtl (aw k ++ aw cause) s t) ∧
        ((swSt s k).injects = true → drives s = false → (swSt t k).st = 0 ∧ (swSt t k).cause = 1) ∧
        (∀ j, j ≠ k → swSt t j = swSt s j) ∧ t.swt.tr = s.swt.tr ∧ SameBut [.ev, .hl, .swt, .errs] s t)) ∧
  (∀ (d : Dgram) (s : State), running s = true → CritReady 14 8 0 d s →
      Does (.swatchStart d) s (fun t =>
        (∀ k, k < 4 → bitOf (fld (critArgs d) 0 4) k = true → (swSt s k).st = 1 → (swSt s k).injects = true → swSt t k = { swSt s k with goAt := some (s.round + 1) }) ∧
        (∀ k, 4 ≤ k ∨ bitOf (fld (critArgs d) 0 4) k = false ∨ (swSt s k).st ≠ 1 → swSt t k = swSt s k) ∧
        t.swt.tr = s.swt.tr ∧ SameBut [.ev, .hl, .ks, .sc, .swt, .errs, .outbox] s t))

/-- R181, R182, R186: ABORT puts an ARMED slot OFF, lets an injecting run end at its next sample and aborts a running capture at once (that a slot which only captures ends ABORTED with cause 1, where R186 says that it is stopped, is the model's choice: log 67); TRIGGER arms the host trigger of an open capture that waits for it; an injecting run that has injected all its samples is DONE, and in MODE 2 its channel, unless it is TRIPPED, resumes in HOLD at the output it had at the start. Aborts and ends are recorded with the slot and its samples. R190: TRACE_ENABLE starts a trace buffer anew: its CFG has EN set, its write pointer is zero, it has not stopped and has no trigger; a buffer whose POST entries are written stops once, with a record of its trigger and write pointer. No other buffer and no slot changes. -/
def Obligations.swatch_runs_and_traces_end : Prop :=
  ((∀ (k : Nat) (s : State), running s = true →
      Does (.swatchAbort k) s (fun t =>
        ((swSt s k).st = 1 → (swSt t k).st = 0 ∧ (swSt t k).capOpen = false) ∧
        ((swSt s k).st = 2 → (swSt s k).injects = true → swSt t k = { swSt s k with hostAbort := true }) ∧
        ((swSt s k).st = 2 → (swSt s k).injects = false → (swSt t k).st = 4 ∧ (swSt t k).cause = 1 ∧ (swSt t k).capOpen = false ∧ (swSt t k).endCode = 2 ∧
          Wrote 0x0983 srcCtl (aw k ++ aw 1 ++ aw (swSt s k).samples) s t) ∧
        ((swSt s k).st ≠ 1 → (swSt s k).st ≠ 2 → t = s) ∧
        (∀ j, j ≠ k → swSt t j = swSt s j) ∧ t.swt.tr = s.swt.tr ∧ SameBut [.ev, .hl, .swt, .errs] s t)) ∧
    (∀ (k : Nat) (s : State), running s = true → (swSt s k).capv.trig = 3 → (swSt s k).capOpen = true → (swSt s k).trigged = false →
      Does (.swatchTrigger k) s (fun t =>
        swSt t k = { swSt s k with hostTrig := true } ∧ (∀ j, j ≠ k → swSt t j = swSt s j) ∧ t.swt.tr = s.swt.tr ∧ SameBut [.swt] s t)) ∧
    (∀ (k : Nat) (s : State), running s = true → (swSt s k).st = 2 → (swSt s k).injects = true → (swSt s k).dur ≤ (swSt s k).samples →
      Does (.swatchDone k) s (fun t =>
        (swSt t k).st = 3 ∧ (swSt t k).injecting = false ∧ (swSt t k).d = 0 ∧ (swSt t k).samples = (swSt s k).samples ∧
        Wrote 0x0982 srcCtl (aw k ++ aw (swSt s k).samples ++ aw (swCount (swSt s k))) s t ∧
        ((swSt s k).capOpen = true → (swSt s k).capv.pre = 0 → (swSt t k).capOpen = false ∧ (swSt t k).endCode = 1) ∧
        ((swSt s k).capOpen = true → (swSt s k).capv.pre ≠ 0 → (swSt t k).capOpen = true ∧ (swSt t k).tail = some (swSt s k).capv.pre) ∧
        ((swSt s k).mode = 2 → (swSt s k).injecting = true → (chSt s (swSt s k).chan).tripped = false → chSt t (swSt s k).chan = { chSt s (swSt s k).chan with law := 0, cnt := 0, acc := (swSt s k).startAcc }) ∧
        ((swSt s k).mode ≠ 2 ∨ (swSt s k).injecting = false ∨ (chSt s (swSt s k).chan).tripped = true → t.lp = s.lp) ∧
        (∀ c, c ≠ (swSt s k).chan → chSt t c = chSt s c) ∧
        (∀ j, j ≠ k → swSt t j = swSt s j) ∧ t.swt.tr = s.swt.tr ∧ SameBut [.ev, .hl, .lp, .swt, .errs] s t))) ∧
  ((∀ (b : Nat) (s : State), running s = true → b < 8 →
      Does (.traceEnable b) s (fun t =>
        (trSt t b).cfg = (trSt s b).cfg % 2 ^ 31 + 2 ^ 31 ∧ (trSt t b).trig = (trSt s b).trig ∧ (trSt t b).wr = 0 ∧ (trSt t b).stopped = false ∧ (trSt t b).trigBit = none ∧
        (∀ j, j ≠ b → trSt t j = trSt s j) ∧ t.swt.sw = s.swt.sw ∧ SameBut [.swt] s t)) ∧
    (∀ (b i : Nat) (s : State), running s = true → (trSt s b).trigBit = some i → (trSt s b).postLeft = 0 → (trSt s b).stopped = false →
      Does (.traceStopped b) s (fun t =>
        trSt t b = { trSt s b with stopped := true } ∧ Wrote 0x0985 srcCtl (aw b ++ aw i ++ aw (trSt s b).wr) s t ∧
        (∀ j, j ≠ b → trSt t j = trSt s j) ∧ t.swt.sw = s.swt.sw ∧ SameBut [.ev, .hl, .swt, .errs] s t)))

/-- R31, R34, R134, R234: a round boundary of a module with a role begins round 0 where none has begun since cast-on and the next round, one period later, otherwise; the tick numbers begin anew with the round, a driving module is time master, the trims written before take effect, and the ages of the mirrored records rise. Of memory a module that drives, with no stack to re-form, no adapter to restore and no model to load, changes only the ring entries that the new round opens. -/
def Obligations.round_boundary_begins_the_round : Prop :=
  ∀ (s : State), running s = true → s.glb.role ≠ .none →
    Does .roundBoundary s (fun t =>
      (s.began = true → t.round = s.round + 1 ∧ t.t0At = s.t0At + periodNs s) ∧
      (s.began = false → t.round = s.round ∧ t.t0At = max s.clock s.tickAt) ∧
      t.began = true ∧ t.clock = max s.clock t.t0At ∧ t.tickAt = t.t0At ∧ t.tick = t.round * ticksPerRound s ∧
      t.red = { s.red with timeMaster := s.red.driving } ∧
      t.link.snapAge = satAdd 0xFFFF s.link.snapAge 1 ∧ t.link.leaseAge = satAdd 0xFFFF s.link.leaseAge 1 ∧
      (∀ c x, tget s.lp.sps c = some x → tget t.lp.sps c = some { x with trims := x.trimsNext, trimsNext := [] }) ∧
      (drives s = true → s.fc.reform = false → s.fc.adLost = [] → s.fc.mdl.st ≠ 2 → s.fc.mdl.st ≠ 6 →
        ∀ a, (∀ m ∈ msOfRound t t.round, ∀ p ∈ allPlates s, a < ringAddr t p m ∨ ringAddr t p m + 512 ≤ a) → memRd t.mem a = memRd s.mem a) ∧
      SameBut [.glb, .pwr, .red, .link, .mir, .ev, .hl, .ks, .sc, .lp, .fb, .fc, .al, .errs, .outbox, .mem, .clock, .tick, .tickAt, .round, .began, .t0At] s t)

/-- R31, R86 to R88, R90, R92, R93, R97: the milestones of a round that has begun, in a role but SAFE, fall at 0.55P, 0.60P and 0.90P of it. Ingest close uses every rack's bundles: a rack that brought a newer one is not stale, any other one round more; a plate without a power sample is silent one round more, and a measured one is not; the self-plate's channels are written and its temperatures taken. The forecast batch rolls 24 steps out for every plate that is forecast in the round, from its origin, and leaves the others without a rollout; it is skipped while the array is gated and in a round that is no multiple of k. The guard counts late rollouts, evaluates each plate's newest forecast of an earlier round against its measurements, counts excursions and rounds in band, promotes and demotes by those counts (none during the warm hold, nor during a trial, in which every plate forecasts in shadow: R82), latches the substitution counts, and writes nothing in memory but the archive entries of the rollouts it completes. -/
def Obligations.ingest_forecast_and_guard_milestones : Prop :=
  (∀ (e : SelfSens) (s : State), running s = true → s.began = true → s.glb.role ≠ .safe →
    Does (.ingestClose e) s (fun t =>
      t.clock = max s.clock (s.t0At + periodNs s * 55 / 100) ∧
      (∀ k, k < 32 → (∃ r ∈ accelPlates s, r.rack = k) →
        (rackRun t k).ready = [] ∧
        ((rackRun t k).lastTag ≠ (rackRun s k).lastTag → (rackRun t k).stale = 0) ∧
        ((rackRun t k).lastTag = (rackRun s k).lastTag → (rackRun t k).stale = satAdd 255 (rackRun s k).stale 1) ∧
        ((rackRun s k).ready = [] → (rackRun t k).lastTag = (rackRun s k).lastTag) ∧
        ((rackRun s k).lastTag = none → (rackRun s k).ready ≠ [] → (rackRun t k).lastTag ≠ none)) ∧
      ((allPlates s).Nodup →
        ∀ r ∈ accelPlates s,
          (plateRun t r.plate).q = (if (plateRun t r.plate).powers.isEmpty then satAdd 255 (plateRun s r.plate).q 1 else 0) ∧
          ((rackRun s r.rack).ready = [] → (plateRun t r.plate).powers = [])) ∧
      ((allPlates s).Nodup →
        ∀ r ∈ (pat s).plates, r.selfPlate = true → (∃ c ∈ r.chans, c.kind ≠ 0 ∧ f16Valid (selfVal e c) = true) →
          ∃ m, (plateRun t r.plate).tau0 = some m ∧ axisUs s s.round + (pat s).bind.period * 55 / 100 ≤ m) ∧
      (f16Valid e.inlet = true → t.pwr.inlet = deciOf e.inlet) ∧ (f16Valid e.outlet = true → t.pwr.outlet = deciOf e.outlet) ∧
      SameBut [.pwr, .ev, .hl, .lp, .fc, .al, .errs, .mem, .clock] s t)) ∧
  (∀ (s : State), running s = true → s.began = true → s.glb.role ≠ .safe →
    Does .forecastStart s (fun t =>
      t.clock = max s.clock (s.t0At + periodNs s * 60 / 100) ∧
      (arrayGated s = true → t.fc = s.fc ∧ t.ev = s.ev) ∧
      (s.round % rateK s ≠ 0 → t.fc.plates = s.fc.plates ∧ t.ev = s.ev) ∧
      (arrayGated s = false → s.round % rateK s = 0 → (allPlates s).Nodup →
        ∀ r ∈ (pat s).plates,
          (forecasts s r = false → (plateRun t r.plate).run = none) ∧
          (forecasts s r = true → r.selfPlate = true ∨ s.fc.mdl.active.isSome = true →
            ∃ f, (plateRun t r.plate).run = some f ∧ f.round = s.round ∧ some f.origin = (plateRun s r.plate).tau0 ∧
              f.steps.length = 24 ∧ ∀ l ∈ f.steps, l.length = 82)) ∧
      SameBut [.ev, .hl, .fc, .errs, .clock, .freeCtr] s t)) ∧
  (∀ (late : List Nat) (s : State), running s = true → s.began = true → s.glb.role ≠ .safe →
    Does (.residualGuard late) s (fun t =>
      t.clock = max s.clock (s.t0At + periodNs s * 90 / 100) ∧
      t.fc.discardNow = 0 ∧ t.fc.discarded = min 7 s.fc.discardNow ∧
      t.fc.staleN = ((pat s).plates.filter (fun r => decide (1 ≤ staleOf s r))).length ∧
      t.fc.stale5 = ((pat s).plates.filter (fun r => decide (5 ≤ staleOf s r))).length ∧
      t.fc.fallbackN = ((pat s).plates.filter (fun r => (leaseFc t r).isNone)).length ∧
      ((allPlates s).Nodup →
        ∀ r ∈ (pat s).plates, ∀ f tm, (plateRun s r.plate).run = none →
          ((plateRun s r.plate).fcs.filter (fun g => decide (g.round < s.round))).getLast? = some f →
          maxN (((measuredOuts s r).filterMap (evalOut s (plateRun s r.plate) f)).map (·.1)) = some tm →
          let x := plateRun s r.plate
          let y := plateRun t r.plate
          let resid := maxResid (((measuredOuts s r).filterMap (evalOut s x f)).map (·.2))
          let exc := isExcursion s r f resid
          y.resid = f32to16 resid ∧
          (x.forced = false → s.fc.warmHold = false → s.fc.mdl.st ≠ 3 →
            (x.st = 2 → exc = true → x.exc + 1 < (pat s).bind.demote → y.st = 2 ∧ y.exc = x.exc + 1) ∧
            (x.st = 2 → exc = true → (pat s).bind.demote ≤ x.exc + 1 → y.st = 1 ∧ y.exc = 0) ∧
            (x.st = 2 → exc = false → y.st = 2 ∧ y.exc = 0) ∧
            (x.st = 1 → exc = true → y.st = 1 ∧ y.inband = 0) ∧
            (x.st = 1 → exc = false → x.inband + 1 < (pat s).bind.promote → y.st = 1 ∧ y.inband = x.inband + 1) ∧
            (x.st = 1 → exc = false → (pat s).bind.promote ≤ x.inband + 1 → y.st = 2 ∧ y.promAt = some s.round))) ∧
      (s.fc.warmHold = true ∨ s.fc.mdl.st = 3 → ∀ p, (plateRun t p).st = (plateRun s p).st) ∧
      (∀ p, (plateRun t p).forced = (plateRun s p).forced) ∧
      (∀ a, (∀ r ∈ (pat s).plates, ∀ f, (plateRun s r.plate).run = some f →
          let b := areaBase s 2 + (f.round % max 1 (depthArch s) * variantPlates s + r.plate) * 168
          a < b ∨ b + 168 ≤ a) → memRd t.mem a = memRd s.mem a) ∧
      SameBut [.ev, .hl, .lp, .fc, .errs, .mem, .clock] s t))

/-- R106, R107, R114, R117: the allocator runs at 0.92P in a module that drives (or a hot standby) with the allocator present and no supervisor restart in the round (R419), and elsewhere only keeps its valid inputs; a run that takes longer than 0.06P is late, one that does not marks its round and leaves every plate a firm cap at or above its floor. Lease-out is at 0.98P; a module that issues leases after its first allocation, with both engines present, no supervisor restart in the round and its protocol engine not silent (R394), completes the round's bundles, each plate's record one sequence number on and copied to the keeper, another issues none; there a late allocation is recorded. (Which modules record it at that milestone, a hot standby that ran late among them, and that a supervisor's restart records nothing, is the model's choice: log 145.) -/
def Obligations.allocation_and_lease_out : Prop :=
  (∀ (ns : Nat) (low : Bool) (s : State), running s = true → s.began = true → s.glb.role ≠ .safe →
    Does (.allocator ns low) s (fun t =>
      t.clock = max s.clock (s.t0At + periodNs s * 92 / 100) ∧ t.sv = { s.sv with ecapLine := low } ∧
      (allocRuns s = false ∨ s.al.allocQuar = true ∨ s.al.restarted = some s.round → t.al = { s.al with unk := t.al.unk, lastGood := t.al.lastGood } ∧ t.ev = s.ev) ∧
      (allocRuns s = true → s.al.allocQuar = false → s.al.restarted ≠ some s.round →
        t.al.first = false ∧ t.al.timeLast = ns ∧ t.al.timeMax = max s.al.timeMax (min 0xFFFF ns) ∧
        (periodNs s * 6 / 100 < ns → t.al.late = true ∧ t.al.ran = s.al.ran) ∧
        (ns ≤ periodNs s * 6 / 100 → t.al.late = false ∧ t.al.ran = some s.round ∧
          ∀ r ∈ accelPlates s, (plateLs t r.plate).lo ≤ (plateLs t r.plate).firm)) ∧
      SameBut [.ev, .hl, .sv, .al, .errs, .clock, .freeCtr] s t)) ∧
  (∀ (s : State), running s = true → s.began = true → s.glb.role ≠ .safe →
    let e := clockTo (s.t0At + periodNs s * 98 / 100) s
    Does .leaseOut s (fun t =>
      t.clock = max s.clock (s.t0At + periodNs s * 98 / 100) ∧
      (issues s = true → s.al.first = false → s.al.leaseQuar = false → s.al.allocQuar = false → s.al.restarted ≠ some s.round → engineSilent e = false →
        t.al.done = some s.round ∧ t.al.lastFirm = s.round ∧ t.al.armed = true ∧ t.al.keepOn = false ∧ t.al.keepStop = false ∧
        ((allPlates s).Nodup → ∀ r ∈ accelPlates s,
          (plateLs t r.plate).seq = ((plateLs s r.plate).seq + 1) % 2 ^ 32 ∧ (plateLs t r.plate).keeper = false ∧
          (plateLs t r.plate).kSeq = (plateLs t r.plate).seq ∧ (plateLs t r.plate).kCap = (plateLs t r.plate).firm)) ∧
      (issues s = false ∨ s.al.first = true ∨ s.al.leaseQuar = true ∨ s.al.allocQuar = true ∨ s.al.restarted = some s.round ∨ engineSilent e = true →
        t.al.done = s.al.done ∧ t.al.armed = s.al.armed ∧ t.al.keepOn = s.al.keepOn ∧ t.outbox = s.outbox ∧
        (allocLate e = false → t.ev = s.ev) ∧ (allocLate e = true → Wrote 0x0B0A srcAlloc (aq s.round ++ aw s.al.timeLast) e t)) ∧
      SameBut [.ev, .hl, .lp, .al, .errs, .outbox, .clock] s t))

/-- R123, R124: where the engine has not completed its bundles by 0.99P, an armed keeper issues FIRM records from its held caps, none above a plate's emergency ceiling as it stands then, and counts its rounds, its first round recorded; after the rounds of its limit it asks a qualified partner for a handover and goes on, and without one it stops, both recorded. R22, R113, R126: a constraint that the last allocation did not find short is, 1 s after the last one that did, taken off the list with its clear record, and no other is; one still short stays. A disagreement with the host that has stood is listed once, and its end takes it off; the record gives both the host's value and the one applied. (A shortage counts from the last allocation that found it: the reading of log 116.) -/
def Obligations.lease_keeper_and_shortage_records : Prop :=
  ((∀ (s : State), running s = true → issues s = true → s.al.armed = true → s.al.keepStop = false → s.al.done ≠ some s.round →
      Does .leaseKeeperIssue s (fun t =>
        t.clock = max s.clock (s.t0At + periodNs s * 99 / 100) ∧ t.al.keepOn = true ∧
        t.al.keepRounds = satAdd 0xFFFF (if s.al.keepOn then s.al.keepRounds else 0) 1 ∧ t.al.done = s.al.done ∧ t.sv = { s.sv with ecapLine := Config.ecapLine t.clock } ∧
        (s.al.keepOn = false → Wrote 0x0B01 (src 11 1) (aq s.round ++ aq s.al.lastFirm) { s with clock := t.clock } t) ∧
        (s.al.keepOn = true → t.ev = s.ev) ∧
        ((allPlates s).Nodup → ∀ r ∈ accelPlates s,
          (plateLs t r.plate).kind = 1 ∧ (plateLs t r.plate).keeper = true ∧ (plateLs t r.plate).cap = minOpt (plateLs s r.plate).kCap [ecapOf t r] ∧
          (plateLs t r.plate).seq = ((plateLs s r.plate).kSeq + 1) % 2 ^ 32) ∧
        SameBut [.ev, .hl, .sv, .al, .errs, .outbox, .clock] s t)) ∧
    (∀ (s : State), running s = true → s.al.keepOn = true → keepLimit s ≤ s.al.keepRounds →
      Does .leaseKeeperLimit s (fun t =>
        (s.glb.role = .active → s.red.ho = none → t.al.keepOn = true ∧ ∃ h, t.red.ho = some h ∧ h.cause = 5 ∧ h.since = s.clock ∧ Wrote 0x0129 srcChip (aw 5) s t) ∧
        (s.glb.role ≠ .active → t.al.keepOn = false ∧ t.al.keepStop = true ∧ t.red = s.red ∧
          Wrote 0x0B0B (src 11 1) (aq s.round) (emit 0x0B02 (src 11 1) (aw s.al.keepRounds ++ aw 3) s) t) ∧
        SameBut [.red, .ev, .hl, .al, .errs] s t))) ∧
  ((∀ (kind index since : Nat) (s : State), running s = true → tget s.al.short (inKey kind index) = some since →
      (s.al.shortKeys.contains (inKey kind index) = true → Does (.capacityShortClear kind index) s (fun t => t = s)) ∧
      (s.al.shortKeys.contains (inKey kind index) = false →
        Does (.capacityShortClear kind index) s (fun t =>
          t.al = { s.al with short := tdel s.al.short (inKey kind index) } ∧ (tget t.al.short (inKey kind index)) = none ∧
          (∀ k, k ≠ inKey kind index → tget t.al.short k = tget s.al.short k) ∧ t.clock = max s.clock (since + 1000000000) ∧
          Wrote 0x0B03 srcAlloc (aw kind ++ aw index ++ aw 0) { s with clock := t.clock } t true ∧ SameBut [.ev, .hl, .al, .errs, .clock] s t))) ∧
    (∀ (kind object : Nat) (s : State), running s = true → policyDiffers s kind object = true → s.al.conflicts.contains (kind * 65536 + object) = false →
      Does (.policyConflict kind object false) s (fun t =>
        t.al = { s.al with conflicts := s.al.conflicts ++ [kind * 65536 + object] } ∧
        Wrote 0x0110 srcAlloc (aw kind ++ aw object ++ aw (hostValue s kind object) ++ aw (min (hostValue s kind object) (moduleValue s kind object))) s t ∧
        SameBut [.ev, .hl, .al, .errs] s t)) ∧
    (∀ (kind object : Nat) (s : State), running s = true → policyDiffers s kind object = false → s.al.conflicts.contains (kind * 65536 + object) = true →
      Does (.policyConflict kind object true) s (fun t =>
        t.al = { s.al with conflicts := s.al.conflicts.filter (· != kind * 65536 + object) } ∧
        Wrote 0x0110 srcAlloc (aw kind ++ aw object ++ aw (hostValue s kind object) ++ aw (min (hostValue s kind object) (moduleValue s kind object))) s t true ∧
        SameBut [.ev, .hl, .al, .errs] s t)))

/-- R98 to R100, R339: a slice that completes in a window of the round writes the adapted adapter and the optimiser moments of the plate it is on and no other byte of memory, and the counters its tile created outlive it; a slice that does not complete writes nothing. (A window without enough samples for its horizon leaves the plate untrained, and the due time of the sweep, are the model's choices: log 55.) A mirror period after its last sweep the ACTIVE module sends every adapter, its partner closes its counts, both with the record; once the warm hold has had its rounds it ends, and the plates keep their states. -/
def Obligations.adaptation_slices_and_mirror_sweep : Prop :=
  (∀ (region pos p next at_ : Nat) (m : ModelC) (s : State), running s = true → s.fc.mdl.active = some m → adapts s = true → tileUp s region pos = true → locTakes s region pos = false →
    sliceAt s = some at_ → slicePlate s region pos = some (p, next) →
    Does (.adaptationSlice region pos true) s (fun t =>
      t.clock = max s.clock at_ ∧
      t.fc.slices = satAdd 0xFFFF s.fc.slices 1 ∧ tget t.fc.slicePos (region * 24 + pos) = some next ∧
      t.mem = (sliceOp m region pos p s).mem ∧ (tileSt t region pos).st = 4 ∧
      (∀ c x, tget t.sc.ctrs c = some x → x.owner = tileParty region pos → x.adapt = false) ∧
      (∀ a, (a < adapterBase s p ∨ adapterBase s p + m.adapterSize / 2 * 2 ≤ a) → (a < optBase s p ∨ optBase s p + m.adapterSize / 2 * 8 ≤ a) → memRd t.mem a = memRd s.mem a) ∧
      SameBut [.ev, .hl, .sc, .fc, .errs, .mem, .clock] s t) ∧
    Does (.adaptationSlice region pos false) s (fun t => t.fc = s.fc ∧ t.mem = s.mem ∧ SameBut [.sc] s t)) ∧
  (∀ (m : ModelC) (s : State), running s = true → s.fc.mdl.active = some m → m.adapterSize ≠ 0 →
    Does .mirrorSweep s (fun t =>
      (s.glb.role = .active →
        t.clock = max s.clock (s.fc.lastSweep + (pat s).bind.mirrorS * 1000000000) ∧ t.fc = { s.fc with lastSweep := t.clock } ∧
        t.outbox = (each ((accelPlates s).map (·.plate)) (fun p s => each (adapterRecs s m p) (fun r s => mirrorSend 6 r.length [r] s) s) s).outbox ∧
        Wrote 0x0A47 srcSup (aw (accelPlates s).length ++ aw 0) { s with clock := t.clock } t) ∧
      (s.glb.role = .standby ∨ s.glb.role = .held →
        t.fc = { s.fc with mirrorApplied := min 0x1FFF s.fc.sweepApplied, sweepApplied := 0, sweepBad := 0 } ∧ t.outbox = s.outbox ∧ t.clock = s.clock ∧
        Wrote 0x0A47 srcSup (aw s.fc.sweepApplied ++ aw s.fc.sweepBad) s t) ∧
      SameBut [.ev, .hl, .fc, .errs, .outbox, .clock] s t)) ∧
  (∀ (s : State), running s = true → s.fc.warmHold = true → s.fc.warmFrom + (pat s).bind.warmHold ≤ s.round →
    Does .warmHoldEnd s (fun t => t.fc.warmHold = false ∧ t.fc.degraded = degradedBits t ∧ t.fc.plates = s.fc.plates ∧ SameBut [.ev, .hl, .fc, .errs] s t))

/-- R24, R25, R59, R60, R62: cell retries and block re-sends are counted for the chip and for the unit's region, and nothing else changes where the unit corrects them (the corrected bits of a memory stack come as unit kind 9 and are counted in their region only: the choice of log 94); a retry of a tile or a region store that would cross the guard leaves its plates without a rollout in the round, on the fallback estimator; a fourth failed transfer of a tile quarantines it; an error that a block of the control part cannot correct is re-sent, and its fourth failure quarantines that block. R59, R67, R68: an uncorrectable 4 KB unit is counted in its stack's region; in the telemetry areas its values read as missing, its row is kept for repair; in the adapter area the plate's adapter reads as zero and the plate is DEMOTED, in a copy of the active container and in the areas of no consumer memory stays, and no byte outside the unit (or the adapter) changes. A lost stack is counted, the interleave stands until it is re-formed at the next boundary, tier 1 of the recorder is gone, and an ACTIVE module with a HOT partner asks for a handover. (One lost unit is one row for repair, and what is restored later: the model's choices, logs 108 and 110.) -/
def Obligations.array_and_memory_errors_are_contained : Prop :=
  ((∀ (kind index retries : Nat) (s : State), running s = true → kind ≠ 1 → kind ≠ 9 →
      let n := max 1 (min 2 retries)
      Does (.cellParityError kind index retries 0 false) s (fun t =>
        t.dg.cntCell = satAdd 0xFFFFFFFF s.dg.cntCell n ∧
        (kind = 3 → t.lp = { s.lp with cellCnt := satAdd 0xFFFFFFFF s.lp.cellCnt n }) ∧ (kind ≠ 3 → t.lp = s.lp) ∧
        (∀ k, regionOfUnit kind index = some k → k < 6 → regSt t k = { regSt s k with cell := satAdd 0xFFFFFFFF (regSt s k).cell n }) ∧
        (∀ j, regionOfUnit kind index ≠ some j → regSt t j = regSt s j) ∧
        t.fc.plates = s.fc.plates ∧ SameBut [.dg, .ev, .hl, .lp, .fc, .errs] s t)) ∧
    (∀ (k retries : Nat) (s : State), running s = true → k < 6 →
      Does (.cellParityError 9 k retries 0 false) s (fun t =>
        regSt t k = { regSt s k with ce := satAdd 0xFFFFFFFF (regSt s k).ce (max 1 (min 2 retries)) } ∧ (∀ j, j ≠ k → regSt t j = regSt s j) ∧
        t.fc.plates = s.fc.plates ∧ SameBut [.fc] s t)) ∧
    (∀ (index retries attempts k p : Nat) (s : State), running s = true → posOfPhys s index = some (k, p) →
      Does (.cellParityError 1 index retries attempts true) s (fun t =>
        (∀ q ∈ platesOn s k p, (plateRun t q).run = none ∧ (plateRun t q).fallback = true) ∧
        (∀ q, q ∉ platesOn s k p → plateRun t q = plateRun s q) ∧ SameBut [.dg, .ev, .hl, .fc, .errs] s t)) ∧
    (∀ (k retries attempts : Nat) (s : State), running s = true → k < 6 →
      Does (.cellParityError 2 k retries attempts true) s (fun t =>
        (∀ q ∈ hosted s k, (plateRun t q).run = none ∧ (plateRun t q).fallback = true) ∧ (regSt t k).st = (regSt s k).st ∧
        (∀ q, q ∉ hosted s k → plateRun t q = plateRun s q) ∧ SameBut [.dg, .ev, .hl, .fc, .errs] s t)) ∧
    (∀ (index retries attempts : Nat) (s : State), running s = true → 0 < attempts → s.al.allocQuar = false →
      Does (.cellParityError 10 index retries attempts false) s (fun t =>
        t.dg.cntResend = satAdd 0xFFFFFFFF s.dg.cntResend (max 1 (min 3 attempts)) ∧
        (attempts < 4 → t.al = s.al) ∧
        (4 ≤ attempts → t.al = { s.al with allocQuar := true } ∧ t.dg.cntQuar = satAdd 0xFFFFFFFF s.dg.cntQuar 1) ∧ SameBut [.dg, .al] s t)) ∧
    (∀ (kind index attempts : Nat) (s : State), running s = true → kind ≠ 1 → attempts < 4 →
      let n := max 1 (min 3 attempts)
      Does (.blockCrcMismatch kind index attempts) s (fun t =>
        t.dg.cntResend = satAdd 0xFFFFFFFF s.dg.cntResend n ∧
        (∀ k, regionOfUnit kind index = some k → k < 6 → regSt t k = { regSt s k with resend := satAdd 0xFFFFFFFF (regSt s k).resend n }) ∧
        (∀ j, regionOfUnit kind index ≠ some j → regSt t j = regSt s j) ∧ SameBut [.dg, .ev, .hl, .fc, .errs] s t)) ∧
    (∀ (index attempts k p : Nat) (s : State), running s = true → posOfPhys s index = some (k, p) → (tileSt s k p).fresh = false → 4 ≤ attempts →
      Does (.blockCrcMismatch 1 index attempts) s (fun t =>
        (tileSt t k p).st = 5 ∧ (tileSt t k p).fresh = true ∧ (tileSt t k p).resend = satAdd 0xFFFFFFFF (tileSt s k p).resend 3 ∧
        t.dg.cntQuar = satAdd 0xFFFFFFFF s.dg.cntQuar 1 ∧ (∀ j, j ≠ k → regSt t j = regSt s j) ∧
        SameBut [.dg, .ev, .hl, .sc, .fc, .errs, .outbox] s t))) ∧
  ((∀ (addr : Nat) (s : State), running s = true → hbmBase ≤ addr → addr < hbmTop s →
      let a := addr / 4096 * 4096
      let p := (a - areaBase s 5) / 0x40000
      Does (.hbmUe addr) s (fun t =>
        (regSt t (stackOf s a)).ue = satAdd 0xFFFFFFFF (regSt s (stackOf s a)).ue 1 ∧ (∀ j, j ≠ stackOf s a → regSt t j = regSt s j) ∧
        (areaOf s a ≤ 2 → ∀ i, i < 2048 → hbmRd t (a + 2 * i) = 0x00#8 ∧ hbmRd t (a + 2 * i + 1) = 0x7E#8) ∧
        (areaOf s a ≠ 5 → ∀ b, b < a ∨ a + 4096 ≤ b → memRd t.mem b = memRd s.mem b) ∧
        (areaOf s a = 3 ∨ areaOf s a = 6 ∨ areaOf s a = 7 ∨ (areaOf s a = 8 ∧ inCopies s a = true) → t.mem = s.mem) ∧
        t.hw.repair.contains (stackOf s a, stackAddr s a / 4096) = true ∧ (areaOf s a ≠ 5 → Wrote 0x0A05 (src 9 (stackOf s a)) (aw (stackOf s a) ++ aq a) s t) ∧
        (areaOf s a = 5 →
          (plateRun t p).st ≠ 2 ∧ (∀ b, adapterBase s p ≤ b → b < adapterBase s p + 0x40000 → memRd t.mem b = 0#8) ∧
          (∀ b, b < adapterBase s p ∨ adapterBase s p + 0x40000 ≤ b → memRd t.mem b = memRd s.mem b)) ∧
        SameBut [.hw, .dg, .ev, .hl, .fc, .errs, .mem, .freeCtr] s t)) ∧
    (∀ (stack cause : Nat) (s : State), running s = true → stack < regionCount s → s.fc.lostStacks.contains stack = false → (cause = 3 → 64 ≤ unitsLostNow s stack) →
      Does (.stackLost stack cause) s (fun t =>
        t.fc.lostStacks = s.fc.lostStacks ++ [stack] ∧ t.fc.reform = true ∧ hbmTop t = hbmTop s ∧ (∀ a, stackOf t a = stackOf s a) ∧ (regSt t stack).stackLost = true ∧ t.ev.hbmOk = false ∧
        t.dg.cntQuar = satAdd 0xFFFFFFFF s.dg.cntQuar 1 ∧ t.mem = s.mem ∧
        (bitOf s.red.partnerWord.toNat 23 = true → s.glb.role = .active → s.red.ho = none → ∃ h, t.red.ho = some h ∧ h.cause = 2) ∧
        (bitOf s.red.partnerWord.toNat 23 = false ∨ s.glb.role ≠ .active → t.red = s.red) ∧
        SameBut [.red, .dg, .ev, .hl, .fc, .errs] s t)))

/-- R64, R65, R69: after the placements of a t0 no quarantine waits for its remap and no region's plates wait to be moved; the first waiting position, in order of region and tile, has taken the lowest free spare; a position left without a tile hosts no plate any more. -/
def Obligations.tiles_take_the_lowest_free_spare : Prop :=
  ∀ (s : State), running s = true →
    Does .tileRemap s (fun t =>
      (∀ k p, k < regionCount s → p < 24 → (tileSt t k p).fresh = false) ∧ (∀ k, k < regionCount s → (regSt t k).move = false) ∧
      (∀ k p i rest, k < regionCount s → p < 24 → (tileSt s k p).fresh = true →
        (∀ k' p', k' < regionCount s → p' < 24 → (tileSt s k' p').fresh = true → k < k' ∨ (k = k' ∧ p ≤ p')) →
        sparesFree s = i :: rest → (tileSt t k p).phys = 144 + i ∧ (tileSt t k p).st = 1 ∧ (tileSt t k p).down = false) ∧
      (∀ k p, k < regionCount s → p < 24 → (tileSt s k p).fresh = true → (tileSt t k p).down = true → platesOn t k p = []) ∧
      t.fc.degraded = degradedBits t ∧ SameBut [.dg, .ev, .hl, .fc, .errs] s t)

/-- R69, R70: a region that goes OFFLINE serves no tile, its plates lose the rollout of the round and wait to be placed elsewhere; a region reset does the same to its tiles, its rollouts and the plates that wait, enters RESETTING with its counts cleared, and has no effect on the last region in SERVICE of a module that drives; the region comes back in SERVICE, its tiles that pass their self-test at their own positions, the plates it still hosts where they are, and the plates that had been placed elsewhere back at the positions they had (the model's choice, log 104: R70 does not say which plates return); with a store that fails its self-test it stays offline. -/
def Obligations.regions_go_offline_and_return : Prop :=
  (∀ (k cause : Nat) (s : State), running s = true → k < regionCount s → (regSt s k).st ≠ 3 → (regSt s k).st ≠ 4 →
    Does (.regionOffline k cause) s (fun t =>
      (regSt t k).st = 3 ∧ (regSt t k).move = true ∧ (∀ p x, tget (regSt s k).tiles p = some x → x.down = false → x.fresh = false → (tileSt t k p).st = 0) ∧
      (∀ j, j ≠ k → regSt t j = regSt s j) ∧ (∀ q ∈ hosted s k, (plateRun t q).run = none ∧ (plateRun t q).fallback = true) ∧
      (∀ q, q ∉ hosted s k → plateRun t q = plateRun s q) ∧ SameBut [.ev, .hl, .sc, .fc, .errs, .outbox] s t)) ∧
  (∀ (k : Nat) (s : State), running s = true → k < regionCount s → (regSt s k).st ≠ 4 →
    (drives s = true → (regSt s k).st = 2 → lastRegion s k = true → Does (.regionReset k) s (fun t => t = s)) ∧
    (drives s = false ∨ (regSt s k).st ≠ 2 ∨ lastRegion s k = false →
      Does (.regionReset k) s (fun t =>
        (regSt t k).st = 4 ∧ ((regSt s k).st ≠ 3 → (regSt t k).move = true ∧ ∀ q ∈ hosted s k, (plateRun t q).run = none ∧ (plateRun t q).fallback = true) ∧
        (∀ p x, tget (regSt s k).tiles p = some x →
          (tileSt t k p).st = 6 ∧ (tileSt t k p).cell = 0 ∧ (tileSt t k p).resend = 0 ∧ (tileSt t k p).phys = x.phys ∧
          ((regSt s k).st ≠ 3 → (tileSt t k p).down = (x.down || x.fresh) ∧ (tileSt t k p).fresh = false)) ∧
        (regSt t k).cell = 0 ∧ (regSt t k).resend = 0 ∧ (regSt t k).ce = 0 ∧ (regSt t k).ue = 0 ∧
        (∀ j, j ≠ k → regSt t j = regSt s j) ∧ (∀ q, q ∉ hosted s k → plateRun t q = plateRun s q) ∧ SameBut [.ev, .hl, .sc, .fc, .errs, .outbox] s t))) ∧
  (∀ (k : Nat) (s : State), running s = true → (regSt s k).st = 4 →
    Does (.regionRestored k []) s (fun t =>
      (regSt t k).st = 2 ∧ (regSt t k).move = false ∧
      (∀ p, p < 24 → (tileSt t k p).phys = 24 * k + p ∧ (tileSt t k p).st = 1 ∧ (tileSt t k p).down = false ∧ (tileSt t k p).fresh = false ∧ (tileSt t k p).quar = false) ∧
      (∀ q ∈ hosted s k, (plateRun t q).place = (plateRun s q).place) ∧
      (((regSt s k).out.map (·.1)).Nodup → ∀ e ∈ (regSt s k).out, e.1 ∈ allPlates s → e.1 ∉ hosted s k → (plateRun t e.1).place = some (k, e.2)) ∧
      (∀ j, j ≠ k → regSt t j = { regSt s j with out := (regSt t j).out }) ∧ t.fc.degraded = degradedBits t ∧ SameBut [.dg, .ev, .hl, .sc, .fc, .errs, .outbox] s t)) ∧
  (∀ (k : Nat) (failed : List Nat) (s : State), running s = true → (regSt s k).st = 4 → failed.contains 152 = true →
    Does (.regionRestored k failed) s (fun t => (regSt t k).st = 3 ∧ t.fc.plates = s.fc.plates ∧ (∀ j, j ≠ k → regSt t j = regSt s j)))

/-- R95: a plate that the host forces is DEMOTED, with the record, and stays forced; a released one promotes again from zero counts. No other plate changes. R76, R79, R82, R83: a MODEL_ACTIVATE whose data is there loads the container that passes its checks for the next t0 and records the first check that refuses another; a fit trial ends once its 16 rounds are over: one that meets the pattern's rate ends ACTIVE, or DEGRADED with k above 1 or streamed weights, and one that does not is refused by check 11: the model before it is loaded again, or none is active. `u` is the state once the command has been taken. -/
def Obligations.plates_forced_and_models_activated : Prop :=
  ((∀ (p : Nat) (s : State), running s = true → (plateRec s p).isSome = true → (plateRun s p).forced = false →
      Does (.forceDemoted p) s (fun t =>
        plateRun t p = { plateRun s p with st := if (plateRun s p).st = 2 then 1 else (plateRun s p).st, exc := 0, inband := 0, forced := true } ∧
        Wrote 0x0A44 (src 2 (plateRegion s p)) (aw p ++ aw (plateRun s p).resid.toNat ++ aw 2) s t ∧
        (∀ q, q ≠ p → plateRun t q = plateRun s q) ∧ SameBut [.ev, .hl, .fc, .errs] s t)) ∧
    (∀ (p : Nat) (s : State), running s = true → (plateRun s p).forced = true →
      Does (.plateRelease p) s (fun t =>
        plateRun t p = { plateRun s p with forced := false, exc := 0, inband := 0 } ∧ (∀ q, q ≠ p → plateRun t q = plateRun s q) ∧ SameBut [.fc] s t))) ∧
  ((∀ (d : Dgram) (s u : State) (p : PeerRec) (r : Nat), running s = true → CritTaken 1 24 0 d s p r u →
      let xfer := fld (critArgs d) 0 4
      let addr := fld (critArgs d) 8 8
      let len := fld (critArgs d) 16 8
      let raw := memRdN s.mem addr (min len (hbmTop s - addr))
      zeroAt (critArgs d) 4 4 = true → (xferDenied p.index xfer u).1 = false → xferMissing u p.index xfer len = 0 →
      s.fc.mdl.st ≠ 2 → s.fc.mdl.st ≠ 3 → s.fc.mdl.st ≠ 6 →
      Does (.modelActivate d) s (fun t =>
        (mdlCheck s raw len = 0 → t.fc.mdl.st = 2 ∧ t.fc.mdl.next = some (parseModel raw) ∧ t.fc.mdl.begun = false ∧ t.fc.mdl.active = s.fc.mdl.active) ∧
        (mdlCheck s raw len ≠ 0 → t.fc.mdl = { s.fc.mdl with lastCheck := mdlCheck s raw len }) ∧
        t.fc.plates = s.fc.plates ∧ SameBut [.ev, .hl, .ks, .sc, .fc, .errs, .outbox] s t)) ∧
    (∀ (tRoll tStall : Nat) (m : ModelC) (s : State), running s = true → s.fc.mdl.active = some m → s.fc.mdl.st = 3 → s.fc.mdl.startRound + 16 ≤ s.round →
      let k := fitK (pat s).bind.period tRoll
      let rate := fitRate (pat s).bind.period k
      Does (.modelFitTrialEnd tRoll tStall) s (fun t =>
        ((pat s).bind.minRate ≤ rate → k ≤ 16 →
          t.fc.mdl.k = k ∧ t.fc.mdl.rate = rate ∧ t.fc.mdl.active = some m ∧ t.fc.mdl.prev = none ∧
          t.fc.mdl.st = (if k = 1 ∧ streamedBytes m = 0 then 4 else 5)) ∧
        (rate < (pat s).bind.minRate ∨ 16 < k →
          t.fc.mdl.lastCheck = 11 ∧
          (∀ o, s.fc.mdl.prev = some o → t.fc.mdl.st = 6 ∧ t.fc.mdl.next = some o) ∧
          (s.fc.mdl.prev = none → t.fc.mdl.st = 0 ∧ t.fc.mdl.active = none ∧ t.fc.mdl.k = 0 ∧ t.fc.mdl.rate = 0)) ∧
        SameBut [.ev, .hl, .ks, .fc, .errs, .outbox] s t)) ∧
    (∀ (tRoll tStall : Nat) (s : State), running s = true → s.round < s.fc.mdl.startRound + 16 → Does (.modelFitTrialEnd tRoll tStall) s (fun t => t = s)))

/-- R308, R312, R314: a fragment (`d` is it without its trailer where it comes tagged, R324) that its rack's aggregator may send is kept until its bundle is whole; a bundle of one fragment is whole at once, is counted and waits for ingest close, and only the ring entries of its rack's plates change in memory; a fragment that came before changes no bundle. A bundle that is overtaken by a newer one, or 4 rounds old, is counted, recorded and discarded. `u` is the state once the datagram has been accepted. -/
def Obligations.telemetry_bundles_are_assembled : Prop :=
  (∀ (m d : Dgram) (s u : State) (p : PeerRec), running s = true → untag m = d → accept 1 d s = (some p, u) → s.glb.role ≠ .safe → hasRight p 6 = true → telLayout d = true →
    p.rack = byteAt d.payload 0 → tgetD s.hl.telDone1 (64 + p.index) 0 ≤ d.round →
    let rack := byteAt d.payload 0
    let tag := fld d.payload 8 8
    Does (.telemetryFragment m) s (fun t =>
      (s.hl.bundles.find? (fun y => y.rack == rack && y.tag == tag) = none → d.frags ≠ 1 →
        t.hl.bundles = s.hl.bundles ++ [{ rack := rack, tag := tag, frags := d.frags, got := [(d.frag, d.payload)], firstRound := s.round }] ∧ t.mem = s.mem ∧ t.fc = s.fc) ∧
      (s.hl.bundles.find? (fun y => y.rack == rack && y.tag == tag) = none → d.frags = 1 →
        t.hl.bundles = s.hl.bundles ∧ t.hl.telDone = satAdd 0xFFFF s.hl.telDone 1 ∧
        (rackRun t rack).ready = (rackRun s rack).ready ++ [bundleOf { rack := rack, tag := tag, frags := 1, got := [(d.frag, d.payload)], firstRound := s.round }] ∧
        (∀ a, (∀ r ∈ accelPlates s, r.rack = rack → ∀ m, a < ringAddr s r.plate m ∨ ringAddr s r.plate m + 512 ≤ a) → memRd t.mem a = memRd s.mem a)) ∧
      (∀ b, s.hl.bundles.find? (fun y => y.rack == rack && y.tag == tag) = some b → b.got.any (fun g => g.1 == d.frag) = true →
        t.hl.bundles = s.hl.bundles ∧ t.mem = s.mem ∧ t.fc = s.fc) ∧
      SameBut [.ev, .hl, .ks, .sc, .fc, .errs, .outbox, .mem] s t)) ∧
  (∀ (rack tag : Nat) (b : BundleSt) (s : State), running s = true → s.hl.bundles.find? (fun y => y.rack == rack && y.tag == tag) = some b →
    tag < tgetD s.hl.telDone1 rack 0 ∨ b.firstRound + 4 ≤ s.round →
    Does (.bundleIncomplete rack tag) s (fun t =>
      t.hl.telBad = satAdd 0xFFFF s.hl.telBad 1 ∧ t.hl.bundles = s.hl.bundles.filter (fun y => !(y.rack == rack && y.tag == tag)) ∧
      t.hl.telDone = s.hl.telDone ∧ Wrote 0x070A (src 8 0) (aw rack ++ aq tag ++ aw b.got.length) s t ∧ SameBut [.ev, .hl, .errs] s t))

/-- R197 to R201, R203, R209: a comparator whose reading is beyond its threshold trips and its row, or a row whose condition stands, is ACTIVE, and the frames' masks are those of the actions then in force; a comparator whose reading passes its limits is UNKNOWN, with the record, drops its last result, and neither clears on its own reading nor trips until it is known; back inside its limits it is known again, with the clear record; one tripped clears on a reading past its clearing level and on no other; an unarmed pump comparator never trips. No other comparator or row changes. (A value equal to a threshold, and one inside R199's tolerance, may cross it: R9; which does is the model's choice, log 126.) -/
def Obligations.selvedge_comparators_trip_and_clear : Prop :=
  (∀ (k reading : Nat) (s : State), k < 16 → (cmpRec s k).enable = true → cmpArmed s k = true → cmpUnknown s k = false → cmpBeyond s k (reading % 65536) = true →
    Does (.conditionPresent (.cmp k reading)) s (fun t =>
      cmpSt t k = { cmpSt s k with own := true, reading := reading % 65536 } ∧ (∀ j, j ≠ k → cmpSt t j = cmpSt s j) ∧
      (∀ r ∈ rowsOfCmp k, (rowSt t r).st = 1 ∧ (∀ b, bitOf (rowSt s r).latch b = true → bitOf (rowSt t r).latch b = true) ∧
        ((rowSt s r).st = 0 → (rowSt t r).latch = Nat.lor (rowSt s r).latch (latching (rowRec s r).imm) ∧ (rowSt t r).delayFrom = some s.clock ∧ (rowSt t r).fired = false)) ∧
      (∀ r, r ∉ rowsOfCmp k → rowSt t r = rowSt s r) ∧
      (svMaySend s = true → s.svf.masks.length = 3 → t.svf.masks = [svMask t 1, svMask t 2, svMask t 3]) ∧ SameBut [.ev, .hl, .pf, .sv, .svf, .fb, .errs, .outbox] s t)) ∧
  (∀ (r : Nat) (s : State), r < 64 → rowCond s r = true →
    Does (.conditionPresent (.row r)) s (fun t =>
      (rowSt t r).st = 1 ∧ (∀ j, j ≠ r → rowSt t j = rowSt s j) ∧ t.sv.cmps = s.sv.cmps ∧
      (svMaySend s = true → s.svf.masks.length = 3 → t.svf.masks = [svMask t 1, svMask t 2, svMask t 3]) ∧ SameBut [.ev, .hl, .pf, .sv, .svf, .fb, .errs, .outbox] s t)) ∧
  (∀ (k reading : Nat) (s : State), k < 16 → (cmpRec s k).enable = true → (cmpSt s k).unkOwn = false → cmpOut s k (reading % 65536) = true →
    Does (.comparatorUnknown k reading) s (fun t =>
      cmpSt t k = { cmpSt s k with unkOwn := true, own := false, reading := reading % 65536 } ∧ cmpUnknown t k = true ∧
      (running s = true → cmpUnknown s k = false → Wrote 0x0406 srcSv (aw k ++ aw 1) s t) ∧
      (∀ j, j ≠ k → cmpSt t j = cmpSt s j) ∧ t.sv.rows = s.sv.rows ∧ SameBut [.ev, .hl, .sv, .errs] s t)) ∧
  (∀ (k reading : Nat) (s : State), k < 16 → (cmpSt s k).unkOwn = true → cmpOut s k (reading % 65536) = false →
    Does (.svInputUnknownClear k reading) s (fun t =>
      cmpSt t k = { cmpSt s k with unkOwn := false, reading := reading % 65536 } ∧
      (running s = true → (cmpRec s k).enable = true → (cmpSt s k).advUnk = false → Wrote 0x0406 srcSv (aw k ++ aw 1) s t true) ∧
      (∀ j, j ≠ k → cmpSt t j = cmpSt s j) ∧ t.sv.rows = s.sv.rows ∧ SameBut [.ev, .hl, .sv, .errs] s t)) ∧
  (∀ (k reading : Nat) (s : State), k < 16 →
    Does (.comparatorClears k reading) s (fun t =>
      (cmpUnknown s k = false → cmpBack s k (reading % 65536) = true → cmpSt t k = { cmpSt s k with own := false, reading := reading % 65536 }) ∧
      (cmpUnknown s k = true ∨ cmpBack s k (reading % 65536) = false → t = s) ∧
      (∀ j, j ≠ k → cmpSt t j = cmpSt s j) ∧ t.sv.rows = s.sv.rows ∧ SameBut [.sv] s t)) ∧
  (∀ (k : Nat) (s : State), k < 8 → (cmpRec s (6 + k)).enable = true → nth s.sv.sec.pumpDio k 0xFFFF ≠ 0xFFFF →
    Does (.dpArmed k) s (fun t =>
      cmpSt t (6 + k) = { cmpSt s (6 + k) with armed := true } ∧ (∀ j, j ≠ 6 + k → cmpSt t j = cmpSt s j) ∧ t.sv.rows = s.sv.rows ∧ SameBut [.sv] s t)) ∧
  (∀ (k : Nat) (s : State), k < 8 →
    Does (.dpDisarmed k) s (fun t =>
      (cmpSt t (6 + k)).armed = false ∧ cmpTrip t (6 + k) = false ∧ (∀ j, j ≠ 6 + k → cmpSt t j = cmpSt s j) ∧ t.sv.rows = s.sv.rows ∧ SameBut [.sv] s t))

/-- R200, R202, R204, R205, R209, R221: an ACTIVE row whose condition has gone and whose criterion holds is HOLDING; at DELAY its delayed actions fire unless it has recovered; after CLEAR_HOLD it is IDLE, or LATCHED with the latching actions in force, and the record says which; a rope takes the band its impedance lies in, within R204's ±5 % the one that its two evaluations agreed on (R9), a wet, shorted or broken one with its record; an advisory latch and D_ref lapse 10 ms after their refresh. No other row changes. -/
def Obligations.selvedge_rows_hold_latch_and_clear : Prop :=
  (∀ (r flow : Nat) (s : State), (rowSt s r).st = 1 → rowCond s r = false → rowRecovered s r flow = true →
    Does (.rowHolding r flow) s (fun t =>
      rowSt t r = { rowSt s r with st := 2, holdAt := s.clock } ∧ (∀ j, j ≠ r → rowSt t j = rowSt s j) ∧ t.sv.cmps = s.sv.cmps ∧ SameBut [.sv] s t)) ∧
  (∀ (r flow at_ : Nat) (s : State), (rowSt s r).st = 1 ∨ (rowSt s r).st = 2 → (rowSt s r).delayFrom = some at_ → (rowSt s r).fired = false → (rowRec s r).delay ≠ 0 →
    Does (.rowDelayExpiry r flow) s (fun t =>
      t.clock = max s.clock (at_ + (rowRec s r).delay * 1000000) ∧
      (rowRecovered s r flow = true → rowSt t r = { rowSt s r with delayFrom := none }) ∧
      (rowRecovered s r flow = false → rowSt t r = { rowSt s r with fired := true, delayFrom := none, latch := Nat.lor (rowSt s r).latch (latching (rowRec s r).delayed) }) ∧
      (∀ j, j ≠ r → rowSt t j = rowSt s j) ∧ t.sv.cmps = s.sv.cmps ∧ SameBut [.ev, .hl, .sv, .svf, .fb, .errs, .outbox, .clock] s t)) ∧
  (∀ (r : Nat) (s : State), (rowSt s r).st = 2 →
    Does (.rowClearHold r) s (fun t =>
      rowSt t r = { rowSt s r with st := if latching (rowForce s r) = 0 then 0 else 3, latch := latching (rowForce s r), fired := false, delayFrom := none } ∧
      (running s = true → ecapMask t = s.sv.ecapSeen →
        Wrote 0x0402 srcSv (aw r ++ aw (rowSt t r).st ++ aw (((rowSt s r).holdAt - (rowSt s r).activeAt) / 1000000)) { s with clock := t.clock } t) ∧
      t.clock = max s.clock ((rowSt s r).holdAt + s.sv.sec.clearHold * 1000000) ∧
      (∀ j, j ≠ r → rowSt t j = rowSt s j) ∧ t.sv.cmps = s.sv.cmps ∧ SameBut [.ev, .hl, .sv, .svf, .fb, .errs, .outbox, .clock] s t)) ∧
  (∀ (z ohms new : Nat) (s : State), z < 16 → (ropeRec s z).enable = true →
    Does (.ropeStateChange z (ohms, new)) s (fun t =>
      (ropeSt t z).z = min 0xFFFF (ohms / 100) ∧ ((ropeSt t z).st = new ∨ (ropeSt t z).st = ropeAt 20 (ropeSt s z).st ohms) ∧ ((∃ k, 19 ≤ k ∧ k ≤ 21 ∧ ropeAt k (ropeSt s z).st ohms = new) → (ropeSt t z).st = new) ∧
      (ohms < 950 → (ropeSt t z).st = 4) ∧ (2100 < ohms → ohms < 57000 → (ropeSt t z).st = 2) ∧ (73500 < ohms → ohms < 285000 → (ropeSt t z).st = 1) ∧
      (420000 < ohms → (ropeSt t z).st = 3) ∧ (ohms ≤ 1900 → (ropeSt s z).st = 4 → (ropeSt t z).st = 4) ∧
      (running s = true → (ropeSt s z).st ≠ 3 → (ropeSt t z).st ≠ (ropeSt s z).st →
        ((ropeSt t z).st = 2 ∨ (ropeSt t z).st = 4 → Wrote 0x0404 srcSv (aw z ++ aw (ropeSt t z).st ++ aw (ropeSt t z).z) s t) ∧
        ((ropeSt t z).st = 3 → Wrote 0x0405 srcSv (aw z ++ aw (ropeSt t z).z) s t)) ∧
      (∀ j, j ≠ z → ropeSt t j = ropeSt s j) ∧ t.sv.rows = s.sv.rows ∧ t.sv.cmps = s.sv.cmps ∧ SameBut [.ev, .hl, .sv, .errs] s t)) ∧
  (∀ (k : Nat) (s : State), (cmpSt s k).advTrip = true →
    Does (.advisoryLapse (.trip k)) s (fun t =>
      cmpSt t k = { cmpSt s k with advTrip := false } ∧ t.clock = max s.clock ((cmpSt s k).advTripAt + 10000000) ∧
      (∀ j, j ≠ k → cmpSt t j = cmpSt s j) ∧ t.sv.rows = s.sv.rows ∧ SameBut [.sv, .clock] s t)) ∧
  (∀ (k : Nat) (s : State), (cmpSt s k).advUnk = true →
    Does (.advisoryLapse (.unknown k)) s (fun t =>
      cmpSt t k = { cmpSt s k with advUnk := false } ∧ t.clock = max s.clock ((cmpSt s k).advUnkAt + 10000000) ∧ (∀ j, j ≠ k → cmpSt t j = cmpSt s j) ∧ t.sv.rows = s.sv.rows ∧ SameBut [.ev, .hl, .sv, .errs, .clock] s t)) ∧
  (∀ (r : Nat) (s : State), (rowSt s r).adv = true →
    Does (.advisoryLapse (.row r)) s (fun t =>
      rowSt t r = { rowSt s r with adv := false } ∧ (∀ j, j ≠ r → rowSt t j = rowSt s j) ∧ t.sv.cmps = s.sv.cmps ∧ SameBut [.sv, .clock] s t)) ∧
  (∀ (at_ : Nat) (s : State), s.sv.drefAt = some at_ →
    Does .drefStale s (fun t => t.sv = { s.sv with drefAt := none } ∧ drefNow t = s.sv.sec.dStatic ∧ t.clock = max s.clock (at_ + 10000000) ∧ SameBut [.sv, .clock] s t))

/-- R215, R220, R223: a repeat whose masks have not changed sends the kind's frame again, or its clear frame that is still to be sent, and moves no mask; a manifold's second closes its bin, and its state is UNKNOWN without 60 valid bins, CONFIRMED above the threshold, WATCH at half of it or less; a pressure drop of LOC_DROP or more (an equal one has crossed it: R9, log 121) is queued, triggers within 500 ms are merged and at most four wait; a localisation ends 80 ms after its trigger, is taken off the queue, counted and recorded, with the manifold, branch and confidence found or with none; where none is made any more (no forecast layer, another role), the queue is emptied. (That a localisation ends at 80 ms, and what the other fields of a miss show, are the model's choices: logs 128 and 75.) -/
def Obligations.selvedge_frames_and_leaks_located : Prop :=
  (∀ (kind : Nat) (s : State), running s = true → s.glb.role ≠ .none → s.glb.role ≠ .safe → 1 ≤ kind → kind ≤ 3 →
    s.svf.masks = [svMask s 1, svMask s 2, svMask s 3] →
    Does (.selvedgeFrameRepeat kind) s (fun t =>
      t.svf.masks = s.svf.masks ∧ (svMask s kind = 0 → s.svf.clears = [] → t.svf = s.svf ∧ t.fb = s.fb ∧ t.outbox = s.outbox) ∧
      (svMask s kind ≠ 0 → s.svf.clears = [] → t.svf.seq = (s.svf.seq + 1) % 256 ∧ ∃ d, t.outbox = s.outbox ++ [d] ∧ d.payload = svBody s kind true (svMask s kind)) ∧
      (∀ g n, svMask s kind = 0 → s.svf.clears = [(kind, g, n)] →
        t.svf.clears = (if n ≤ 1 then [] else [(kind, g, n - 1)]) ∧ ∃ d, t.outbox = s.outbox ++ [d] ∧ d.payload = svBody s kind false g) ∧
      SameBut [.ev, .hl, .sv, .svf, .fb, .errs, .outbox] s t)) ∧
  (∀ (s : State), running s = true → s.glb.role ≠ .safe →
    Does .massBalanceSecond s (fun t =>
      (∀ m r, s.sv.sec.mb[m]? = some r → r.enable = true →
        let x := tgetD s.svf.mb m {}
        let y := tgetD t.svf.mb m {}
        let bin := fsub (fdiv x.sum (fofNat (max 1 x.n))) (gaugeRec s 2 r.gauge).offset
        y.bins = keepLast 60 (x.bins ++ [(bin, x.ok && x.n != 0)]) ∧ y.n = 0 ∧ y.sum = fzero ∧ y.ok = true ∧
        (mbValid y.bins = false → y.st = 3) ∧
        (mbValid y.bins = true → y.mean = mean60 (y.bins.map (·.1)) ∧ (flt (mbThresh s) y.mean = true → y.st = 2) ∧
          (flt (mbThresh s) y.mean = false → fle y.mean (fdiv (mbThresh s) (fofNat 2)) = true → y.st = 1))) ∧
      (∀ m, (∀ r, s.sv.sec.mb[m]? = some r → r.enable = false) → tget t.svf.mb m = tget s.svf.mb m) ∧
      SameBut [.ev, .hl, .svf, .errs, .freeCtr] s t)) ∧
  (∀ (h drop : Nat) (s : State), running s = true → locRuns s = true →
    Does (.localiserTrigger (h, drop)) s (fun t =>
      (drop < s.sv.sec.locDrop → t = s) ∧
      (∀ at_, s.svf.locLast = some at_ → s.clock ≤ at_ + 500000000 → t = s) ∧
      (s.sv.sec.locDrop ≤ drop → (∀ at_, s.svf.locLast = some at_ → at_ + 500000000 < s.clock) →
        t.svf = { s.svf with locLast := some s.clock, locQueue := if s.svf.locQueue.length < 4 then s.svf.locQueue ++ [(h, s.round, s.clock)] else s.svf.locQueue }) ∧
      SameBut [.svf] s t)) ∧
  (∀ (m b c h n at_ : Nat) (q : List (Nat × Nat × Nat)) (s : State), running s = true → locRuns s = true → s.svf.locQueue = (h, n, at_) :: q →
    Does (.leakLocated (some (m, b, c))) s (fun t =>
      t.svf = { s.svf with locQueue := q, locB := n % 2 ^ 32, locC := satAdd 0xFFFFFFFF s.svf.locC 1, locA := m % 256 * 2 ^ 24 + b % 256 * 2 ^ 16 + c % 1024 } ∧
      t.clock = max s.clock (at_ + 80000000) ∧ Wrote 0x040A srcCtl (aw m ++ aw b ++ aw c ++ aq n) { s with clock := t.clock } t ∧
      SameBut [.ev, .hl, .svf, .errs, .clock] s t) ∧
    Does (.leakLocated none) s (fun t =>
      t.svf.locQueue = q ∧ t.svf.locB = n % 2 ^ 32 ∧ t.svf.locC = satAdd 0xFFFFFFFF s.svf.locC 1 ∧ t.svf.locA / 2 ^ 24 = 0xFF ∧
      t.clock = max s.clock (at_ + 80000000) ∧ Wrote 0x040B srcCtl (aw h ++ aq n) { s with clock := t.clock } t ∧
      SameBut [.ev, .hl, .svf, .errs, .clock, .freeCtr] s t)) ∧
  (∀ (x : Option (Nat × Nat × Nat)) (s : State), running s = true → locRuns s = false →
    Does (.leakLocated x) s (fun t => t.svf = { s.svf with locQueue := [] } ∧ SameBut [.svf] s t))

/-- R209, R213, R228, R328: SELVEDGE_RESET returns the LATCHED rows of its mask, row 4 never and a row whose condition is present not; ISOLATE closes its valve sets and ISOLATE_RELEASE releases them; SELVEDGE_RELOCK is accepted by a pair, with the digest of the section, for a round at least 100 ahead, and a refused one leaves a relock accepted before as it stands. Each changes nothing else of the selvedge (but what it has noted of the EMERGENCY_CAP mask). R228, R229: at its deadline a relock is ready where the partner has accepted the same digest and round, and is dropped with its record otherwise; once its round has come a ready relock puts its section into force, the rows keeping their state. -/
def Obligations.selvedge_commands_and_relock : Prop :=
  ((∀ (d : Dgram) (s : State), running s = true → CritReady 10 8 0 d s →
      Does (.selvedgeReset d) s (fun t =>
        (∀ r, r < 64 → bitOf (fld (critArgs d) 0 8) r = true → r ≠ 4 → (rowSt s r).st = 3 → rowCond s r = false → rowSt t r = { rowSt s r with st := 0, latch := 0 }) ∧
        (∀ r, 64 ≤ r ∨ bitOf (fld (critArgs d) 0 8) r = false ∨ r = 4 ∨ (rowSt s r).st ≠ 3 ∨ rowCond s r = true → rowSt t r = rowSt s r) ∧
        t.sv.cmps = s.sv.cmps ∧ SameBut [.ev, .hl, .ks, .sc, .sv, .svf, .fb, .errs, .outbox] s t)) ∧
    (∀ (d : Dgram) (s : State), running s = true → CritReady 11 4 0 d s →
      Does (.isolate d) s (fun t =>
        t.sv = { s.sv with isoCmd := Nat.lor s.sv.isoCmd (fld (critArgs d) 0 4), ecapSeen := t.sv.ecapSeen, ecapAt := t.sv.ecapAt } ∧ SameBut [.ev, .hl, .ks, .sc, .sv, .svf, .fb, .errs, .outbox] s t)) ∧
    (∀ (d : Dgram) (s : State), running s = true → CritReady 12 4 0 d s →
      Does (.isolateRelease d) s (fun t =>
        t.sv = { s.sv with isoCmd := s.sv.isoCmd - Nat.land s.sv.isoCmd (fld (critArgs d) 0 4), ecapSeen := t.sv.ecapSeen, ecapAt := t.sv.ecapAt } ∧ SameBut [.ev, .hl, .ks, .sc, .sv, .svf, .fb, .errs, .outbox] s t)) ∧
    (∀ (d : Dgram) (s : State), running s = true → CritReady 13 72 0 d s →
      let dig := slice (critArgs d) 0 64
      let nt := fld (critArgs d) 64 8
      Does (.selvedgeRelock d) s (fun t =>
        (pairUp s = true → shake256 (pat s).sv.raw = dig → s.round + 100 ≤ nt →
          t.sv = { s.sv with relock := some { digest := dig, nt := nt, accepted := true, shadow := (pat s).sv } }) ∧
        (pairUp s = false ∨ shake256 (pat s).sv.raw ≠ dig ∨ nt < s.round + 100 → t.sv = s.sv) ∧
        SameBut [.ev, .hl, .ks, .sc, .sv, .errs, .outbox] s t))) ∧
  ((∀ (x : RelockSt) (s : State), running s = true → s.sv.relock = some x → x.ready = false →
      Does .relockDeadline s (fun t =>
        (s.mir.relock = some (x.digest, x.nt, true) → t.sv = { s.sv with relock := some { x with ready := true } } ∧ t.ev = s.ev) ∧
        (s.mir.relock ≠ some (x.digest, x.nt, true) → t.sv = { s.sv with relock := none } ∧ Wrote 0x0410 srcSv (aw 2) s t) ∧
        SameBut [.ev, .hl, .sv, .errs] s t)) ∧
    (∀ (x : RelockSt) (s : State), running s = true → s.sv.relock = some x → x.ready = true → x.nt ≤ s.round →
      Does .svSectionSwitched s (fun t =>
        t.sv.sec = x.shadow ∧ t.sv.digest = x.digest ∧ t.sv.patternSet = true ∧ t.sv.relock = none ∧ t.sv.rows = s.sv.rows ∧ t.sv.isoCmd = s.sv.isoCmd ∧
        t.mir = { s.mir with relock := none } ∧ t.pf = { s.pf with relockPend := false } ∧
        SameBut [.mir, .ev, .hl, .pf, .sv, .svf, .fb, .errs, .outbox] s t)))

/-- R239, R241: every chain word a module sends is intact (SYNC, CRC-4) and carries its role, slot, driving bit and the next sequence number, and goes out at a tick that is a multiple of 20; so a module strapped to the other slot accepts it. R240, R241: the heartbeat frame of a tick that is a multiple of 40 (20 ticks later for slot B) is in the urgent slot of buses 0 and 8 where their controllers may send, and nothing on another bus changes; a word that is not intact changes nothing; an intact word of this module's own slot is a strap fault; a word of the partner that follows the last by 1 (by 2 on a field bus) within 8 ms is taken as its newest word, another only starts the sequence anew. R235, R236, R241: a lost path is down, with its record; with the other path down too the partner is lost from that instant and an ACTIVE module is ALONE; also one heard for less than 100 ms that falls silent on both; a path valid for 100 ms is up again, with the clear record where it had been recorded down, and the partner is heard. (That a restored path needs 100 ms, the tick at which a word goes out and the short-lived partner are the model's readings: logs 16, 118 and 119.) -/
def Obligations.heartbeats_and_partner_loss : Prop :=
  (∀ (s : State), running s = true → sendsHb s = true →
      Does .chainWordSend s (fun t =>
        let w := t.red.txWord.toNat
        wordIntact w = true ∧ bits w 25 3 = roleCode s.glb.role ∧ bitOf w 24 = slotB s ∧ bitOf w 22 = s.red.driving ∧
        bits w 16 4 = (s.red.hbSeq + 1) % 16 ∧ bits w 8 8 = s.round % 256 ∧ t.red.hbSeq = (s.red.hbSeq + 1) % 16 ∧
        (∀ u, slotB u = !slotB s → wordOk u w = true) ∧
        (∃ T, t.red.wordTick = some T ∧ T % 20 = 0 ∧ s.tick ≤ T + 1 ∧ t.clock = (toTick T s).clock) ∧
        (∀ h, s.glb.role = .active → s.red.ho = some h → t.red.ho = some { h with firstWord := some (h.firstWord.getD t.clock) }) ∧ SameBut [.red, .clock] s t)) ∧
  ((∀ (s : State), running s = true → sendsHb s = true →
      Does .heartbeatSend s (fun t =>
        (∃ T, t.red = { s.red with hbTick := some T } ∧ T % 40 = (if slotB s then 20 else 0) ∧ t.clock = (toTick T s).clock ∧ ∀ k, k = 0 ∨ k = 8 → (busSt s k).st = bsNormal → (busSt s k).urg = none → (busSt s k).pend = [] →
          ∃ u, (busSt t k).urg = some u ∧ u.content = 1 ∧ u.f.data = le (if s.red.wordTick = some T then s.red.txWord.toNat else chainWord s ((s.red.hbSeq + 1) % 16)) 4 ++ le s.round 4 ∧ frameKey u.f = hbKey s k (slotB s)) ∧
        (∀ k, (k ≠ 0 ∧ k ≠ 8) ∨ ((busSt s k).st ≠ bsNormal ∧ (busSt s k).st ≠ bsBusOff) → busSt t k = busSt s k) ∧
        t.fb.buf = s.fb.buf ∧ SameBut [.red, .fb, .clock] s t)) ∧
    (∀ (w : Word) (s : State), running s = true →
      Does (.chainWordReceive w) s (fun t =>
        (wordIntact w.toNat = false → t = s) ∧
        (wordIntact w.toNat = true → bitOf w.toNat 24 = slotB s → t.red = { s.red with strapFault := true } ∧
          (s.red.strapFault = false → Wrote 0x012F srcChip (aw s.red.straps ++ aw (b2n (bitOf w.toNat 24))) s t)) ∧
        (wordOk s w.toNat = true → t.red.seqChain = some (bits w.toNat 16 4) ∧ t.red.chainT = s.clock) ∧
        (wordOk s w.toNat = true → s.red.seqChain = some ((bits w.toNat 16 4 + 15) % 16) → s.clock ≤ s.red.chainT + 8000000 →
          t.red.partnerWord = w ∧ t.red.chainLast = some s.clock ∧ t.red.chainSince = some (s.red.chainSince.getD s.clock) ∧
          t.red.hreqAt = (if bitOf w.toNat 7 then some (s.red.hreqAt.getD s.clock) else none)) ∧
        (wordOk s w.toNat = true → s.red.seqChain ≠ some ((bits w.toNat 16 4 + 15) % 16) ∨ s.red.chainT + 8000000 < s.clock →
          t.red = { s.red with seqChain := some (bits w.toNat 16 4), chainT := s.clock }) ∧
        SameBut [.glb, .red, .ev, .hl, .fb, .errs, .freeCtr] s t)) ∧
    (∀ (f : BusFrame) (s : State), running s = true →
      let n := fld f.data 0 4
      Does (.heartbeatReceive 0 f) s (fun t =>
        (wordIntact n = false → t = s) ∧
        (wordOk s n = true → t.red.seqFb0 = some (bits n 16 4) ∧ t.red.fb0T = s.clock) ∧
        (wordOk s n = true → s.red.seqFb0 = some ((bits n 16 4 + 14) % 16) → s.clock ≤ s.red.fb0T + 8000000 →
          t.red.partnerWord = BitVec.ofNat 32 n ∧ t.red.fb0Last = some s.clock ∧ t.red.fbSince = some (s.red.fbSince.getD s.clock)) ∧
        (wordOk s n = true → s.red.seqFb0 ≠ some ((bits n 16 4 + 14) % 16) ∨ s.red.fb0T + 8000000 < s.clock → t.red.partnerWord = s.red.partnerWord) ∧
        SameBut [.glb, .red, .ev, .hl, .fb, .errs, .freeCtr] s t)) ∧
    (∀ (f : BusFrame) (s : State), running s = true →
      let n := fld f.data 0 4
      Does (.heartbeatReceive 8 f) s (fun t =>
        (wordIntact n = false → t = s) ∧
        (wordOk s n = true → t.red.seqFb8 = some (bits n 16 4) ∧ t.red.fb8T = s.clock) ∧
        (wordOk s n = true → s.red.seqFb8 = some ((bits n 16 4 + 14) % 16) → s.clock ≤ s.red.fb8T + 8000000 →
          t.red.partnerWord = BitVec.ofNat 32 n ∧ t.red.fb8Last = some s.clock ∧ t.red.fbSince = some (s.red.fbSince.getD s.clock)) ∧
        (wordOk s n = true → s.red.seqFb8 ≠ some ((bits n 16 4 + 14) % 16) ∨ s.red.fb8T + 8000000 < s.clock → t.red.partnerWord = s.red.partnerWord) ∧
        SameBut [.glb, .red, .ev, .hl, .fb, .errs, .freeCtr] s t))) ∧
  ((∀ (s : State), running s = true → s.red.chainOk = true →
      Does (.hbPathLost 1) s (fun t =>
        t.red.chainOk = false ∧ t.red.chainSince = none ∧ t.red.chainDown = true ∧ t.red.fbOk = s.red.fbOk ∧
        (s.red.fbOk = false → s.red.lost = false → t.red.lost = true ∧ t.red.lostAt = t.clock ∧ (s.glb.role = .active → t.glb.role = .alone)) ∧
        (s.red.fbOk = true → t.red.lost = s.red.lost ∧ t.glb.role = s.glb.role ∧ Wrote 0x0123 srcChip (aw 1) { s with clock := t.clock } t) ∧
        SameBut [.glb, .red, .ev, .hl, .fb, .errs, .clock, .freeCtr] s t)) ∧
    (∀ (s : State), running s = true → s.red.fbOk = true →
      Does (.hbPathLost 2) s (fun t =>
        t.red.fbOk = false ∧ t.red.fbSince = none ∧ t.red.fbDown = true ∧ t.red.chainOk = s.red.chainOk ∧
        (s.red.chainOk = false → s.red.lost = false → t.red.lost = true ∧ t.red.lostAt = t.clock ∧ (s.glb.role = .active → t.glb.role = .alone)) ∧
        (s.red.chainOk = true → t.red.lost = s.red.lost ∧ t.glb.role = s.glb.role ∧ Wrote 0x0123 srcChip (aw 2) { s with clock := t.clock } t) ∧
        SameBut [.glb, .red, .ev, .hl, .fb, .errs, .clock, .freeCtr] s t)) ∧
    (∀ (s : State), running s = true → s.red.chainOk = false → s.red.fbOk = false → s.red.fbSince = none → partnerHeard s = true →
      Does (.hbPathLost 1) s (fun t => t.red.lost = true ∧ t.red.lostAt = t.clock ∧ SameBut [.glb, .red, .ev, .hl, .fb, .errs, .clock, .freeCtr] s t)) ∧
    (∀ (path since : Nat) (s : State), running s = true →
      (path = 1 ∧ s.red.chainSince = some since ∧ s.red.chainOk = false) ∨ (path = 2 ∧ s.red.fbSince = some since ∧ s.red.fbOk = false) →
      Does (.hbPathRestored path) s (fun t =>
        (path = 1 → t.red = { s.red with chainOk := true, chainDown := false, lost := false }) ∧
        (path = 2 → t.red = { s.red with fbOk := true, fbDown := false, lost := false }) ∧
        t.clock = max s.clock (since + 100000000) ∧
        ((path = 1 ∧ s.red.chainDown = true) ∨ (path = 2 ∧ s.red.fbDown = true) → s.glb.role = .held ∨ s.glb.role = .standby →
          Wrote 0x0123 srcChip (aw path) { s with clock := t.clock } t true) ∧
        (s.glb.role = .alone → partnerQualified { s with red := t.red } = true → t.glb.role = .active) ∧
        SameBut [.glb, .red, .ev, .hl, .fb, .errs, .clock, .freeCtr] s t)))

/-- R242 to R246, R250: a claim begins at the start of its pulse, once the line has been high for 0.2 ms (a planned one at the first t0 after the word that asks), and its pulse has the slot's length; with the line absent no pulse is sent; a partner's pulse that comes while the start-up claim waits begins the listening anew; a driving module answers a claim with HOLD while its partner is lost, and otherwise with RELEASE as it goes to HELD and drives nothing; the claimant drives at the end of RELEASE, or 20 ms after its pulse without an answer, is HELD after HOLD, and keeps its role once it withdraws, each end with its record; a line low for 5 ms is faulty until it has been high for 1 s, both recorded. (The instant at which a driving module acts on a claim pulse is the model's reading, log 117; the pulse classes' limits follow R9.) -/
def Obligations.claims_are_issued_and_answered : Prop :=
  (∀ (reason : Nat) (s : State), running s = true → mayClaim s = true → claimReason s reason = true → partnerClaims s = false →
    Does (.claimIssued reason) s (fun t =>
      (s.link.fault = false →
        t.clock = max s.clock (max (claimDue s reason) (lineFree s)) ∧ t.link.tc = t.clock ∧
        t.link.pulses = [(if slotB s then 2 else 4, t.clock, t.clock + (if slotB s then 1000000 else 3000000))]) ∧
      (s.link.fault = true → t.clock = s.clock ∧ t.link.tc = (if s.red.lost then s.red.lostAt else s.clock) ∧ t.link.pulses = []) ∧
      t.link.claim = .watching t.link.tc ∧ t.link.reason = reason ∧ t.link.claims = satAdd 0xFFFF s.link.claims 1 ∧ SameBut [.link, .clock] s t)) ∧
  (∀ (us : Nat) (s : State), running s = true → pulseClass us = some 2 ∨ pulseClass us = some 4 →
    let e := s.clock + (us - 2000) * 1000
    Does (.claimPulse us) s (fun t =>
      (drives s = false → t.link = { s.link with lastPulse := some e, partnerTc := some (e - us * 1000), highAt := e, claimDeferred := false, listenSince := if s.link.claimDeferred then some (max s.clock e) else s.link.listenSince, listenSecond := s.link.listenSecond && !s.link.claimDeferred } ∧ SameBut [.link] s t) ∧
      (drives s = true → s.link.fault = true → t = s) ∧
      (drives s = true → s.link.fault = false → s.red.lost = true → t.link = { s.link with highAt := e, pulses := [(3, e + 200000, e + 2200000)] } ∧ SameBut [.link] s t) ∧
      (drives s = true → s.link.fault = false → s.red.lost = false → s.red.ho = none → s.red.hoNext = [] →
        t.glb.role = .held ∧ t.glb.heldCause = 3 ∧ t.red.driving = false ∧ t.red.timeMaster = false ∧
        t.link = { s.link with highAt := e, pulses := [(1, e + 200000, e + 700000)], releaseEnd := e + 700000 } ∧
        SameBut [.glb, .red, .link, .ev, .hl, .lp, .fb, .al, .errs, .freeCtr] s t))) ∧
  (∀ (us tc : Nat) (s : State), running s = true → s.link.claim = .watching tc →
    (pulseClass us = some 1 → Does (.releasePulse us) s (fun t =>
      t.link = { s.link with claim := .idle, result := 1, driveAt := some s.clock, highAt := s.clock } ∧
      Wrote 0x0124 srcChip (aw s.link.reason ++ aw 1) s t ∧ SameBut [.link, .ev, .hl, .errs] s t)) ∧
    (pulseClass us = some 3 → Does (.claimHeldOff us) s (fun t =>
      t.link = { s.link with claim := .idle, result := 2, highAt := s.clock } ∧ t.glb.role = .held ∧ t.glb.heldCause = 4 ∧
      (s.glb.role = .held → Wrote 0x0126 srcChip (aq s.round) (emit 0x0124 srcChip (aw s.link.reason ++ aw 2) s) t) ∧
      SameBut [.glb, .link, .ev, .hl, .fb, .errs, .freeCtr] s t)) ∧
    Does .claimTimeout s (fun t =>
      t.link = { s.link with claim := .idle, result := 3, driveAt := some t.clock } ∧ t.clock = max s.clock (tc + 20000000) ∧
      Wrote 0x0124 srcChip (aw s.link.reason ++ aw 3) { s with clock := t.clock } t ∧ SameBut [.link, .ev, .hl, .errs, .clock] s t) ∧
    (slotB s = true → Does .claimWithdrawn s (fun t =>
      t.link = { s.link with claim := .idle, result := 4 } ∧ Wrote 0x0124 srcChip (aw s.link.reason ++ aw 4) s t ∧ SameBut [.link, .ev, .hl, .errs] s t))) ∧
  (∀ (ms : Nat) (s : State), running s = true → s.link.fault = false → 5 ≤ ms →
    Does (.claimLineFault ms) s (fun t =>
      t.link = { s.link with fault := true, lineLow := true, lowStart := s.clock - ms * 1000000 } ∧ Wrote 0x012E srcChip (aw ms) s t ∧ SameBut [.link, .ev, .hl, .errs] s t)) ∧
  (∀ (s : State), running s = true → s.link.fault = true →
    Does .claimLineFaultClear s (fun t =>
      t.link = { s.link with fault := false, lineLow := false, highAt := s.clock - 1000000000 } ∧
      Wrote 0x012E srcChip (aw ((s.clock - s.link.lowStart - 1000000000) / 1000000)) s t true ∧ SameBut [.link, .ev, .hl, .errs] s t))

/-- R235, R238, R247 to R249: a HELD or STANDBY module whose drive time has come drives from the first tick boundary after it (R247) with its channels initialised, ACTIVE with a qualified partner and ALONE otherwise, under watch for 100 ms; a conflict during the watch makes it HELD with cause 5, driving nothing; later a foreign drive is only recorded. A HELD module that meets every criterion is STANDBY, and one that fails a criterion (the mirror's for 1000 rounds) is HELD with that criterion's cause. (The clause asks that the tick timer is not behind the clock, as the model's order of events has it: log 4.) -/
def Obligations.takeover_watch_and_qualification : Prop :=
  (∀ (at_ : Nat) (s : State), running s = true → s.link.driveAt = some at_ → s.glb.role = .held ∨ s.glb.role = .standby →
    Does .takeover s (fun t =>
      t.glb.role = (if partnerQualified s then .active else .alone) ∧ t.clock = max s.clock (tickAfter s at_) ∧
      (s.clock ≤ s.tickAt → at_ < t.clock ∧ ∃ n, t.clock = s.tickAt + n * tickNs ∧ (n = 0 ∨ t.clock ≤ at_ + tickNs)) ∧
      t.red = { s.red with driving := true, watch := true, firstDrive := t.clock } ∧
      t.link.driveAt = none ∧ t.link.aborted = false ∧ t.link.takeovers = satAdd 0xFFFF s.link.takeovers 1 ∧
      t.al = { s.al with armed := false, first := true, keepOn := false, keepAsked := false, keepStop := false, late := false } ∧
      (∀ r ∈ (pat s).chans, r.enable = true → (chSt s r.ch).placed = true → (chSt t r.ch).init = true) ∧
      SameBut [.glb, .red, .link, .ev, .hl, .lp, .fb, .al, .errs, .clock, .freeCtr] s t)) ∧
  (∀ (s : State), running s = true → s.red.watch = true →
    Does .takeoverWatchEnd s (fun t => t.red = { s.red with watch := false } ∧ t.clock = max s.clock (s.red.firstDrive + 100000000) ∧ SameBut [.red, .clock] s t) ∧
    (s.glb.role ≠ .held → ∀ id, Does (.dualActiveAbort 2 id) s (fun t =>
      t.glb.role = .held ∧ t.glb.heldCause = 5 ∧ t.red.driving = false ∧ t.red.watch = false ∧ t.link = { s.link with aborted := true, relSince := none } ∧
      SameBut [.glb, .red, .link, .ev, .hl, .lp, .fb, .errs, .freeCtr] s t)) ∧
    (s.glb.role ≠ .held → ∀ m since, (mapSt s m).fSince = some since → Does (.dualActiveAbort 1 m) s (fun t =>
      t.glb.role = .held ∧ t.glb.heldCause = 5 ∧ t.red.driving = false ∧ t.clock = max s.clock (since + 15000000) ∧
      SameBut [.glb, .red, .link, .ev, .hl, .lp, .fb, .errs, .clock, .freeCtr] s t))) ∧
  (∀ (m since : Nat) (r : MapRec) (s : State), running s = true → mapRec s m = some r → (mapSt s m).fSince = some since → drives s = true → s.red.watch = false → (mapSt s m).fDone = false →
    Does (.foreignDrive m) s (fun t =>
      mapSt t m = { mapSt s m with fDone := true } ∧
      Wrote 0x012B srcChip (aw m ++ ai (milli (mapSt s m).y) ++ ai (milli ((readback s r).getD fzero))) { s with clock := t.clock } t ∧ (∀ j, j ≠ m → mapSt t j = mapSt s j) ∧ t.clock = max s.clock (since + 15000000) ∧ SameBut [.ev, .hl, .lp, .errs, .clock] s t)) ∧
  (∀ (s : State), running s = true → s.glb.role = .held → (∀ i, 1 ≤ i → i ≤ 7 → qualMet s i = true) → idsBad s = false →
    Does .standbyQualified s (fun t => t.glb.role = .standby ∧ t.link = { s.link with aborted := false } ∧ SameBut [.glb, .link, .ev, .hl, .fb, .errs, .freeCtr] s t)) ∧
  (∀ (crit : Nat) (s : State), running s = true → s.glb.role = .standby →
    ((crit = 1 ∨ crit = 2 ∨ crit = 3 ∨ crit = 5) ∧ qualMet s crit = false) ∨ (crit = 6 ∧ qualMet s 6 = false ∧ 1000 ≤ s.link.staleRounds) →
    Does (.qualificationLost crit) s (fun t =>
      t.glb.role = .held ∧ t.glb.heldCause = (if crit = 1 then 6 else if crit = 5 ∨ crit = 6 then 2 else 7) ∧ SameBut [.glb, .ev, .hl, .fb, .errs, .freeCtr] s t))

/-- R250, R253, R328: ROLE_SWAP asks a partner of an ACTIVE module for a handover, and is refused otherwise; a handover without a claim within 5 ms of the first word that asks fails, for the lease keeper's cause the keeper stops, and for a fatal error the module is SAFE; a request that waited behind it is taken up next (the model's choice, log 134). A reference message is taken by a module that is not time master, and moves a HELD or STANDBY module's round by its offset from 50 µs up, else by at most 1 µs. The end of the start-up listening lets a HELD module claim where nothing was heard, and begins the listening anew after a claim pulse. (An offset of exactly 50 µs counts as one that exceeds it: R9, log 121.) -/
def Obligations.handover_and_round_alignment : Prop :=
  (∀ (d : Dgram) (s : State), running s = true → CritReady 6 0 0 d s →
    Does (.roleSwap d) s (fun t =>
      (s.glb.role = .active → s.red.ho = none → t.red = { s.red with ho := some { cause := 1, since := s.clock, cmd := some d } }) ∧
      (s.glb.role ≠ .active ∨ s.red.ho ≠ none → t.red = s.red) ∧ SameBut [.red, .ev, .hl, .ks, .sc, .errs, .outbox, .freeCtr] s t)) ∧
  (∀ (h : HandoverSt) (at_ : Nat) (s : State), running s = true → s.glb.role = .active → s.red.ho = some h → h.firstWord = some at_ → h.cause = 1 ∨ h.cause = 5 →
    Does .handoverFailed s (fun t =>
      (s.red.hoNext = [] → t.red = { s.red with ho := none }) ∧
      (∀ x q, s.red.hoNext = x :: q → t.red = { s.red with ho := some { x with since := t.clock, firstWord := none }, hoNext := q }) ∧
      t.clock = max s.clock (at_ + 5000000) ∧ t.glb = s.glb ∧
      (h.cause = 5 → s.al.keepOn = true → t.al.keepOn = false ∧ t.al.keepStop = true) ∧ (h.cause = 1 → t.al = s.al) ∧
      SameBut [.red, .ev, .hl, .ks, .al, .errs, .outbox, .clock, .freeCtr] s t)) ∧
  (∀ (h : HandoverSt) (at_ : Nat) (s : State), running s = true → s.glb.role = .active → s.red.ho = some h → h.firstWord = some at_ → h.cause = 6 →
    Does .handoverFailed s (fun t => t.glb.role = .safe ∧ t.dg.safe = true ∧ t.red.driving = false ∧ (s.red.hoNext = [] → t.red.ho = none) ∧ t.clock = max s.clock (at_ + 5000000))) ∧
  (∀ (since : Nat) (s : State), running s = true → s.link.listenSince = some since → s.glb.role = .held → s.red.strapFault = false → idsBad s = false → partnerHeard s = false →
    Does .startupListenEnd s (fun t =>
      t.clock = max s.clock (since + (if s.link.listenSecond then 80000000 else 50000000)) ∧
      ((∀ u, s.link.lastPulse = some u → u ≤ since) → t.link = { s.link with listenSince := none, claimDeferred := true }) ∧
      (∀ u, s.link.lastPulse = some u → since < u → t.link = { s.link with listenSince := some (max t.clock s.link.highAt), listenSecond := false }) ∧ SameBut [.link, .clock] s t)) ∧
  (∀ (bus : Nat) (f : BusFrame) (sof : Int) (s : State), running s = true → isReference s bus f = true → s.red.timeMaster = false →
    let offset := refOffset s sof (fld f.data 1 2)
    Does (.referenceMessage bus f sof) s (fun t =>
      (busSt t bus).cycle = byteAt f.data 0 % 64 ∧ (busSt t bus).delay = fld f.data 1 2 ∧ (busSt t bus).ttRound = 0 ∧ (busSt t bus).ttSync = true ∧
      (∀ k, k ≠ bus → busSt t k = busSt s k) ∧
      (s.glb.role = .held ∨ s.glb.role = .standby → bus = 0 →
        t.link.offset = offset ∧
        (5000 ≤ offset.natAbs → t.t0At = ((s.t0At : Int) + offset * 10).toNat ∧ t.link.mustStep = false ∧ t.link.aligned = false ∧
          ((busSt s bus).ttLost = false → Wrote 0x0130 srcChip (ai offset) s t)) ∧
        (offset.natAbs < 5000 → s.link.mustStep = false → t.t0At = ((s.t0At : Int) + clampI (-100) 100 offset * 10).toNat)) ∧
      (s.glb.role ≠ .held → s.glb.role ≠ .standby → t.t0At = s.t0At ∧ t.tickAt = s.tickAt ∧ t.link = s.link) ∧
      SameBut [.link, .ev, .hl, .fb, .errs, .tickAt, .t0At] s t))

/-- R137, R254, R255, R317: a mirror message of the partner, not older than the newest of its subtype, is taken by a module that does not drive: the round status gives it the digests, the round number and the tick, the lease records their ages, a whole loop snapshot the channels, a relock report the partner's answer; an older one changes nothing of what was mirrored. 100 rounds without the mirror are recorded once, and their end. `u` is the state once the datagram has been accepted. (That the partner's round and tick numbers are taken with a status message is the model's reading: log 46.) -/
def Obligations.mirror_messages_are_taken : Prop :=
  (∀ (m d : Dgram) (s u : State) (p : PeerRec), running s = true → untag m = d → accept 4 d s = (some p, u) → s.glb.role ≠ .safe → hasRight p 8 = true →
    p.index = (pat s).red.partner → 4 ≤ d.payload.length → d.frag < d.frags →
    let sub := fld d.payload 0 4
    let body := d.payload.drop 4
    Does (.mirrorReceive m) s (fun t =>
      (d.round < tgetD s.mir.lastRound sub 0 → t.mir = s.mir ∧ t.link = s.link ∧ t.round = s.round) ∧
      (tgetD s.mir.lastRound sub 0 ≤ d.round → sub = 1 → body.length = 144 →
        t.mir.patDigest = slice body 16 64 ∧ t.mir.modelDigest = slice body 80 64 ∧
        (drives s = false → t.round = fld body 0 8 ∧ t.tick = fld body 0 8 * ticksPerRound s + (s.tick - s.round * ticksPerRound s) ∧ t.link.roundTaken = true) ∧
        (drives s = true → t.round = s.round ∧ t.tick = s.tick)) ∧
      (tgetD s.mir.lastRound sub 0 ≤ d.round → sub = 4 → drives s = false →
        t.mir.leaseRound = d.round ∧ t.link.leaseAge = 0 ∧ t.mir.leases = (recordsOf 48 body).foldl (fun l b => tset l (fld b 8 2) b) s.mir.leases) ∧
      (tgetD s.mir.lastRound sub 0 ≤ d.round → sub = 2 → drives s = false → d.frags = 1 → s.mir.snapFrags.1 ≠ d.round →
        t.mir.snapRound = d.round ∧ t.mir.snaps = (recordsOf 24 body).foldl (fun l b => tset l (snapRec b).1 (snapRec b).2) []) ∧
      (tgetD s.mir.lastRound sub 0 ≤ d.round → sub = 7 → body.length = 80 → s.mir.relock = none →
        t.mir.relock = some (slice body 0 64, fld body 64 8, bitOf (fld body 72 4) 0)) ∧
      (drives s = true → sub ≠ 1 → sub ≠ 7 → sub ≠ 6 ∨ s.fc.adLost = [] → t.mir = { s.mir with lastRound := t.mir.lastRound } ∧ t.link = s.link ∧ t.lp = s.lp ∧ t.mem = s.mem) ∧
      SameBut [.glb, .red, .link, .mir, .dg, .ev, .wall, .hl, .ks, .pf, .sc, .lp, .swt, .sv, .svf, .fb, .fc, .al, .errs, .irqs, .latches, .outbox, .mem, .stage, .tick, .round, .freeCtr] s t)) ∧
  (∀ (s : State), running s = true → 100 ≤ s.link.snapAge ∨ 100 ≤ s.link.leaseAge → s.glb.role = .held ∨ s.glb.role = .standby → s.link.mirrorLost = false →
    Does (.mirrorLost false) s (fun t => t.link = { s.link with mirrorLost := true } ∧ Wrote 0x012C srcChip (aw s.link.snapAge ++ aw s.link.leaseAge) s t ∧ SameBut [.link, .ev, .hl, .errs] s t)) ∧
  (∀ (s : State), running s = true → s.link.snapAge < 100 → s.link.leaseAge < 100 → s.link.mirrorLost = true →
    Does (.mirrorLost true) s (fun t => t.link = { s.link with mirrorLost := false } ∧ Wrote 0x012C srcChip (aw s.link.snapAge ++ aw s.link.leaseAge) s t true ∧ SameBut [.link, .ev, .hl, .errs] s t))

/-- R266, R271, R281, R282, R284: a frame that a filter entry routes to a receive buffer of a NORMAL controller is counted, and stored with the buffer's sequence two higher, its payload at the entry's offset of the receive store, NEW set and OVR set where NEW stood; one that is too long for its buffer, or whose receive-store word still fails (error kind 6 of the command, the model's choice of log 137), is counted in TOOLONG and not stored; one with no entry that matches is counted as NOMATCH and stored nowhere; a priority buffer that is not locked takes its frame, a locked one keeps its own and takes the new one into its shadow. A frame that ends in an error raises REC by 1 on a NORMAL controller (ISO 11898-1, which R293 follows by name; log 124), moves rate detection on by one candidate on an AUTO controller whose candidate is not locked, and changes nothing on a restricted one. No other bus changes. -/
def Obligations.frames_are_filtered_and_stored : Prop :=
  (∀ (k : Nat) (f : BusFrame) (s : State), running s = true → (busSt s k).st = bsNormal → f.remote = false →
    Does (.frameReceive k (f, 0)) s (fun t =>
      (filterOf s k f = none → (busSt t k).er.noMatch = satAdd 0xFFFF (busSt s k).er.noMatch 1 ∧ (busBuf t k).bufs = (busBuf s k).bufs ∧ (busBuf t k).pms = (busBuf s k).pms ∧ t.fb.sigs = s.fb.sigs) ∧
      (∀ n e, filterOf s k f = some (n, e) → e.dest = 1 → f.data.length ≤ e.cap * 8 →
        ∃ b, tget (busBuf t k).bufs e.index = some b ∧ b.f = f ∧ b.seq = ((tgetD (busBuf s k).bufs e.index {}).seq + 2) % 2 ^ 32 ∧
          bitOf (busSt t k).rxNew e.index = true ∧ (bitOf (busSt s k).rxNew e.index = true → bitOf (busSt t k).rxOvr e.index = true) ∧
          (busSt t k).er.cntRx = satAdd 0xFFFFFFFF (busSt s k).er.cntRx 1 ∧ (busBuf t k).store = storePut (busBuf s k).store e.poff f.data ∧ (∀ j, j ≠ e.index → tget (busBuf t k).bufs j = tget (busBuf s k).bufs j)) ∧
      (∀ n e, filterOf s k f = some (n, e) → e.dest = 1 → e.cap * 8 < f.data.length →
        (busSt t k).er.tooLong = satAdd 0xFFFF (busSt s k).er.tooLong 1 ∧ (busBuf t k).bufs = (busBuf s k).bufs) ∧
      (∀ n e, filterOf s k f = some (n, e) → e.dest = 2 → f.data.length ≤ 64 →
        let p := tgetD (busBuf s k).pms e.index {}
        (p.locked = false → ∃ c, c.f = f ∧ c.seq = (p.buf.seq + 2) % 2 ^ 32 ∧ tget (busBuf t k).pms e.index = some { p with buf := c }) ∧
        (p.locked = true → ∃ c, c.f = f ∧ tget (busBuf t k).pms e.index = some { p with shadow := some c, lost := if p.shadow.isSome then satAdd 255 p.lost 1 else p.lost })) ∧
      (busBuf t k).lastTraffic = s.clock ∧ (∀ j, j ≠ k → busSt t j = busSt s j ∧ busBuf t j = busBuf s j) ∧ SameBut [.ev, .hl, .fb, .errs] s t)) ∧
  (∀ (k n : Nat) (e : FilterRec) (f : BusFrame) (s : State), running s = true → (busSt s k).st = bsNormal → f.remote = false → filterOf s k f = some (n, e) → e.dest = 1 →
    Does (.frameReceive k (f, 6)) s (fun t =>
      (busSt t k).er.tooLong = satAdd 0xFFFF (busSt s k).er.tooLong 1 ∧ (busBuf t k).bufs = (busBuf s k).bufs ∧ (busBuf t k).store = (busBuf s k).store ∧
      (∀ j, j ≠ k → busSt t j = busSt s j ∧ busBuf t j = busBuf s j) ∧ SameBut [.ev, .hl, .fb, .errs] s t)) ∧
  (∀ (k err : Nat) (f : BusFrame) (s : State), running s = true → err ≠ 0 → err ≠ 6 →
    Does (.frameReceive k (f, err)) s (fun t =>
      ((busSt s k).st = bsNormal → (busSt t k).er.recCnt = satAdd 255 (busSt s k).er.recCnt 1 ∧ (busSt t k).er.lastKind = err) ∧
      ((busSt s k).st = bsAuto → (busSt s k).er.lockPend = false → (busSt s k).er.cand + 1 < (busRec s k).cands.length →
        (busSt t k).er.cand = (busSt s k).er.cand + 1 ∧ (busSt t k).er.frames = 0 ∧ (busSt t k).er.candAt = s.clock) ∧
      ((busSt s k).st ≠ bsNormal → (busSt s k).st ≠ bsAuto → t = s) ∧
      t.fb.buf = s.fb.buf ∧ t.fb.sigs = s.fb.sigs ∧ (∀ j, j ≠ k → busSt t j = busSt s j) ∧ SameBut [.ev, .hl, .fb, .errs] s t))

/-- R284: a read of word 0 locks a priority buffer that is not locked; the release, or LOCK_MAX, unlocks it and lets a frame that came meanwhile in; only the timeout marks it STALE and writes the record of the frames lost. No other buffer changes. R286, R288: at its mark a message whose class is sent enters the queue of its bus at the end, with the next tag, where it is not there and fewer than 32 frames wait; a message that still waits is updated in place and keeps the queue's length; a full queue takes nothing; a message that is replaced or turned away is counted, and recorded as late unless it was within the last second; a message whose class is not sent changes nothing. (That the tags begin at 1 and what a refused commit gives are the model's readings: log 72.) -/
def Obligations.transmit_messages_and_priority_buffers : Prop :=
  ((∀ (k i : Nat) (s : State), running s = true → k < 16 → i < 8 →
      Does (.pmLock k i) s (fun t =>
        (∀ p, p = tgetD (busBuf s k).pms i {} → (p.locked = false → tget (busBuf t k).pms i = some { p with locked := true, lockAt := s.clock, lost := 0, stale := false }) ∧ (p.locked = true → t = s)) ∧
        (∀ j, j ≠ i → tget (busBuf t k).pms j = tget (busBuf s k).pms j) ∧ t.fb.bus = s.fb.bus ∧ SameBut [.fb] s t)) ∧
    (∀ (k i : Nat) (p : PmSt) (s : State), running s = true → tgetD (busBuf s k).pms i {} = p → p.locked = true →
      Does (.pmRelease k i) s (fun t =>
        tget (busBuf t k).pms i = some { p with locked := false, shadow := none, buf := p.shadow.getD p.buf } ∧
        (∀ j, j ≠ i → tget (busBuf t k).pms j = tget (busBuf s k).pms j) ∧ t.fb.bus = s.fb.bus ∧ SameBut [.hl, .fb, .errs] s t) ∧
      Does (.pmLockTimeout k i) s (fun t =>
        tget (busBuf t k).pms i = some { p with locked := false, shadow := none, stale := true, buf := p.shadow.getD p.buf } ∧
        t.clock = max s.clock (p.lockAt + (busRec s k).lockMax * 100000) ∧
        Wrote 0x030B (src 4 k) (aw k ++ aw i ++ aw p.lost) { s with clock := t.clock } t ∧
        (∀ j, j ≠ i → tget (busBuf t k).pms j = tget (busBuf s k).pms j) ∧ t.fb.bus = s.fb.bus ∧ SameBut [.ev, .hl, .fb, .errs, .clock] s t))) ∧
  (∀ (m : Nat) (r : TxMsgRec) (s : State), running s = true → (pat s).fb.txMsgs.find? (fun x => x.msg == m) = some r → s.round % max 1 r.pr = r.ph →
      Does (.txMessageMark m) s (fun t =>
        let b := busSt s r.bus
        (ownerSent s r.owner = false → t = s) ∧
        (ownerSent s r.owner = true → t.clock = max s.clock (s.t0At + r.mark * 1000)) ∧
        (b.st = bsOff ∨ b.st = bsQuar ∨ b.er.quar.contains (msgKey s r) = true → t.fb = s.fb ∧ t.ev = s.ev ∧ t.errs = s.errs) ∧
        (ownerSent s r.owner = true → b.st ≠ bsOff → b.st ≠ bsQuar → b.er.quar.contains (msgKey s r) = false →
          (b.q.any (fun e => e.msg == some r.msg) = false → b.q.length < 32 →
            (busSt t r.bus).q = b.q ++ [{ tag := b.nextTag, f := txBuild s r, owner := r.owner, msg := some r.msg }] ∧ (busSt t r.bus).nextTag = (b.nextTag + 1) % 65536) ∧
          (b.q.any (fun e => e.msg == some r.msg) = false → 32 ≤ b.q.length → (busSt t r.bus).q = b.q ∧ (busSt t r.bus).er.lateFull = satAdd 0xFFFF b.er.lateFull 1) ∧
          (b.q.any (fun e => e.msg == some r.msg) = true →
            (busSt t r.bus).q = b.q.map (fun e => if e.msg == some r.msg then { e with f := txBuild s r } else e) ∧ (busSt t r.bus).er.lateUpd = satAdd 0xFFFF b.er.lateUpd 1 ∧
            (tget (busBuf s r.bus).lateAt r.msg = none → Wrote 0x030A (src 4 r.bus) (aw r.bus ++ aw r.msg ++ aw 1) { s with clock := t.clock } t))) ∧
        (∀ k, k ≠ r.bus → busSt t k = busSt s k ∧ busBuf t k = busBuf s k) ∧ SameBut [.ev, .hl, .fb, .errs, .clock] s t))

/-- R276, R288 to R292: a queue entry that is sent leaves the queue, is the last one completed, and goes on the wire; lost arbitration keeps it at the head; an error raises TEC by 8 (not an acknowledgement error of an error-passive sender: ISO 11898-1, which R293 follows by name; logs 69, 124) and keeps it until its attempts are used up, which is recorded. An urgent frame and a reference message that are sent leave their place and go on the wire, the reference message with its DELAY; one that was on the wire as the module ceased to be time master is not retried (R280). A controller that is not in NORMAL, or whose TEC has reached 256, ends no attempt. A commit gives an allowed frame the next tag; a cancel takes a waiting entry out, and lets one on the wire finish its attempt. No other bus changes. (The tags and outcomes of a refused commit are the model's reading: log 72.) -/
def Obligations.transmit_queue_attempts_and_commits : Prop :=
  (∀ (k delay : Nat) (e : TxEnt) (q : List TxEnt) (s : State), running s = true → s.glb.role ≠ .none → (busSt s k).st = bsNormal → (busSt s k).er.tec < 256 → (busSt s k).q = e :: q → (busSt s k).urg = none → (busSt s k).ref = none →
    Does (.txAttemptEnd k .queue .sent delay) s (fun t =>
      (busSt t k).q = q ∧ (busSt t k).lastTag = e.tag ∧ (busSt t k).lastOut = 1 ∧ (busBuf t k).wire = (busBuf s k).wire ++ [{ e.f with esi := e.f.esi || e.f.fmt == 1 && (busSt s k).er.epass }] ∧
      (busSt t k).er.tec = (busSt s k).er.tec - 1 ∧ (busSt t k).er.cntTx = satAdd 0xFFFFFFFF (busSt s k).er.cntTx 1 ∧
      (∀ j, j ≠ k → busSt t j = busSt s j ∧ busBuf t j = busBuf s j) ∧ SameBut [.ev, .hl, .fb, .errs] s t) ∧
    (e.noRetry = false → Does (.txAttemptEnd k .queue .lostArb delay) s (fun t =>
      (busSt t k).q = e :: q ∧ (busBuf t k).wire = (busBuf s k).wire ∧ (busSt t k).er.tec = (busSt s k).er.tec ∧ SameBut [.fb] s t)) ∧
    (∀ kind, Does (.txAttemptEnd k .queue (.error kind) delay) s (fun t =>
      (busSt t k).er.tec = (if kind = 5 ∧ (busSt s k).er.epass = true then (busSt s k).er.tec else min 256 ((busSt s k).er.tec + 8)) ∧ (busSt t k).er.lastKind = kind ∧ (busBuf t k).wire = (busBuf s k).wire ∧
      (e.noRetry = false → e.attempts + 1 < (busRec s k).maxAttempts → (busSt t k).q = { e with attempts := e.attempts + 1 } :: q) ∧
      (e.noRetry = true ∨ (busRec s k).maxAttempts ≤ e.attempts + 1 → (busSt t k).q = q ∧ (busSt t k).lastTag = e.tag ∧ (busSt t k).lastOut = (if e.noRetry then (if e.flush then 5 else 2) else 3)) ∧
      (e.noRetry = false → (busRec s k).maxAttempts ≤ e.attempts + 1 → ∃ u, SameBut [.ev, .hl, .fb, .errs] s u ∧ Wrote 0x0309 (src 4 k) (aw k ++ aw e.f.id ++ aw e.tag ++ aw (e.attempts + 1)) u t) ∧
      SameBut [.ev, .hl, .fb, .errs] s t))) ∧
  (∀ (k : Nat) (e : TxEnt) (q : List TxEnt) (s : State), running s = true → (busSt s k).q = e :: q →
    Does (.txCancel k e.tag true) s (fun t =>
      (busSt t k).q = { e with noRetry := true } :: q ∧ (∀ j, j ≠ k → busSt t j = busSt s j) ∧ t.fb.buf = s.fb.buf ∧ SameBut [.fb] s t) ∧
    (∀ tag, Does (.txCancel k tag false) s (fun t =>
      (busSt t k).q = (busSt s k).q.filter (fun x => x.tag != tag) ∧ (∀ j, j ≠ k → busSt t j = busSt s j) ∧ t.fb.buf = s.fb.buf ∧ SameBut [.fb] s t))) ∧
  (∀ (k delay : Nat) (u : UrgSt) (s : State), running s = true → s.glb.role ≠ .none → (busSt s k).st = bsNormal → (busSt s k).er.tec < 256 → (busSt s k).urg = some u → (busSt s k).pend = [] →
    Does (.txAttemptEnd k .urgent .sent delay) s (fun t =>
      (busSt t k).urg = none ∧ (busBuf t k).wire = (busBuf s k).wire ++ [{ u.f with esi := u.f.esi || u.f.fmt == 1 && (busSt s k).er.epass }] ∧ (busSt t k).q = (busSt s k).q ∧
      (∀ j, j ≠ k → busSt t j = busSt s j ∧ busBuf t j = busBuf s j) ∧ SameBut [.ev, .hl, .fb, .errs] s t)) ∧
  (∀ (k delay : Nat) (f : BusFrame) (s : State), running s = true → s.glb.role ≠ .none → (busSt s k).st = bsNormal → (busSt s k).er.tec < 256 → (busSt s k).ref = some f → f.fmt = 0 → (busSt s k).urg = none →
    ((busSt s k).refLast = true → Does (.txAttemptEnd k .reference .lostArb delay) s (fun t => (busSt t k).ref = none ∧ (busBuf t k).wire = (busBuf s k).wire ∧ SameBut [.fb] s t)) ∧
    Does (.txAttemptEnd k .reference .sent delay) s (fun t =>
      (busSt t k).ref = none ∧ (busBuf t k).wire = (busBuf s k).wire ++ [{ f with data := f.data.take 1 ++ le delay 2 ++ f.data.drop 3 }] ∧ (busSt t k).ttSync = true ∧ (busSt t k).delay = delay % 65536 ∧
      (busSt t k).q = (busSt s k).q ∧ (∀ j, j ≠ k → busSt t j = busSt s j ∧ busBuf t j = busBuf s j) ∧ SameBut [.ev, .hl, .fb, .errs] s t)) ∧
  (∀ (k delay : Nat) (x : TxSource) (res : AttemptEnd) (s : State), running s = true → (busSt s k).st ≠ bsNormal ∨ 256 ≤ (busSt s k).er.tec → exec (.txAttemptEnd k x res delay) s = .next s) ∧
  (∀ (k : Nat) (host : Bool) (s : State), running s = true → (busSt s k).st = bsNormal →
    let f := stagedFrame (if host then (busBuf s k).stageH else (busBuf s k).stageS)
    Does (.txCommit k host) s (fun t =>
      (ownerClass s k (frameKey f) = none → (busSt s k).er.quar.contains (frameKey f) = false → frameAllowed (busRec s k) f = true → (busSt s k).q.length < 32 →
        (busSt t k).q = (busSt s k).q ++ [{ tag := (busSt s k).nextTag, f := f }] ∧ (if host then (busSt t k).tagH else (busSt t k).tagS) = (busSt s k).nextTag ∧
        (if host then (busSt t k).outH else (busSt t k).outS) = 0) ∧
      ((ownerClass s k (frameKey f)).isSome = true ∨ (busSt s k).er.quar.contains (frameKey f) = true ∨ frameAllowed (busRec s k) f = false ∨ 32 ≤ (busSt s k).q.length →
        (busSt t k).q = (busSt s k).q ∧ (if host then (busSt t k).outH else (busSt t k).outS) = 4) ∧
      (∀ j, j ≠ k → busSt t j = busSt s j) ∧ t.fb.buf = s.fb.buf ∧ SameBut [.fb] s t))

/-- R279, R280, R293, R294: the third conflict in a row of a SLOT identifier quarantines it and takes its frames out of the queue; a released identifier sends again; a bus whose TEC has reached 256 goes off, keeps its queue and recovers with zero error counters, RESTRICTED in SAFE; a quarantined controller empties its urgent slot, forgets a request to sleep and is counted; each writes its record. No other bus changes. (TEC and REC follow ISO 11898-1 as the model presumes it: logs 69 and 124.) -/
def Obligations.bus_errors_and_quarantine : Prop :=
  (∀ (k id : Nat) (xtd : Bool) (s : State), running s = true → (busSt s k).st = bsNormal → ownerClass s k (idKey id xtd) = some 3 → tgetD (busSt s k).er.conflicts (idKey id xtd) 0 = 2 →
    Does (.idConflict k id xtd) s (fun t =>
      (busSt t k).er.quar = (busSt s k).er.quar ++ [idKey id xtd] ∧ (busSt t k).q = (busSt s k).q.filter (fun e => frameKey e.f != idKey id xtd) ∧
      (busSt t k).er.idcClass = 3 ∧ (busSt t k).er.tec = min 256 ((busSt s k).er.tec + 8) ∧
      (∃ u, SameBut [.ev, .hl, .fb, .errs] s u ∧ Wrote 0x0304 (src 4 k) (aw k ++ aw id ++ aw 3 ++ aw 1) u t) ∧
      (∀ j, j ≠ k → busSt t j = busSt s j) ∧ SameBut [.ev, .hl, .fb, .errs] s t)) ∧
  (∀ (k id : Nat) (xtd : Bool) (s : State), running s = true → (busSt s k).er.quar.contains (idKey id xtd) = true →
    Does (.idReleased k id xtd) s (fun t =>
      (busSt t k).er.quar = (busSt s k).er.quar.filter (· != idKey id xtd) ∧ tget (busSt t k).er.conflicts (idKey id xtd) = none ∧
      Wrote 0x0305 (src 4 k) (aw k ++ aw (idKey id xtd % 2 ^ 29) ++ aw 1) s t ∧
      (∀ j, j ≠ k → busSt t j = busSt s j) ∧ t.fb.buf = s.fb.buf ∧ SameBut [.ev, .hl, .fb, .errs] s t)) ∧
  (∀ (k kind : Nat) (s : State), running s = true → (busSt s k).er.tec < 256 → Does (.busOff k kind) s (fun t => t = s)) ∧
  (∀ (k kind : Nat) (s : State), running s = true → (busSt s k).st = bsNormal → 256 ≤ (busSt s k).er.tec →
    Does (.busOff k kind) s (fun t =>
      (busSt t k).st = bsBusOff ∧ (busSt t k).q = (busSt s k).q ∧ (busSt t k).er.offAt = s.clock ∧ (busSt t k).er.lastKind = kind ∧ (busSt t k).er.recovering = (busRec s k).autoRecover ∧
      (∃ u, SameBut [.ev, .hl, .fb, .errs] s u ∧ Wrote 0x0301 (src 4 k) (aw k ++ aw (busSt t k).er.tec ++ aw kind) u t) ∧
      (∀ j, j ≠ k → busSt t j = busSt s j) ∧ t.fb.buf = s.fb.buf ∧ SameBut [.ev, .hl, .fb, .errs] s t)) ∧
  (∀ (k : Nat) (s : State), running s = true → (busSt s k).st = bsBusOff →
    Does (.recover k) s (fun t => busSt t k = { busSt s k with er := { (busSt s k).er with recovering := true } } ∧ (∀ j, j ≠ k → busSt t j = busSt s j) ∧ t.fb.buf = s.fb.buf ∧ SameBut [.fb] s t) ∧
    ((busSt s k).er.recovering = true → Does (.busRecovered k) s (fun t =>
      (busSt t k).st = (if s.glb.role = .safe then bsRestricted else bsNormal) ∧ (busSt t k).er.tec = 0 ∧ (busSt t k).er.recCnt = 0 ∧ (busSt t k).er.recovering = false ∧ (busSt t k).q = (busSt s k).q ∧
      (∃ u, SameBut [.ev, .hl, .fb, .errs] s u ∧ Wrote 0x0302 (src 4 k) (aw k ++ aw ((s.clock - (busSt s k).er.offAt) / 1000000)) u t) ∧
      (∀ j, j ≠ k → busSt t j = busSt s j) ∧ t.fb.buf = s.fb.buf ∧ SameBut [.ev, .hl, .fb, .errs] s t))) ∧
  (∀ (k cause : Nat) (s : State), running s = true → k < 16 → (busSt s k).st ≠ bsQuar →
    Does (.busCtrlQuarantined k cause) s (fun t =>
      busSt t k = { busSt s k with st := bsQuar, urg := none, pend := [], ref := none, refLast := false, held := 0 } ∧ Wrote 0x030E (src 4 k) (aw k ++ aw cause) s t ∧ t.dg.cntQuar = satAdd 0xFFFFFFFF s.dg.cntQuar 1 ∧ t.glb.role = s.glb.role ∧
      busBuf t k = { busBuf s k with sleepReq := none } ∧ (∀ j, j ≠ k → busSt t j = busSt s j ∧ busBuf t j = busBuf s j) ∧ SameBut [.dg, .ev, .hl, .fb, .errs] s t))

/-- R271, R274, R296, R297: AUTO_RESTART puts an AUTO bus at its first candidate; a dwell that ends passes to the next candidate; a receiver without a reference message for two rounds has lost its synchronisation; a bus that may sleep takes the request, sleeps once its queue and urgent slot are empty within 10 ms and refuses otherwise, and drops the request in a state that does not sleep; a sleeping bus wakes by its cause, RESTRICTED in SAFE. No other bus changes. -/
def Obligations.bus_modes_sleep_and_wake : Prop :=
  (∀ (k : Nat) (s : State), running s = true → startState s (busRec s k) = bsAuto → (busSt s k).st = bsAuto ∨ (busSt s k).st = bsNormal ∨ (busSt s k).st = bsRestricted →
    Does (.autoRestart k) s (fun t =>
      (busSt t k).st = bsAuto ∧ (busSt t k).er.cand = 0 ∧ (busSt t k).er.passes = 0 ∧ (busSt t k).er.locked = none ∧ (busSt t k).er.autoSt = 1 ∧ (busSt t k).q = (busSt s k).q ∧
      (∀ j, j ≠ k → busSt t j = busSt s j) ∧ t.fb.buf = s.fb.buf ∧ SameBut [.fb] s t)) ∧
  (∀ (k : Nat) (s : State), running s = true → (busSt s k).st = bsAuto → (busSt s k).er.lockPend = false →
    Does (.autoDwellEnd k) s (fun t =>
      ((busSt s k).er.cand + 1 < (busRec s k).cands.length → (busSt t k).er.cand = (busSt s k).er.cand + 1 ∧ (busSt t k).er.passes = (busSt s k).er.passes) ∧
      ((busRec s k).cands.length ≤ (busSt s k).er.cand + 1 → (busSt t k).er.cand = 0 ∧ (busSt t k).er.passes = satAdd 255 (busSt s k).er.passes 1 ∧
        ((busSt s k).er.passes = 9 → (busSt t k).er.autoSt = 3 ∧ Wrote 0x0307 (src 4 k) (aw k ++ aw 10) { s with clock := t.clock } t)) ∧
      t.clock = max s.clock ((busSt s k).er.candAt + (busRec s k).autoDwell * 10000000) ∧ (busSt t k).er.candAt = t.clock ∧
      (busSt t k).er.frames = 0 ∧ (busSt t k).st = bsAuto ∧ (∀ j, j ≠ k → busSt t j = busSt s j) ∧ t.fb.buf = s.fb.buf ∧ SameBut [.ev, .hl, .fb, .errs, .clock] s t)) ∧
  (∀ (k : Nat) (s : State), running s = true → isTt s k = true → s.red.timeMaster = false → 2 ≤ (busSt s k).ttRound → (busSt s k).ttLost = false →
    Does (.ttSyncLost k) s (fun t =>
      busSt t k = { busSt s k with ttLost := true, ttSync := false } ∧ Wrote 0x0308 (src 4 k) (aw k ++ aw (busSt s k).ttRound) s t ∧ (∀ j, j ≠ k → busSt t j = busSt s j) ∧ t.fb.buf = s.fb.buf ∧ SameBut [.ev, .hl, .fb, .errs] s t)) ∧
  (∀ (k : Nat) (s : State), running s = true → (busRec s k).sleepOk = true → (busSt s k).st = bsNormal → (busBuf s k).sleepReq = none →
    Does (.sleep k) s (fun t =>
      busBuf t k = { busBuf s k with sleepReq := some (1, s.clock) } ∧ (∀ j, j ≠ k → busBuf t j = busBuf s j) ∧ t.fb.bus = s.fb.bus ∧ SameBut [.fb] s t) ∧
    ((busRec s k).idleSleep ≠ 0 → Does (.idleSleep k) s (fun t =>
      busBuf t k = { busBuf s k with sleepReq := some (2, t.clock) } ∧ t.clock = max s.clock ((busBuf s k).lastTraffic + (busRec s k).idleSleep * 1000000) ∧
      (∀ j, j ≠ k → busBuf t j = busBuf s j) ∧ t.fb.bus = s.fb.bus ∧ SameBut [.fb, .clock] s t))) ∧
  (∀ (k cause at_ : Nat) (s : State), running s = true → (busBuf s k).sleepReq = some (cause, at_) →
    Does (.busSleep k) s (fun t =>
      (busBuf t k).sleepReq = none ∧
      ((busSt s k).st ≠ bsNormal → (busSt s k).st ≠ bsRestricted → (busSt s k).st ≠ bsAuto → t.fb.bus = s.fb.bus ∧ t.ev = s.ev ∧ t.clock = s.clock) ∧
      ((busSt s k).st = bsNormal ∨ (busSt s k).st = bsRestricted ∨ (busSt s k).st = bsAuto → (busSt s k).q = [] → (busSt s k).urg = none → s.clock ≤ at_ + 10000000 →
        (busSt t k).st = bsSleep ∧ (busBuf t k).sleeps = satAdd 0xFFFF (busBuf s k).sleeps 1 ∧
        t.clock = s.clock ∧ Wrote 0x030C (src 4 k) (aw k ++ aw cause) s t) ∧
      ((busSt s k).st = bsNormal ∨ (busSt s k).st = bsRestricted ∨ (busSt s k).st = bsAuto → (busSt s k).q ≠ [] ∨ (busSt s k).urg ≠ none ∨ at_ + 10000000 < s.clock →
        t.fb.bus = s.fb.bus ∧ t.ev = s.ev ∧ t.clock = max s.clock (at_ + 10000000)) ∧
      (∀ j, j ≠ k → busSt t j = busSt s j ∧ busBuf t j = busBuf s j) ∧ SameBut [.ev, .hl, .fb, .errs, .clock] s t)) ∧
  (∀ (k : Nat) (f : BusFrame) (s : State), running s = true → (busSt s k).st = bsSleep →
    Does (.wake k) s (fun t =>
      (busBuf t k).waking = true ∧ (busSt t k).st = bsSleep ∧ ((busRec s k).large = false → t.fb.bus = s.fb.bus) ∧
      ((busRec s k).large = true → (busBuf s k).waking = false → ∃ e, (busSt t k).q = e :: (busSt s k).q ∧ e.f = wakeFrame (busRec s k)) ∧
      (∀ j, j ≠ k → busSt t j = busSt s j ∧ busBuf t j = busBuf s j) ∧ SameBut [.fb] s t) ∧
    ((busRec s k).large = false → Does (.busWake k 1 f) s (fun t =>
      (busSt t k).st = (if s.glb.role = .safe ∨ (busRec s k).restricted = true then bsRestricted else bsNormal) ∧ (busBuf t k).wakeCause = 1 ∧ (busBuf t k).waking = false ∧
      Wrote 0x030D (src 4 k) (aw k ++ aw 1) s t ∧
      (∀ j, j ≠ k → busSt t j = busSt s j ∧ busBuf t j = busBuf s j) ∧ SameBut [.ev, .hl, .fb, .errs] s t)) ∧
    ((busBuf s k).waking = true → Does (.busWake k 3 f) s (fun t =>
      (busSt t k).st = (if s.glb.role = .safe ∨ (busRec s k).restricted = true then bsRestricted else bsNormal) ∧ (busBuf t k).wakeCause = 3 ∧ (busBuf t k).waking = false ∧
      Wrote 0x030D (src 4 k) (aw k ++ aw 3) s t ∧
      (∀ j, j ≠ k → busSt t j = busSt s j ∧ busBuf t j = busBuf s j) ∧ SameBut [.ev, .hl, .fb, .errs] s t)))

/-- R302, R450: the port comes up at the rate that it tries (400 alone with an optic that does not advertise 800GAUI-4, the first attempt at 800; which attempt is under way and which bit of the advertised interfaces is 800GAUI-4 are the choices of logs 131 and 39), comes down with its rate cleared and its codeword counts raised, held at their largest value (that they come with LINK_DOWN is the choice of log 92), both are recorded; while it is down its attempts, each 2 s after the one before, alternate between the two rates. An optic left unpowered (cause 3) keeps the link down until it is removed: no attempt, no LINK_UP; one of which a link that is down hears is recorded with 0 s (the choice of log 133). -/
def Obligations.link_port_comes_up_and_down : Prop :=
  (∀ (rate ifaces : Nat) (s : State), running s = true → s.hl.linkUp = false → s.hl.opticBad = false →
    rate = (if bitOf ifaces 1 = true then s.hl.tryRate else 1) →
    Does (.linkUp rate ifaces) s (fun t =>
      t.hl.linkUp = true ∧ t.hl.rate = rate ∧ t.hl.fecLock = true ∧ t.hl.optic = true ∧ t.hl.ifaces = ifaces ∧ t.hl.upSince = s.clock ∧
      (rate ≠ 1 ∨ bitOf ifaces 1 = false → Wrote 0x0701 (src 8 0) (aw rate) s t) ∧
      (rate = 1 → bitOf ifaces 1 = true → Wrote 0x0703 (src 8 0) (aw ifaces) (emit 0x0701 (src 8 0) (aw rate) s) t) ∧ SameBut [.ev, .hl, .errs, .freeCtr] s t)) ∧
  (∀ (rate ifaces : Nat) (s : State), running s = true → s.hl.opticBad = true → Does (.linkUp rate ifaces) s (fun t => t = s) ∧ Does .linkRateAttempt s (fun t => t = s)) ∧
  (∀ (cause corr uncorr : Nat) (s : State), running s = true → s.hl.linkUp = true →
    Does (.linkDown cause corr uncorr) s (fun t =>
      t.hl.linkUp = false ∧ t.hl.rate = 0 ∧ t.hl.fecLock = false ∧ (cause = 1 → t.hl.optic = s.hl.optic) ∧ (cause ≠ 1 → t.hl.optic = false) ∧
      (cause = 3 → t.hl.opticBad = true) ∧ (cause = 2 → t.hl.opticBad = false) ∧ t.hl.tryRate = 2 ∧
      t.hl.fecCorr = min 0xFFFFFFFF (s.hl.fecCorr + corr) ∧ t.hl.fecUncorr = min 0xFFFFFFFF (s.hl.fecUncorr + uncorr) ∧ t.hl.tryAt = s.clock ∧
      Wrote 0x0702 (src 8 0) (aw ((s.clock - s.hl.upSince) / 1000000000) ++ aw cause) s t ∧ SameBut [.ev, .hl, .errs] s t)) ∧
  (∀ (corr uncorr : Nat) (s : State), running s = true → s.hl.linkUp = false →
    Does (.linkDown 2 corr uncorr) s (fun t => t.hl.linkUp = false ∧ t.hl.optic = false ∧ t.hl.opticBad = false ∧ t.hl.ifaces = 0 ∧ t.ev = s.ev ∧ SameBut [.hl] s t) ∧
    (s.hl.opticBad = false → Does (.linkDown 3 corr uncorr) s (fun t =>
      t.hl.linkUp = false ∧ t.hl.optic = false ∧ t.hl.opticBad = true ∧ Wrote 0x0702 (src 8 0) (aw 0 ++ aw 3) s t ∧ SameBut [.ev, .hl, .errs] s t))) ∧
  (∀ (s : State), running s = true → s.hl.linkUp = false → s.hl.opticBad = false →
    Does .linkRateAttempt s (fun t =>
      t.clock = max s.clock (s.hl.tryAt + 2000000000) ∧ t.hl = { s.hl with tryRate := if s.hl.tryRate = 2 then 1 else 2, tryAt := t.clock, optic := true } ∧ SameBut [.hl, .clock] s t))

/-- R14, R36, R318: a REG request of one read or one write by a peer with its right is answered once with status OK (tagged where it came tagged, R324; `d` is the request without its trailer), its record carrying the operation's status and value; the answer changes nothing but the link. `u` is the state once the request has been taken in, `u'` that state with one free value used. -/
def Obligations.register_requests_are_answered : Prop :=
  (∀ (raw d : Dgram) (s u : State) (p : PeerRec), running s = true → untag raw = d → takeRequest 0x10 none d s = (some p, u) → d.payload.length = 16 → fld d.payload 0 8 < 2 ^ 40 →
    zeroAt d.payload 10 2 = true → byteAt d.payload 8 = 1 → hasRight p 0 = true →
    let u' := (freshWord u).2
    Does (.reg raw) s (fun t =>
      ∃ m, t.outbox = u.outbox ++ [m] ∧ m.status = 0 ∧
        Answers (regRead (fld d.payload 0 8) u').2.2 p.index d (regEcho d.payload (regRead (fld d.payload 0 8) u').1 (regRead (fld d.payload 0 8) u').2.1) m ∧
        SameBut [.hl, .outbox] (regRead (fld d.payload 0 8) u').2.2 t)) ∧
  (∀ (raw d : Dgram) (s u : State) (p : PeerRec), running s = true → untag raw = d → takeRequest 0x10 none d s = (some p, u) → d.payload.length = 16 → fld d.payload 0 8 < 2 ^ 40 →
    zeroAt d.payload 10 2 = true → byteAt d.payload 8 = 2 → hasRight p 1 = true → s.glb.role ≠ .safe →
    let u' := (freshWord u).2
    let v := regWrite p.index (fld d.payload 0 8) (fld d.payload 12 4) u'
    v.2.hl.session = u.hl.session →
    Does (.reg raw) s (fun t =>
      ∃ m, t.outbox = v.2.outbox ++ [m] ∧ m.status = 0 ∧ Answers v.2 p.index d (regEcho d.payload v.1 (fld d.payload 12 4)) m ∧
        SameBut [.hl, .outbox] v.2 t))

/-- R308, R319, R320: a bulk write that its peer may send puts its data at its target in the staging window or the HBM user space and no other byte changes; one aimed elsewhere changes no memory and marks its transfer as denied; BULK_STATUS answers the committed count; BULK_READ answers its fragments in order (the layouts of the two payloads and what a hole gives are the choices of logs 38, 40 and 101); a transfer is forgotten 10 s after its last fragment. `u` is the state once the datagram has been taken in. -/
def Obligations.bulk_transfers_commit_and_answer : Prop :=
  (∀ (raw d : Dgram) (s u : State) (p : PeerRec), running s = true → untag raw = d → accept 0x11 d s = (some p, u) → hasRight p 2 = true → s.glb.role ≠ .safe →
    28 ≤ d.payload.length → d.payload.length ≤ 24 + 8192 → d.payload.length % 4 = 0 → zeroAt d.payload 4 4 = true → fld d.payload 16 8 + (d.payload.length - 24) ≤ 2 ^ 30 →
    findXfer u p.index (fld d.payload 0 4) = none →
    let a := fld d.payload 8 8 + fld d.payload 16 8
    let n := d.payload.length - 24
    Does (.bulkWrite raw) s (fun t =>
      (bulkTarget s a n = true → a < 0x08000000 →
        t.mem = s.mem ∧ (∀ i, i < n → memRd t.stage (a % 0x1000000 + i) = nth d.payload (24 + i) 0#8) ∧
        (∀ b, b < a % 0x1000000 ∨ a % 0x1000000 + n ≤ b → memRd t.stage b = memRd s.stage b)) ∧
      (bulkTarget s a n = true → 0x08000000 ≤ a →
        t.stage = s.stage ∧ (∀ i, i < n → memRd t.mem (a + i) = nth d.payload (24 + i) 0#8) ∧ (∀ b, b < a ∨ a + n ≤ b → memRd t.mem b = memRd s.mem b)) ∧
      (bulkTarget s a n = false → t.mem = s.mem ∧ t.stage = s.stage ∧ ∃ x, findXfer t p.index (fld d.payload 0 4) = some x ∧ x.denied = true) ∧
      SameBut [.ev, .hl, .ks, .sc, .errs, .outbox, .mem, .stage] s t)) ∧
  (∀ (raw d : Dgram) (s u : State) (p : PeerRec) (x : XferSt), running s = true → untag raw = d → takeRequest 0x15 (some 2) d s = (some p, u) → d.payload.length = 8 →
    findXfer u p.index (fld d.payload 0 4) = some x → x.denied = false →
    Does (.bulkStatus raw) s (fun t =>
      (∃ m body, t.outbox = u.outbox ++ [m] ∧ m.status = 0 ∧ Answers u p.index d body m ∧ fld body 0 8 = committed x.ranges (fld d.payload 4 4) % 2 ^ 64) ∧
      SameBut [.ev, .hl, .ks, .sc, .errs, .outbox] s t)) ∧
  (∀ (raw d : Dgram) (s u : State) (p : PeerRec), running s = true → untag raw = d → takeRequest 0x12 (some 3) d s = (some p, u) → d.payload.length = 16 →
    fld d.payload 0 8 % 4 = 0 → 0 < fld d.payload 8 8 → fld d.payload 8 8 % 4 = 0 → fld d.payload 8 8 ≤ 64 * 2 ^ 20 → fld d.payload 0 8 + fld d.payload 8 8 ≤ 2 ^ 40 →
    Does (.bulkRead raw) s (fun t =>
      (∃ l, t.outbox = u.outbox ++ l ∧ l.length = (fld d.payload 8 8 + 8191) / 8192 ∧ ∀ m ∈ l, m.dst = d.src ∧ m.xid = d.xid ∧ m.typ = 0x13 ∧ m.frags = l.length) ∧
      (fld d.payload 8 8 = 4 → ∃ m, t.outbox = u.outbox ++ [m] ∧ m.status = (regRead (fld d.payload 0 8) u).1 % 256 ∧ m.payload.take 12 = le 0 8 ++ le (regRead (fld d.payload 0 8) u).2.1 4 ∧ (d.trailer = [] → m.payload.length = 12)) ∧
      SameBut [.pwr, .ev, .hl, .ks, .sc, .lp, .svf, .fb, .fc, .al, .errs, .latches, .outbox, .freeCtr] s t)) ∧
  (∀ (peer xfer : Nat) (x : XferSt) (s : State), running s = true → findXfer s peer xfer = some x →
    Does (.transferForgotten peer xfer) s (fun t =>
      findXfer t peer xfer = none ∧ (∀ p i, p ≠ peer ∨ i ≠ xfer → findXfer t p i = findXfer s p i) ∧ t.clock = max s.clock (x.last + 10000000000) ∧ SameBut [.hl, .clock] s t))

/-- R321: a DOORBELL whose data is there is answered at once, its transfer forgotten; one whose data is missing is acknowledged and waits. When its data is complete a waiting DOORBELL leaves the waiting signals and its transfer is forgotten; two rounds later without it, it leaves them with a record, is answered DATA_LATE and its transfer is kept. -/
def Obligations.data_bound_signals_complete_or_fail : Prop :=
  (∀ (raw d : Dgram) (s u : State) (p : PeerRec), running s = true → untag raw = d → takeRequest 0x14 (some 2) d s = (some p, u) → doorbellBad d = false → fld d.payload 8 4 = 0 →
    (xferDenied p.index (fld d.payload 0 4) u).1 = false → u.sc.msgs = [] →
    let xfer := fld d.payload 0 4
    let len := fld d.payload 4 4
    Does (.doorbell raw) s (fun t =>
      (xferMissing u p.index xfer len = 0 →
        (∃ m, t.outbox = u.outbox ++ [m] ∧ m.typ = 0x14 ∧ m.status = 0 ∧ Answers u p.index d [] m) ∧ findXfer t p.index xfer = none ∧ t.hl.waits = u.hl.waits) ∧
      (xferMissing u p.index xfer len ≠ 0 →
        (∃ m, t.outbox = u.outbox ++ [m] ∧ m.dst = d.src ∧ m.xid = d.xid ∧ m.typ = 0x24) ∧
        t.hl.waits = u.hl.waits ++ [{ peer := p.index, xfer := xfer, len := len, round := s.round, d := d }] ∧ findXfer t p.index xfer = findXfer u p.index xfer) ∧
      SameBut [.ev, .hl, .ks, .sc, .errs, .outbox] s t)) ∧
  (∀ (peer xfer : Nat) (w : WaitSig) (s : State), running s = true → readySignals s peer xfer = [w] → w.sc = none → w.d.typ = 0x14 → fld w.d.payload 8 4 = 0 → s.sc.msgs = [] →
    (∀ x, s.hl.waits.find? critWaits = some x → x.behind = false) →
    Does (.dataBoundComplete peer xfer) s (fun t =>
      t.hl.waits = s.hl.waits.filter (fun x => x != w) ∧ findXfer t peer xfer = none ∧
      (∃ m, t.outbox = s.outbox ++ [m] ∧ m.dst = w.d.src ∧ m.xid = w.d.xid ∧ m.status = 0) ∧ SameBut [.ev, .hl, .sc, .errs, .outbox] s t)) ∧
  (∀ (peer xfer : Nat) (w : WaitSig) (s : State), running s = true → s.hl.waits = [w] → w.peer = peer → w.xfer = xfer → w.behind = false → w.round + 2 ≤ s.round → xferMissing s peer xfer w.len ≠ 0 →
    w.sc = none → w.d.typ = 0x14 → s.sc.msgs = [] →
    Does (.dataLate peer xfer) s (fun t =>
      t.hl.waits = [] ∧ t.hl.xfers = s.hl.xfers ∧
      (∃ m, t.outbox = s.outbox ++ [m] ∧ m.dst = w.d.src ∧ m.xid = w.d.xid ∧ m.status % 256 = stDataLate ∧ m.status / 256 = xferMissing s peer xfer w.len % 2 ^ 24) ∧
      Wrote 0x0709 (src 8 0) (aw peer ++ aw xfer ++ aw (xferMissing s peer xfer w.len)) s t ∧
      SameBut [.ev, .hl, .ks, .sc, .errs, .outbox] s t))

/-- R309, R322: at half the period a peer with pending error bits gets a NOTIFY, which is remembered until it is acknowledged, and with none pending nothing is sent; an unanswered message is sent again, and after the eighth time given up, with a record; an acknowledged NOTIFY is no longer remembered. -/
def Obligations.notifications_and_acknowledgements : Prop :=
  (∀ (s : State), running s = true → s.began = true → engineSilent s = false →
    Does .notify s (fun t =>
      t.clock = max s.clock (s.t0At + periodNs s / 2) ∧
      ((∀ p ∈ (pat s).peers.peers, hasRight p 9 = true → pendingErr s p.index = []) → SameBut [.clock] s t) ∧
      (∀ p, (pat s).peers.peers = [p] → p.index = 0 → hasRight p 9 = true → pendingErr s 0 ≠ [] →
        ∃ r, r ∈ t.hl.reqs ∧ r.peer = 0 ∧ r.d.typ = 0x22 ∧ r.d.dst = p.addr ∧ t.outbox = s.outbox ++ [r.d] ∧ (∀ e ∈ pendingErr s 0, e ∈ tgetD t.hl.sentErr 0 [])) ∧
      SameBut [.hl, .outbox, .clock] s t)) ∧
  (∀ (peer xid : Nat) (r : OutReq) (s : State), running s = true → s.hl.reqs.find? (fun q => q.peer == peer && q.d.xid == xid) = some r → r.d.typ = 0x22 →
    Does (.retransmit peer xid) s (fun t =>
      t.clock = max s.clock (r.sentAt + 1000000) ∧
      (r.sends < 8 → t.outbox = s.outbox ++ [r.d] ∧ t.hl.reqs = s.hl.reqs.map (fun q => if q == r then { q with sends := q.sends + 1, sentAt := t.clock } else q)) ∧
      (8 ≤ r.sends → t.outbox = s.outbox ∧ t.hl.reqs = s.hl.reqs.erase r ∧ Wrote 0x070B (src 8 0) (aw peer ++ aw 0x22) { s with clock := t.clock } t) ∧ SameBut [.ev, .hl, .sc, .errs, .outbox, .clock] s t)) ∧
  (∀ (raw d : Dgram) (s u : State) (p : PeerRec) (r : OutReq), running s = true → untag raw = d → accept d.typ d s = (some p, u) → d.typ = 0x24 →
    u.hl.reqs.find? (fun q => q.peer == p.index && q.d.xid == d.xid) = some r → r.d.typ = 0x22 ∨ r.d.typ = 0x23 →
    Does (.ack raw) s (fun t =>
      t.hl.reqs = u.hl.reqs.erase r ∧ (r.d.typ = 0x22 → tget t.hl.sentErr p.index = none) ∧ (r.d.typ = 0x23 → tget t.ev.cursors p.index = some r.seqEnd) ∧
      SameBut [.ev, .hl, .ks, .sc, .errs, .outbox] s t))

/-- R324, R330, R397: an attestation is answered with a report of 2402 bytes that begins with ATST and carries the peer's nonce, or with the three certificates of 4096 bytes, tagged where it came tagged, and recorded; KEY_SET of the peer's own reference replaces that key and no other. -/
def Obligations.attestation_reports_and_key_change : Prop :=
  (∀ (raw d : Dgram) (s u : State) (p : PeerRec), running s = true → untag raw = d → takeRequest 0x31 none d s = (some p, u) → d.payload.length = 40 → zeroAt d.payload 1 7 = true →
    (byteAt d.payload 0 = 1 → Does (.attestReport raw) s (fun t =>
      (∃ m body, t.outbox = u.outbox ++ [m] ∧ m.status = 0 ∧ Answers u p.index d body m ∧ body.length = 2402 ∧
        body.take 4 = [0x41#8, 0x54#8, 0x53#8, 0x54#8] ∧ slice body 48 32 = slice d.payload 8 32) ∧ Wrote 0x080E srcCore (aw p.index ++ aw 1) u t ∧
      SameBut [.ev, .hl, .ks, .sc, .errs, .outbox] s t)) ∧
    (byteAt d.payload 0 = 2 → Does (.attestChain raw) s (fun t =>
      (∃ l, t.outbox = u.outbox ++ l ∧ l.length = 3 ∧ ∀ m ∈ l, m.frags = 3 ∧ ∃ body, body.length = 4096 ∧ Answers u p.index d body m) ∧ Wrote 0x080E srcCore (aw p.index ++ aw 2) u t ∧
      SameBut [.ev, .hl, .ks, .sc, .errs, .outbox] s t))) ∧
  (∀ (d : Dgram) (s u : State) (p : PeerRec) (r : Nat), running s = true → CritTaken 15 40 0 d s p r u → zeroAt (critArgs d) 2 6 = true →
    let ref := fld (critArgs d) 0 2
    Does (.keySet d) s (fun t =>
      (ref = p.keyRef → keyOf t ref = newKey (keyOf s ref) (slice (critArgs d) 8 32) (tagCounter d) ref) ∧
      (∀ q, q ≠ ref ∨ ref ≠ p.keyRef → keyOf t q = keyOf s q) ∧ SameBut [.ev, .hl, .ks, .sc, .errs, .outbox] s t))

/-- R333 to R338: the operations of a party on the module, on a counter that no watch observes while no SC message is under way. POST adds where the sum fits and serves the waiters in order; TAKE and TRY take where nobody waits and the value suffices, else TAKE waits, to a limit that its party gives it (R337: the supervisor's own, a tile's at the guard milestone of the round or at the end of the slice's window), and TRY answers WOULD_BLOCK; DEC takes or answers UNDERFLOW; READ only answers; SET creates a FREE counter, sets the owner's, and with the release flag frees it. The party gets the status and value. No other counter changes. R337, R339, R340, R346: a TAKE that has waited for its limit leaves the queue with a record, is answered REFUSED, and lets the next one be served; a block fault drops every LIVE counter, with cause 6 and no waiters left, and no later operation changes a counter. -/
def Obligations.stitch_counter_operations_and_faults : Prop :=
  (∀ (k : ScCall) (s : State), running s = true → isPeer k.party = false → s.sc.quar = false → s.sc.msgs = [] → k.counter < 4096 → k.flags = 0 → 0 < k.n →
      s.sc.watches.all (fun e => e.2.counter != k.counter) = true →
      let x := ctr s k.counter
      let got (t : State) (st det v : Nat) : Prop := (k.party, st, det, v) ∈ t.sc.localRes
      let frame (t : State) : Prop := (∀ c, c ≠ k.counter → ctr t c = ctr s c) ∧ SameBut [.ev, .hl, .sc, .errs, .outbox] s t
      (x.st = 1 → x.val + k.n ≤ 0xFFFFFFFF → Does (.post k) s (fun t =>
        ctr t k.counter = { x with val := (serveQueue (x.val + k.n) x.queue).2.1, queue := (serveQueue (x.val + k.n) x.queue).2.2 } ∧
        got t stOk 0 (x.val + k.n) ∧ frame t)) ∧
      (x.st = 1 → 0xFFFFFFFF < x.val + k.n → Does (.post k) s (fun t => ctr t k.counter = x ∧ got t stRefused 1 0 ∧ frame t)) ∧
      (x.st = 1 → x.queue = [] → k.n ≤ x.val → isEngine k.party = false → Does (.take k) s (fun t => ctr t k.counter = { x with val := x.val - k.n } ∧ got t stOk 0 (x.val - k.n) ∧ frame t)) ∧
      (x.st = 1 → x.queue ≠ [] ∨ x.val < k.n → slotsUsed s < 512 → isEngine k.party = false → Does (.take k) s (fun t =>
        ∃ e, ctr t k.counter = { x with queue := x.queue ++ [{ call := k, since := s.clock, ends := e }] } ∧ t.sc.localRes = s.sc.localRes ∧
          (k.party = .supervisor → e = s.clock + k.limitUs * 1000) ∧
          (∀ i, k.party = .tile i → e = (if k.forecast = true then s.t0At + periodNs s * 90 / 100 else if s.clock < s.t0At + periodNs s / 2 then s.t0At + periodNs s / 2 else s.t0At + periodNs s)) ∧
          frame t)) ∧
      (x.st = 1 → x.queue = [] → k.n ≤ x.val → Does (.try_ k) s (fun t => ctr t k.counter = { x with val := x.val - k.n } ∧ got t stOk 0 (x.val - k.n) ∧ frame t)) ∧
      (x.st = 1 → x.queue ≠ [] ∨ x.val < k.n → Does (.try_ k) s (fun t => ctr t k.counter = x ∧ got t stWouldBlock 0 x.val ∧ frame t)) ∧
      (x.st = 1 → k.n ≤ x.val → Does (.dec k) s (fun t => ctr t k.counter = { x with val := x.val - k.n } ∧ got t stOk 0 (x.val - k.n) ∧ frame t)) ∧
      (x.st = 1 → x.val < k.n → Does (.dec k) s (fun t => ctr t k.counter = x ∧ got t stUnderflow 0 x.val ∧ frame t)) ∧
      (x.st = 1 → Does (.read k) s (fun t => ctr t k.counter = x ∧ got t stOk 0 x.val ∧ frame t)) ∧
      (x.st ≠ 1 → x.queue = [] → Does (.set k) s (fun t =>
        (ctr t k.counter).st = 1 ∧ (ctr t k.counter).val = k.n ∧ (ctr t k.counter).owner = k.party ∧ got t stOk 0 k.n ∧ frame t)) ∧
      (x.st = 1 → x.owner = k.party → x.queue = [] → Does (.set k) s (fun t => ctr t k.counter = { x with val := k.n } ∧ got t stOk 0 k.n ∧ frame t)) ∧
      (x.st = 1 → x.owner ≠ k.party → Does (.set k) s (fun t => ctr t k.counter = x ∧ got t stNotPermitted 0 0 ∧ frame t)) ∧
      (x.st = 1 → x.owner = k.party → Does (.scRelease k) s (fun t => ctr t k.counter = { cause := x.cause } ∧ got t stOk 0 0 ∧ frame t)) ∧
      (x.st = 0 → Does (.read k) s (fun t => ctr t k.counter = x ∧ got t stDenied 0 0 ∧ frame t)) ∧
      (x.st = 2 → Does (.read k) s (fun t => ctr t k.counter = x ∧ got t stDropped 0 0 ∧ frame t))) ∧
  ((∀ (c : Nat) (w : ScWaiter) (s : State), running s = true → (ctr s c).queue = [w] → isPeer w.call.party = false → s.sc.msgs = [] →
      Does (.scTakeTimeout c w.call.party) s (fun t =>
        ctr t c = { ctr s c with queue := [] } ∧ (w.call.party, stRefused, 2, 0) ∈ t.sc.localRes ∧ t.clock = max s.clock w.ends ∧
        (s.sc.full = false → Wrote 0x0604 (src 7 0) (aw c ++ aw w.call.n ++ aw (partyCode w.call.party) ++ aw ((t.clock - w.since) / 1000)) { s with clock := t.clock } t) ∧
        (∀ j, j ≠ c → ctr t j = ctr s j) ∧ SameBut [.ev, .hl, .sc, .errs, .outbox, .clock] s t)) ∧
    (∀ (s : State), running s = true → s.sc.quar = false →
      Does .scBlockQuarantined s (fun t =>
        t.sc.quar = true ∧ t.dg.cntQuar = satAdd 0xFFFFFFFF s.dg.cntQuar 1 ∧
        (∀ c, (ctr s c).st = 1 → (ctr t c).st = 2 ∧ (ctr t c).cause = 6 ∧ (ctr t c).queue = []) ∧ (∀ c, (ctr s c).st ≠ 1 → ctr t c = ctr s c) ∧
        (liveCount s = 0 → s.sc.msgs = [] → Wrote 0x0606 (src 7 0) (aw 0 ++ aw 0) s t) ∧
        SameBut [.dg, .ev, .hl, .sc, .errs, .outbox] s t)) ∧
    (∀ (k : ScCall) (s : State), running s = true → s.sc.quar = true → isPeer k.party = false → s.sc.msgs = [] →
      Does (.post k) s (fun t => t.sc.ctrs = s.sc.ctrs) ∧ Does (.set k) s (fun t => t.sc.ctrs = s.sc.ctrs)))

/-- R379, R381, R383: a REKNIT whose keyed check has passed and whose data is there. On a module with a pattern: a container that passes every check and asks for a round in range is SCHEDULED for that round, a container that fails a check changes no more than the last check, and with the FULL flag a container that passes is put in slot NEXT, which an empty one clears. On a module that awaits a pattern, a container that passes becomes CURRENT and takes the module into HELD at round 0. `u` is the state once the command has been taken. (The order in which the reasons are tested, and what cast-on restarts, are the model's readings: logs 29, 31 and 129.) -/
def Obligations.reknit_commands_are_checked : Prop :=
  ∀ (d : Dgram) (s u : State) (p : PeerRec) (r : Nat), running s = true → CritTaken 2 24 3 d s p r u →
    let xfer := fld (critArgs d) 0 4
    let addr := fld (critArgs d) 8 8
    let len := fld (critArgs d) 16 8
    let raw := blobAt u addr len
    let ar := fld raw 0xC0 8
    let w := fld raw 0xC8 2
    zeroAt (critArgs d) 4 4 = true → (xferDenied p.index xfer u).1 = false → xferMissing u p.index xfer len = 0 →
    (bitOf (critFlags d) 1 = false → s.pf.st = 1 → s.pwr.dip = false → (patCheck u .reknit raw len).1 = 0 →
      (ar = 0 ∨ soonest u ≤ ar ∧ ar ≤ u.round + 3600000) → (w = 0 ∨ 10 ≤ w ∧ w ≤ 3600) → byteAt raw 0xCA < 4 →
      Does (.reknit d) s (fun t =>
        t.pf = { s.pf with
          st := 2
          applyRound := (if ar = 0 then soonest u else ar)
          sched := some { pat := parsePattern raw, na := (if ar = 0 then soonest u else ar), trial := bitOf (critFlags d) 0, window := (if w = 0 then 60 else w), flags := byteAt raw 0xCA } } ∧
        SameBut [.ev, .hl, .ks, .pf, .sc, .errs, .outbox] s t)) ∧
    (bitOf (critFlags d) 1 = false → s.pf.st ≠ 0 → (patCheck u .reknit raw len).1 ≠ 0 →
      Does (.reknit d) s (fun t => t.pf = { s.pf with lastCheck := (patCheck u .reknit raw len).1 } ∧ SameBut [.ev, .hl, .ks, .pf, .sc, .errs, .outbox] s t)) ∧
    (bitOf (critFlags d) 1 = true → s.pf.st ≠ 0 → s.pwr.dip = false →
      Does (.reknitFull d) s (fun t =>
        (len = 0 → t.pf = { s.pf with nextP := none, idsWrite := true }) ∧
        (len ≠ 0 → (patCheck u .staged raw len).1 = 0 → t.pf = { s.pf with nextP := some (parsePattern raw), idsWrite := true, slotEnd := t.pf.slotEnd }) ∧
        (len ≠ 0 → (patCheck u .staged raw len).1 ≠ 0 → t.pf = { s.pf with lastCheck := (patCheck u .staged raw len).1 }) ∧
        SameBut [.ev, .hl, .ks, .pf, .sc, .errs, .outbox, .freeCtr] s t)) ∧
    (s.pf.st = 0 → (patCheck u .first raw len).1 = 0 →
      Does (.reknitFull d) s (fun t =>
        t.pf.current = some (parsePattern raw) ∧ t.pf.force = parsePattern raw ∧ t.pf.st = 1 ∧ t.glb.role = .held ∧ t.glb.phase = 6 ∧ t.round = 0 ∧ t.tick = 0 ∧
        SameBut [.glb, .red, .link, .dg, .ev, .hl, .ks, .pf, .sc, .lp, .swt, .sv, .svf, .fb, .fc, .errs, .outbox, .mem, .tick, .tickAt, .round, .began, .t0At, .freeCtr] s t))

/-- R385, R386, R388: at its round a scheduled pattern comes into force, the pattern before it becomes the lifeline, and the trial begins where the re-knit asked for one; a supply dip postpones it. Both are recorded. A frog back brings the lifeline into force and leaves none, unless the lifeline fails the check of its signer or of the variant, when it is refused with that check and nothing else changes. A channel whose record is the same in both patterns keeps its state, where no running injection slot is on it. -/
def Obligations.pattern_changes_keep_equal_channels : Prop :=
  (∀ (x : SchedSt) (s : State), running s = true → s.pf.sched = some x → s.pf.st = 2 → x.na ≤ s.round →
    Does .reknitApplied s (fun t =>
      (s.pwr.dip = true → t = { s with pf := { s.pf with deferred := true } }) ∧
      (s.pwr.dip = false →
        t.pf.force = x.pat ∧ t.pf.current = some x.pat ∧ t.pf.lifeline = s.pf.current ∧ t.pf.sched = none ∧ t.pf.deferred = false ∧
        t.pf.st = (if x.trial then 3 else 1) ∧ t.pf.changeTrial = x.trial ∧ t.pf.frog = none ∧ t.pf.idsWrite = true ∧ t.pf.nextP = s.pf.nextP ∧ t.pf.parts = s.pf.parts ∧
        (x.trial = true ∨ x.pat.nextAnchor = [] → ∃ u, SameBut [.glb, .ev, .hl, .pf, .sc, .lp, .swt, .fb, .fc, .al, .errs, .outbox, .freeCtr] s u ∧
          Wrote 0x0804 srcCore (aq s.round ++ aw (sectionsChanged (pat s) x.pat).length ++ aw (changedKeys (·.ch) (pat s).chans x.pat.chans).length ++ aw (b2n x.trial)) u t) ∧
        (x.trial = true → t.pf.trialStart = uptime s ∧ t.pf.trialWindow = x.window ∧ t.pf.trialFlags = x.flags ∧ t.pf.anchor = s.pf.anchor) ∧
        (∀ c, (pat s).chans.find? (fun r => r.ch == c) = x.pat.chans.find? (fun r => r.ch == c) → (∀ k, (swSt s k).st = 2 → (swSt s k).chan ≠ c) → chSt t c = chSt s c)) ∧
      SameBut [.glb, .ev, .hl, .pf, .sc, .lp, .swt, .fb, .fc, .al, .errs, .outbox, .freeCtr] s t)) ∧
  (∀ (f : Nat × Nat) (l : Pattern) (s : State), running s = true → s.pf.frog = some f → s.pf.lifeline = some l →
    (loadCheck s l ≠ 0 → Does .froggedBack s (fun t =>
      t.pf = { s.pf with frog := none, lastCheck := loadCheck s l } ∧ Wrote 0x0802 srcCore (aw (loadCheck s l) ++ aw (if loadCheck s l = 8 then 0x1A else 0) ++ aw 1) s t ∧ SameBut [.ev, .hl, .pf, .errs] s t)) ∧
    (s.pf.anchor = some l.signerDigest → patCheck8 s l = true → Does .froggedBack s (fun t =>
      t.pf.force = l ∧ t.pf.current = some l ∧ t.pf.lifeline = none ∧ t.pf.frog = none ∧ t.pf.st = 1 ∧ t.pf.changeTrial = false ∧ t.pf.relockPend = false ∧ t.pf.idsWrite = true ∧
      t.pf.nextP = s.pf.nextP ∧ t.pf.parts = s.pf.parts ∧ t.pf.anchor = s.pf.anchor ∧
      (s.sv.relock.isSome = true → t.sv.relock = none) ∧
      (∃ u, SameBut [.glb, .ev, .hl, .pf, .sc, .lp, .swt, .sv, .fb, .fc, .al, .errs, .outbox] s u ∧ Wrote 0x0806 srcCore (aw f.1 ++ aq s.round ++ aw f.2) u t) ∧
      (∀ c, (pat s).chans.find? (fun r => r.ch == c) = l.chans.find? (fun r => r.ch == c) → (∀ k, (swSt s k).st = 2 → (swSt s k).chan ≠ c) → chSt t c = chSt s c) ∧
      SameBut [.glb, .ev, .hl, .pf, .sc, .lp, .swt, .sv, .fb, .fc, .al, .errs, .outbox] s t)))

/-- R387 to R389, R399, R405: a trial that has not failed is accepted by its command, or at the end of its window counted in uptime; one that has failed is not; FROG_BACK cancels a scheduled re-knit, is refused without a lifeline, and else is due with cause 4; the driving module writes the digest block that is not in use of a readable identity store, with a record, block 0 with generation 1 where no block is in use (the model's choice, log 138: R389 and R399 name no first block), and with the faults that it had recorded over (log 139), or records the fault of one that cannot be read; and a module that does not drive writes none. -/
def Obligations.trials_and_the_identity_store : Prop :=
  (∀ (d : Dgram) (s : State), running s = true → CritReady 4 0 0 d s → s.pf.st = 3 → s.pf.frog = none →
    Does (.trialAccept d) s (fun t =>
      t.pf.st = 1 ∧ t.pf.changeTrial = false ∧ t.pf.frog = none ∧ t.pf.force = s.pf.force ∧ t.pf.current = s.pf.current ∧ t.pf.lifeline = s.pf.lifeline ∧
      SameBut [.ev, .hl, .ks, .pf, .sc, .errs, .outbox] s t)) ∧
  (∀ (d : Dgram) (s : State), running s = true → CritReady 4 0 0 d s → s.pf.st ≠ 3 ∨ s.pf.frog ≠ none →
    Does (.trialAccept d) s (fun t => t.pf = s.pf ∧ SameBut [.ev, .hl, .ks, .sc, .errs, .outbox, .freeCtr] s t)) ∧
  (∀ (s : State), running s = true → s.pf.st = 3 → s.pf.frog = none →
    Does .trialAccepted s (fun t =>
      t.pf.st = 1 ∧ t.pf.changeTrial = false ∧ t.pf.force = s.pf.force ∧ t.pf.current = s.pf.current ∧ t.pf.lifeline = s.pf.lifeline ∧
      t.clock = max s.clock (s.upBase + s.pf.trialStart + s.pf.trialWindow * 1000000000) ∧
      ((pat s).nextAnchor = [] → Wrote 0x0805 srcCore (aq (pat s).serial ++ aw 1) { s with clock := t.clock } t) ∧ SameBut [.ev, .hl, .pf, .errs, .clock] s t)) ∧
  (∀ (d : Dgram) (s : State), running s = true → CritReady 3 0 0 d s →
    Does (.frogBack d) s (fun t =>
      (s.pf.st = 2 → t.pf = { s.pf with st := 1, sched := none, deferred := false }) ∧
      (s.pf.st ≠ 2 → s.pf.lifeline = none → t.pf = s.pf) ∧
      (s.pf.st ≠ 2 → s.pf.lifeline ≠ none → s.pf.frog = none → t.pf = { s.pf with frog := some (4, 0) }) ∧
      SameBut [.ev, .hl, .ks, .pf, .sc, .errs, .outbox] s t)) ∧
  (∀ (s : State), running s = true → s.pf.idsWrite = true → drives s = true → idsReadable s = true →
    Does .idsWritten s (fun t =>
      t.pf.idsWrite = false ∧ t.pf.idsFaults = s.pf.idsFaults.filter (fun c => c != 1 && c != 2 && c != 4) ∧
      (∀ b, idsBlock s = some (0, b) → t.hw = { s.hw with idsBlk1 := some (idsNewBlock s ((fld b 0 4 + 1) % 2 ^ 32)) } ∧
        (s.pf.idsFaults = [] → Wrote 0x080B srcCore (aw 1 ++ aw ((fld b 0 4 + 1) % 2 ^ 32) ++ aq (pat s).serial) s t)) ∧
      (∀ b, idsBlock s = some (1, b) → t.hw = { s.hw with idsBlk0 := some (idsNewBlock s ((fld b 0 4 + 1) % 2 ^ 32)) } ∧
        (s.pf.idsFaults = [] → Wrote 0x080B srcCore (aw 0 ++ aw ((fld b 0 4 + 1) % 2 ^ 32) ++ aq (pat s).serial) s t)) ∧
      (idsBlock s = none → t.hw = { s.hw with idsBlk0 := some (idsNewBlock s 1) } ∧ (s.pf.idsFaults = [] → Wrote 0x080B srcCore (aw 0 ++ aw 1 ++ aq (pat s).serial) s t)) ∧
      SameBut [.hw, .ev, .hl, .pf, .errs] s t)) ∧
  (∀ (s : State), running s = true → s.pf.idsWrite = true → drives s = true → idsReadable s = false →
    Does .idsWritten s (fun t => t.pf.idsWrite = false ∧ Wrote 0x080A srcCore (aw 4) s t ∧ SameBut [.ev, .hl, .pf, .errs] s t)) ∧
  (∀ (s : State), drives s = false → Does .idsWritten s (fun t => t = s))

/-- R391, R393 to R395: a FIRMWARE_COMMIT that passes its checks begins to write its part's other bank, and one that fails changes no part; the bank is then activated, that of the cast-on image by the next chip reset; a part that does not come up goes back to its previous bank; after 600 s the rollback floor rises to the image's, also to that of one which a revert brought back; a second filtered access within 1 s restarts the part. No other part changes. -/
def Obligations.firmware_parts_commit_and_revert : Prop :=
  (∀ (d : Dgram) (s u : State) (p : PeerRec) (r : Nat), running s = true → CritTaken 5 24 1 d s p r u →
    let k := byteAt (critArgs d) 0
    let xfer := fld (critArgs d) 4 4
    let len := fld (critArgs d) 16 8
    let raw := blobAt u (fld (critArgs d) 8 8) len
    zeroAt (critArgs d) 1 3 = true → (xferDenied p.index xfer u).1 = false → xferMissing u p.index xfer len = 0 →
    Does (.firmwareCommit d) s (fun t =>
      (fwCheck u k (bitOf (critFlags d) 0) raw len = 0 → t.pf.commit = some (k, parseFw raw, some d) ∧ partSt t k = { partSt s k with st := 4 }) ∧
      (fwCheck u k (bitOf (critFlags d) 0) raw len ≠ 0 → t.pf = s.pf) ∧
      (∀ j, j ≠ k → partSt t j = partSt s j) ∧ SameBut [.ev, .hl, .ks, .pf, .sc, .errs, .outbox] s t)) ∧
  (∀ (k : Nat) (img : FwImage) (cmd : Option Dgram) (s : State), running s = true → s.pf.commit = some (k, img, cmd) → (partSt s k).bank < 2 →
    Does .firmwareActivate s (fun t =>
      (s.pwr.dip = true → t = { s with pf := { s.pf with deferred := true } }) ∧
      (s.pwr.dip = false →
        t.pf.commit = none ∧ (partSt t k).floor = (partSt s k).floor ∧ nth (partSt t k).banks (1 - (partSt s k).bank) none = some img ∧
        nth (partSt t k).banks (partSt s k).bank none = nth (partSt s k).banks (partSt s k).bank none ∧
        (k = 5 → (partSt t k).bank = (partSt s k).bank ∧ (partSt t k).bootBank = true ∧ Wrote 0x0807 srcCore (aw 5 ++ aw img.version ++ aw (1 - (partSt s k).bank)) s t) ∧
        (k ≠ 5 → (partSt t k).bank = 1 - (partSt s k).bank ∧ (partSt t k).st = 2)) ∧
      (∀ j, j ≠ k → partSt t j = partSt s j) ∧
      SameBut [.glb, .red, .ev, .hl, .ks, .pf, .sc, .lp, .swt, .sv, .fc, .al, .errs, .outbox, .freeCtr] s t)) ∧
  (∀ (k : Nat) (s : State), running s = true → 1 ≤ k → k ≤ 4 → (partSt s k).st = 2 →
    Does (.firmwareReverted k) s (fun t =>
      (partSt t k).bank = 1 - (partSt s k).bank ∧ (partSt t k).st = 3 ∧ (partSt t k).floor = (partSt s k).floor ∧ (partSt t k).banks = (partSt s k).banks ∧
      t.clock = max s.clock ((partSt s k).restartAt + startLimit s k) ∧
      (k = 3 → Wrote 0x0808 srcCore (aw 3 ++ aw (partVersion s 3) ++ aw (if (partSt s 3).byFilter then 2 else 1)) { s with clock := t.clock } t) ∧
      (∀ j, j ≠ k → partSt t j = partSt s j) ∧
      SameBut [.glb, .red, .ev, .hl, .pf, .sc, .lp, .swt, .sv, .fc, .al, .errs, .outbox, .clock, .freeCtr] s t)) ∧
  (∀ (k : Nat) (i : FwImage) (s : State), running s = true → partImage s k = some i → (partSt s k).raised = false →
    Does (.rollbackFloorRise k) s (fun t =>
      partSt t k = { partSt s k with floor := max (partSt s k).floor i.rollback, raised := true } ∧
      t.clock = max s.clock (s.upBase + (partSt s k).since + 600000000000) ∧ (∀ j, j ≠ k → partSt t j = partSt s j) ∧ SameBut [.pf, .clock] s t)) ∧
  (∀ (k a : Nat) (s : State), running s = true → 1 ≤ k → k ≤ 4 →
    Does (.firewallBlocked k a) s (fun t =>
      ((∀ b, (partSt s k).lastBlock = some b → b + 1000000000 < s.clock) → partSt t k = { partSt s k with lastBlock := some s.clock } ∧ Wrote 0x080D srcCore (aw k ++ aq a) s t ∧ SameBut [.ev, .hl, .pf, .errs] s t) ∧
      (∀ b, (partSt s k).lastBlock = some b → s.clock ≤ b + 1000000000 → partSt t k = { partSt s k with lastBlock := none, st := 2, restartAt := s.clock, byFilter := true }) ∧
      (∀ j, j ≠ k → partSt t j = partSt s j) ∧
      SameBut [.glb, .red, .ev, .hl, .pf, .sc, .lp, .swt, .sv, .fc, .al, .errs, .outbox, .freeCtr] s t))

/-- R359, R360, R367, R369, R465: EVENTS_DROPPED does nothing without drops and otherwise writes the tier's counts of drops and notes when it reported; PERSISTENT_PROGRAM empties the staging buffer into the store, but not during a dip; a page load brings its 4096 slots into the page buffer; an export sends one EVENT message with the records from the cursor on, at most 139 of the severities exported, lowest number first, each as the 64 bytes it is stored in, after the first's number, the count and how many were skipped, and notes the round (only records of this boot are exported, and one message a round: the choice of log 78); CNT_CLEAR clears the error counters and nothing else. R365 (the slew's rate and the truncation to microseconds are the choice of log 82): SET makes WALL the staged value and ends a slew, with a record only for a step of 1 µs or more; SLEW starts from the WALL of now, but above 1 s it is a SET; at the end of a slew its whole difference is in the offset, and the record gives it in microseconds. (A step of exactly 1 µs counts: log 121.) -/
def Obligations.recorder_commands_and_wall_clock : Prop :=
  ((∀ s : State, running s = true → (∀ k, k < 3 → dropsPend s k = false) → Does .eventsDropped s (fun t => t = s)) ∧
    (∀ (k : Nat) (s : State), running s = true → k < 3 → dropsPend s k = true → (∀ j, j < 3 → j ≠ k → dropsPend s j = false) → dropDue s k ≤ uptime s →
      Does .eventsDropped s (fun t =>
        tget t.ev.dropAt k = some (uptime s) ∧ t.clock = max s.clock (dropDue s k + s.upBase) ∧
        (let u := emit 0x0502 (src 6 0) (aw k ++ al16 (newDrops s k))
            { s with clock := t.clock, ev.dropsNew := s.ev.dropsNew.filter (fun (e : Nat × Nat) => e.1 / 8 != k), ev.dropAt := tset s.ev.dropAt k (uptime s) };
          (∀ j, k < j → j < 3 → dropsPend u j = false) → t.ev = u.ev) ∧
        t.ev.pst = s.ev.pst ∧ SameBut [.ev, .hl, .errs, .clock] s t)) ∧
    (∀ s : State, running s = true →
      Does .persistentProgram s (fun t =>
        (s.pwr.dip = true → t = s) ∧
        (s.pwr.dip = false →
          t.ev.staging = [] ∧ t.ev.pstDefer = false ∧ t.ev.ring = s.ev.ring ∧ t.ev.hbm = s.ev.hbm ∧ t.ev.seqNext = s.ev.seqNext ∧
          t.ev.pst = s.ev.staging.foldl (fun m r => match tierPut m 4194304 r with | some (x, _) => x | none => m) s.ev.pst) ∧
        SameBut [.ev] s t)) ∧
    (∀ (page : Nat) (s : State), running s = true →
      Does (.pstPageLoad page) s (fun t =>
        t.ev.pstPage = page % 1024 ∧ t.ev.pstReady = true ∧ t.ev.pst = s.ev.pst ∧ t.ev.ring = s.ev.ring ∧ t.ev.hbm = s.ev.hbm ∧ t.ev.staging = s.ev.staging ∧
        (∀ o, o < 4096 → tget t.ev.pageBuf o = tget s.ev.pst (page % 1024 * 4096 + o)) ∧ SameBut [.ev] s t)) ∧
    (∀ (p : Nat) (x : PeerRec) (e : Nat × EvSlot) (s : State), running s = true → peerRec s p = some x → hasRight x 10 = true → evtOpen s p = false → s.ev.quar = false →
      tgetD s.ev.resumeAt p 0 ≤ s.clock → tget s.ev.expRound p ≠ some s.round → e ∈ heldSlots s → expCursor s p (heldSlots s) ≤ e.1 → s.ev.expMin ≤ e.2.r.sev →
      Does (.eventExport p) s (fun t =>
        (∃ d, t.outbox = s.outbox ++ [d] ∧ d.typ = 0x23 ∧ d.dst = x.addr ∧
          ∀ l y q, l = ((heldSlots s).filter (fun a => expCursor s p (heldSlots s) ≤ a.1 ∧ s.ev.expMin ≤ a.2.r.sev)).take 139 → l = y :: q →
            ∃ skipped, skipped ≤ y.2.r.seq - expCursor s p (heldSlots s) ∧
              d.payload = le y.2.r.seq 8 ++ le l.length 2 ++ le (if skipped = 0 then 0 else 1) 2 ++ le skipped 4 ++ (l.map (fun a => slotBytes a.2)).flatten) ∧ tget t.ev.expRound p = some s.round ∧ SameBut [.ev, .hl, .errs, .outbox] s t)) ∧
    (∀ s : State, running s = true →
      Does .cntClear s (fun t =>
        t.dg = { s.dg with cntCell := 0, cntResend := 0, cntQuar := 0, cntRemap := 0, regCell := [], regResend := [] } ∧ SameBut [.dg] s t))) ∧
  ((∀ (p : Nat) (s : State), running s = true →
      Does (.wallSet p) s (fun t =>
        wallNow t = wallStaged s ∧ t.wall.slew = none ∧ t.wall.set = true ∧ t.wall.stageLo = s.wall.stageLo ∧ t.wall.stageHi = s.wall.stageHi ∧
        (((wallStaged s : Int) - ((uptime s : Int) + wallOff s)).natAbs < 1000 → t.ev = s.ev) ∧
        (1000 ≤ ((wallStaged s : Int) - ((uptime s : Int) + wallOff s)).natAbs →
          t.ev = (emitRec { code := 0x0501, sev := sevOf 0x0501, flags := 1, uptime := uptime s, source := src 6 0, args := aq (wallNow s) ++ aq (wallStaged s) ++ aw p } { s with wall := t.wall }).ev) ∧ SameBut [.ev, .wall, .hl, .errs] s t)) ∧
    (∀ (p : Nat) (s : State), running s = true →
      let d : Int := (wallStaged s : Int) - ((uptime s : Int) + wallOff s)
      Does (.wallSlew p) s (fun t =>
        (1000000000 < d.natAbs → wallNow t = wallStaged s ∧ t.wall.slew = none) ∧
        (d.natAbs ≤ 1000000000 → wallNow t = wallNow s ∧ t.wall.slew = some (d, uptime s) ∧ t.ev = s.ev) ∧
        t.wall.set = true ∧ SameBut [.ev, .wall, .hl, .errs] s t)) ∧
    (∀ (d : Int) (b : Nat) (s : State), running s = true → s.wall.slew = some (d, b) →
      Does .wallSlewed s (fun t =>
        t.wall = { s.wall with off := s.wall.off + d, slew := none } ∧ t.clock = max s.clock (s.upBase + b + d.natAbs * 2000) ∧
        Wrote 0x0504 (src 6 0) (ai (Int.tdiv d 1000)) { s with clock := t.clock, wall := t.wall } t ∧ SameBut [.ev, .wall, .hl, .errs, .clock] s t)))

/-- R407, R409, R410, R412, R413, R430: a dip begins once, with the lowest VMAIN it has seen and stage 1, reaches stage 2 after 200 ms, and ends with its length and minimum kept and no stage of its own; VSAFE below its limit is noted once with the role and hands an ACTIVE module over, any other keeps its role, and its recovery clears it; the flash that a dip finds is kept aside until it ends (R412, R413: the choice of log 141); VFIELD low, VFIELD overload and VMAIN high are each noted and recorded as they begin and as they end (the level of VFIELD also before cast-on has ended, without a record). A level that has not crossed its threshold changes nothing (the thresholds are R407's with their whole tolerance: the model's reading of R9, log 99). (That any other role only records is the reading of log 22.) -/
def Obligations.supplies_dip_and_recover : Prop :=
  (∀ (v : Nat) (s : State), running s = true →
    Does (.supplyDip v) s (fun t =>
      (s.pwr.dip = true ∨ 4530 < v → t = s) ∧
      (s.pwr.dip = false → v ≤ 4530 →
        t.pwr.dip = true ∧ t.pwr.dipStart = s.clock ∧ t.pwr.dipMin = v ∧ t.pwr.dipStage = 1 ∧ t.pwr.vmain = v ∧ t.pwr.vmainOk = false ∧ 1 ≤ t.pwr.shed ∧ t.pwr.vmainMin = some (min (s.pwr.vmainMin.getD v) v) ∧
        t.pf = { s.pf with deferred := true, flashAt := some (flashNow s) } ∧ t.ev.pstDefer = true ∧
        (s.pwr.shed = 0 → Wrote 0x0109 srcChip (aw 1 ++ aw s.pwr.dieMax) { programStaging s with pwr.dip := true, ev.pstDefer := true } t)) ∧
      SameBut [.pwr, .ev, .hl, .pf, .sc, .fc, .errs, .outbox] s t)) ∧
  (∀ s : State, running s = true → s.pwr.dip = true →
    Does .dipShed s (fun t => t.pwr = { s.pwr with dipStage := 2 } ∧ t.clock = max s.clock (s.pwr.dipStart + 200000000) ∧ SameBut [.pwr, .clock] s t)) ∧
  (∀ (v m : Nat) (s : State), running s = true →
    (v < 4570 → Does (.supplyDipEnd v m) s (fun t => t = s)) ∧
    (4570 ≤ v → s.pwr.dip = false → s.pwr.vmainOk = false → Does (.supplyDipEnd v m) s (fun t => t.pwr.vmainOk = true ∧ t.pwr.vmain = v ∧ SameBut [.pwr] s t)) ∧
    (4570 ≤ v → s.pwr.dip = true → Does (.supplyDipEnd v m) s (fun t =>
      t.pwr.dip = false ∧ t.pwr.dipStage = 0 ∧ t.pwr.vmain = v ∧ t.pwr.vmainOk = true ∧ t.pwr.lastDipMin = min s.pwr.dipMin m ∧
      t.pwr.lastDipDur = min 0xFFFF ((s.clock - s.pwr.dipStart) / 1000000) ∧ (s.pwr.shed ≤ 1 → s.pwr.thermStage = 0 → t.pwr.shed = 0) ∧
      t.pf.force = s.pf.force ∧ t.pf.sched = s.pf.sched ∧ t.pf.flashAt = none ∧ t.ev.pstDefer = false ∧
      (let u := emit 0x0103 srcChip (aw (min s.pwr.dipMin m) ++ aw ((s.clock - s.pwr.dipStart) / 1000000) ++ aw s.pwr.dipStageMax) s;
        s.pwr.shed = 1 → 1 ≤ s.pwr.thermStage → t.ev = { (if u.ev.pstDefer then programStaging u else u).ev with pstDefer := false }) ∧
      SameBut [.pwr, .ev, .hl, .pf, .sc, .fc, .errs, .outbox] s t))) ∧
  (∀ (v : Nat) (s : State), running s = true → s.pwr.vsafeLow = none → 830 ≤ v → v ≤ 1060 →
    Does (.vsafeLow v) s (fun t =>
      t.pwr.vsafeLow = some (roleCode s.glb.role) ∧ t.pwr.vsafe = v ∧ t.pwr.vsafeOk = false ∧ t.glb.role = s.glb.role ∧
      (s.glb.role = .active → s.red.ho.any (fun h => h.cause == 6) = false → (∃ h, t.red.ho = some h ∧ h.cause = 6) ∧ t.dg.cause = 2) ∧
      (s.red.ho.any (fun h => h.cause == 6) = true → t.red = s.red ∧ t.dg = s.dg) ∧
      (s.glb.role ≠ .active → t.red = s.red ∧ t.dg = s.dg ∧ Wrote 0x0104 srcChip (aw v ++ aw (roleCode s.glb.role)) s t) ∧ SameBut [.pwr, .red, .dg, .ev, .hl, .errs] s t)) ∧
  (∀ (v r : Nat) (s : State), running s = true → s.pwr.vsafeLow = some r →
    Does (.vsafeRecover v) s (fun t =>
      (v < 1060 → t = s) ∧
      (1060 ≤ v → t.pwr = { s.pwr with vsafe := v, vsafeMin := some (min (s.pwr.vsafeMin.getD v) v), vsafeOk := true, vsafeLow := none } ∧ Wrote 0x0104 srcChip (aw v ++ aw r) s t true) ∧
      SameBut [.pwr, .ev, .hl, .errs] s t)) ∧
  (∀ (v : Nat) (c : Bool) (s : State), running s = true →
    Does (.vfieldLow v c) s (fun t =>
      let x := (c = false → v ≤ 1820) ∧ (c = true → 1860 ≤ v)
      (x → t.pwr = { s.pwr with vfield := v, vfieldMin := some (min (s.pwr.vfieldMin.getD v) v), vfieldLow := !c, vfieldOk := c }) ∧
      (x → s.pwr.vfieldLow = c → Wrote 0x0105 srcChip (aw v) s t c) ∧ (s.pwr.vfieldLow ≠ c → t.ev = s.ev) ∧ (¬x → t = s) ∧ SameBut [.pwr, .ev, .hl, .errs] s t) ∧
    Does (.vfieldOverload v c) s (fun t =>
      let x := s.pwr.vfieldOver = c ∧ (c = false → 1500 ≤ v) ∧ (c = true → v < 1500)
      (x → t.pwr = { s.pwr with vfieldP := v, vfieldOver := !c } ∧ Wrote 0x010F srcChip (aw v) s t c) ∧ (¬x → t = s) ∧ SameBut [.pwr, .ev, .hl, .errs] s t) ∧
    Does (.vmainHigh v c) s (fun t =>
      let x := s.pwr.vmainHigh = c ∧ (c = false → 6070 ≤ v) ∧ (c = true → v ≤ 6080)
      (x → t.pwr = { s.pwr with vmain := v, vmainMin := some (min (s.pwr.vmainMin.getD v) v), vmainHigh := !c } ∧ Wrote 0x0106 srcChip (aw v) s t c) ∧ (¬x → t = s) ∧ SameBut [.pwr, .ev, .hl, .errs] s t)) ∧
  (∀ (v : Nat) (c : Bool) (s : State), running s = false →
    Does (.vfieldLow v c) s (fun t =>
      let x := (c = false → v ≤ 1820) ∧ (c = true → 1860 ≤ v)
      (x → t.pwr = { s.pwr with vfield := v, vfieldMin := some (min (s.pwr.vfieldMin.getD v) v), vfieldOk := c } ∧ SameBut [.pwr] s t) ∧ (¬x → t = s)))

/-- R415, R428, R429, R463, R464: a PLL that loses lock, a fault of the fabric and one of the core's lockstep are chip-level fatal conditions of causes 1, 3 and 4: an ACTIVE module asks for a handover, any other enters SAFE with its channels stopped, and one in SAFE keeps what it noted (a HELD or STANDBY module hands nothing over, and its SAFE_ENTERED carries the result 0 though its partner drives: the choice of log 140). The oscillator is noted and recorded as it leaves its tolerance and returns; a die at 95.0 °C enters shed stage 1 at once and at 100.0 °C waits for stage 2, and leaves them at 95.0 and 92.0 °C; the coolant's record begins at 40.0 °C and ends at 39.0 °C (a value equal to one of these has crossed it: R9, log 121). Nothing else changes. -/
def Obligations.fatal_and_thermal_conditions : Prop :=
  (∀ (clk : Nat) (s : State), running s = true →
    Does (.clockFault clk) s (fun t =>
      t.glb.clkMain = (s.glb.clkMain && clk != 1) ∧ t.glb.clkSerdes = (s.glb.clkSerdes && clk == 1) ∧
      FatalTaken 1 0x0108 srcChip (aw clk) { s with glb := { s.glb with clkMain := s.glb.clkMain && clk != 1, clkSerdes := s.glb.clkSerdes && clk == 1 } } t)) ∧
  (∀ (unit cls a : Nat) (s : State), running s = true → Does (.fabricFault unit cls a) s (FatalTaken 3 0x0907 unit (aw unit ++ aw cls ++ aq a) s)) ∧
  (∀ (stage : Nat) (s : State), running s = true → Does (.coreLockstep stage) s (FatalTaken 4 0x0908 srcCore (aw stage) s)) ∧
  (∀ (v : Int) (c : Bool) (s : State), running s = true →
    Does (.oscTolerance v c) s (fun t =>
      t.glb = { s.glb with oscDev := v, oscOk := decide (v.natAbs < 500), oscBad := (if s.glb.oscBad = c ∧ decide (v.natAbs < 500) = c then !c else s.glb.oscBad) } ∧
      (s.glb.oscBad = c → decide (v.natAbs < 500) = c → Wrote 0x010E srcCore (ai v) s t c) ∧ SameBut [.glb, .ev, .hl, .errs] s t)) ∧
  (∀ (n v : Nat) (s : State), running s = true →
    Does (.thermalShed n v) s (fun t =>
      t.pwr.dieMax = v ∧ t.pwr.thermStage = (if s.pwr.thermStage < n ∧ n ≤ 2 ∧ (if n = 2 then 1000 else 950) ≤ v then n else s.pwr.thermStage) ∧
      (s.pwr.thermStage < n → n ≤ 2 → (if n = 2 then 1000 else 950) ≤ v → 1 ≤ t.pwr.shed ∧ (s.pwr.shed = 0 → Wrote 0x0109 srcChip (aw 1 ++ aw v) s t)) ∧ t.pwr.dip = s.pwr.dip ∧ SameBut [.pwr, .ev, .hl, .sc, .fc, .errs, .outbox] s t)) ∧
  (∀ (v : Nat) (s : State), running s = true →
    Does (.thermalShedExit v) s (fun t =>
      t.pwr.dieMax = v ∧ t.pwr.dip = s.pwr.dip ∧
      t.pwr.thermStage = (if s.pwr.thermStage = 2 ∧ v ≤ 950 then 1 else if s.pwr.thermStage = 1 ∧ v ≤ 920 then 0 else s.pwr.thermStage) ∧
      (s.pwr.thermStage = 1 → v ≤ 920 → s.pwr.dipStage = 0 → s.pwr.shed = 1 → t.pwr.shed = 0 ∧ Wrote 0x0109 srcChip (aw 0 ++ aw v) s t true) ∧ SameBut [.pwr, .ev, .hl, .sc, .fc, .errs, .outbox] s t)) ∧
  (∀ (v : Nat) (c : Bool) (s : State), running s = true →
    Does (.selfCoolantHigh v c) s (fun t =>
      let x := s.pwr.coolantHigh = c ∧ (c = false → 400 ≤ v) ∧ (c = true → v ≤ 390)
      (x → t.pwr = { s.pwr with inlet := v, coolantHigh := !c } ∧ Wrote 0x010D srcChip (aw v) s t c) ∧ (¬x → t.pwr = { s.pwr with inlet := v } ∧ t.ev = s.ev) ∧ SameBut [.pwr, .ev, .hl, .errs] s t))

/-- R408, R412, R413, R415, R418, R419, R422, R426: every reset of the chip leaves it in the ROM without a role, with the cause of the reset, its flash and its keys as they were, and each counter floor at its mark; in a dip, the flash work that it deferred is lost (how the model keeps it aside is the choice of log 141), and a bank that was being written, or without power a slot, is empty (R377; when a slot's write ends is a free value, log 142). Resets from RESET_N, a lost reference and the watchdog keep uptime, wall clock, the event rings (with the records of the swatches and the identifier quarantines that the reset ends) and the HBM above the rings, and the selvedge apart from row 4; a brown-out also loses those volatile stores and starts uptime anew; a power-on loses the selvedge too and reads the straps. A RESET_N pulse below 10 µs and the watchdog of a frozen module do nothing. -/
def Obligations.chip_resets_keep_and_clear : Prop :=
  (∀ (n : Nat) (s : State), 10 ≤ n → Does (.resetN n) s (ResetLeaves 3 s)) ∧
  (∀ s : State, Does .referenceLoss s (ResetLeaves 6 s)) ∧
  (∀ s : State, s.glb.life = .rom ∨ s.glb.life = .up → Does .watchdogExpiry s (ResetLeaves 4 s)) ∧
  (∀ s : State, Does .brownOutReset s (ResetLeaves 2 s)) ∧
  (∀ (p : PorInfo) (s : State), Does (.powerOnReset p) s (fun t => ResetLeaves 1 s t ∧
    t.sv = {} ∧ t.red.straps = p.straps % 8 ∧ t.pwr.vmain = p.vmain ∧ t.pwr.vfield = p.vfield ∧ t.pwr.vsafe = p.vsafe ∧ t.glb.ovrLatch = 0)) ∧
  (∀ (n : Nat) (s : State), n < 10 → Does (.resetN n) s (fun t => t = s)) ∧
  (∀ s : State, s.glb.life = .frozen ∨ s.glb.life = .inReset → Does .watchdogExpiry s (fun t => t = s))

/-- R378, R379, R415, R416: cast-on runs only from the ROM; without a PLL lock in three attempts the module stays in reset; with a pattern in CURRENT that fits the variant and whose signer is the anchor, and none waiting, a sequence that reaches phase 6 ends HELD at round 0 under that pattern; with no pattern in any slot, or with one of another signer only, which it refuses, it ends in phase 7. A boot's record numbers begin at its boot number. (What the six phases meet is the command's operand, and the checks that are made again, the numbers that restart and a module whose patterns are all refused are the model's readings: logs 26, 27, 29 and 102.) -/
def Obligations.cast_on_runs_from_the_rom : Prop :=
  (∀ (c : CastInfo) (s : State), s.glb.life ≠ .rom ∨ s.glb.phase ≠ 0 → Does (.castOn c) s (fun t => t = s)) ∧
  (∀ (c : CastInfo) (s : State), s.glb.life = .rom → s.glb.phase = 0 → 3 < c.pllAttempts → Does (.castOn c) s (fun t => t = { s with glb := { s.glb with life := .inReset } })) ∧
  (∀ (c : CastInfo) (p : Pattern) (s : State), s.glb.life = .rom → s.glb.phase = 0 → c.pllAttempts ≤ 3 → c.reach = 6 →
    s.pf.nextP = none → s.pf.changeTrial = false → s.pf.current = some p → s.pf.anchor = some p.signerDigest → patCheck8 s p = true →
    Does (.castOn c) s (fun t =>
      t.glb.life = .up ∧ t.glb.phase = 6 ∧ t.glb.role = .held ∧ t.glb.slotLoaded = 1 ∧ t.pf.force = p ∧ t.pf.current = some p ∧ t.pf.lifeline = s.pf.lifeline ∧
      t.round = 0 ∧ t.tick = 0 ∧ t.began = false ∧ t.clock = s.clock + c.timeMs * 1000000 ∧ t.tickAt = t.clock ∧ t.ev.bootFirst = (s.ev.boot + 1) * 2 ^ 40 ∧
      SameBut [.hw, .glb, .red, .link, .dg, .ev, .hl, .pf, .sc, .lp, .swt, .sv, .svf, .fb, .fc, .errs, .outbox, .mem, .clock, .tick, .tickAt, .round, .began, .t0At, .freeCtr] s t)) ∧
  (∀ (c : CastInfo) (s : State), s.glb.life = .rom → s.glb.phase = 0 → c.pllAttempts ≤ 3 → c.reach = 6 →
    s.pf.nextP = none → s.pf.current = none → s.pf.lifeline = none →
    Does (.castOn c) s (fun t =>
      t.glb.life = .up ∧ t.glb.phase = 7 ∧ t.glb.role = s.glb.role ∧ t.glb.slotLoaded = 0 ∧ t.pf.st = s.pf.st ∧ t.round = 0 ∧ t.lp = s.lp ∧
      t.clock = s.clock + c.timeMs * 1000000 ∧ t.ev.bootFirst = (s.ev.boot + 1) * 2 ^ 40 ∧
      SameBut [.hw, .glb, .red, .link, .dg, .ev, .hl, .pf, .sc, .lp, .swt, .sv, .svf, .fb, .fc, .errs, .outbox, .mem, .clock, .tick, .tickAt, .round, .began, .t0At, .freeCtr] s t)) ∧
  (∀ (c : CastInfo) (p : Pattern) (a : Bytes) (s : State), s.glb.life = .rom → s.glb.phase = 0 → c.pllAttempts ≤ 3 → c.reach = 6 →
    s.pf.nextP = none → s.pf.changeTrial = false → s.pf.lifeline = none → s.pf.current = some p → s.pf.anchor = some a → a ≠ p.signerDigest →
    Does (.castOn c) s (fun t =>
      t.glb.life = .up ∧ t.glb.phase = 7 ∧ t.glb.role = s.glb.role ∧ t.glb.slotLoaded = 0 ∧ t.pf.current = some p ∧ t.pf.lastCheck = 5 ∧ t.pf.st = s.pf.st ∧ t.pf.force = s.pf.force ∧
      SameBut [.hw, .glb, .red, .link, .dg, .ev, .hl, .pf, .sc, .lp, .swt, .sv, .svf, .fb, .fc, .errs, .outbox, .mem, .clock, .tick, .tickAt, .round, .began, .t0At, .freeCtr] s t))

/-- R419 to R421: RESET of kind 1, once its keyed check has passed, resets the chip, but is refused ALONE without the plant-held flag; kind 2 counts a supervisor restart and leaves the loops alone. A CTL region reset of a module that is not ACTIVE loads the loop layer anew, its channels to be initialised at their first samples, and empties the swatches and the counters, and an ACTIVE one hands over first, after the handovers already asked for (the model's choice, log 134); units that were quarantined come back where their self-test passes, which is a free value (log 143); an HST region reset is refused while the module drives and else empties the host link; a block reset is taken for the four blocks that have one, each of which stands still until it resumes, and ignored while another is in progress (the model's choice, log 100). -/
def Obligations.region_block_and_commanded_resets : Prop :=
  (∀ (d : Dgram) (s : State), running s = true → CritReady 9 8 1 d s → byteAt (critArgs d) 0 = 1 → zeroAt (critArgs d) 1 7 = true →
    Does (.reset d) s (fun t =>
      (s.glb.role ≠ .alone ∨ bitOf (critFlags d) 0 = true →
        t.glb.life = .rom ∧ t.glb.phase = 0 ∧ t.glb.role = .none ∧ t.glb.rstCause = 5 ∧ (s.pf.flashAt = none → t.pf.current = s.pf.current ∧ t.pf.nextP = s.pf.nextP) ∧ t.lp = {} ∧ t.sv.sec = s.sv.sec ∧ t.wall = s.wall) ∧
      (s.glb.role = .alone → bitOf (critFlags d) 0 = false → t.glb = s.glb ∧ t.lp = s.lp ∧ t.pf = s.pf) ∧
      SameBut [.glb, .pwr, .red, .link, .mir, .dg, .ev, .hl, .ks, .pf, .sc, .lp, .swt, .sv, .svf, .fb, .fc, .al, .errs, .irqs, .latches, .outbox, .mem, .stage] s t)) ∧
  (∀ (d : Dgram) (s : State), running s = true → CritReady 9 8 1 d s → byteAt (critArgs d) 0 = 2 → zeroAt (critArgs d) 1 7 = true →
    Does (.supervisorRestart d) s (fun t =>
      t.glb = { s.glb with supRestarted := s.glb.supRestarted + 1 } ∧ t.al = { s.al with restarted := some s.round } ∧ SameBut [.glb, .ev, .hl, .ks, .sc, .sv, .al, .errs, .outbox] s t)) ∧
  (∀ s : State, running s = true →
    Does .ctlReset s (fun t =>
      (s.glb.role = .active → t.lp = s.lp ∧ t.swt = s.swt ∧ (s.red.ho = none → ∃ h, t.red.ho = some h ∧ h.cause = 3) ∧
        (s.red.ho ≠ none → handoverAsked 3 0 s = false → t.red = { s.red with hoNext := s.red.hoNext ++ [{ cause := 3 }] })) ∧
      (s.glb.role ≠ .active → t.swt = {} ∧ t.sc.ctrs = [] ∧ t.sc.msgs = [] ∧ (s.sc.quar = false → t.sc = {}) ∧ (∀ e ∈ t.lp.engBad, e ∈ s.lp.engBad) ∧ t.lp.st = (if s.glb.role = .safe then 0 else 1) ∧ (∀ c, (chSt t c).init = false) ∧ t.lp.aout = s.lp.aout ∧ t.red = s.red ∧ t.sv.rows = s.sv.rows ∧ t.sv.sec = s.sv.sec ∧ t.ev.quar = false ∧
        (∀ c, (chSt t c).tripped = false ∧ (chSt t c).swapPend = false) ∧
        (s.glb.ovr = [] → s.sv.svLog = [] → ∃ u, SameBut [.glb, .red, .ev, .hl, .sc, .lp, .swt, .sv, .svf, .fb, .errs, .irqs, .latches, .outbox, .freeCtr] s u ∧ Wrote 0x010B (src 2 6) (aw 6 ++ aw 1) u t)) ∧
      SameBut [.glb, .red, .ev, .hl, .sc, .lp, .swt, .sv, .svf, .fb, .errs, .irqs, .latches, .outbox, .freeCtr] s t)) ∧
  (∀ s : State, running s = true →
    Does .hstReset s (fun t =>
      (drives s = true → t = s) ∧
      (drives s = false → t.hl.session = (s.hl.session + 1) % 65536 ∧ t.hl.upSince = s.clock ∧ t.hl.linkUp = false ∧ t.hl.waits = [] ∧ t.hl.xfers = [] ∧ t.hl.seen = [] ∧ t.hl.reqs = [] ∧ t.hl.tryAt = s.clock ∧ t.hl.sessions = s.hl.sessions ∧ t.ks = { s.ks with tagFail := [], replay := [] } ∧ Wrote 0x010B (src 2 7) (aw 7 ++ aw 1) s t) ∧
      SameBut [.ev, .hl, .ks, .errs, .irqs] s t)) ∧
  (∀ (kind index : Nat) (pass : Bool) (s : State), running s = true →
    Does (.blockReset kind index pass) s (fun t =>
      (blkEligible kind index = true → s.glb.blkBusy = none → t.glb = { s.glb with blkBusy := some (kind, index, pass), blkResult := (if pass then 1 else 2) } ∧
        (kind = 6 → t.ev.quar = true) ∧ (kind = 8 → t.ks = { s.ks with quar := true }) ∧ (kind = 10 → t.al = { s.al with allocQuar := true }) ∧ (kind = 11 → t.al = { s.al with leaseQuar := true }) ∧
        (kind ≠ 6 → Wrote 0x010C srcChip (aw kind ++ aw index ++ aw (if pass then 1 else 2)) s t)) ∧
      (blkEligible kind index = true → s.glb.blkBusy ≠ none → t = s) ∧
      (blkEligible kind index = false → t = { s with glb := { s.glb with blkResult := 3 } }) ∧
      SameBut [.glb, .ev, .hl, .ks, .al, .errs] s t))

/-- R453 to R455: a freeze request while none is pending waits for its freeze point, waits for a handover where the module is ACTIVE (behind one already asked for, the model's choice of log 134), and is refused where the module is ALONE and the command lacks the plant-held flag or the request came from FREEZE_N; the FREEZE command is answered at the freeze point. FREEZE_N makes its request only where it has been high for 1 ms. THAW cancels a pending freeze. -/
def Obligations.freeze_requests_by_role : Prop :=
  (∀ (d : Dgram) (s : State), running s = true → CritReady 7 0 1 d s →
    Does (.freeze d) s (fun t =>
      (s.dg.pend ≠ 0 → t.dg = s.dg ∧ t.red = s.red) ∧
      (s.dg.pend = 0 → s.glb.role = .alone → bitOf (critFlags d) 0 = false → t.dg = { s.dg with source := 2, outcome := 2 } ∧ t.red = s.red) ∧
      (s.dg.pend = 0 → s.glb.role = .alone → bitOf (critFlags d) 0 = true → t.dg = { s.dg with source := 2, outcome := 0, pend := 1, frzCmd := some d } ∧ t.red = s.red) ∧
      (s.dg.pend = 0 → s.glb.role ≠ .alone → s.glb.role ≠ .active → t.dg = { s.dg with source := 2, outcome := 0, pend := 1, frzCmd := some d } ∧ t.red = s.red) ∧
      (s.dg.pend = 0 → s.glb.role = .active → t.dg = { s.dg with source := 2, outcome := 0, pend := 2, frzCmd := some d } ∧
        (s.red.ho = none → ∃ h, t.red.ho = some h ∧ h.cause = 7) ∧ (s.red.ho ≠ none → handoverAsked 7 0 s = false → t.red = { s.red with hoNext := s.red.hoNext ++ [{ cause := 7 }] })) ∧
      SameBut [.red, .dg, .ev, .hl, .ks, .sc, .errs, .outbox] s t)) ∧
  (∀ (n : Nat) (s : State),
    Does (.freezeNFall n) s (fun t =>
      (n < 1000 ∨ s.dg.freezeN = false → t = s) ∧
      (1000 ≤ n → s.dg.freezeN = true →
        t.dg.freezeN = false ∧
        (freezeArmed s = false ∨ (s.glb.life ≠ .up ∧ s.glb.life ≠ .rom) → t.dg.pend = s.dg.pend ∧ t.red = s.red) ∧
        (freezeArmed s = true → s.glb.life = .up ∨ s.glb.life = .rom → s.dg.pend = 0 → s.glb.role = .alone → t.dg.pend = 0 ∧ t.dg.outcome = 2) ∧
        (freezeArmed s = true → s.glb.life = .up ∨ s.glb.life = .rom → s.dg.pend = 0 → s.glb.role ≠ .alone → s.glb.role ≠ .active → t.dg.pend = 1 ∧ t.dg.source = 1 ∧ t.red = s.red) ∧
        (freezeArmed s = true → s.glb.life = .up ∨ s.glb.life = .rom → s.dg.pend = 0 → s.glb.role = .active → t.dg.pend = 2 ∧ (s.red.ho = none → ∃ h, t.red.ho = some h ∧ h.cause = 7))) ∧
      SameBut [.red, .dg, .ev, .hl, .errs] s t)) ∧
  (∀ (d : Dgram) (s : State), running s = true → CritReady 8 0 0 d s →
    Does (.thaw d) s (fun t =>
      (s.dg.pend = 0 → t.dg = s.dg ∧ t.red = s.red) ∧
      (s.dg.pend ≠ 0 → t.dg = { s.dg with pend := 0, frzCmd := none, outcome := 2 } ∧ 
        (let rest := s.red.hoNext.filter (fun h => h.cause != 7);
          (∀ h, s.red.ho = some h → h.cause = 7 → (rest = [] → t.red = { s.red with ho := none, hoNext := [] }) ∧
            (∀ x q, rest = x :: q → s.glb.role = .active → t.red = { s.red with ho := some { x with since := s.clock, firstWord := none }, hoNext := q })) ∧
          ((∀ h, s.red.ho = some h → h.cause ≠ 7) → t.red = { s.red with hoNext := rest }))) ∧
      SameBut [.red, .dg, .ev, .hl, .ks, .sc, .errs, .outbox] s t))

/-- R455 to R459: at its freeze point, the first tick boundary after a RELEASE pulse has ended, the module is FROZEN in the role it keeps, its output enables cleared, its transfers, queues and latches as they stand, a scheduled re-knit cancelled. A thaw of a STANDBY frozen for at most 10 s with FREEZE_N high proceeds: the clocks run after 10 µs, the tick timer going on where it stood, and at the next tick boundary the module is HELD, its host link down (where no critical command waits for data; what a thaw makes of one is the choice of log 144); any other is refused and shown, and a module that is not frozen takes none. (The instants of the thaw are the reading of log 47; every time is nominal, without R196's tolerance: log 150.) -/
def Obligations.freeze_point_and_thaw : Prop :=
  (∀ s : State, s.glb.life = .up ∨ s.glb.life = .rom → s.dg.pend = 1 → safePending s = false → s.glb.role ≠ .active →
    Does .freezePoint s (fun t =>
      t.glb = { s.glb with life := .frozen } ∧ t.dg.frozenRole = s.glb.role ∧ t.dg.frozenAt = t.clock ∧ t.dg.pend = 0 ∧ t.dg.frzCmd = none ∧
      (let c := max s.clock s.link.releaseEnd; t.clock = if s.began = true then max c (tickAfter s c) else c) ∧
      t.red = { s.red with driving := false, timeMaster := false, watch := false } ∧ t.fb = s.fb ∧
      (s.pf.st = 2 → t.pf = { s.pf with st := 1, sched := none, deferred := false }) ∧ (s.pf.st ≠ 2 → t.pf = s.pf) ∧
      (∃ u, SameBut [.glb, .red, .dg, .ev, .hl, .ks, .pf, .lp, .swt, .errs, .outbox, .clock] s u ∧ Wrote 0x0903 srcChip (aq s.round ++ aw (roleCode s.glb.role)) u t) ∧
      SameBut [.glb, .red, .dg, .ev, .hl, .ks, .pf, .lp, .swt, .errs, .outbox, .clock] s t)) ∧
  (∀ s : State,
    let now := s.clock + 10000
    let ns := now - s.dg.frozenAt
    Does .freezeNRise s (fun t =>
      t.dg.freezeN = true ∧
      (s.glb.life ≠ .frozen → t.glb = s.glb ∧ t.clock = s.clock ∧ t.dg.pend = s.dg.pend) ∧
      (s.glb.life = .frozen → s.dg.frozenRole = .standby → s.clock ≤ s.dg.frozenAt + 10000000000 → critBlocked s = false →
        t.glb.life = .up ∧ t.glb.role = .held ∧ t.clock = (if s.began = true then max now (tickAfter { s with tickAt := s.tickAt + ns } now) else now) ∧
        t.tickAt = s.tickAt + ns ∧ t.t0At = s.t0At + ns ∧ t.dg.outcome = 1 ∧ t.hl.tryAt = now ∧ t.hl.linkUp = false ∧
        (s.sv.svLog = [] → ∃ u, SameBut [.glb, .red, .link, .dg, .ev, .hl, .ks, .sc, .lp, .sv, .fb, .fc, .errs, .outbox, .mem, .clock, .tickAt, .t0At, .freeCtr] s u ∧
          Wrote 0x0904 srcChip (aw (ns / 1000000) ++ aw 1) u t)) ∧
      (s.glb.life = .frozen → s.dg.frozenRole ≠ .standby ∨ s.dg.frozenAt + 10000000000 < s.clock → t.glb = s.glb ∧ t.clock = s.clock ∧ t.dg.thawRefused = true) ∧
      (critBlocked s = false → SameBut [.glb, .red, .link, .dg, .ev, .hl, .ks, .sc, .lp, .sv, .fb, .fc, .errs, .outbox, .mem, .clock, .tickAt, .t0At, .freeCtr] s t))) ∧
  (∀ s : State,
    let now := s.clock + 10000
    let ns := now - s.dg.frozenAt
    Does .tapThaw s (fun t =>
      t.dg.ir = 0x20 ∧
      (s.glb.life ≠ .frozen → t = { s with dg := { s.dg with ir := 0x20, irTdo := 1, tdo := 0#64, tap := t.dg.tap } }) ∧
      (thawOk s = true → critBlocked s = false →
        t.glb.life = .up ∧ t.glb.role = .held ∧ t.clock = (if s.began = true then max now (tickAfter { s with tickAt := s.tickAt + ns } now) else now) ∧ t.tickAt = s.tickAt + ns ∧ t.dg.outcome = 1) ∧
      (s.glb.life = .frozen → thawOk s = false → t = { s with dg := { s.dg with ir := 0x20, irTdo := 1, tdo := 0#64, tap := t.dg.tap, thawRefused := true } }) ∧
      (critBlocked s = false → SameBut [.glb, .red, .link, .dg, .ev, .hl, .ks, .sc, .lp, .sv, .fb, .fc, .errs, .outbox, .mem, .clock, .tickAt, .t0At, .freeCtr] s t)))

/-- R461, R462: the test access port works in every state and changes nothing but its own registers; each command, one scan of the instruction register and one of the data register (the model's reading of the table's rows, log 48), captures 0b0000_0001 and ends in Run-Test/Idle: IDCODE and the status are shifted out, SCAN_SEL sets the read pointer and restarts the CRC, SCAN_DATA gives the word at the pointer with VALID and moves on only while the module is frozen, and gives a zero word with the end flag past the segment, SCAN_CRC gives the CRC of what was read, every code that is not listed selects BYPASS and its bit comes out behind the captured zero, and TRST_N selects IDCODE in Test-Logic-Reset. -/
def Obligations.test_access_port_shifts_registers : Prop :=
  ∀ s : State,
    let idle (t : State) : Prop := (s.dg.tap = .reset ∨ s.dg.tap = .idle → t.dg.tap = .idle) ∧ SameBut [.dg] s t
    Does .idcode s (fun t => t.dg = { s.dg with ir := 1, irTdo := 1, tap := t.dg.tap, tdo := 0x100287AF#64 } ∧ idle t) ∧
    Does .frzStatus s (fun t =>
      t.dg = { s.dg with ir := 2, irTdo := 1, tap := t.dg.tap, tdo := BitVec.ofNat 64 (frzStatusWord s) } ∧ t.dg.tdo.getLsbD 31 = (s.glb.life == .frozen) ∧ t.dg.tdo.getLsbD 30 = thawOk s ∧ idle t) ∧
    (∀ dr : BitVec 64, Does (.scanSel dr) s (fun t =>
      t.dg.ir = 0x10 ∧ t.dg.scanKind = dr.toNat / 2 ^ 56 ∧ t.dg.scanIdx = dr.toNat / 2 ^ 40 % 2 ^ 16 ∧ t.dg.scanOff = dr.toNat % 2 ^ 40 ∧ t.dg.scanEnd = s.dg.scanEnd ∧ t.dg.scanCrc = 0xFFFFFFFF#32 ∧
      t.dg.frozenAt = s.dg.frozenAt ∧ t.dg.pend = s.dg.pend ∧ t.dg.freezeN = s.dg.freezeN ∧ idle t)) ∧
    Does .scanData s (fun t =>
      (s.glb.life ≠ .frozen → t.dg = { s.dg with ir := 0x11, irTdo := 1, tap := t.dg.tap, tdo := 0#64 }) ∧
      (s.glb.life = .frozen → s.dg.scanOff < segWords s s.dg.scanKind s.dg.scanIdx →
        t.dg = { s.dg with ir := 0x11, irTdo := 1, tap := t.dg.tap, tdo := BitVec.ofNat 64 (segWord s s.dg.scanKind s.dg.scanIdx s.dg.scanOff + 2 ^ 32), scanOff := s.dg.scanOff + 1, scanEnd := false,
                           scanCrc := crcFrom s.dg.scanCrc (le (segWord s s.dg.scanKind s.dg.scanIdx s.dg.scanOff) 4) }) ∧
      (s.glb.life = .frozen → segWords s s.dg.scanKind s.dg.scanIdx ≤ s.dg.scanOff →
        t.dg.tdo = 0#64 ∧ t.dg.scanEnd = true ∧ t.dg.scanOff = s.dg.scanOff + 1) ∧ idle t) ∧
    Does .scanCrc s (fun t => t.dg = { s.dg with ir := 0x12, irTdo := 1, tap := t.dg.tap, tdo := (s.dg.scanCrc ^^^ 0xFFFFFFFF#32).setWidth 64 } ∧ idle t) ∧
    (∀ (code : Nat) (b : Bool), Does (.bypass (code, b)) s (fun t =>
      (code ∉ [0x01, 0x02, 0x10, 0x11, 0x12, 0x20] → t.dg = { s.dg with ir := code, irTdo := 1, tap := t.dg.tap, tdo := if b then 2#64 else 0#64 } ∧ idle t) ∧
      (code ∈ [0x01, 0x02, 0x10, 0x11, 0x12, 0x20] → t = s))) ∧
    Does .trstN s (fun t => t = { s with dg := { s.dg with ir := 1, tap := .reset } })

/-- R12 to R14, R36, R318, R390, R391: REGISTER_WRITE to an unmapped or misaligned address changes nothing; a written 1 clears its bit of an ERR register and nothing else; an enable register takes the bits it has; a word written to the HBM user and model space lands little-endian in its four bytes and nowhere else; an override is denied to a module that waits beside a driving partner; a firmware part outside what it may touch is blocked as FIREWALL_BLOCKED says. (R254 and R427 give the overrides; the windows of a part are read from R390's column: log 36.) -/
def Obligations.register_writes_by_address : Prop :=
  (∀ (p a : Nat) (v : Word) (s : State), running s = true →
    Does (.registerWrite (.peer p) a v) s (fun t =>
      (mapped s a = false ∨ a % 4 ≠ 0 → t = s) ∧
      (∀ r m, errReg a = some (r, m, false) → mapped s a = true → a % 4 = 0 →
        errVal t r = errVal s r - Nat.land (errVal s r) (Nat.land v.toNat m) ∧ (∀ q, q ≠ r → errVal t q = errVal s q) ∧ SameBut [.errs] s t) ∧
      (∀ r m, errReg a = some (r, m, true) → mapped s a = true → a % 4 = 0 →
        irqEn t r = Nat.land v.toNat m ∧ (∀ q, q ≠ r → irqEn t q = irqEn s q) ∧ SameBut [.irqs] s t) ∧
      (areaBase s 8 ≤ a → mapped s a = true → a % 4 = 0 →
        (∀ i, i < 4 → memRd t.mem (a + i) = BitVec.ofNat 8 (v.toNat / 256 ^ i)) ∧ (∀ b, b < a ∨ a + 4 ≤ b → memRd t.mem b = memRd s.mem b) ∧ SameBut [.mem] s t) ∧
      (isOverride a = true → s.glb.role = .held ∨ s.glb.role = .standby → partnerDrives s = true → t = s))) ∧
  (∀ (k a : Nat) (v : Word) (s : State), partMay k a = false → 1 ≤ k → k ≤ 4 → exec (.registerWrite (.part k) a v) s = exec (.firewallBlocked k a) s) ∧
  (∀ (k a : Nat) (v : Word) (s : State), partMay k a = true → exec (.registerWrite (.part k) a v) s = exec (.registerWrite (.peer 0xFFFF) a v) s)

/-- A step takes the command at the front of the queue and is that command's effect on the state with the queue's rest; an empty queue idles for 10 ns, which is the model's choice (log 3). -/
def Obligations.step_runs_the_front_command : Prop :=
  (∀ (c : Instr) (rest : List Instr) (s : State), s.pending = c :: rest → step s = exec c { s with pending := rest }) ∧
  (∀ s : State, s.pending = [] → step s = .next { s with clock := s.clock + 10 })

/-- R13, R355, R364, R408, R416: after a power-on reset the module is in the ROM without a role, every ERR register reads zero, every enable register reads its reset value, the event store is empty, uptime is zero, nothing is commanded and nothing waits; both byte memories are in canonical form. (The instant that the reset state stands for and the contents of empty memory are the model's choices: logs 1 and 2.) -/
def Obligations.reset_state_after_power_on : Prop :=
  State.reset.glb.life = .rom ∧ State.reset.glb.phase = 0 ∧ State.reset.glb.role = .none ∧ State.reset.glb.rstCause = 1 ∧
  (∀ a, errVal State.reset a = 0) ∧ irqEn State.reset 0x8 = 0x3DF ∧ irqEn State.reset 0x4000008 = 0xD ∧
  State.reset.ev.ring = [] ∧ State.reset.ev.pst = [] ∧ uptime State.reset = 0 ∧ State.reset.sv.patternSet = false ∧ State.reset.sv.isoCmd = 0 ∧
  State.reset.outbox = [] ∧ State.reset.pending = [] ∧ State.reset.memOk

/-- Every step from a state whose byte memories, the HBM and the staging window, are in canonical form leads to such a state. The canonical form is the model's choice (log 2). -/
def Obligations.every_step_keeps_the_memories_canonical : Prop :=
  ∀ s t : State, s.memOk → step s = .next t → t.memOk

/-- R408, R416, R456: no command changes the queue behind it, no step ends in a fault or a refusal, and while the chip is in reset, in the ROM or frozen, only resets, cast-on, the freeze pin and the freeze point, the test access port, the level of VFIELD and the selvedge's own commands change the module (which commands act at rest is the model's reading, logs 1 and 86). -/
def Obligations.every_step_goes_on : Prop :=
  (∀ s : State, ∃ t, step s = .next t ∧ t.pending = s.pending.tail) ∧
  (∀ (c : Instr) (s : State), running s = false → actsAtRest c = false → exec c s = .next s)

/-- R324, R325: a CRITICAL message, of whatever code, that the keyed check does not pass, because its key is absent, its tag is wrong or its counter is not above the floor, changes no key and no floor, and nothing but the records, the host link, the counters of the peer's session and the answers. -/
def Obligations.unauthenticated_commands_do_nothing : Prop :=
  ∀ (i : Instr) (code r : Nat) (d : Dgram) (p : PeerRec) (s u : State), critOf i = some (code, d) → running s = true →
    takeRequest 0x30 none d s = (some p, u) → peerKey u p = some r →
    (keyOf u r = [] ∨ tagOf (keyOf u r) d (tagBody d) (tagCounter d) strHXP1 ≠ tagBytes d ∨ unLe (tagCounter d) ≤ (ctrSt u p.index).floor) →
    Does i s (fun t =>
      t.ks.keys = s.ks.keys ∧ (∀ q, (ctrSt t q).floor = (ctrSt s q).floor ∧ (ctrSt t q).mark = (ctrSt s q).mark) ∧
      SameBut [.ev, .hl, .ks, .sc, .errs, .outbox] s t)

/-- R221: an advisory row condition that the loop layer has refreshed is absent 10 ms after that refresh, and the actions of every row, isolation and stop among them, are in force as before. -/
def Obligations.advisory_condition_lapses : Prop :=
  ∀ (r : Nat) (s : State), r = 7 ∨ (32 ≤ r ∧ r < 64) →
    rowCond (advRow r true s) r = true ∧
    Does (.advisoryLapse (.row r)) (advRow r true s) (fun t =>
      rowCond t r = false ∧ t.clock = s.clock + 10000000 ∧
      (∀ q, rowForce t q = rowForce (advRow r true s) q) ∧ isoValves t = isoValves (advRow r true s) ∧ stopMask t = stopMask (advRow r true s) ∧
      SameBut [.sv, .clock] s t)

/-- R423: a brown-out reset leaves uptime at zero and the wall clock unset, as a power-on reset does. -/
def Obligations.brown_out_restarts_uptime_and_wall : Prop :=
  ∀ (p : PorInfo) (s : State),
    Does .brownOutReset s (fun t => uptime t = 0 ∧ t.wall.set = false ∧
      Does (.powerOnReset p) s (fun u => uptime u = uptime t ∧ u.wall = t.wall))

/-- R457: at its freeze point a module aborts every running swatch with cause 6, cancels a scheduled re-knit so that the pattern is steady, and keeps a trial as it is; the thaw keeps it too, and the trial's window ends at the same uptime whatever was frozen of it. -/
def Obligations.freeze_point_ends_swatches_and_schedules : Prop :=
  (∀ s : State, running s = true → s.dg.pend = 1 → safePending s = false → s.glb.role ≠ .active →
    Does .freezePoint s (fun t =>
      t.glb.life = .frozen ∧
      (∀ k, (swSt s k).st = 2 → (swSt t k).st = 4 ∧ (swSt t k).cause = 6) ∧
      (∀ k, (swSt s k).st ≠ 2 → swSt t k = swSt s k) ∧
      (s.pf.st = 2 → t.pf.st = 1 ∧ t.pf.sched = none) ∧
      (s.pf.st = 3 → t.pf = s.pf ∧ t.upBase = s.upBase))) ∧
  (∀ s : State, critBlocked s = false → Does .freezeNRise s (fun t => t.pf = s.pf ∧ t.upBase = s.upBase) ∧ Does .tapThaw s (fun t => t.pf = s.pf ∧ t.upBase = s.upBase)) ∧
  (∀ s : State, running s = true → s.pf.st = 3 → s.pf.frog = none →
    Does .trialAccepted s (fun t => t.pf.st = 1 ∧ t.clock = max s.clock (s.upBase + s.pf.trialStart + s.pf.trialWindow * 1000000000)))
end

