-- ==== Sys2Proof/Laws/But.lean ====
section
/-! SUPPORT. Laws of `State.but`: what agrees but for some parts, and how updates, conditions, folds and outcomes keep that. -/

set_option linter.all false

namespace Sys2Proof.Machine

/-- The mask `a` lies within the mask `m`. -/
def sub (a m : Nat) : Bool := a &&& m == a

/-- An update of parts in the mask leaves the rest. -/
theorem but_mk (m : Nat) (x : State) (hw : HwSt) (glb : GlbSt) (pwr : PwrSt) (red : RedSt) (link : LinkSt) (mir : MirSt) (dg : DgSt) (ev : EvSt) (wall : WallSt) (hl : HlSt) (ks : KeyStore) (pf : PfSt) (sc : ScSt) (lp : LpSt) (swt : SwtSt) (sv : SvSt) (svf : SvfSt) (fb : FbSt) (fc : ArrSt) (al : AlSt) (errs : Tab Word) (irqs : Tab Word) (latches : Tab Word) (outbox : List Dgram) (mem : List Host.Cell) (stage : List Host.Cell) (clock : Nat) (upBase : Nat) (tick : Nat) (tickAt : Nat) (round : Nat) (began : Bool) (t0At : Nat) (freeCtr : Nat)
    (h0 : hw = x.hw ∨ m.testBit 0 = true) (h1 : glb = x.glb ∨ m.testBit 1 = true) (h2 : pwr = x.pwr ∨ m.testBit 2 = true) (h3 : red = x.red ∨ m.testBit 3 = true) (h4 : link = x.link ∨ m.testBit 4 = true) (h5 : mir = x.mir ∨ m.testBit 5 = true) (h6 : dg = x.dg ∨ m.testBit 6 = true) (h7 : ev = x.ev ∨ m.testBit 7 = true) (h8 : wall = x.wall ∨ m.testBit 8 = true) (h9 : hl = x.hl ∨ m.testBit 9 = true) (h10 : ks = x.ks ∨ m.testBit 10 = true) (h11 : pf = x.pf ∨ m.testBit 11 = true) (h12 : sc = x.sc ∨ m.testBit 12 = true) (h13 : lp = x.lp ∨ m.testBit 13 = true) (h14 : swt = x.swt ∨ m.testBit 14 = true) (h15 : sv = x.sv ∨ m.testBit 15 = true) (h16 : svf = x.svf ∨ m.testBit 16 = true) (h17 : fb = x.fb ∨ m.testBit 17 = true) (h18 : fc = x.fc ∨ m.testBit 18 = true) (h19 : al = x.al ∨ m.testBit 19 = true) (h20 : errs = x.errs ∨ m.testBit 20 = true) (h21 : irqs = x.irqs ∨ m.testBit 21 = true) (h22 : latches = x.latches ∨ m.testBit 22 = true) (h23 : outbox = x.outbox ∨ m.testBit 23 = true) (h24 : mem = x.mem ∨ m.testBit 24 = true) (h25 : stage = x.stage ∨ m.testBit 25 = true) (h26 : clock = x.clock ∨ m.testBit 26 = true) (h27 : upBase = x.upBase ∨ m.testBit 27 = true) (h28 : tick = x.tick ∨ m.testBit 28 = true) (h29 : tickAt = x.tickAt ∨ m.testBit 29 = true) (h30 : round = x.round ∨ m.testBit 30 = true) (h31 : began = x.began ∨ m.testBit 31 = true) (h32 : t0At = x.t0At ∨ m.testBit 32 = true) (h33 : freeCtr = x.freeCtr ∨ m.testBit 33 = true) :
    (State.mk hw glb pwr red link mir dg ev wall hl ks pf sc lp swt sv svf fb fc al errs irqs latches outbox mem stage clock upBase tick tickAt round began t0At freeCtr x.pending).but m = x.but m := by
  unfold State.but
  congr 1
  · rcases h0 with h | h <;> simp [h]
  · rcases h1 with h | h <;> simp [h]
  · rcases h2 with h | h <;> simp [h]
  · rcases h3 with h | h <;> simp [h]
  · rcases h4 with h | h <;> simp [h]
  · rcases h5 with h | h <;> simp [h]
  · rcases h6 with h | h <;> simp [h]
  · rcases h7 with h | h <;> simp [h]
  · rcases h8 with h | h <;> simp [h]
  · rcases h9 with h | h <;> simp [h]
  · rcases h10 with h | h <;> simp [h]
  · rcases h11 with h | h <;> simp [h]
  · rcases h12 with h | h <;> simp [h]
  · rcases h13 with h | h <;> simp [h]
  · rcases h14 with h | h <;> simp [h]
  · rcases h15 with h | h <;> simp [h]
  · rcases h16 with h | h <;> simp [h]
  · rcases h17 with h | h <;> simp [h]
  · rcases h18 with h | h <;> simp [h]
  · rcases h19 with h | h <;> simp [h]
  · rcases h20 with h | h <;> simp [h]
  · rcases h21 with h | h <;> simp [h]
  · rcases h22 with h | h <;> simp [h]
  · rcases h23 with h | h <;> simp [h]
  · rcases h24 with h | h <;> simp [h]
  · rcases h25 with h | h <;> simp [h]
  · rcases h26 with h | h <;> simp [h]
  · rcases h27 with h | h <;> simp [h]
  · rcases h28 with h | h <;> simp [h]
  · rcases h29 with h | h <;> simp [h]
  · rcases h30 with h | h <;> simp [h]
  · rcases h31 with h | h <;> simp [h]
  · rcases h32 with h | h <;> simp [h]
  · rcases h33 with h | h <;> simp [h]

theorem sub_testBit {a m : Nat} (h : sub a m = true) (i : Nat) (hi : a.testBit i = true) : m.testBit i = true := by
  simp only [sub, beq_iff_eq] at h
  rw [← h, Nat.testBit_and] at hi
  simp only [Bool.and_eq_true] at hi
  exact hi.2

theorem but_but {a m : Nat} (h : sub a m = true) (s : State) : (s.but a).but m = s.but m := by
  have hi := sub_testBit h
  unfold State.but
  congr 1 <;> dsimp only <;> split <;> first | rfl | (rename_i h1; simp only [Bool.not_eq_true] at h1; split <;> first | rfl | (rename_i h2; rw [hi _ h2] at h1; cases h1))

theorem but_mono {a m : Nat} (h : sub a m = true) {x y : State} (e : x.but a = y.but a) : x.but m = y.but m := by
  rw [← but_but h x, e, but_but h y]

theorem but_ite {m : Nat} (c : Prop) [Decidable c] (x y : State) : (if c then x else y).but m = if c then x.but m else y.but m := by
  split <;> rfl

theorem each_but {α : Type} {m : Nat} {f : α → State → State} (h : ∀ a t, (f a t).but m = t.but m) (l : List α) (s : State) :
    (each l f s).but m = s.but m := by
  unfold each
  induction l generalizing s with
  | nil => rfl
  | cons a t ih => rw [List.foldl_cons, ih, h]

theorem snd_ite {α : Type} (c : Prop) [Decidable c] (x y : α × State) : (if c then x else y).2 = if c then x.2 else y.2 := by
  split <;> rfl

theorem but_cond {m : Nat} (c : Bool) (x y : State) : (bif c then x else y).but m = if c = true then x.but m else y.but m := by
  cases c <;> rfl

/-- The state an outcome holds; the state before where it holds none. -/
def outOf (o : Host.Outcome State Fault Refusal) (s : State) : State :=
  match o with
  | .next t => t
  | _ => s

theorem outOf_next (t s : State) : outOf (.next t) s = t := rfl

theorem outOf_live (f : State → State) (s u : State) : outOf (live f s) u = if running s then f s else s := rfl

theorem outOf_ite (c : Prop) [Decidable c] (x y : Host.Outcome State Fault Refusal) (s : State) :
    outOf (if c then x else y) s = if c then outOf x s else outOf y s := by
  split <;> rfl

theorem of_outOf {o : Host.Outcome State Fault Refusal} {s t : State} (h : o = .next t) : outOf o s = t := by
  rw [h]; rfl

theorem sub_trans {a b c : Nat} (h : sub a b = true) (k : sub b c = true) : sub a c = true := by
  simp only [sub, beq_iff_eq] at *
  rw [← h, Nat.and_assoc, k]

theorem foldl_but {α : Type} {m : Nat} {f : State → α → State} (h : ∀ t a, (f t a).but m = t.but m) (l : List α) (s : State) :
    (l.foldl f s).but m = s.but m := by
  induction l generalizing s with
  | nil => rfl
  | cons a t ih => rw [List.foldl_cons, ih, h]

theorem foldl_but2 {α β : Type} {m : Nat} {f : β × State → α → β × State} (h : ∀ t a, (f t a).2.but m = t.2.but m) (l : List α) (s : β × State) :
    (l.foldl f s).2.but m = s.2.but m := by
  induction l generalizing s with
  | nil => rfl
  | cons a t ih => rw [List.foldl_cons, ih, h]

theorem but_snd_ite {α : Type} {m : Nat} (c : Prop) [Decidable c] (x y : α × State) : (if c then x else y).2.but m = if c then x.2.but m else y.2.but m := by
  split <;> rfl

theorem but_snd_mk {α : Type} {m : Nat} (a : α) (x : State) : (a, x).2.but m = x.but m := rfl

theorem whenS_but {m : Nat} {f : State → State} (h : ∀ t, (f t).but m = t.but m) (c : Bool) (s : State) : (whenS c f s).but m = s.but m := by
  unfold whenS; split
  · exact h s
  · rfl

theorem but_snd2_ite {α β : Type} {m : Nat} (c : Prop) [Decidable c] (x y : α × β × State) : (if c then x else y).2.2.but m = if c then x.2.2.but m else y.2.2.but m := by
  split <;> rfl

theorem but_snd2_mk {α β : Type} {m : Nat} (a : α) (b : β) (x : State) : (a, b, x).2.2.but m = x.but m := rfl

theorem eq_hw {m : Nat} {x y : State} (h : x.but m = y.but m) (hb : m.testBit 0 = false := by decide) : x.hw = y.hw := by
  simpa [State.but, hb] using congrArg State.hw h

theorem eq_glb {m : Nat} {x y : State} (h : x.but m = y.but m) (hb : m.testBit 1 = false := by decide) : x.glb = y.glb := by
  simpa [State.but, hb] using congrArg State.glb h

theorem eq_pwr {m : Nat} {x y : State} (h : x.but m = y.but m) (hb : m.testBit 2 = false := by decide) : x.pwr = y.pwr := by
  simpa [State.but, hb] using congrArg State.pwr h

theorem eq_red {m : Nat} {x y : State} (h : x.but m = y.but m) (hb : m.testBit 3 = false := by decide) : x.red = y.red := by
  simpa [State.but, hb] using congrArg State.red h

theorem eq_link {m : Nat} {x y : State} (h : x.but m = y.but m) (hb : m.testBit 4 = false := by decide) : x.link = y.link := by
  simpa [State.but, hb] using congrArg State.link h

theorem eq_mir {m : Nat} {x y : State} (h : x.but m = y.but m) (hb : m.testBit 5 = false := by decide) : x.mir = y.mir := by
  simpa [State.but, hb] using congrArg State.mir h

theorem eq_dg {m : Nat} {x y : State} (h : x.but m = y.but m) (hb : m.testBit 6 = false := by decide) : x.dg = y.dg := by
  simpa [State.but, hb] using congrArg State.dg h

theorem eq_ev {m : Nat} {x y : State} (h : x.but m = y.but m) (hb : m.testBit 7 = false := by decide) : x.ev = y.ev := by
  simpa [State.but, hb] using congrArg State.ev h

theorem eq_wall {m : Nat} {x y : State} (h : x.but m = y.but m) (hb : m.testBit 8 = false := by decide) : x.wall = y.wall := by
  simpa [State.but, hb] using congrArg State.wall h

theorem eq_hl {m : Nat} {x y : State} (h : x.but m = y.but m) (hb : m.testBit 9 = false := by decide) : x.hl = y.hl := by
  simpa [State.but, hb] using congrArg State.hl h

theorem eq_ks {m : Nat} {x y : State} (h : x.but m = y.but m) (hb : m.testBit 10 = false := by decide) : x.ks = y.ks := by
  simpa [State.but, hb] using congrArg State.ks h

theorem eq_pf {m : Nat} {x y : State} (h : x.but m = y.but m) (hb : m.testBit 11 = false := by decide) : x.pf = y.pf := by
  simpa [State.but, hb] using congrArg State.pf h

theorem eq_sc {m : Nat} {x y : State} (h : x.but m = y.but m) (hb : m.testBit 12 = false := by decide) : x.sc = y.sc := by
  simpa [State.but, hb] using congrArg State.sc h

theorem eq_lp {m : Nat} {x y : State} (h : x.but m = y.but m) (hb : m.testBit 13 = false := by decide) : x.lp = y.lp := by
  simpa [State.but, hb] using congrArg State.lp h

theorem eq_swt {m : Nat} {x y : State} (h : x.but m = y.but m) (hb : m.testBit 14 = false := by decide) : x.swt = y.swt := by
  simpa [State.but, hb] using congrArg State.swt h

theorem eq_sv {m : Nat} {x y : State} (h : x.but m = y.but m) (hb : m.testBit 15 = false := by decide) : x.sv = y.sv := by
  simpa [State.but, hb] using congrArg State.sv h

theorem eq_svf {m : Nat} {x y : State} (h : x.but m = y.but m) (hb : m.testBit 16 = false := by decide) : x.svf = y.svf := by
  simpa [State.but, hb] using congrArg State.svf h

theorem eq_fb {m : Nat} {x y : State} (h : x.but m = y.but m) (hb : m.testBit 17 = false := by decide) : x.fb = y.fb := by
  simpa [State.but, hb] using congrArg State.fb h

theorem eq_fc {m : Nat} {x y : State} (h : x.but m = y.but m) (hb : m.testBit 18 = false := by decide) : x.fc = y.fc := by
  simpa [State.but, hb] using congrArg State.fc h

theorem eq_al {m : Nat} {x y : State} (h : x.but m = y.but m) (hb : m.testBit 19 = false := by decide) : x.al = y.al := by
  simpa [State.but, hb] using congrArg State.al h

theorem eq_errs {m : Nat} {x y : State} (h : x.but m = y.but m) (hb : m.testBit 20 = false := by decide) : x.errs = y.errs := by
  simpa [State.but, hb] using congrArg State.errs h

theorem eq_irqs {m : Nat} {x y : State} (h : x.but m = y.but m) (hb : m.testBit 21 = false := by decide) : x.irqs = y.irqs := by
  simpa [State.but, hb] using congrArg State.irqs h

theorem eq_latches {m : Nat} {x y : State} (h : x.but m = y.but m) (hb : m.testBit 22 = false := by decide) : x.latches = y.latches := by
  simpa [State.but, hb] using congrArg State.latches h

theorem eq_outbox {m : Nat} {x y : State} (h : x.but m = y.but m) (hb : m.testBit 23 = false := by decide) : x.outbox = y.outbox := by
  simpa [State.but, hb] using congrArg State.outbox h

theorem eq_mem {m : Nat} {x y : State} (h : x.but m = y.but m) (hb : m.testBit 24 = false := by decide) : x.mem = y.mem := by
  simpa [State.but, hb] using congrArg State.mem h

theorem eq_stage {m : Nat} {x y : State} (h : x.but m = y.but m) (hb : m.testBit 25 = false := by decide) : x.stage = y.stage := by
  simpa [State.but, hb] using congrArg State.stage h

theorem eq_clock {m : Nat} {x y : State} (h : x.but m = y.but m) (hb : m.testBit 26 = false := by decide) : x.clock = y.clock := by
  simpa [State.but, hb] using congrArg State.clock h

theorem eq_upBase {m : Nat} {x y : State} (h : x.but m = y.but m) (hb : m.testBit 27 = false := by decide) : x.upBase = y.upBase := by
  simpa [State.but, hb] using congrArg State.upBase h

theorem eq_tick {m : Nat} {x y : State} (h : x.but m = y.but m) (hb : m.testBit 28 = false := by decide) : x.tick = y.tick := by
  simpa [State.but, hb] using congrArg State.tick h

theorem eq_tickAt {m : Nat} {x y : State} (h : x.but m = y.but m) (hb : m.testBit 29 = false := by decide) : x.tickAt = y.tickAt := by
  simpa [State.but, hb] using congrArg State.tickAt h

theorem eq_round {m : Nat} {x y : State} (h : x.but m = y.but m) (hb : m.testBit 30 = false := by decide) : x.round = y.round := by
  simpa [State.but, hb] using congrArg State.round h

theorem eq_began {m : Nat} {x y : State} (h : x.but m = y.but m) (hb : m.testBit 31 = false := by decide) : x.began = y.began := by
  simpa [State.but, hb] using congrArg State.began h

theorem eq_t0At {m : Nat} {x y : State} (h : x.but m = y.but m) (hb : m.testBit 32 = false := by decide) : x.t0At = y.t0At := by
  simpa [State.but, hb] using congrArg State.t0At h

theorem eq_freeCtr {m : Nat} {x y : State} (h : x.but m = y.but m) (hb : m.testBit 33 = false := by decide) : x.freeCtr = y.freeCtr := by
  simpa [State.but, hb] using congrArg State.freeCtr h

theorem eq_pending {m : Nat} {x y : State} (h : x.but m = y.but m) : x.pending = y.pending := by
  simpa [State.but] using congrArg State.pending h

end Sys2Proof.Machine
end

