-- ==== Sys2Proof/Laws/FrameOps.lean ====
section
/-! SUPPORT. What each function can change (shared operations, event records, datagrams, counters): it leaves every part of State outside its mask as it was. -/

set_option linter.all false

namespace Sys2Proof.Machine

theorem clockTo_but' (t : Nat) (s : State) : (clockTo t s).but 67108864 = s.but 67108864 := by
  unfold clockTo
  repeat' first
  | with_reducible rfl
  | simp (disch := first | exact Or.inr rfl | exact Or.inl rfl | decide) only [↓but_mk, ↓but_ite, ↓but_snd_ite, ↓but_snd_mk, ↓but_snd2_ite, ↓but_snd2_mk, ↓but_cond, ite_self, outOf_live, outOf_next, outOf_ite]
  | split <;> try (with_reducible have h := congrArg Prod.snd ‹(_ : _ × State) = (_, _)›; dsimp only at h; subst h)
  | with_reducible refine (each_but (fun _ _ => ?_) _ _).trans ?_
  | with_reducible refine (whenS_but (fun _ => ?_) _ _).trans ?_
  | with_reducible refine (foldl_but (fun _ _ => ?_) _ _).trans ?_
  | with_reducible refine (foldl_but2 (fun _ _ => ?_) _ _).trans ?_
theorem clockTo_but {m} (hm : sub 67108864 m = true) (t : Nat) (s : State) : (clockTo t s).but m = s.but m := but_mono hm (clockTo_but' t s)

theorem freshWord_but' (s : State) : (freshWord s).2.but 8589934592 = s.but 8589934592 := by
  unfold freshWord
  repeat' first
  | with_reducible rfl
  | simp (disch := first | exact Or.inr rfl | exact Or.inl rfl | decide) only [↓but_mk, ↓but_ite, ↓but_snd_ite, ↓but_snd_mk, ↓but_snd2_ite, ↓but_snd2_mk, ↓but_cond, ite_self, outOf_live, outOf_next, outOf_ite]
  | split <;> try (with_reducible have h := congrArg Prod.snd ‹(_ : _ × State) = (_, _)›; dsimp only at h; subst h)
  | with_reducible refine (each_but (fun _ _ => ?_) _ _).trans ?_
  | with_reducible refine (whenS_but (fun _ => ?_) _ _).trans ?_
  | with_reducible refine (foldl_but (fun _ _ => ?_) _ _).trans ?_
  | with_reducible refine (foldl_but2 (fun _ _ => ?_) _ _).trans ?_
theorem freshWord_but {m} (hm : sub 8589934592 m = true) (s : State) : (freshWord s).2.but m = s.but m := but_mono hm (freshWord_but' s)

theorem setErr_but' (a : Nat) (b : Nat) (s : State) : (setErr a b s).but 1049088 = s.but 1049088 := by
  unfold setErr
  repeat' first
  | with_reducible rfl
  | simp (disch := first | exact Or.inr rfl | exact Or.inl rfl | decide) only [↓but_mk, ↓but_ite, ↓but_snd_ite, ↓but_snd_mk, ↓but_snd2_ite, ↓but_snd2_mk, ↓but_cond, ite_self, outOf_live, outOf_next, outOf_ite]
  | split <;> try (with_reducible have h := congrArg Prod.snd ‹(_ : _ × State) = (_, _)›; dsimp only at h; subst h)
  | with_reducible refine (each_but (fun _ _ => ?_) _ _).trans ?_
  | with_reducible refine (whenS_but (fun _ => ?_) _ _).trans ?_
  | with_reducible refine (foldl_but (fun _ _ => ?_) _ _).trans ?_
  | with_reducible refine (foldl_but2 (fun _ _ => ?_) _ _).trans ?_
theorem setErr_but {m} (hm : sub 1049088 m = true) (a : Nat) (b : Nat) (s : State) : (setErr a b s).but m = s.but m := but_mono hm (setErr_but' a b s)

theorem setErrOf_but' (code : Nat) (s : State) : (setErrOf code s).but 1049088 = s.but 1049088 := by
  unfold setErrOf
  repeat' first
  | with_reducible rfl
  | simp (disch := first | exact Or.inr rfl | exact Or.inl rfl | decide) only [↓but_mk, ↓but_ite, ↓but_snd_ite, ↓but_snd_mk, ↓but_snd2_ite, ↓but_snd2_mk, ↓but_cond, ite_self, outOf_live, outOf_next, outOf_ite, ↓setErr_but]
  | split <;> try (with_reducible have h := congrArg Prod.snd ‹(_ : _ × State) = (_, _)›; dsimp only at h; subst h)
  | with_reducible refine (each_but (fun _ _ => ?_) _ _).trans ?_
  | with_reducible refine (whenS_but (fun _ => ?_) _ _).trans ?_
  | with_reducible refine (foldl_but (fun _ _ => ?_) _ _).trans ?_
  | with_reducible refine (foldl_but2 (fun _ _ => ?_) _ _).trans ?_
theorem setErrOf_but {m} (hm : sub 1049088 m = true) (code : Nat) (s : State) : (setErrOf code s).but m = s.but m := but_mono hm (setErrOf_but' code s)

theorem countDrop_but' (t : Nat) (sev : Nat) (s : State) : (countDrop t sev s).but 128 = s.but 128 := by
  unfold countDrop
  repeat' first
  | with_reducible rfl
  | simp (disch := first | exact Or.inr rfl | exact Or.inl rfl | decide) only [↓but_mk, ↓but_ite, ↓but_snd_ite, ↓but_snd_mk, ↓but_snd2_ite, ↓but_snd2_mk, ↓but_cond, ite_self, outOf_live, outOf_next, outOf_ite]
  | split <;> try (with_reducible have h := congrArg Prod.snd ‹(_ : _ × State) = (_, _)›; dsimp only at h; subst h)
  | with_reducible refine (each_but (fun _ _ => ?_) _ _).trans ?_
  | with_reducible refine (whenS_but (fun _ => ?_) _ _).trans ?_
  | with_reducible refine (foldl_but (fun _ _ => ?_) _ _).trans ?_
  | with_reducible refine (foldl_but2 (fun _ _ => ?_) _ _).trans ?_
theorem countDrop_but {m} (hm : sub 128 m = true) (t : Nat) (sev : Nat) (s : State) : (countDrop t sev s).but m = s.but m := but_mono hm (countDrop_but' t sev s)

theorem putRing_but' (r : EvRec) (s : State) : (putRing r s).but 128 = s.but 128 := by
  unfold putRing
  repeat' first
  | with_reducible rfl
  | simp (disch := first | exact Or.inr rfl | exact Or.inl rfl | decide) only [↓but_mk, ↓but_ite, ↓but_snd_ite, ↓but_snd_mk, ↓but_snd2_ite, ↓but_snd2_mk, ↓but_cond, ite_self, outOf_live, outOf_next, outOf_ite, ↓countDrop_but]
  | split <;> try (with_reducible have h := congrArg Prod.snd ‹(_ : _ × State) = (_, _)›; dsimp only at h; subst h)
  | with_reducible refine (each_but (fun _ _ => ?_) _ _).trans ?_
  | with_reducible refine (whenS_but (fun _ => ?_) _ _).trans ?_
  | with_reducible refine (foldl_but (fun _ _ => ?_) _ _).trans ?_
  | with_reducible refine (foldl_but2 (fun _ _ => ?_) _ _).trans ?_
theorem putRing_but {m} (hm : sub 128 m = true) (r : EvRec) (s : State) : (putRing r s).but m = s.but m := but_mono hm (putRing_but' r s)

theorem putHbm_but' (r : EvRec) (s : State) : (putHbm r s).but 128 = s.but 128 := by
  unfold putHbm
  repeat' first
  | with_reducible rfl
  | simp (disch := first | exact Or.inr rfl | exact Or.inl rfl | decide) only [↓but_mk, ↓but_ite, ↓but_snd_ite, ↓but_snd_mk, ↓but_snd2_ite, ↓but_snd2_mk, ↓but_cond, ite_self, outOf_live, outOf_next, outOf_ite, ↓countDrop_but]
  | split <;> try (with_reducible have h := congrArg Prod.snd ‹(_ : _ × State) = (_, _)›; dsimp only at h; subst h)
  | with_reducible refine (each_but (fun _ _ => ?_) _ _).trans ?_
  | with_reducible refine (whenS_but (fun _ => ?_) _ _).trans ?_
  | with_reducible refine (foldl_but (fun _ _ => ?_) _ _).trans ?_
  | with_reducible refine (foldl_but2 (fun _ _ => ?_) _ _).trans ?_
theorem putHbm_but {m} (hm : sub 128 m = true) (r : EvRec) (s : State) : (putHbm r s).but m = s.but m := but_mono hm (putHbm_but' r s)

theorem putStaging_but' (r : EvRec) (s : State) : (putStaging r s).but 1049216 = s.but 1049216 := by
  unfold putStaging
  repeat' first
  | with_reducible rfl
  | simp (disch := first | exact Or.inr rfl | exact Or.inl rfl | decide) only [↓but_mk, ↓but_ite, ↓but_snd_ite, ↓but_snd_mk, ↓but_snd2_ite, ↓but_snd2_mk, ↓but_cond, ite_self, outOf_live, outOf_next, outOf_ite, ↓setErr_but, ↓countDrop_but]
  | split <;> try (with_reducible have h := congrArg Prod.snd ‹(_ : _ × State) = (_, _)›; dsimp only at h; subst h)
  | with_reducible refine (each_but (fun _ _ => ?_) _ _).trans ?_
  | with_reducible refine (whenS_but (fun _ => ?_) _ _).trans ?_
  | with_reducible refine (foldl_but (fun _ _ => ?_) _ _).trans ?_
  | with_reducible refine (foldl_but2 (fun _ _ => ?_) _ _).trans ?_
theorem putStaging_but {m} (hm : sub 1049216 m = true) (r : EvRec) (s : State) : (putStaging r s).but m = s.but m := but_mono hm (putStaging_but' r s)

theorem takeToken_but' (code : Nat) (s : State) : (takeToken code s).2.but 128 = s.but 128 := by
  unfold takeToken
  repeat' first
  | with_reducible rfl
  | simp (disch := first | exact Or.inr rfl | exact Or.inl rfl | decide) only [↓but_mk, ↓but_ite, ↓but_snd_ite, ↓but_snd_mk, ↓but_snd2_ite, ↓but_snd2_mk, ↓but_cond, ite_self, outOf_live, outOf_next, outOf_ite]
  | split <;> try (with_reducible have h := congrArg Prod.snd ‹(_ : _ × State) = (_, _)›; dsimp only at h; subst h)
  | with_reducible refine (each_but (fun _ _ => ?_) _ _).trans ?_
  | with_reducible refine (whenS_but (fun _ => ?_) _ _).trans ?_
  | with_reducible refine (foldl_but (fun _ _ => ?_) _ _).trans ?_
  | with_reducible refine (foldl_but2 (fun _ _ => ?_) _ _).trans ?_
theorem takeToken_but {m} (hm : sub 128 m = true) (code : Nat) (s : State) : (takeToken code s).2.but m = s.but m := but_mono hm (takeToken_but' code s)

theorem storeRec_but' (r : EvRec) (s : State) : (storeRec r s).but 1049216 = s.but 1049216 := by
  unfold storeRec
  repeat' first
  | with_reducible rfl
  | simp (disch := first | exact Or.inr rfl | exact Or.inl rfl | decide) only [↓but_mk, ↓but_ite, ↓but_snd_ite, ↓but_snd_mk, ↓but_snd2_ite, ↓but_snd2_mk, ↓but_cond, ite_self, outOf_live, outOf_next, outOf_ite, ↓putStaging_but, ↓putHbm_but, ↓putRing_but, ↓setErrOf_but]
  | split <;> try (with_reducible have h := congrArg Prod.snd ‹(_ : _ × State) = (_, _)›; dsimp only at h; subst h)
  | with_reducible refine (each_but (fun _ _ => ?_) _ _).trans ?_
  | with_reducible refine (whenS_but (fun _ => ?_) _ _).trans ?_
  | with_reducible refine (foldl_but (fun _ _ => ?_) _ _).trans ?_
  | with_reducible refine (foldl_but2 (fun _ _ => ?_) _ _).trans ?_
theorem storeRec_but {m} (hm : sub 1049216 m = true) (r : EvRec) (s : State) : (storeRec r s).but m = s.but m := but_mono hm (storeRec_but' r s)

theorem passRec_but' (r : EvRec) (s : State) : (passRec r s).but 1049216 = s.but 1049216 := by
  unfold passRec
  repeat' first
  | with_reducible rfl
  | simp (disch := first | exact Or.inr rfl | exact Or.inl rfl | decide) only [↓but_mk, ↓but_ite, ↓but_snd_ite, ↓but_snd_mk, ↓but_snd2_ite, ↓but_snd2_mk, ↓but_cond, ite_self, outOf_live, outOf_next, outOf_ite, ↓storeRec_but, ↓takeToken_but]
  | split <;> try (with_reducible have h := congrArg Prod.snd ‹(_ : _ × State) = (_, _)›; dsimp only at h; subst h)
  | with_reducible refine (each_but (fun _ _ => ?_) _ _).trans ?_
  | with_reducible refine (whenS_but (fun _ => ?_) _ _).trans ?_
  | with_reducible refine (foldl_but (fun _ _ => ?_) _ _).trans ?_
  | with_reducible refine (foldl_but2 (fun _ _ => ?_) _ _).trans ?_
theorem passRec_but {m} (hm : sub 1049216 m = true) (r : EvRec) (s : State) : (passRec r s).but m = s.but m := but_mono hm (passRec_but' r s)

theorem emitRec_but' (r : EvRec) (s : State) : (emitRec r s).but 1049216 = s.but 1049216 := by
  unfold emitRec
  repeat' first
  | with_reducible rfl
  | simp (disch := first | exact Or.inr rfl | exact Or.inl rfl | decide) only [↓but_mk, ↓but_ite, ↓but_snd_ite, ↓but_snd_mk, ↓but_snd2_ite, ↓but_snd2_mk, ↓but_cond, ite_self, outOf_live, outOf_next, outOf_ite, ↓setErrOf_but, ↓countDrop_but, ↓passRec_but]
  | split <;> try (with_reducible have h := congrArg Prod.snd ‹(_ : _ × State) = (_, _)›; dsimp only at h; subst h)
  | with_reducible refine (each_but (fun _ _ => ?_) _ _).trans ?_
  | with_reducible refine (whenS_but (fun _ => ?_) _ _).trans ?_
  | with_reducible refine (foldl_but (fun _ _ => ?_) _ _).trans ?_
  | with_reducible refine (foldl_but2 (fun _ _ => ?_) _ _).trans ?_
theorem emitRec_but {m} (hm : sub 1049216 m = true) (r : EvRec) (s : State) : (emitRec r s).but m = s.but m := but_mono hm (emitRec_but' r s)

theorem emit_but' (code : Nat) (source : Nat) (args : List Word) (s : State) (clear : Bool) : (emit code source args s clear).but 1049216 = s.but 1049216 := by
  unfold emit
  repeat' first
  | with_reducible rfl
  | simp (disch := first | exact Or.inr rfl | exact Or.inl rfl | decide) only [↓but_mk, ↓but_ite, ↓but_snd_ite, ↓but_snd_mk, ↓but_snd2_ite, ↓but_snd2_mk, ↓but_cond, ite_self, outOf_live, outOf_next, outOf_ite, ↓emitRec_but]
  | split <;> try (with_reducible have h := congrArg Prod.snd ‹(_ : _ × State) = (_, _)›; dsimp only at h; subst h)
  | with_reducible refine (each_but (fun _ _ => ?_) _ _).trans ?_
  | with_reducible refine (whenS_but (fun _ => ?_) _ _).trans ?_
  | with_reducible refine (foldl_but (fun _ _ => ?_) _ _).trans ?_
  | with_reducible refine (foldl_but2 (fun _ _ => ?_) _ _).trans ?_
theorem emit_but {m} (hm : sub 1049216 m = true) (code : Nat) (source : Nat) (args : List Word) (s : State) (clear : Bool) : (emit code source args s clear).but m = s.but m := but_mono hm (emit_but' code source args s clear)

theorem emitLate_but' (code : Nat) (source : Nat) (args : List Word) (up : Nat) (s : State) (clear : Bool) : (emitLate code source args up s clear).but 1049216 = s.but 1049216 := by
  unfold emitLate
  repeat' first
  | with_reducible rfl
  | simp (disch := first | exact Or.inr rfl | exact Or.inl rfl | decide) only [↓but_mk, ↓but_ite, ↓but_snd_ite, ↓but_snd_mk, ↓but_snd2_ite, ↓but_snd2_mk, ↓but_cond, ite_self, outOf_live, outOf_next, outOf_ite, ↓emitRec_but]
  | split <;> try (with_reducible have h := congrArg Prod.snd ‹(_ : _ × State) = (_, _)›; dsimp only at h; subst h)
  | with_reducible refine (each_but (fun _ _ => ?_) _ _).trans ?_
  | with_reducible refine (whenS_but (fun _ => ?_) _ _).trans ?_
  | with_reducible refine (foldl_but (fun _ _ => ?_) _ _).trans ?_
  | with_reducible refine (foldl_but2 (fun _ _ => ?_) _ _).trans ?_
theorem emitLate_but {m} (hm : sub 1049216 m = true) (code : Nat) (source : Nat) (args : List Word) (up : Nat) (s : State) (clear : Bool) : (emitLate code source args up s clear).but m = s.but m := but_mono hm (emitLate_but' code source args up s clear)

theorem programOne_but' (r : EvRec) (s : State) : (programOne r s).but 128 = s.but 128 := by
  unfold programOne
  repeat' first
  | with_reducible rfl
  | simp (disch := first | exact Or.inr rfl | exact Or.inl rfl | decide) only [↓but_mk, ↓but_ite, ↓but_snd_ite, ↓but_snd_mk, ↓but_snd2_ite, ↓but_snd2_mk, ↓but_cond, ite_self, outOf_live, outOf_next, outOf_ite, ↓countDrop_but]
  | split <;> try (with_reducible have h := congrArg Prod.snd ‹(_ : _ × State) = (_, _)›; dsimp only at h; subst h)
  | with_reducible refine (each_but (fun _ _ => ?_) _ _).trans ?_
  | with_reducible refine (whenS_but (fun _ => ?_) _ _).trans ?_
  | with_reducible refine (foldl_but (fun _ _ => ?_) _ _).trans ?_
  | with_reducible refine (foldl_but2 (fun _ _ => ?_) _ _).trans ?_
theorem programOne_but {m} (hm : sub 128 m = true) (r : EvRec) (s : State) : (programOne r s).but m = s.but m := but_mono hm (programOne_but' r s)

theorem programStaging_but' (s : State) : (programStaging s).but 128 = s.but 128 := by
  unfold programStaging
  repeat' first
  | with_reducible rfl
  | simp (disch := first | exact Or.inr rfl | exact Or.inl rfl | decide) only [↓but_mk, ↓but_ite, ↓but_snd_ite, ↓but_snd_mk, ↓but_snd2_ite, ↓but_snd2_mk, ↓but_cond, ite_self, outOf_live, outOf_next, outOf_ite, ↓programOne_but]
  | split <;> try (with_reducible have h := congrArg Prod.snd ‹(_ : _ × State) = (_, _)›; dsimp only at h; subst h)
  | with_reducible refine (each_but (fun _ _ => ?_) _ _).trans ?_
  | with_reducible refine (whenS_but (fun _ => ?_) _ _).trans ?_
  | with_reducible refine (foldl_but (fun _ _ => ?_) _ _).trans ?_
  | with_reducible refine (foldl_but2 (fun _ _ => ?_) _ _).trans ?_
theorem programStaging_but {m} (hm : sub 128 m = true) (s : State) : (programStaging s).but m = s.but m := but_mono hm (programStaging_but' s)

theorem sendDgram_but' (d : Dgram) (s : State) : (sendDgram d s).but 8388608 = s.but 8388608 := by
  unfold sendDgram
  repeat' first
  | with_reducible rfl
  | simp (disch := first | exact Or.inr rfl | exact Or.inl rfl | decide) only [↓but_mk, ↓but_ite, ↓but_snd_ite, ↓but_snd_mk, ↓but_snd2_ite, ↓but_snd2_mk, ↓but_cond, ite_self, outOf_live, outOf_next, outOf_ite]
  | split <;> try (with_reducible have h := congrArg Prod.snd ‹(_ : _ × State) = (_, _)›; dsimp only at h; subst h)
  | with_reducible refine (each_but (fun _ _ => ?_) _ _).trans ?_
  | with_reducible refine (whenS_but (fun _ => ?_) _ _).trans ?_
  | with_reducible refine (foldl_but (fun _ _ => ?_) _ _).trans ?_
  | with_reducible refine (foldl_but2 (fun _ _ => ?_) _ _).trans ?_
theorem sendDgram_but {m} (hm : sub 8388608 m = true) (d : Dgram) (s : State) : (sendDgram d s).but m = s.but m := but_mono hm (sendDgram_but' d s)

theorem sendMsg_but' (dst : Nat) (typ : Nat) (xid : Nat) (payload : Bytes) (s : State) : (sendMsg dst typ xid payload s).but 8388608 = s.but 8388608 := by
  unfold sendMsg
  repeat' first
  | with_reducible rfl
  | simp (disch := first | exact Or.inr rfl | exact Or.inl rfl | decide) only [↓but_mk, ↓but_ite, ↓but_snd_ite, ↓but_snd_mk, ↓but_snd2_ite, ↓but_snd2_mk, ↓but_cond, ite_self, outOf_live, outOf_next, outOf_ite, ↓sendDgram_but]
  | split <;> try (with_reducible have h := congrArg Prod.snd ‹(_ : _ × State) = (_, _)›; dsimp only at h; subst h)
  | with_reducible refine (each_but (fun _ _ => ?_) _ _).trans ?_
  | with_reducible refine (whenS_but (fun _ => ?_) _ _).trans ?_
  | with_reducible refine (foldl_but (fun _ _ => ?_) _ _).trans ?_
  | with_reducible refine (foldl_but2 (fun _ _ => ?_) _ _).trans ?_
theorem sendMsg_but {m} (hm : sub 8388608 m = true) (dst : Nat) (typ : Nat) (xid : Nat) (payload : Bytes) (s : State) : (sendMsg dst typ xid payload s).but m = s.but m := but_mono hm (sendMsg_but' dst typ xid payload s)

theorem sendFrags_but' (dst : Nat) (typ : Nat) (xid : Nat) (parts : List Bytes) (s : State) : (sendFrags dst typ xid parts s).but 8388608 = s.but 8388608 := by
  unfold sendFrags
  repeat' first
  | with_reducible rfl
  | simp (disch := first | exact Or.inr rfl | exact Or.inl rfl | decide) only [↓but_mk, ↓but_ite, ↓but_snd_ite, ↓but_snd_mk, ↓but_snd2_ite, ↓but_snd2_mk, ↓but_cond, ite_self, outOf_live, outOf_next, outOf_ite, ↓sendDgram_but]
  | split <;> try (with_reducible have h := congrArg Prod.snd ‹(_ : _ × State) = (_, _)›; dsimp only at h; subst h)
  | with_reducible refine (each_but (fun _ _ => ?_) _ _).trans ?_
  | with_reducible refine (whenS_but (fun _ => ?_) _ _).trans ?_
  | with_reducible refine (foldl_but (fun _ _ => ?_) _ _).trans ?_
  | with_reducible refine (foldl_but2 (fun _ _ => ?_) _ _).trans ?_
theorem sendFrags_but {m} (hm : sub 8388608 m = true) (dst : Nat) (typ : Nat) (xid : Nat) (parts : List Bytes) (s : State) : (sendFrags dst typ xid parts s).but m = s.but m := but_mono hm (sendFrags_but' dst typ xid parts s)

theorem markDone_but' (peer : Nat) (d : Dgram) (rs : List Dgram) (s : State) : (markDone peer d rs s).but 512 = s.but 512 := by
  unfold markDone
  repeat' first
  | with_reducible rfl
  | simp (disch := first | exact Or.inr rfl | exact Or.inl rfl | decide) only [↓but_mk, ↓but_ite, ↓but_snd_ite, ↓but_snd_mk, ↓but_snd2_ite, ↓but_snd2_mk, ↓but_cond, ite_self, outOf_live, outOf_next, outOf_ite]
  | split <;> try (with_reducible have h := congrArg Prod.snd ‹(_ : _ × State) = (_, _)›; dsimp only at h; subst h)
  | with_reducible refine (each_but (fun _ _ => ?_) _ _).trans ?_
  | with_reducible refine (whenS_but (fun _ => ?_) _ _).trans ?_
  | with_reducible refine (foldl_but (fun _ _ => ?_) _ _).trans ?_
  | with_reducible refine (foldl_but2 (fun _ _ => ?_) _ _).trans ?_
theorem markDone_but {m} (hm : sub 512 m = true) (peer : Nat) (d : Dgram) (rs : List Dgram) (s : State) : (markDone peer d rs s).but m = s.but m := but_mono hm (markDone_but' peer d rs s)

theorem answerWith_but' (peer : Nat) (d : Dgram) (rs : List Dgram) (s : State) : (answerWith peer d rs s).but 8389120 = s.but 8389120 := by
  unfold answerWith
  repeat' first
  | with_reducible rfl
  | simp (disch := first | exact Or.inr rfl | exact Or.inl rfl | decide) only [↓but_mk, ↓but_ite, ↓but_snd_ite, ↓but_snd_mk, ↓but_snd2_ite, ↓but_snd2_mk, ↓but_cond, ite_self, outOf_live, outOf_next, outOf_ite, ↓markDone_but]
  | split <;> try (with_reducible have h := congrArg Prod.snd ‹(_ : _ × State) = (_, _)›; dsimp only at h; subst h)
  | with_reducible refine (each_but (fun _ _ => ?_) _ _).trans ?_
  | with_reducible refine (whenS_but (fun _ => ?_) _ _).trans ?_
  | with_reducible refine (foldl_but (fun _ _ => ?_) _ _).trans ?_
  | with_reducible refine (foldl_but2 (fun _ _ => ?_) _ _).trans ?_
theorem answerWith_but {m} (hm : sub 8389120 m = true) (peer : Nat) (d : Dgram) (rs : List Dgram) (s : State) : (answerWith peer d rs s).but m = s.but m := but_mono hm (answerWith_but' peer d rs s)

theorem answer_but' (peer : Nat) (d : Dgram) (status : Nat) (detail : Nat) (payload : Bytes) (s : State) : (answer peer d status detail payload s).but 8389120 = s.but 8389120 := by
  unfold answer
  repeat' first
  | with_reducible rfl
  | simp (disch := first | exact Or.inr rfl | exact Or.inl rfl | decide) only [↓but_mk, ↓but_ite, ↓but_snd_ite, ↓but_snd_mk, ↓but_snd2_ite, ↓but_snd2_mk, ↓but_cond, ite_self, outOf_live, outOf_next, outOf_ite, ↓answerWith_but]
  | split <;> try (with_reducible have h := congrArg Prod.snd ‹(_ : _ × State) = (_, _)›; dsimp only at h; subst h)
  | with_reducible refine (each_but (fun _ _ => ?_) _ _).trans ?_
  | with_reducible refine (whenS_but (fun _ => ?_) _ _).trans ?_
  | with_reducible refine (foldl_but (fun _ _ => ?_) _ _).trans ?_
  | with_reducible refine (foldl_but2 (fun _ _ => ?_) _ _).trans ?_
theorem answer_but {m} (hm : sub 8389120 m = true) (peer : Nat) (d : Dgram) (status : Nat) (detail : Nat) (payload : Bytes) (s : State) : (answer peer d status detail payload s).but m = s.but m := but_mono hm (answer_but' peer d status detail payload s)

theorem sendAck_but' (d : Dgram) (s : State) : (sendAck d s).but 8388608 = s.but 8388608 := by
  unfold sendAck
  repeat' first
  | with_reducible rfl
  | simp (disch := first | exact Or.inr rfl | exact Or.inl rfl | decide) only [↓but_mk, ↓but_ite, ↓but_snd_ite, ↓but_snd_mk, ↓but_snd2_ite, ↓but_snd2_mk, ↓but_cond, ite_self, outOf_live, outOf_next, outOf_ite, ↓sendDgram_but]
  | split <;> try (with_reducible have h := congrArg Prod.snd ‹(_ : _ × State) = (_, _)›; dsimp only at h; subst h)
  | with_reducible refine (each_but (fun _ _ => ?_) _ _).trans ?_
  | with_reducible refine (whenS_but (fun _ => ?_) _ _).trans ?_
  | with_reducible refine (foldl_but (fun _ _ => ?_) _ _).trans ?_
  | with_reducible refine (foldl_but2 (fun _ _ => ?_) _ _).trans ?_
theorem sendAck_but {m} (hm : sub 8388608 m = true) (d : Dgram) (s : State) : (sendAck d s).but m = s.but m := but_mono hm (sendAck_but' d s)

theorem request_but' (peer : Nat) (typ : Nat) (payload : Bytes) (seqEnd : Nat) (s : State) : (request peer typ payload seqEnd s).but 8389120 = s.but 8389120 := by
  unfold request
  repeat' first
  | with_reducible rfl
  | simp (disch := first | exact Or.inr rfl | exact Or.inl rfl | decide) only [↓but_mk, ↓but_ite, ↓but_snd_ite, ↓but_snd_mk, ↓but_snd2_ite, ↓but_snd2_mk, ↓but_cond, ite_self, outOf_live, outOf_next, outOf_ite, ↓sendDgram_but]
  | split <;> try (with_reducible have h := congrArg Prod.snd ‹(_ : _ × State) = (_, _)›; dsimp only at h; subst h)
  | with_reducible refine (each_but (fun _ _ => ?_) _ _).trans ?_
  | with_reducible refine (whenS_but (fun _ => ?_) _ _).trans ?_
  | with_reducible refine (foldl_but (fun _ _ => ?_) _ _).trans ?_
  | with_reducible refine (foldl_but2 (fun _ _ => ?_) _ _).trans ?_
theorem request_but {m} (hm : sub 8389120 m = true) (peer : Nat) (typ : Nat) (payload : Bytes) (seqEnd : Nat) (s : State) : (request peer typ payload seqEnd s).but m = s.but m := but_mono hm (request_but' peer typ payload seqEnd s)

theorem setCtr_but' (c : Nat) (x : ScCtr) (s : State) : (setCtr c x s).but 4096 = s.but 4096 := by
  unfold setCtr
  repeat' first
  | with_reducible rfl
  | simp (disch := first | exact Or.inr rfl | exact Or.inl rfl | decide) only [↓but_mk, ↓but_ite, ↓but_snd_ite, ↓but_snd_mk, ↓but_snd2_ite, ↓but_snd2_mk, ↓but_cond, ite_self, outOf_live, outOf_next, outOf_ite]
  | split <;> try (with_reducible have h := congrArg Prod.snd ‹(_ : _ × State) = (_, _)›; dsimp only at h; subst h)
  | with_reducible refine (each_but (fun _ _ => ?_) _ _).trans ?_
  | with_reducible refine (whenS_but (fun _ => ?_) _ _).trans ?_
  | with_reducible refine (foldl_but (fun _ _ => ?_) _ _).trans ?_
  | with_reducible refine (foldl_but2 (fun _ _ => ?_) _ _).trans ?_
theorem setCtr_but {m} (hm : sub 4096 m = true) (c : Nat) (x : ScCtr) (s : State) : (setCtr c x s).but m = s.but m := but_mono hm (setCtr_but' c x s)

theorem fullEnds_but' (c : Nat) (p : Party) (s : State) : (fullEnds c p s).but 1053312 = s.but 1053312 := by
  unfold fullEnds
  repeat' first
  | with_reducible rfl
  | simp (disch := first | exact Or.inr rfl | exact Or.inl rfl | decide) only [↓but_mk, ↓but_ite, ↓but_snd_ite, ↓but_snd_mk, ↓but_snd2_ite, ↓but_snd2_mk, ↓but_cond, ite_self, outOf_live, outOf_next, outOf_ite, ↓emit_but]
  | split <;> try (with_reducible have h := congrArg Prod.snd ‹(_ : _ × State) = (_, _)›; dsimp only at h; subst h)
  | with_reducible refine (each_but (fun _ _ => ?_) _ _).trans ?_
  | with_reducible refine (whenS_but (fun _ => ?_) _ _).trans ?_
  | with_reducible refine (foldl_but (fun _ _ => ?_) _ _).trans ?_
  | with_reducible refine (foldl_but2 (fun _ _ => ?_) _ _).trans ?_
theorem fullEnds_but {m} (hm : sub 1053312 m = true) (c : Nat) (p : Party) (s : State) : (fullEnds c p s).but m = s.but m := but_mono hm (fullEnds_but' c p s)

theorem noSlot_but' (c : Nat) (p : Party) (s : State) : (noSlot c p s).but 1053312 = s.but 1053312 := by
  unfold noSlot
  repeat' first
  | with_reducible rfl
  | simp (disch := first | exact Or.inr rfl | exact Or.inl rfl | decide) only [↓but_mk, ↓but_ite, ↓but_snd_ite, ↓but_snd_mk, ↓but_snd2_ite, ↓but_snd2_mk, ↓but_cond, ite_self, outOf_live, outOf_next, outOf_ite, ↓emit_but]
  | split <;> try (with_reducible have h := congrArg Prod.snd ‹(_ : _ × State) = (_, _)›; dsimp only at h; subst h)
  | with_reducible refine (each_but (fun _ _ => ?_) _ _).trans ?_
  | with_reducible refine (whenS_but (fun _ => ?_) _ _).trans ?_
  | with_reducible refine (foldl_but (fun _ _ => ?_) _ _).trans ?_
  | with_reducible refine (foldl_but2 (fun _ _ => ?_) _ _).trans ?_
theorem noSlot_but {m} (hm : sub 1053312 m = true) (c : Nat) (p : Party) (s : State) : (noSlot c p s).but m = s.but m := but_mono hm (noSlot_but' c p s)

theorem deliver_but' (op : Nat) (k : ScCall) (st : Nat) (det : Nat) (v : Nat) (s : State) : (deliver op k st det v s).but 4096 = s.but 4096 := by
  unfold deliver
  repeat' first
  | with_reducible rfl
  | simp (disch := first | exact Or.inr rfl | exact Or.inl rfl | decide) only [↓but_mk, ↓but_ite, ↓but_snd_ite, ↓but_snd_mk, ↓but_snd2_ite, ↓but_snd2_mk, ↓but_cond, ite_self, outOf_live, outOf_next, outOf_ite]
  | split <;> try (with_reducible have h := congrArg Prod.snd ‹(_ : _ × State) = (_, _)›; dsimp only at h; subst h)
  | with_reducible refine (each_but (fun _ _ => ?_) _ _).trans ?_
  | with_reducible refine (whenS_but (fun _ => ?_) _ _).trans ?_
  | with_reducible refine (foldl_but (fun _ _ => ?_) _ _).trans ?_
  | with_reducible refine (foldl_but2 (fun _ _ => ?_) _ _).trans ?_
theorem deliver_but {m} (hm : sub 4096 m = true) (op : Nat) (k : ScCall) (st : Nat) (det : Nat) (v : Nat) (s : State) : (deliver op k st det v s).but m = s.but m := but_mono hm (deliver_but' op k st det v s)

theorem addSpin_but' (w : ScWaiter) (s : State) : (addSpin w s).but 4096 = s.but 4096 := by
  unfold addSpin
  repeat' first
  | with_reducible rfl
  | simp (disch := first | exact Or.inr rfl | exact Or.inl rfl | decide) only [↓but_mk, ↓but_ite, ↓but_snd_ite, ↓but_snd_mk, ↓but_snd2_ite, ↓but_snd2_mk, ↓but_cond, ite_self, outOf_live, outOf_next, outOf_ite]
  | split <;> try (with_reducible have h := congrArg Prod.snd ‹(_ : _ × State) = (_, _)›; dsimp only at h; subst h)
  | with_reducible refine (each_but (fun _ _ => ?_) _ _).trans ?_
  | with_reducible refine (whenS_but (fun _ => ?_) _ _).trans ?_
  | with_reducible refine (foldl_but (fun _ _ => ?_) _ _).trans ?_
  | with_reducible refine (foldl_but2 (fun _ _ => ?_) _ _).trans ?_
theorem addSpin_but {m} (hm : sub 4096 m = true) (w : ScWaiter) (s : State) : (addSpin w s).but m = s.but m := but_mono hm (addSpin_but' w s)

theorem serveWaiters_but' (c : Nat) (s : State) : (serveWaiters c s).but 1053312 = s.but 1053312 := by
  unfold serveWaiters
  repeat' first
  | with_reducible rfl
  | simp (disch := first | exact Or.inr rfl | exact Or.inl rfl | decide) only [↓but_mk, ↓but_ite, ↓but_snd_ite, ↓but_snd_mk, ↓but_snd2_ite, ↓but_snd2_mk, ↓but_cond, ite_self, outOf_live, outOf_next, outOf_ite, ↓setCtr_but, ↓fullEnds_but, ↓addSpin_but, ↓deliver_but]
  | split <;> try (with_reducible have h := congrArg Prod.snd ‹(_ : _ × State) = (_, _)›; dsimp only at h; subst h)
  | with_reducible refine (each_but (fun _ _ => ?_) _ _).trans ?_
  | with_reducible refine (whenS_but (fun _ => ?_) _ _).trans ?_
  | with_reducible refine (foldl_but (fun _ _ => ?_) _ _).trans ?_
  | with_reducible refine (foldl_but2 (fun _ _ => ?_) _ _).trans ?_
theorem serveWaiters_but {m} (hm : sub 1053312 m = true) (c : Nat) (s : State) : (serveWaiters c s).but m = s.but m := but_mono hm (serveWaiters_but' c s)

theorem flushNotify_but' (p : Nat) (s : State) : (flushNotify p s).but 8393216 = s.but 8393216 := by
  unfold flushNotify
  repeat' first
  | with_reducible rfl
  | simp (disch := first | exact Or.inr rfl | exact Or.inl rfl | decide) only [↓but_mk, ↓but_ite, ↓but_snd_ite, ↓but_snd_mk, ↓but_snd2_ite, ↓but_snd2_mk, ↓but_cond, ite_self, outOf_live, outOf_next, outOf_ite, ↓request_but]
  | split <;> try (with_reducible have h := congrArg Prod.snd ‹(_ : _ × State) = (_, _)›; dsimp only at h; subst h)
  | with_reducible refine (each_but (fun _ _ => ?_) _ _).trans ?_
  | with_reducible refine (whenS_but (fun _ => ?_) _ _).trans ?_
  | with_reducible refine (foldl_but (fun _ _ => ?_) _ _).trans ?_
  | with_reducible refine (foldl_but2 (fun _ _ => ?_) _ _).trans ?_
theorem flushNotify_but {m} (hm : sub 8393216 m = true) (p : Nat) (s : State) : (flushNotify p s).but m = s.but m := but_mono hm (flushNotify_but' p s)

theorem notifyWatch_but' (w : Nat) (x : ScWatch) (v0 : Nat) (used : Nat) (s : State) : (notifyWatch w x v0 used s).but 8393216 = s.but 8393216 := by
  unfold notifyWatch
  repeat' first
  | with_reducible rfl
  | simp (disch := first | exact Or.inr rfl | exact Or.inl rfl | decide) only [↓but_mk, ↓but_ite, ↓but_snd_ite, ↓but_snd_mk, ↓but_snd2_ite, ↓but_snd2_mk, ↓but_cond, ite_self, outOf_live, outOf_next, outOf_ite, ↓flushNotify_but]
  | split <;> try (with_reducible have h := congrArg Prod.snd ‹(_ : _ × State) = (_, _)›; dsimp only at h; subst h)
  | with_reducible refine (each_but (fun _ _ => ?_) _ _).trans ?_
  | with_reducible refine (whenS_but (fun _ => ?_) _ _).trans ?_
  | with_reducible refine (foldl_but (fun _ _ => ?_) _ _).trans ?_
  | with_reducible refine (foldl_but2 (fun _ _ => ?_) _ _).trans ?_
theorem notifyWatch_but {m} (hm : sub 8393216 m = true) (w : Nat) (x : ScWatch) (v0 : Nat) (used : Nat) (s : State) : (notifyWatch w x v0 used s).but m = s.but m := but_mono hm (notifyWatch_but' w x v0 used s)

theorem actWatch_but' (vOld : Nat) (v0 : Nat) (w : Nat) (s : State) : (actWatch vOld v0 w s).but 8393216 = s.but 8393216 := by
  unfold actWatch
  repeat' first
  | with_reducible rfl
  | simp (disch := first | exact Or.inr rfl | exact Or.inl rfl | decide) only [↓but_mk, ↓but_ite, ↓but_snd_ite, ↓but_snd_mk, ↓but_snd2_ite, ↓but_snd2_mk, ↓but_cond, ite_self, outOf_live, outOf_next, outOf_ite, ↓notifyWatch_but, ↓setCtr_but]
  | split <;> try (with_reducible have h := congrArg Prod.snd ‹(_ : _ × State) = (_, _)›; dsimp only at h; subst h)
  | with_reducible refine (each_but (fun _ _ => ?_) _ _).trans ?_
  | with_reducible refine (whenS_but (fun _ => ?_) _ _).trans ?_
  | with_reducible refine (foldl_but (fun _ _ => ?_) _ _).trans ?_
  | with_reducible refine (foldl_but2 (fun _ _ => ?_) _ _).trans ?_
theorem actWatch_but {m} (hm : sub 8393216 m = true) (vOld : Nat) (v0 : Nat) (w : Nat) (s : State) : (actWatch vOld v0 w s).but m = s.but m := but_mono hm (actWatch_but' vOld v0 w s)

theorem serveWatches_but' (c : Nat) (vOld : Nat) (v0 : Nat) (s : State) : (serveWatches c vOld v0 s).but 8393216 = s.but 8393216 := by
  unfold serveWatches
  repeat' first
  | with_reducible rfl
  | simp (disch := first | exact Or.inr rfl | exact Or.inl rfl | decide) only [↓but_mk, ↓but_ite, ↓but_snd_ite, ↓but_snd_mk, ↓but_snd2_ite, ↓but_snd2_mk, ↓but_cond, ite_self, outOf_live, outOf_next, outOf_ite, ↓actWatch_but]
  | split <;> try (with_reducible have h := congrArg Prod.snd ‹(_ : _ × State) = (_, _)›; dsimp only at h; subst h)
  | with_reducible refine (each_but (fun _ _ => ?_) _ _).trans ?_
  | with_reducible refine (whenS_but (fun _ => ?_) _ _).trans ?_
  | with_reducible refine (foldl_but (fun _ _ => ?_) _ _).trans ?_
  | with_reducible refine (foldl_but2 (fun _ _ => ?_) _ _).trans ?_
theorem serveWatches_but {m} (hm : sub 8393216 m = true) (c : Nat) (vOld : Nat) (v0 : Nat) (s : State) : (serveWatches c vOld v0 s).but m = s.but m := but_mono hm (serveWatches_but' c vOld v0 s)

theorem serveAll_but' (c : Nat) (vOld : Nat) (v0 : Nat) (s : State) : (serveAll c vOld v0 s).but 9441920 = s.but 9441920 := by
  unfold serveAll
  repeat' first
  | with_reducible rfl
  | simp (disch := first | exact Or.inr rfl | exact Or.inl rfl | decide) only [↓but_mk, ↓but_ite, ↓but_snd_ite, ↓but_snd_mk, ↓but_snd2_ite, ↓but_snd2_mk, ↓but_cond, ite_self, outOf_live, outOf_next, outOf_ite, ↓serveWatches_but, ↓serveWaiters_but]
  | split <;> try (with_reducible have h := congrArg Prod.snd ‹(_ : _ × State) = (_, _)›; dsimp only at h; subst h)
  | with_reducible refine (each_but (fun _ _ => ?_) _ _).trans ?_
  | with_reducible refine (whenS_but (fun _ => ?_) _ _).trans ?_
  | with_reducible refine (foldl_but (fun _ _ => ?_) _ _).trans ?_
  | with_reducible refine (foldl_but2 (fun _ _ => ?_) _ _).trans ?_
theorem serveAll_but {m} (hm : sub 9441920 m = true) (c : Nat) (vOld : Nat) (v0 : Nat) (s : State) : (serveAll c vOld v0 s).but m = s.but m := but_mono hm (serveAll_but' c vOld v0 s)

theorem disableWatches_but' (c : Nat) (s : State) : (disableWatches c s).but 4096 = s.but 4096 := by
  unfold disableWatches
  repeat' first
  | with_reducible rfl
  | simp (disch := first | exact Or.inr rfl | exact Or.inl rfl | decide) only [↓but_mk, ↓but_ite, ↓but_snd_ite, ↓but_snd_mk, ↓but_snd2_ite, ↓but_snd2_mk, ↓but_cond, ite_self, outOf_live, outOf_next, outOf_ite]
  | split <;> try (with_reducible have h := congrArg Prod.snd ‹(_ : _ × State) = (_, _)›; dsimp only at h; subst h)
  | with_reducible refine (each_but (fun _ _ => ?_) _ _).trans ?_
  | with_reducible refine (whenS_but (fun _ => ?_) _ _).trans ?_
  | with_reducible refine (foldl_but (fun _ _ => ?_) _ _).trans ?_
  | with_reducible refine (foldl_but2 (fun _ _ => ?_) _ _).trans ?_
theorem disableWatches_but {m} (hm : sub 4096 m = true) (c : Nat) (s : State) : (disableWatches c s).but m = s.but m := but_mono hm (disableWatches_but' c s)

theorem releaseWaiters_but' (c : Nat) (s : State) : (releaseWaiters c s).but 1053312 = s.but 1053312 := by
  unfold releaseWaiters
  repeat' first
  | with_reducible rfl
  | simp (disch := first | exact Or.inr rfl | exact Or.inl rfl | decide) only [↓but_mk, ↓but_ite, ↓but_snd_ite, ↓but_snd_mk, ↓but_snd2_ite, ↓but_snd2_mk, ↓but_cond, ite_self, outOf_live, outOf_next, outOf_ite, ↓fullEnds_but, ↓addSpin_but, ↓deliver_but, ↓setCtr_but]
  | split <;> try (with_reducible have h := congrArg Prod.snd ‹(_ : _ × State) = (_, _)›; dsimp only at h; subst h)
  | with_reducible refine (each_but (fun _ _ => ?_) _ _).trans ?_
  | with_reducible refine (whenS_but (fun _ => ?_) _ _).trans ?_
  | with_reducible refine (foldl_but (fun _ _ => ?_) _ _).trans ?_
  | with_reducible refine (foldl_but2 (fun _ _ => ?_) _ _).trans ?_
theorem releaseWaiters_but {m} (hm : sub 1053312 m = true) (c : Nat) (s : State) : (releaseWaiters c s).but m = s.but m := but_mono hm (releaseWaiters_but' c s)

theorem dropCtr_but' (cause : Nat) (c : Nat) (s : State) : (dropCtr cause c s).but 1053312 = s.but 1053312 := by
  unfold dropCtr
  repeat' first
  | with_reducible rfl
  | simp (disch := first | exact Or.inr rfl | exact Or.inl rfl | decide) only [↓but_mk, ↓but_ite, ↓but_snd_ite, ↓but_snd_mk, ↓but_snd2_ite, ↓but_snd2_mk, ↓but_cond, ite_self, outOf_live, outOf_next, outOf_ite, ↓setCtr_but, ↓emit_but, ↓disableWatches_but, ↓releaseWaiters_but]
  | split <;> try (with_reducible have h := congrArg Prod.snd ‹(_ : _ × State) = (_, _)›; dsimp only at h; subst h)
  | with_reducible refine (each_but (fun _ _ => ?_) _ _).trans ?_
  | with_reducible refine (whenS_but (fun _ => ?_) _ _).trans ?_
  | with_reducible refine (foldl_but (fun _ _ => ?_) _ _).trans ?_
  | with_reducible refine (foldl_but2 (fun _ _ => ?_) _ _).trans ?_
theorem dropCtr_but {m} (hm : sub 1053312 m = true) (cause : Nat) (c : Nat) (s : State) : (dropCtr cause c s).but m = s.but m := but_mono hm (dropCtr_but' cause c s)

theorem dropWhere_but' (cause : Nat) (f : ScCtr → Bool) (s : State) : (dropWhere cause f s).but 1053312 = s.but 1053312 := by
  unfold dropWhere
  repeat' first
  | with_reducible rfl
  | simp (disch := first | exact Or.inr rfl | exact Or.inl rfl | decide) only [↓but_mk, ↓but_ite, ↓but_snd_ite, ↓but_snd_mk, ↓but_snd2_ite, ↓but_snd2_mk, ↓but_cond, ite_self, outOf_live, outOf_next, outOf_ite, ↓dropCtr_but]
  | split <;> try (with_reducible have h := congrArg Prod.snd ‹(_ : _ × State) = (_, _)›; dsimp only at h; subst h)
  | with_reducible refine (each_but (fun _ _ => ?_) _ _).trans ?_
  | with_reducible refine (whenS_but (fun _ => ?_) _ _).trans ?_
  | with_reducible refine (foldl_but (fun _ _ => ?_) _ _).trans ?_
  | with_reducible refine (foldl_but2 (fun _ _ => ?_) _ _).trans ?_
theorem dropWhere_but {m} (hm : sub 1053312 m = true) (cause : Nat) (f : ScCtr → Bool) (s : State) : (dropWhere cause f s).but m = s.but m := but_mono hm (dropWhere_but' cause f s)

theorem dropOwner_but' (cause : Nat) (p : Party) (s : State) : (dropOwner cause p s).but 1053312 = s.but 1053312 := by
  unfold dropOwner
  repeat' first
  | with_reducible rfl
  | simp (disch := first | exact Or.inr rfl | exact Or.inl rfl | decide) only [↓but_mk, ↓but_ite, ↓but_snd_ite, ↓but_snd_mk, ↓but_snd2_ite, ↓but_snd2_mk, ↓but_cond, ite_self, outOf_live, outOf_next, outOf_ite, ↓dropWhere_but]
  | split <;> try (with_reducible have h := congrArg Prod.snd ‹(_ : _ × State) = (_, _)›; dsimp only at h; subst h)
  | with_reducible refine (each_but (fun _ _ => ?_) _ _).trans ?_
  | with_reducible refine (whenS_but (fun _ => ?_) _ _).trans ?_
  | with_reducible refine (foldl_but (fun _ _ => ?_) _ _).trans ?_
  | with_reducible refine (foldl_but2 (fun _ _ => ?_) _ _).trans ?_
theorem dropOwner_but {m} (hm : sub 1053312 m = true) (cause : Nat) (p : Party) (s : State) : (dropOwner cause p s).but m = s.but m := but_mono hm (dropOwner_but' cause p s)

theorem dropOwners_but' (cause : Nat) (f : Party → Bool) (s : State) : (dropOwners cause f s).but 1053312 = s.but 1053312 := by
  unfold dropOwners
  repeat' first
  | with_reducible rfl
  | simp (disch := first | exact Or.inr rfl | exact Or.inl rfl | decide) only [↓but_mk, ↓but_ite, ↓but_snd_ite, ↓but_snd_mk, ↓but_snd2_ite, ↓but_snd2_mk, ↓but_cond, ite_self, outOf_live, outOf_next, outOf_ite, ↓dropWhere_but]
  | split <;> try (with_reducible have h := congrArg Prod.snd ‹(_ : _ × State) = (_, _)›; dsimp only at h; subst h)
  | with_reducible refine (each_but (fun _ _ => ?_) _ _).trans ?_
  | with_reducible refine (whenS_but (fun _ => ?_) _ _).trans ?_
  | with_reducible refine (foldl_but (fun _ _ => ?_) _ _).trans ?_
  | with_reducible refine (foldl_but2 (fun _ _ => ?_) _ _).trans ?_
theorem dropOwners_but {m} (hm : sub 1053312 m = true) (cause : Nat) (f : Party → Bool) (s : State) : (dropOwners cause f s).but m = s.but m := but_mono hm (dropOwners_but' cause f s)

theorem enqueue_but' (c : Nat) (k : ScCall) (s : State) : (enqueue c k s).2.but 1053312 = s.but 1053312 := by
  unfold enqueue
  repeat' first
  | with_reducible rfl
  | simp (disch := first | exact Or.inr rfl | exact Or.inl rfl | decide) only [↓but_mk, ↓but_ite, ↓but_snd_ite, ↓but_snd_mk, ↓but_snd2_ite, ↓but_snd2_mk, ↓but_cond, ite_self, outOf_live, outOf_next, outOf_ite, ↓noSlot_but, ↓setCtr_but]
  | split <;> try (with_reducible have h := congrArg Prod.snd ‹(_ : _ × State) = (_, _)›; dsimp only at h; subst h)
  | with_reducible refine (each_but (fun _ _ => ?_) _ _).trans ?_
  | with_reducible refine (whenS_but (fun _ => ?_) _ _).trans ?_
  | with_reducible refine (foldl_but (fun _ _ => ?_) _ _).trans ?_
  | with_reducible refine (foldl_but2 (fun _ _ => ?_) _ _).trans ?_
theorem enqueue_but {m} (hm : sub 1053312 m = true) (c : Nat) (k : ScCall) (s : State) : (enqueue c k s).2.but m = s.but m := but_mono hm (enqueue_but' c k s)

theorem forgetXfer_but' (peer : Nat) (id : Nat) (s : State) : (forgetXfer peer id s).but 512 = s.but 512 := by
  unfold forgetXfer
  repeat' first
  | with_reducible rfl
  | simp (disch := first | exact Or.inr rfl | exact Or.inl rfl | decide) only [↓but_mk, ↓but_ite, ↓but_snd_ite, ↓but_snd_mk, ↓but_snd2_ite, ↓but_snd2_mk, ↓but_cond, ite_self, outOf_live, outOf_next, outOf_ite]
  | split <;> try (with_reducible have h := congrArg Prod.snd ‹(_ : _ × State) = (_, _)›; dsimp only at h; subst h)
  | with_reducible refine (each_but (fun _ _ => ?_) _ _).trans ?_
  | with_reducible refine (whenS_but (fun _ => ?_) _ _).trans ?_
  | with_reducible refine (foldl_but (fun _ _ => ?_) _ _).trans ?_
  | with_reducible refine (foldl_but2 (fun _ _ => ?_) _ _).trans ?_
theorem forgetXfer_but {m} (hm : sub 512 m = true) (peer : Nat) (id : Nat) (s : State) : (forgetXfer peer id s).but m = s.but m := but_mono hm (forgetXfer_but' peer id s)

theorem scSet_but' (k : ScCall) (s : State) : (scSet k s).2.but 9441920 = s.but 9441920 := by
  unfold scSet
  repeat' first
  | with_reducible rfl
  | simp (disch := first | exact Or.inr rfl | exact Or.inl rfl | decide) only [↓but_mk, ↓but_ite, ↓but_snd_ite, ↓but_snd_mk, ↓but_snd2_ite, ↓but_snd2_mk, ↓but_cond, ite_self, outOf_live, outOf_next, outOf_ite, ↓disableWatches_but, ↓releaseWaiters_but, ↓setCtr_but, ↓serveAll_but]
  | split <;> try (with_reducible have h := congrArg Prod.snd ‹(_ : _ × State) = (_, _)›; dsimp only at h; subst h)
  | with_reducible refine (each_but (fun _ _ => ?_) _ _).trans ?_
  | with_reducible refine (whenS_but (fun _ => ?_) _ _).trans ?_
  | with_reducible refine (foldl_but (fun _ _ => ?_) _ _).trans ?_
  | with_reducible refine (foldl_but2 (fun _ _ => ?_) _ _).trans ?_
theorem scSet_but {m} (hm : sub 9441920 m = true) (k : ScCall) (s : State) : (scSet k s).2.but m = s.but m := but_mono hm (scSet_but' k s)

theorem scRun_but' (op : Nat) (k : ScCall) (s : State) : (scRun op k s).2.but 9441920 = s.but 9441920 := by
  unfold scRun
  repeat' first
  | with_reducible rfl
  | simp (disch := first | exact Or.inr rfl | exact Or.inl rfl | decide) only [↓but_mk, ↓but_ite, ↓but_snd_ite, ↓but_snd_mk, ↓but_snd2_ite, ↓but_snd2_mk, ↓but_cond, ite_self, outOf_live, outOf_next, outOf_ite, ↓scSet_but, ↓serveAll_but, ↓setCtr_but, ↓emit_but, ↓enqueue_but]
  | split <;> try (with_reducible have h := congrArg Prod.snd ‹(_ : _ × State) = (_, _)›; dsimp only at h; subst h)
  | with_reducible refine (each_but (fun _ _ => ?_) _ _).trans ?_
  | with_reducible refine (whenS_but (fun _ => ?_) _ _).trans ?_
  | with_reducible refine (foldl_but (fun _ _ => ?_) _ _).trans ?_
  | with_reducible refine (foldl_but2 (fun _ _ => ?_) _ _).trans ?_
theorem scRun_but {m} (hm : sub 9441920 m = true) (op : Nat) (k : ScCall) (s : State) : (scRun op k s).2.but m = s.but m := but_mono hm (scRun_but' op k s)

theorem scApply_but' (op : Nat) (k : ScCall) (s : State) : (scApply op k s).2.but 9441920 = s.but 9441920 := by
  unfold scApply
  repeat' first
  | with_reducible rfl
  | simp (disch := first | exact Or.inr rfl | exact Or.inl rfl | decide) only [↓but_mk, ↓but_ite, ↓but_snd_ite, ↓but_snd_mk, ↓but_snd2_ite, ↓but_snd2_mk, ↓but_cond, ite_self, outOf_live, outOf_next, outOf_ite, ↓scRun_but]
  | split <;> try (with_reducible have h := congrArg Prod.snd ‹(_ : _ × State) = (_, _)›; dsimp only at h; subst h)
  | with_reducible refine (each_but (fun _ _ => ?_) _ _).trans ?_
  | with_reducible refine (whenS_but (fun _ => ?_) _ _).trans ?_
  | with_reducible refine (foldl_but (fun _ _ => ?_) _ _).trans ?_
  | with_reducible refine (foldl_but2 (fun _ _ => ?_) _ _).trans ?_
theorem scApply_but {m} (hm : sub 9441920 m = true) (op : Nat) (k : ScCall) (s : State) : (scApply op k s).2.but m = s.but m := but_mono hm (scApply_but' op k s)

theorem scOp_but' (op : Nat) (k : ScCall) (s : State) : (scOp op k s).2.but 9441920 = s.but 9441920 := by
  unfold scOp
  repeat' first
  | with_reducible rfl
  | simp (disch := first | exact Or.inr rfl | exact Or.inl rfl | decide) only [↓but_mk, ↓but_ite, ↓but_snd_ite, ↓but_snd_mk, ↓but_snd2_ite, ↓but_snd2_mk, ↓but_cond, ite_self, outOf_live, outOf_next, outOf_ite, ↓scApply_but, ↓noSlot_but, ↓forgetXfer_but]
  | split <;> try (with_reducible have h := congrArg Prod.snd ‹(_ : _ × State) = (_, _)›; dsimp only at h; subst h)
  | with_reducible refine (each_but (fun _ _ => ?_) _ _).trans ?_
  | with_reducible refine (whenS_but (fun _ => ?_) _ _).trans ?_
  | with_reducible refine (foldl_but (fun _ _ => ?_) _ _).trans ?_
  | with_reducible refine (foldl_but2 (fun _ _ => ?_) _ _).trans ?_
theorem scOp_but {m} (hm : sub 9441920 m = true) (op : Nat) (k : ScCall) (s : State) : (scOp op k s).2.but m = s.but m := but_mono hm (scOp_but' op k s)

theorem runRecord_but' (op : Nat) (k : ScCall) (s : State) : (runRecord op k s).but 9441920 = s.but 9441920 := by
  unfold runRecord
  repeat' first
  | with_reducible rfl
  | simp (disch := first | exact Or.inr rfl | exact Or.inl rfl | decide) only [↓but_mk, ↓but_ite, ↓but_snd_ite, ↓but_snd_mk, ↓but_snd2_ite, ↓but_snd2_mk, ↓but_cond, ite_self, outOf_live, outOf_next, outOf_ite, ↓scOp_but, ↓deliver_but]
  | split <;> try (with_reducible have h := congrArg Prod.snd ‹(_ : _ × State) = (_, _)›; dsimp only at h; subst h)
  | with_reducible refine (each_but (fun _ _ => ?_) _ _).trans ?_
  | with_reducible refine (whenS_but (fun _ => ?_) _ _).trans ?_
  | with_reducible refine (foldl_but (fun _ _ => ?_) _ _).trans ?_
  | with_reducible refine (foldl_but2 (fun _ _ => ?_) _ _).trans ?_
theorem runRecord_but {m} (hm : sub 9441920 m = true) (op : Nat) (k : ScCall) (s : State) : (runRecord op k s).but m = s.but m := but_mono hm (runRecord_but' op k s)

theorem runMsgs_but' (a1 : Nat) (a2 : State) : (runMsgs a1 a2).but 9441920 = a2.but 9441920 := by
  induction a1 generalizing a2 with
  | zero => rfl
  | succ n ih =>
    rw [runMsgs]
    split
    · rfl
    · split
      · rfl
      · dsimp only
        rw [ih, runRecord_but (by decide)]
        exact but_mk _ _ _ _ _ _ _ _ _ _ _ _ _ _ _ _ _ _ _ _ _ _ _ _ _ _ _ _ _ _ _ _ _ _ _ _ (Or.inl rfl) (Or.inl rfl) (Or.inl rfl) (Or.inl rfl) (Or.inl rfl) (Or.inl rfl) (Or.inl rfl) (Or.inl rfl) (Or.inl rfl) (Or.inl rfl) (Or.inl rfl) (Or.inl rfl) (Or.inr rfl) (Or.inl rfl) (Or.inl rfl) (Or.inl rfl) (Or.inl rfl) (Or.inl rfl) (Or.inl rfl) (Or.inl rfl) (Or.inl rfl) (Or.inl rfl) (Or.inl rfl) (Or.inl rfl) (Or.inl rfl) (Or.inl rfl) (Or.inl rfl) (Or.inl rfl) (Or.inl rfl) (Or.inl rfl) (Or.inl rfl) (Or.inl rfl) (Or.inl rfl) (Or.inl rfl)
theorem runMsgs_but {m} (hm : sub 9441920 m = true) (a1 : Nat) (a2 : State) : (runMsgs a1 a2).but m = a2.but m := but_mono hm (runMsgs_but' a1 a2)

theorem answerMsgs_but' (s : State) : (answerMsgs s).but 8393216 = s.but 8393216 := by
  unfold answerMsgs
  repeat' first
  | with_reducible rfl
  | simp (disch := first | exact Or.inr rfl | exact Or.inl rfl | decide) only [↓but_mk, ↓but_ite, ↓but_snd_ite, ↓but_snd_mk, ↓but_snd2_ite, ↓but_snd2_mk, ↓but_cond, ite_self, outOf_live, outOf_next, outOf_ite, ↓answer_but]
  | split <;> try (with_reducible have h := congrArg Prod.snd ‹(_ : _ × State) = (_, _)›; dsimp only at h; subst h)
  | with_reducible refine (each_but (fun _ _ => ?_) _ _).trans ?_
  | with_reducible refine (whenS_but (fun _ => ?_) _ _).trans ?_
  | with_reducible refine (foldl_but (fun _ _ => ?_) _ _).trans ?_
  | with_reducible refine (foldl_but2 (fun _ _ => ?_) _ _).trans ?_
theorem answerMsgs_but {m} (hm : sub 8393216 m = true) (s : State) : (answerMsgs s).but m = s.but m := but_mono hm (answerMsgs_but' s)

theorem settleMsgs_but' (s : State) : (settleMsgs s).but 9441920 = s.but 9441920 := by
  unfold settleMsgs
  repeat' first
  | with_reducible rfl
  | simp (disch := first | exact Or.inr rfl | exact Or.inl rfl | decide) only [↓but_mk, ↓but_ite, ↓but_snd_ite, ↓but_snd_mk, ↓but_snd2_ite, ↓but_snd2_mk, ↓but_cond, ite_self, outOf_live, outOf_next, outOf_ite, ↓answerMsgs_but, ↓runMsgs_but]
  | split <;> try (with_reducible have h := congrArg Prod.snd ‹(_ : _ × State) = (_, _)›; dsimp only at h; subst h)
  | with_reducible refine (each_but (fun _ _ => ?_) _ _).trans ?_
  | with_reducible refine (whenS_but (fun _ => ?_) _ _).trans ?_
  | with_reducible refine (foldl_but (fun _ _ => ?_) _ _).trans ?_
  | with_reducible refine (foldl_but2 (fun _ _ => ?_) _ _).trans ?_
theorem settleMsgs_but {m} (hm : sub 9441920 m = true) (s : State) : (settleMsgs s).but m = s.but m := but_mono hm (settleMsgs_but' s)

theorem scQuarantine_but' (s : State) : (scQuarantine s).but 9441984 = s.but 9441984 := by
  unfold scQuarantine
  repeat' first
  | with_reducible rfl
  | simp (disch := first | exact Or.inr rfl | exact Or.inl rfl | decide) only [↓but_mk, ↓but_ite, ↓but_snd_ite, ↓but_snd_mk, ↓but_snd2_ite, ↓but_snd2_mk, ↓but_cond, ite_self, outOf_live, outOf_next, outOf_ite, ↓emit_but, ↓settleMsgs_but, ↓dropWhere_but]
  | split <;> try (with_reducible have h := congrArg Prod.snd ‹(_ : _ × State) = (_, _)›; dsimp only at h; subst h)
  | with_reducible refine (each_but (fun _ _ => ?_) _ _).trans ?_
  | with_reducible refine (whenS_but (fun _ => ?_) _ _).trans ?_
  | with_reducible refine (foldl_but (fun _ _ => ?_) _ _).trans ?_
  | with_reducible refine (foldl_but2 (fun _ _ => ?_) _ _).trans ?_
theorem scQuarantine_but {m} (hm : sub 9441984 m = true) (s : State) : (scQuarantine s).but m = s.but m := but_mono hm (scQuarantine_but' s)

theorem countReject_but' (s : State) : (countReject s).but 512 = s.but 512 := by
  unfold countReject
  repeat' first
  | with_reducible rfl
  | simp (disch := first | exact Or.inr rfl | exact Or.inl rfl | decide) only [↓but_mk, ↓but_ite, ↓but_snd_ite, ↓but_snd_mk, ↓but_snd2_ite, ↓but_snd2_mk, ↓but_cond, ite_self, outOf_live, outOf_next, outOf_ite]
  | split <;> try (with_reducible have h := congrArg Prod.snd ‹(_ : _ × State) = (_, _)›; dsimp only at h; subst h)
  | with_reducible refine (each_but (fun _ _ => ?_) _ _).trans ?_
  | with_reducible refine (whenS_but (fun _ => ?_) _ _).trans ?_
  | with_reducible refine (foldl_but (fun _ _ => ?_) _ _).trans ?_
  | with_reducible refine (foldl_but2 (fun _ _ => ?_) _ _).trans ?_
theorem countReject_but {m} (hm : sub 512 m = true) (s : State) : (countReject s).but m = s.but m := but_mono hm (countReject_but' s)

theorem noteSession_but' (peer : Nat) (session : Nat) (s : State) : (noteSession peer session s).but 9441920 = s.but 9441920 := by
  unfold noteSession
  repeat' first
  | with_reducible rfl
  | simp (disch := first | exact Or.inr rfl | exact Or.inl rfl | decide) only [↓but_mk, ↓but_ite, ↓but_snd_ite, ↓but_snd_mk, ↓but_snd2_ite, ↓but_snd2_mk, ↓but_cond, ite_self, outOf_live, outOf_next, outOf_ite, ↓settleMsgs_but, ↓dropOwner_but]
  | split <;> try (with_reducible have h := congrArg Prod.snd ‹(_ : _ × State) = (_, _)›; dsimp only at h; subst h)
  | with_reducible refine (each_but (fun _ _ => ?_) _ _).trans ?_
  | with_reducible refine (whenS_but (fun _ => ?_) _ _).trans ?_
  | with_reducible refine (foldl_but (fun _ _ => ?_) _ _).trans ?_
  | with_reducible refine (foldl_but2 (fun _ _ => ?_) _ _).trans ?_
theorem noteSession_but {m} (hm : sub 9441920 m = true) (peer : Nat) (session : Nat) (s : State) : (noteSession peer session s).but m = s.but m := but_mono hm (noteSession_but' peer session s)

theorem tagBad_but' (p : PeerRec) (d : Dgram) (s : State) : (tagBad p d s).but 9438848 = s.but 9438848 := by
  unfold tagBad
  repeat' first
  | with_reducible rfl
  | simp (disch := first | exact Or.inr rfl | exact Or.inl rfl | decide) only [↓but_mk, ↓but_ite, ↓but_snd_ite, ↓but_snd_mk, ↓but_snd2_ite, ↓but_snd2_mk, ↓but_cond, ite_self, outOf_live, outOf_next, outOf_ite, ↓emit_but, ↓sendDgram_but]
  | split <;> try (with_reducible have h := congrArg Prod.snd ‹(_ : _ × State) = (_, _)›; dsimp only at h; subst h)
  | with_reducible refine (each_but (fun _ _ => ?_) _ _).trans ?_
  | with_reducible refine (whenS_but (fun _ => ?_) _ _).trans ?_
  | with_reducible refine (foldl_but (fun _ _ => ?_) _ _).trans ?_
  | with_reducible refine (foldl_but2 (fun _ _ => ?_) _ _).trans ?_
theorem tagBad_but {m} (hm : sub 9438848 m = true) (p : PeerRec) (d : Dgram) (s : State) : (tagBad p d s).but m = s.but m := but_mono hm (tagBad_but' p d s)

theorem accept_but' (typ : Nat) (d : Dgram) (s : State) : (accept typ d s).2.but 9442944 = s.but 9442944 := by
  unfold accept
  repeat' first
  | with_reducible rfl
  | simp (disch := first | exact Or.inr rfl | exact Or.inl rfl | decide) only [↓but_mk, ↓but_ite, ↓but_snd_ite, ↓but_snd_mk, ↓but_snd2_ite, ↓but_snd2_mk, ↓but_cond, ite_self, outOf_live, outOf_next, outOf_ite, ↓emit_but, ↓countReject_but, ↓tagBad_but, ↓noteSession_but]
  | split <;> try (with_reducible have h := congrArg Prod.snd ‹(_ : _ × State) = (_, _)›; dsimp only at h; subst h)
  | with_reducible refine (each_but (fun _ _ => ?_) _ _).trans ?_
  | with_reducible refine (whenS_but (fun _ => ?_) _ _).trans ?_
  | with_reducible refine (foldl_but (fun _ _ => ?_) _ _).trans ?_
  | with_reducible refine (foldl_but2 (fun _ _ => ?_) _ _).trans ?_
theorem accept_but {m} (hm : sub 9442944 m = true) (typ : Nat) (d : Dgram) (s : State) : (accept typ d s).2.but m = s.but m := but_mono hm (accept_but' typ d s)

theorem takeIn_but' (p : Nat) (d : Dgram) (s : State) : (takeIn p d s).2.but 8389120 = s.but 8389120 := by
  unfold takeIn
  repeat' first
  | with_reducible rfl
  | simp (disch := first | exact Or.inr rfl | exact Or.inl rfl | decide) only [↓but_mk, ↓but_ite, ↓but_snd_ite, ↓but_snd_mk, ↓but_snd2_ite, ↓but_snd2_mk, ↓but_cond, ite_self, outOf_live, outOf_next, outOf_ite, ↓sendDgram_but]
  | split <;> try (with_reducible have h := congrArg Prod.snd ‹(_ : _ × State) = (_, _)›; dsimp only at h; subst h)
  | with_reducible refine (each_but (fun _ _ => ?_) _ _).trans ?_
  | with_reducible refine (whenS_but (fun _ => ?_) _ _).trans ?_
  | with_reducible refine (foldl_but (fun _ _ => ?_) _ _).trans ?_
  | with_reducible refine (foldl_but2 (fun _ _ => ?_) _ _).trans ?_
theorem takeIn_but {m} (hm : sub 8389120 m = true) (p : Nat) (d : Dgram) (s : State) : (takeIn p d s).2.but m = s.but m := but_mono hm (takeIn_but' p d s)

theorem takeRequest_but' (typ : Nat) (right : Option Nat) (d : Dgram) (s : State) : (takeRequest typ right d s).2.but 9442944 = s.but 9442944 := by
  unfold takeRequest
  repeat' first
  | with_reducible rfl
  | simp (disch := first | exact Or.inr rfl | exact Or.inl rfl | decide) only [↓but_mk, ↓but_ite, ↓but_snd_ite, ↓but_snd_mk, ↓but_snd2_ite, ↓but_snd2_mk, ↓but_cond, ite_self, outOf_live, outOf_next, outOf_ite, ↓accept_but, ↓takeIn_but, ↓answer_but]
  | split <;> try (with_reducible have h := congrArg Prod.snd ‹(_ : _ × State) = (_, _)›; dsimp only at h; subst h)
  | with_reducible refine (each_but (fun _ _ => ?_) _ _).trans ?_
  | with_reducible refine (whenS_but (fun _ => ?_) _ _).trans ?_
  | with_reducible refine (foldl_but (fun _ _ => ?_) _ _).trans ?_
  | with_reducible refine (foldl_but2 (fun _ _ => ?_) _ _).trans ?_
theorem takeRequest_but {m} (hm : sub 9442944 m = true) (typ : Nat) (right : Option Nat) (d : Dgram) (s : State) : (takeRequest typ right d s).2.but m = s.but m := but_mono hm (takeRequest_but' typ right d s)

theorem withRequest_but {m} (hm : sub 9442944 m = true) {k : PeerRec → State → State} (hk : ∀ p t, (k p t).but m = t.but m) (typ : Nat) (right : Option Nat) (d : Dgram) (s : State) :
    (withRequest typ right d s k).but m = s.but m := by
  unfold withRequest
  repeat' first
  | with_reducible rfl
  | simp (disch := first | exact Or.inl rfl | exact Or.inr (sub_testBit hm _ (by decide)) | exact sub_trans (by decide) hm) only [↓but_mk, ↓but_ite, ↓but_snd_ite, ↓but_snd_mk, ↓but_snd2_ite, ↓but_snd2_mk, ↓but_cond, ite_self, outOf_live, outOf_next, outOf_ite, ↓takeRequest_but, hk]
  | split <;> try (with_reducible have h := congrArg Prod.snd ‹(_ : _ × State) = (_, _)›; dsimp only at h; subst h)

theorem tagAnswer_but' (p : PeerRec) (key : Bytes) (d : Dgram) (status : Nat) (detail : Nat) (payload : Bytes) (s : State) : (tagAnswer p key d status detail payload s).but 8390144 = s.but 8390144 := by
  unfold tagAnswer
  repeat' first
  | with_reducible rfl
  | simp (disch := first | exact Or.inr rfl | exact Or.inl rfl | decide) only [↓but_mk, ↓but_ite, ↓but_snd_ite, ↓but_snd_mk, ↓but_snd2_ite, ↓but_snd2_mk, ↓but_cond, ite_self, outOf_live, outOf_next, outOf_ite, ↓answerWith_but]
  | split <;> try (with_reducible have h := congrArg Prod.snd ‹(_ : _ × State) = (_, _)›; dsimp only at h; subst h)
  | with_reducible refine (each_but (fun _ _ => ?_) _ _).trans ?_
  | with_reducible refine (whenS_but (fun _ => ?_) _ _).trans ?_
  | with_reducible refine (foldl_but (fun _ _ => ?_) _ _).trans ?_
  | with_reducible refine (foldl_but2 (fun _ _ => ?_) _ _).trans ?_
theorem tagAnswer_but {m} (hm : sub 8390144 m = true) (p : PeerRec) (key : Bytes) (d : Dgram) (status : Nat) (detail : Nat) (payload : Bytes) (s : State) : (tagAnswer p key d status detail payload s).but m = s.but m := but_mono hm (tagAnswer_but' p key d status detail payload s)

theorem finishCmd_but' (d : Dgram) (status : Nat) (detail : Nat) (payload : Bytes) (s : State) : (finishCmd d status detail payload s).but 8390144 = s.but 8390144 := by
  unfold finishCmd
  repeat' first
  | with_reducible rfl
  | simp (disch := first | exact Or.inr rfl | exact Or.inl rfl | decide) only [↓but_mk, ↓but_ite, ↓but_snd_ite, ↓but_snd_mk, ↓but_snd2_ite, ↓but_snd2_mk, ↓but_cond, ite_self, outOf_live, outOf_next, outOf_ite, ↓tagAnswer_but]
  | split <;> try (with_reducible have h := congrArg Prod.snd ‹(_ : _ × State) = (_, _)›; dsimp only at h; subst h)
  | with_reducible refine (each_but (fun _ _ => ?_) _ _).trans ?_
  | with_reducible refine (whenS_but (fun _ => ?_) _ _).trans ?_
  | with_reducible refine (foldl_but (fun _ _ => ?_) _ _).trans ?_
  | with_reducible refine (foldl_but2 (fun _ _ => ?_) _ _).trans ?_
theorem finishCmd_but {m} (hm : sub 8390144 m = true) (d : Dgram) (status : Nat) (detail : Nat) (payload : Bytes) (s : State) : (finishCmd d status detail payload s).but m = s.but m := but_mono hm (finishCmd_but' d status detail payload s)

theorem critClose_but' (p : PeerRec) (key : Bytes) (code : Nat) (ctr : Nat) (d : Dgram) (res : CmdRes) (s : State) : (critClose p key code ctr d res s).but 9438848 = s.but 9438848 := by
  unfold critClose
  repeat' first
  | with_reducible rfl
  | simp (disch := first | exact Or.inr rfl | exact Or.inl rfl | decide) only [↓but_mk, ↓but_ite, ↓but_snd_ite, ↓but_snd_mk, ↓but_snd2_ite, ↓but_snd2_mk, ↓but_cond, ite_self, outOf_live, outOf_next, outOf_ite, ↓emit_but, ↓tagAnswer_but]
  | split <;> try (with_reducible have h := congrArg Prod.snd ‹(_ : _ × State) = (_, _)›; dsimp only at h; subst h)
  | with_reducible refine (each_but (fun _ _ => ?_) _ _).trans ?_
  | with_reducible refine (whenS_but (fun _ => ?_) _ _).trans ?_
  | with_reducible refine (foldl_but (fun _ _ => ?_) _ _).trans ?_
  | with_reducible refine (foldl_but2 (fun _ _ => ?_) _ _).trans ?_
theorem critClose_but {m} (hm : sub 9438848 m = true) (p : PeerRec) (key : Bytes) (code : Nat) (ctr : Nat) (d : Dgram) (res : CmdRes) (s : State) : (critClose p key code ctr d res s).but m = s.but m := but_mono hm (critClose_but' p key code ctr d res s)

theorem critTurnedAway_but' (p : PeerRec) (d : Dgram) (status : Nat) (s : State) : (critTurnedAway p d status s).but 8389120 = s.but 8389120 := by
  unfold critTurnedAway
  repeat' first
  | with_reducible rfl
  | simp (disch := first | exact Or.inr rfl | exact Or.inl rfl | decide) only [↓but_mk, ↓but_ite, ↓but_snd_ite, ↓but_snd_mk, ↓but_snd2_ite, ↓but_snd2_mk, ↓but_cond, ite_self, outOf_live, outOf_next, outOf_ite, ↓answerWith_but]
  | split <;> try (with_reducible have h := congrArg Prod.snd ‹(_ : _ × State) = (_, _)›; dsimp only at h; subst h)
  | with_reducible refine (each_but (fun _ _ => ?_) _ _).trans ?_
  | with_reducible refine (whenS_but (fun _ => ?_) _ _).trans ?_
  | with_reducible refine (foldl_but (fun _ _ => ?_) _ _).trans ?_
  | with_reducible refine (foldl_but2 (fun _ _ => ?_) _ _).trans ?_
theorem critTurnedAway_but {m} (hm : sub 8389120 m = true) (p : PeerRec) (d : Dgram) (status : Nat) (s : State) : (critTurnedAway p d status s).but m = s.but m := but_mono hm (critTurnedAway_but' p d status s)

theorem critExec_but {m} (hm : sub 9438848 m = true) {k : PeerRec → Nat → Bytes → State → CmdRes × State} (hk : ∀ p f a t, (k p f a t).2.but m = t.but m) (code args flags : Nat) (d : Dgram) (p : PeerRec) (r : Nat) (s : State) :
    (critExec code args flags d p r s k).but m = s.but m := by
  have hc : ∀ p key code ctr d res (u : State), (critClose p key code ctr d res u).but m = u.but m := critClose_but hm
  unfold critExec
  extract_lets ctr key
  split
  · exact hc ..
  split
  · exact hc ..
  · exact (hc ..).trans (hk ..)

theorem critSpend_but {m} (hm : sub 9442944 m = true) {k : PeerRec → Nat → Bytes → State → CmdRes × State} (hk : ∀ p f a t, (k p f a t).2.but m = t.but m) (code args flags : Nat) (d : Dgram) (p : PeerRec) (r : Nat) (s : State) :
    (critSpend code args flags d p r s k).but m = s.but m := by
  have hu : ∀ (x : KeyStore) (u : State), (sendAck d { u with ks := x }).but m = u.but m := by
    intro x u
    refine (sendAck_but (sub_trans (by decide) hm) ..).trans ?_
    simp (disch := first | exact Or.inl rfl | exact Or.inr (sub_testBit hm _ (by decide))) only [↓but_mk]
  have hw : ∀ (x : HlSt) (u : State), State.but m { u with hl := x } = u.but m := by
    intro x u; simp (disch := first | exact Or.inl rfl | exact Or.inr (sub_testBit hm _ (by decide))) only [↓but_mk]
  unfold critSpend
  extract_lets ctr x y u
  split
  · exact (hw ..).trans (hu ..)
  · exact (critExec_but (sub_trans (by decide) hm) hk ..).trans (hu ..)

theorem critKeyed_but {m} (hm : sub 9442944 m = true) {k : PeerRec → Nat → Bytes → State → CmdRes × State} (hk : ∀ p f a t, (k p f a t).2.but m = t.but m) (code args flags : Nat) (d : Dgram) (p : PeerRec) (r : Nat) (s : State) :
    (critKeyed code args flags d p r s k).but m = s.but m := by
  have hks : ∀ (x : KeyStore) (u : State), State.but m { u with ks := x } = u.but m := by
    intro x u; simp (disch := first | exact Or.inl rfl | exact Or.inr (sub_testBit hm _ (by decide))) only [↓but_mk]
  have he : ∀ c b a (u : State) cl, (emit c b a u cl).but m = u.but m := emit_but (sub_trans (by decide) hm)
  have hc : ∀ p key code ctr d res (u : State), (critClose p key code ctr d res u).but m = u.but m := critClose_but (sub_trans (by decide) hm)
  unfold critKeyed
  extract_lets ctr key
  split
  · exact critTurnedAway_but (sub_trans (by decide) hm) ..
  split
  · exact (answer_but (sub_trans (by decide) hm) ..).trans ((he ..).trans (hks ..))
  split
  · split
    · exact hc ..
    · exact critSpend_but hm hk ..
  split
  · exact answerWith_but (sub_trans (by decide) hm) ..
  · exact (hc ..).trans ((he ..).trans (hks ..))

theorem critical_but {m} (hm : sub 9442944 m = true) {k : PeerRec → Nat → Bytes → State → CmdRes × State} (hk : ∀ p f a t, (k p f a t).2.but m = t.but m) (code args flags : Nat) (d : Dgram) (s : State) :
    (critical code args flags d s k).but m = s.but m := by
  have h0 := takeRequest_but (sub_trans (by decide) hm) 0x30 none d s
  unfold critical
  generalize takeRequest 0x30 none d s = x at h0
  obtain ⟨p, u⟩ := x
  refine Eq.trans ?_ h0
  cases p with
  | none => rfl
  | some p =>
    dsimp only
    split
    · exact critTurnedAway_but (sub_trans (by decide) hm) ..
    split
    · exact critTurnedAway_but (sub_trans (by decide) hm) ..
    generalize (if hasRight p 5 = true then peerKey u p else none) = y
    cases y with
    | none => exact critTurnedAway_but (sub_trans (by decide) hm) ..
    | some r => exact critKeyed_but hm hk ..

theorem xferDenied_but' (p : Nat) (xfer : Nat) (s : State) : (xferDenied p xfer s).2.but 512 = s.but 512 := by
  unfold xferDenied
  repeat' first
  | with_reducible rfl
  | simp (disch := first | exact Or.inr rfl | exact Or.inl rfl | decide) only [↓but_mk, ↓but_ite, ↓but_snd_ite, ↓but_snd_mk, ↓but_snd2_ite, ↓but_snd2_mk, ↓but_cond, ite_self, outOf_live, outOf_next, outOf_ite]
  | split <;> try (with_reducible have h := congrArg Prod.snd ‹(_ : _ × State) = (_, _)›; dsimp only at h; subst h)
  | with_reducible refine (each_but (fun _ _ => ?_) _ _).trans ?_
  | with_reducible refine (whenS_but (fun _ => ?_) _ _).trans ?_
  | with_reducible refine (foldl_but (fun _ _ => ?_) _ _).trans ?_
  | with_reducible refine (foldl_but2 (fun _ _ => ?_) _ _).trans ?_
theorem xferDenied_but {m} (hm : sub 512 m = true) (p : Nat) (xfer : Nat) (s : State) : (xferDenied p xfer s).2.but m = s.but m := but_mono hm (xferDenied_but' p xfer s)

theorem signalGate_but {m} (hm : sub 512 m = true) {k : State → CmdRes × State} (hk : ∀ t, (k t).2.but m = t.but m) (p xfer len : Nat) (d : Dgram) (s : State) :
    (signalGate p xfer len d s k).2.but m = s.but m := by
  unfold signalGate
  repeat' first
  | with_reducible rfl
  | simp (disch := first | exact Or.inl rfl | exact Or.inr (sub_testBit hm _ (by decide)) | exact sub_trans (by decide) hm) only [↓but_mk, ↓but_ite, ↓but_snd_ite, ↓but_snd_mk, ↓but_snd2_ite, ↓but_snd2_mk, ↓but_cond, ite_self, outOf_live, outOf_next, outOf_ite, ↓xferDenied_but, ↓forgetXfer_but, hk]
  | split <;> try (with_reducible have h := congrArg Prod.snd ‹(_ : _ × State) = (_, _)›; dsimp only at h; subst h)
  | with_reducible refine (whenS_but (fun _ => ?_) _ _).trans ?_

end Sys2Proof.Machine
end

