-- ==== Sys2Proof/Laws/FrameLoop.lean ====
section
/-! SUPPORT. What each function can change (loop engines, swatch slots, field buses and roles): it leaves every part of State outside its mask as it was. -/

set_option linter.all false

namespace Sys2Proof.Machine

theorem setIn_but' (i : Nat) (x : InputSt) (s : State) : (setIn i x s).but 8192 = s.but 8192 := by
  unfold setIn
  repeat' first
  | with_reducible rfl
  | simp (disch := first | exact Or.inr rfl | exact Or.inl rfl | decide) only [↓but_mk, ↓but_ite, ↓but_snd_ite, ↓but_snd_mk, ↓but_snd2_ite, ↓but_snd2_mk, ↓but_cond, ite_self, outOf_live, outOf_next, outOf_ite]
  | split <;> try (with_reducible have h := congrArg Prod.snd ‹(_ : _ × State) = (_, _)›; dsimp only at h; subst h)
  | with_reducible refine (each_but (fun _ _ => ?_) _ _).trans ?_
  | with_reducible refine (whenS_but (fun _ => ?_) _ _).trans ?_
  | with_reducible refine (foldl_but (fun _ _ => ?_) _ _).trans ?_
  | with_reducible refine (foldl_but2 (fun _ _ => ?_) _ _).trans ?_
theorem setIn_but {m} (hm : sub 8192 m = true) (i : Nat) (x : InputSt) (s : State) : (setIn i x s).but m = s.but m := but_mono hm (setIn_but' i x s)

theorem setSw_but' (k : Nat) (x : SwSt) (s : State) : (setSw k x s).but 16384 = s.but 16384 := by
  unfold setSw
  repeat' first
  | with_reducible rfl
  | simp (disch := first | exact Or.inr rfl | exact Or.inl rfl | decide) only [↓but_mk, ↓but_ite, ↓but_snd_ite, ↓but_snd_mk, ↓but_snd2_ite, ↓but_snd2_mk, ↓but_cond, ite_self, outOf_live, outOf_next, outOf_ite]
  | split <;> try (with_reducible have h := congrArg Prod.snd ‹(_ : _ × State) = (_, _)›; dsimp only at h; subst h)
  | with_reducible refine (each_but (fun _ _ => ?_) _ _).trans ?_
  | with_reducible refine (whenS_but (fun _ => ?_) _ _).trans ?_
  | with_reducible refine (foldl_but (fun _ _ => ?_) _ _).trans ?_
  | with_reducible refine (foldl_but2 (fun _ _ => ?_) _ _).trans ?_
theorem setSw_but {m} (hm : sub 16384 m = true) (k : Nat) (x : SwSt) (s : State) : (setSw k x s).but m = s.but m := but_mono hm (setSw_but' k x s)

theorem setCh_but' (c : Nat) (x : ChanSt) (s : State) : (setCh c x s).but 8192 = s.but 8192 := by
  unfold setCh
  repeat' first
  | with_reducible rfl
  | simp (disch := first | exact Or.inr rfl | exact Or.inl rfl | decide) only [↓but_mk, ↓but_ite, ↓but_snd_ite, ↓but_snd_mk, ↓but_snd2_ite, ↓but_snd2_mk, ↓but_cond, ite_self, outOf_live, outOf_next, outOf_ite]
  | split <;> try (with_reducible have h := congrArg Prod.snd ‹(_ : _ × State) = (_, _)›; dsimp only at h; subst h)
  | with_reducible refine (each_but (fun _ _ => ?_) _ _).trans ?_
  | with_reducible refine (whenS_but (fun _ => ?_) _ _).trans ?_
  | with_reducible refine (foldl_but (fun _ _ => ?_) _ _).trans ?_
  | with_reducible refine (foldl_but2 (fun _ _ => ?_) _ _).trans ?_
theorem setCh_but {m} (hm : sub 8192 m = true) (c : Nat) (x : ChanSt) (s : State) : (setCh c x s).but m = s.but m := but_mono hm (setCh_but' c x s)

theorem setSp_but' (c : Nat) (x : ChanSp) (s : State) : (setSp c x s).but 8192 = s.but 8192 := by
  unfold setSp
  repeat' first
  | with_reducible rfl
  | simp (disch := first | exact Or.inr rfl | exact Or.inl rfl | decide) only [↓but_mk, ↓but_ite, ↓but_snd_ite, ↓but_snd_mk, ↓but_snd2_ite, ↓but_snd2_mk, ↓but_cond, ite_self, outOf_live, outOf_next, outOf_ite]
  | split <;> try (with_reducible have h := congrArg Prod.snd ‹(_ : _ × State) = (_, _)›; dsimp only at h; subst h)
  | with_reducible refine (each_but (fun _ _ => ?_) _ _).trans ?_
  | with_reducible refine (whenS_but (fun _ => ?_) _ _).trans ?_
  | with_reducible refine (foldl_but (fun _ _ => ?_) _ _).trans ?_
  | with_reducible refine (foldl_but2 (fun _ _ => ?_) _ _).trans ?_
theorem setSp_but {m} (hm : sub 8192 m = true) (c : Nat) (x : ChanSp) (s : State) : (setSp c x s).but m = s.but m := but_mono hm (setSp_but' c x s)

theorem swErr_but' (base : Nat) (k : Nat) (s : State) : (swErr base k s).but 1049088 = s.but 1049088 := by
  unfold swErr
  repeat' first
  | with_reducible rfl
  | simp (disch := first | exact Or.inr rfl | exact Or.inl rfl | decide) only [↓but_mk, ↓but_ite, ↓but_snd_ite, ↓but_snd_mk, ↓but_snd2_ite, ↓but_snd2_mk, ↓but_cond, ite_self, outOf_live, outOf_next, outOf_ite, ↓setErr_but]
  | split <;> try (with_reducible have h := congrArg Prod.snd ‹(_ : _ × State) = (_, _)›; dsimp only at h; subst h)
  | with_reducible refine (each_but (fun _ _ => ?_) _ _).trans ?_
  | with_reducible refine (whenS_but (fun _ => ?_) _ _).trans ?_
  | with_reducible refine (foldl_but (fun _ _ => ?_) _ _).trans ?_
  | with_reducible refine (foldl_but2 (fun _ _ => ?_) _ _).trans ?_
theorem swErr_but {m} (hm : sub 1049088 m = true) (base : Nat) (k : Nat) (s : State) : (swErr base k s).but m = s.but m := but_mono hm (swErr_but' base k s)

theorem swClose_but' (k : Nat) (e : Nat) (s : State) : (swClose k e s).but 1065472 = s.but 1065472 := by
  unfold swClose
  repeat' first
  | with_reducible rfl
  | simp (disch := first | exact Or.inr rfl | exact Or.inl rfl | decide) only [↓but_mk, ↓but_ite, ↓but_snd_ite, ↓but_snd_mk, ↓but_snd2_ite, ↓but_snd2_mk, ↓but_cond, ite_self, outOf_live, outOf_next, outOf_ite, ↓swErr_but, ↓setSw_but]
  | split <;> try (with_reducible have h := congrArg Prod.snd ‹(_ : _ × State) = (_, _)›; dsimp only at h; subst h)
  | with_reducible refine (each_but (fun _ _ => ?_) _ _).trans ?_
  | with_reducible refine (whenS_but (fun _ => ?_) _ _).trans ?_
  | with_reducible refine (foldl_but (fun _ _ => ?_) _ _).trans ?_
  | with_reducible refine (foldl_but2 (fun _ _ => ?_) _ _).trans ?_
theorem swClose_but {m} (hm : sub 1065472 m = true) (k : Nat) (e : Nat) (s : State) : (swClose k e s).but m = s.but m := but_mono hm (swClose_but' k e s)

theorem swTail_but' (k : Nat) (s : State) : (swTail k s).but 1065472 = s.but 1065472 := by
  unfold swTail
  repeat' first
  | with_reducible rfl
  | simp (disch := first | exact Or.inr rfl | exact Or.inl rfl | decide) only [↓but_mk, ↓but_ite, ↓but_snd_ite, ↓but_snd_mk, ↓but_snd2_ite, ↓but_snd2_mk, ↓but_cond, ite_self, outOf_live, outOf_next, outOf_ite, ↓swClose_but, ↓setSw_but]
  | split <;> try (with_reducible have h := congrArg Prod.snd ‹(_ : _ × State) = (_, _)›; dsimp only at h; subst h)
  | with_reducible refine (each_but (fun _ _ => ?_) _ _).trans ?_
  | with_reducible refine (whenS_but (fun _ => ?_) _ _).trans ?_
  | with_reducible refine (foldl_but (fun _ _ => ?_) _ _).trans ?_
  | with_reducible refine (foldl_but2 (fun _ _ => ?_) _ _).trans ?_
theorem swTail_but {m} (hm : sub 1065472 m = true) (k : Nat) (s : State) : (swTail k s).but m = s.but m := but_mono hm (swTail_but' k s)

theorem swResume_but' (x : SwSt) (s : State) : (swResume x s).but 8192 = s.but 8192 := by
  unfold swResume
  repeat' first
  | with_reducible rfl
  | simp (disch := first | exact Or.inr rfl | exact Or.inl rfl | decide) only [↓but_mk, ↓but_ite, ↓but_snd_ite, ↓but_snd_mk, ↓but_snd2_ite, ↓but_snd2_mk, ↓but_cond, ite_self, outOf_live, outOf_next, outOf_ite, ↓setCh_but]
  | split <;> try (with_reducible have h := congrArg Prod.snd ‹(_ : _ × State) = (_, _)›; dsimp only at h; subst h)
  | with_reducible refine (each_but (fun _ _ => ?_) _ _).trans ?_
  | with_reducible refine (whenS_but (fun _ => ?_) _ _).trans ?_
  | with_reducible refine (foldl_but (fun _ _ => ?_) _ _).trans ?_
  | with_reducible refine (foldl_but2 (fun _ _ => ?_) _ _).trans ?_
theorem swResume_but {m} (hm : sub 8192 m = true) (x : SwSt) (s : State) : (swResume x s).but m = s.but m := but_mono hm (swResume_but' x s)

theorem swAbort_but' (k : Nat) (cause : Nat) (s : State) : (swAbort k cause s).but 1073792 = s.but 1073792 := by
  unfold swAbort
  repeat' first
  | with_reducible rfl
  | simp (disch := first | exact Or.inr rfl | exact Or.inl rfl | decide) only [↓but_mk, ↓but_ite, ↓but_snd_ite, ↓but_snd_mk, ↓but_snd2_ite, ↓but_snd2_mk, ↓but_cond, ite_self, outOf_live, outOf_next, outOf_ite, ↓swResume_but, ↓setSw_but, ↓swTail_but, ↓swErr_but, ↓emit_but]
  | split <;> try (with_reducible have h := congrArg Prod.snd ‹(_ : _ × State) = (_, _)›; dsimp only at h; subst h)
  | with_reducible refine (each_but (fun _ _ => ?_) _ _).trans ?_
  | with_reducible refine (whenS_but (fun _ => ?_) _ _).trans ?_
  | with_reducible refine (foldl_but (fun _ _ => ?_) _ _).trans ?_
  | with_reducible refine (foldl_but2 (fun _ _ => ?_) _ _).trans ?_
theorem swAbort_but {m} (hm : sub 1073792 m = true) (k : Nat) (cause : Nat) (s : State) : (swAbort k cause s).but m = s.but m := but_mono hm (swAbort_but' k cause s)

theorem swAbortAll_but' (cause : Nat) (f : SwSt → Bool) (s : State) : (swAbortAll cause f s).but 1073792 = s.but 1073792 := by
  unfold swAbortAll
  repeat' first
  | with_reducible rfl
  | simp (disch := first | exact Or.inr rfl | exact Or.inl rfl | decide) only [↓but_mk, ↓but_ite, ↓but_snd_ite, ↓but_snd_mk, ↓but_snd2_ite, ↓but_snd2_mk, ↓but_cond, ite_self, outOf_live, outOf_next, outOf_ite, ↓swAbort_but]
  | split <;> try (with_reducible have h := congrArg Prod.snd ‹(_ : _ × State) = (_, _)›; dsimp only at h; subst h)
  | with_reducible refine (each_but (fun _ _ => ?_) _ _).trans ?_
  | with_reducible refine (whenS_but (fun _ => ?_) _ _).trans ?_
  | with_reducible refine (foldl_but (fun _ _ => ?_) _ _).trans ?_
  | with_reducible refine (foldl_but2 (fun _ _ => ?_) _ _).trans ?_
theorem swAbortAll_but {m} (hm : sub 1073792 m = true) (cause : Nat) (f : SwSt → Bool) (s : State) : (swAbortAll cause f s).but m = s.but m := but_mono hm (swAbortAll_but' cause f s)

theorem swBegin_but' (c : Nat) (s : State) : (swBegin c s).but 1065600 = s.but 1065600 := by
  unfold swBegin
  repeat' first
  | with_reducible rfl
  | simp (disch := first | exact Or.inr rfl | exact Or.inl rfl | decide) only [↓but_mk, ↓but_ite, ↓but_snd_ite, ↓but_snd_mk, ↓but_snd2_ite, ↓but_snd2_mk, ↓but_cond, ite_self, outOf_live, outOf_next, outOf_ite, ↓emit_but, ↓setSw_but]
  | split <;> try (with_reducible have h := congrArg Prod.snd ‹(_ : _ × State) = (_, _)›; dsimp only at h; subst h)
  | with_reducible refine (each_but (fun _ _ => ?_) _ _).trans ?_
  | with_reducible refine (whenS_but (fun _ => ?_) _ _).trans ?_
  | with_reducible refine (foldl_but (fun _ _ => ?_) _ _).trans ?_
  | with_reducible refine (foldl_but2 (fun _ _ => ?_) _ _).trans ?_
theorem swBegin_but {m} (hm : sub 1065600 m = true) (c : Nat) (s : State) : (swBegin c s).but m = s.but m := but_mono hm (swBegin_but' c s)

theorem swOnlyAbort_but' (c : Nat) (s : State) : (swOnlyAbort c s).but 1073792 = s.but 1073792 := by
  unfold swOnlyAbort
  repeat' first
  | with_reducible rfl
  | simp (disch := first | exact Or.inr rfl | exact Or.inl rfl | decide) only [↓but_mk, ↓but_ite, ↓but_snd_ite, ↓but_snd_mk, ↓but_snd2_ite, ↓but_snd2_mk, ↓but_cond, ite_self, outOf_live, outOf_next, outOf_ite, ↓swAbortAll_but]
  | split <;> try (with_reducible have h := congrArg Prod.snd ‹(_ : _ × State) = (_, _)›; dsimp only at h; subst h)
  | with_reducible refine (each_but (fun _ _ => ?_) _ _).trans ?_
  | with_reducible refine (whenS_but (fun _ => ?_) _ _).trans ?_
  | with_reducible refine (foldl_but (fun _ _ => ?_) _ _).trans ?_
  | with_reducible refine (foldl_but2 (fun _ _ => ?_) _ _).trans ?_
theorem swOnlyAbort_but {m} (hm : sub 1073792 m = true) (c : Nat) (s : State) : (swOnlyAbort c s).but m = s.but m := but_mono hm (swOnlyAbort_but' c s)

theorem swBefore_but' (c : Nat) (pv : Option Int) (unk : Bool) (s : State) : (swBefore c pv unk s).2.but 1073792 = s.but 1073792 := by
  unfold swBefore
  repeat' first
  | with_reducible rfl
  | simp (disch := first | exact Or.inr rfl | exact Or.inl rfl | decide) only [↓but_mk, ↓but_ite, ↓but_snd_ite, ↓but_snd_mk, ↓but_snd2_ite, ↓but_snd2_mk, ↓but_cond, ite_self, outOf_live, outOf_next, outOf_ite, ↓swOnlyAbort_but, ↓swBegin_but, ↓setSw_but, ↓swResume_but, ↓swAbort_but]
  | split <;> try (with_reducible have h := congrArg Prod.snd ‹(_ : _ × State) = (_, _)›; dsimp only at h; subst h)
  | with_reducible refine (each_but (fun _ _ => ?_) _ _).trans ?_
  | with_reducible refine (whenS_but (fun _ => ?_) _ _).trans ?_
  | with_reducible refine (foldl_but (fun _ _ => ?_) _ _).trans ?_
  | with_reducible refine (foldl_but2 (fun _ _ => ?_) _ _).trans ?_
theorem swBefore_but {m} (hm : sub 1073792 m = true) (c : Nat) (pv : Option Int) (unk : Bool) (s : State) : (swBefore c pv unk s).2.but m = s.but m := but_mono hm (swBefore_but' c pv unk s)

theorem swTakeRec_but' (k : Nat) (s : State) : (swTakeRec k s).but 1065472 = s.but 1065472 := by
  unfold swTakeRec
  repeat' first
  | with_reducible rfl
  | simp (disch := first | exact Or.inr rfl | exact Or.inl rfl | decide) only [↓but_mk, ↓but_ite, ↓but_snd_ite, ↓but_snd_mk, ↓but_snd2_ite, ↓but_snd2_mk, ↓but_cond, ite_self, outOf_live, outOf_next, outOf_ite, ↓setSw_but, ↓swClose_but]
  | split <;> try (with_reducible have h := congrArg Prod.snd ‹(_ : _ × State) = (_, _)›; dsimp only at h; subst h)
  | with_reducible refine (each_but (fun _ _ => ?_) _ _).trans ?_
  | with_reducible refine (whenS_but (fun _ => ?_) _ _).trans ?_
  | with_reducible refine (foldl_but (fun _ _ => ?_) _ _).trans ?_
  | with_reducible refine (foldl_but2 (fun _ _ => ?_) _ _).trans ?_
theorem swTakeRec_but {m} (hm : sub 1065472 m = true) (k : Nat) (s : State) : (swTakeRec k s).but m = s.but m := but_mono hm (swTakeRec_but' k s)

theorem swCapture_but' (k : Nat) (inj : Bool) (s : State) : (swCapture k inj s).but 1065472 = s.but 1065472 := by
  unfold swCapture
  repeat' first
  | with_reducible rfl
  | simp (disch := first | exact Or.inr rfl | exact Or.inl rfl | decide) only [↓but_mk, ↓but_ite, ↓but_snd_ite, ↓but_snd_mk, ↓but_snd2_ite, ↓but_snd2_mk, ↓but_cond, ite_self, outOf_live, outOf_next, outOf_ite, ↓setSw_but, ↓swTakeRec_but]
  | split <;> try (with_reducible have h := congrArg Prod.snd ‹(_ : _ × State) = (_, _)›; dsimp only at h; subst h)
  | with_reducible refine (each_but (fun _ _ => ?_) _ _).trans ?_
  | with_reducible refine (whenS_but (fun _ => ?_) _ _).trans ?_
  | with_reducible refine (foldl_but (fun _ _ => ?_) _ _).trans ?_
  | with_reducible refine (foldl_but2 (fun _ _ => ?_) _ _).trans ?_
theorem swCapture_but {m} (hm : sub 1065472 m = true) (k : Nat) (inj : Bool) (s : State) : (swCapture k inj s).but m = s.but m := but_mono hm (swCapture_but' k inj s)

theorem swAfter_but' (c : Nat) (inj : Option (Nat × Nat × Int)) (s : State) : (swAfter c inj s).but 1065472 = s.but 1065472 := by
  unfold swAfter
  repeat' first
  | with_reducible rfl
  | simp (disch := first | exact Or.inr rfl | exact Or.inl rfl | decide) only [↓but_mk, ↓but_ite, ↓but_snd_ite, ↓but_snd_mk, ↓but_snd2_ite, ↓but_snd2_mk, ↓but_cond, ite_self, outOf_live, outOf_next, outOf_ite, ↓swCapture_but, ↓setSw_but]
  | split <;> try (with_reducible have h := congrArg Prod.snd ‹(_ : _ × State) = (_, _)›; dsimp only at h; subst h)
  | with_reducible refine (each_but (fun _ _ => ?_) _ _).trans ?_
  | with_reducible refine (whenS_but (fun _ => ?_) _ _).trans ?_
  | with_reducible refine (foldl_but (fun _ _ => ?_) _ _).trans ?_
  | with_reducible refine (foldl_but2 (fun _ _ => ?_) _ _).trans ?_
theorem swAfter_but {m} (hm : sub 1065472 m = true) (c : Nat) (inj : Option (Nat × Nat × Int)) (s : State) : (swAfter c inj s).but m = s.but m := but_mono hm (swAfter_but' c inj s)

theorem setTr_but' (b : Nat) (x : TrSt) (s : State) : (setTr b x s).but 16384 = s.but 16384 := by
  unfold setTr
  repeat' first
  | with_reducible rfl
  | simp (disch := first | exact Or.inr rfl | exact Or.inl rfl | decide) only [↓but_mk, ↓but_ite, ↓but_snd_ite, ↓but_snd_mk, ↓but_snd2_ite, ↓but_snd2_mk, ↓but_cond, ite_self, outOf_live, outOf_next, outOf_ite]
  | split <;> try (with_reducible have h := congrArg Prod.snd ‹(_ : _ × State) = (_, _)›; dsimp only at h; subst h)
  | with_reducible refine (each_but (fun _ _ => ?_) _ _).trans ?_
  | with_reducible refine (whenS_but (fun _ => ?_) _ _).trans ?_
  | with_reducible refine (foldl_but (fun _ _ => ?_) _ _).trans ?_
  | with_reducible refine (foldl_but2 (fun _ _ => ?_) _ _).trans ?_
theorem setTr_but {m} (hm : sub 16384 m = true) (b : Nat) (x : TrSt) (s : State) : (setTr b x s).but m = s.but m := but_mono hm (setTr_but' b x s)

theorem trAfter_but' (c : Nat) (inj : Bool) (b : Nat) (s : State) : (trAfter c inj b s).but 16384 = s.but 16384 := by
  unfold trAfter
  repeat' first
  | with_reducible rfl
  | simp (disch := first | exact Or.inr rfl | exact Or.inl rfl | decide) only [↓but_mk, ↓but_ite, ↓but_snd_ite, ↓but_snd_mk, ↓but_snd2_ite, ↓but_snd2_mk, ↓but_cond, ite_self, outOf_live, outOf_next, outOf_ite, ↓setTr_but]
  | split <;> try (with_reducible have h := congrArg Prod.snd ‹(_ : _ × State) = (_, _)›; dsimp only at h; subst h)
  | with_reducible refine (each_but (fun _ _ => ?_) _ _).trans ?_
  | with_reducible refine (whenS_but (fun _ => ?_) _ _).trans ?_
  | with_reducible refine (foldl_but (fun _ _ => ?_) _ _).trans ?_
  | with_reducible refine (foldl_but2 (fun _ _ => ?_) _ _).trans ?_
theorem trAfter_but {m} (hm : sub 16384 m = true) (c : Nat) (inj : Bool) (b : Nat) (s : State) : (trAfter c inj b s).but m = s.but m := but_mono hm (trAfter_but' c inj b s)

theorem trAll_but' (c : Nat) (inj : Bool) (s : State) : (trAll c inj s).but 16384 = s.but 16384 := by
  unfold trAll
  repeat' first
  | with_reducible rfl
  | simp (disch := first | exact Or.inr rfl | exact Or.inl rfl | decide) only [↓but_mk, ↓but_ite, ↓but_snd_ite, ↓but_snd_mk, ↓but_snd2_ite, ↓but_snd2_mk, ↓but_cond, ite_self, outOf_live, outOf_next, outOf_ite, ↓trAfter_but]
  | split <;> try (with_reducible have h := congrArg Prod.snd ‹(_ : _ × State) = (_, _)›; dsimp only at h; subst h)
  | with_reducible refine (each_but (fun _ _ => ?_) _ _).trans ?_
  | with_reducible refine (whenS_but (fun _ => ?_) _ _).trans ?_
  | with_reducible refine (foldl_but (fun _ _ => ?_) _ _).trans ?_
  | with_reducible refine (foldl_but2 (fun _ _ => ?_) _ _).trans ?_
theorem trAll_but {m} (hm : sub 16384 m = true) (c : Nat) (inj : Bool) (s : State) : (trAll c inj s).but m = s.but m := but_mono hm (trAll_but' c inj s)

theorem latchValue_but' (r : InputRec) (x : F32) (raw : Nat) (opn : Bool) (at_ : Nat) (s : State) : (latchValue r x raw opn at_ s).but 8192 = s.but 8192 := by
  unfold latchValue
  repeat' first
  | with_reducible rfl
  | simp (disch := first | exact Or.inr rfl | exact Or.inl rfl | decide) only [↓but_mk, ↓but_ite, ↓but_snd_ite, ↓but_snd_mk, ↓but_snd2_ite, ↓but_snd2_mk, ↓but_cond, ite_self, outOf_live, outOf_next, outOf_ite, ↓setIn_but]
  | split <;> try (with_reducible have h := congrArg Prod.snd ‹(_ : _ × State) = (_, _)›; dsimp only at h; subst h)
  | with_reducible refine (each_but (fun _ _ => ?_) _ _).trans ?_
  | with_reducible refine (whenS_but (fun _ => ?_) _ _).trans ?_
  | with_reducible refine (foldl_but (fun _ _ => ?_) _ _).trans ?_
  | with_reducible refine (foldl_but2 (fun _ _ => ?_) _ _).trans ?_
theorem latchValue_but {m} (hm : sub 8192 m = true) (r : InputRec) (x : F32) (raw : Nat) (opn : Bool) (at_ : Nat) (s : State) : (latchValue r x raw opn at_ s).but m = s.but m := but_mono hm (latchValue_but' r x raw opn at_ s)

theorem latchConv_but' (v : Conv) (s : State) : (latchConv v s).but 8192 = s.but 8192 := by
  unfold latchConv
  repeat' first
  | with_reducible rfl
  | simp (disch := first | exact Or.inr rfl | exact Or.inl rfl | decide) only [↓but_mk, ↓but_ite, ↓but_snd_ite, ↓but_snd_mk, ↓but_snd2_ite, ↓but_snd2_mk, ↓but_cond, ite_self, outOf_live, outOf_next, outOf_ite, ↓latchValue_but]
  | split <;> try (with_reducible have h := congrArg Prod.snd ‹(_ : _ × State) = (_, _)›; dsimp only at h; subst h)
  | with_reducible refine (each_but (fun _ _ => ?_) _ _).trans ?_
  | with_reducible refine (whenS_but (fun _ => ?_) _ _).trans ?_
  | with_reducible refine (foldl_but (fun _ _ => ?_) _ _).trans ?_
  | with_reducible refine (foldl_but2 (fun _ _ => ?_) _ _).trans ?_
theorem latchConv_but {m} (hm : sub 8192 m = true) (v : Conv) (s : State) : (latchConv v s).but m = s.but m := but_mono hm (latchConv_but' v s)

theorem latchSignals_but' (s : State) : (latchSignals s).but 8192 = s.but 8192 := by
  unfold latchSignals
  repeat' first
  | with_reducible rfl
  | simp (disch := first | exact Or.inr rfl | exact Or.inl rfl | decide) only [↓but_mk, ↓but_ite, ↓but_snd_ite, ↓but_snd_mk, ↓but_snd2_ite, ↓but_snd2_mk, ↓but_cond, ite_self, outOf_live, outOf_next, outOf_ite, ↓latchValue_but]
  | split <;> try (with_reducible have h := congrArg Prod.snd ‹(_ : _ × State) = (_, _)›; dsimp only at h; subst h)
  | with_reducible refine (each_but (fun _ _ => ?_) _ _).trans ?_
  | with_reducible refine (whenS_but (fun _ => ?_) _ _).trans ?_
  | with_reducible refine (foldl_but (fun _ _ => ?_) _ _).trans ?_
  | with_reducible refine (foldl_but2 (fun _ _ => ?_) _ _).trans ?_
theorem latchSignals_but {m} (hm : sub 8192 m = true) (s : State) : (latchSignals s).but m = s.but m := but_mono hm (latchSignals_but' s)

theorem inputUnknown_but' (i : Nat) (cause : Nat) (s : State) : (inputUnknown i cause s).but 1057408 = s.but 1057408 := by
  unfold inputUnknown
  repeat' first
  | with_reducible rfl
  | simp (disch := first | exact Or.inr rfl | exact Or.inl rfl | decide) only [↓but_mk, ↓but_ite, ↓but_snd_ite, ↓but_snd_mk, ↓but_snd2_ite, ↓but_snd2_mk, ↓but_cond, ite_self, outOf_live, outOf_next, outOf_ite, ↓emit_but, ↓setIn_but]
  | split <;> try (with_reducible have h := congrArg Prod.snd ‹(_ : _ × State) = (_, _)›; dsimp only at h; subst h)
  | with_reducible refine (each_but (fun _ _ => ?_) _ _).trans ?_
  | with_reducible refine (whenS_but (fun _ => ?_) _ _).trans ?_
  | with_reducible refine (foldl_but (fun _ _ => ?_) _ _).trans ?_
  | with_reducible refine (foldl_but2 (fun _ _ => ?_) _ _).trans ?_
theorem inputUnknown_but {m} (hm : sub 1057408 m = true) (i : Nat) (cause : Nat) (s : State) : (inputUnknown i cause s).but m = s.but m := but_mono hm (inputUnknown_but' i cause s)

theorem inputHealth_but' (r : InputRec) (s : State) : (inputHealth r s).but 1057408 = s.but 1057408 := by
  unfold inputHealth
  repeat' first
  | with_reducible rfl
  | simp (disch := first | exact Or.inr rfl | exact Or.inl rfl | decide) only [↓but_mk, ↓but_ite, ↓but_snd_ite, ↓but_snd_mk, ↓but_snd2_ite, ↓but_snd2_mk, ↓but_cond, ite_self, outOf_live, outOf_next, outOf_ite, ↓setIn_but, ↓inputUnknown_but]
  | split <;> try (with_reducible have h := congrArg Prod.snd ‹(_ : _ × State) = (_, _)›; dsimp only at h; subst h)
  | with_reducible refine (each_but (fun _ _ => ?_) _ _).trans ?_
  | with_reducible refine (whenS_but (fun _ => ?_) _ _).trans ?_
  | with_reducible refine (foldl_but (fun _ _ => ?_) _ _).trans ?_
  | with_reducible refine (foldl_but2 (fun _ _ => ?_) _ _).trans ?_
theorem inputHealth_but {m} (hm : sub 1057408 m = true) (r : InputRec) (s : State) : (inputHealth r s).but m = s.but m := but_mono hm (inputHealth_but' r s)

theorem voteMode_but' (g : Nat) (old : Nat) (x : GroupSt) (s : State) : (voteMode g old x s).but 1057408 = s.but 1057408 := by
  unfold voteMode
  repeat' first
  | with_reducible rfl
  | simp (disch := first | exact Or.inr rfl | exact Or.inl rfl | decide) only [↓but_mk, ↓but_ite, ↓but_snd_ite, ↓but_snd_mk, ↓but_snd2_ite, ↓but_snd2_mk, ↓but_cond, ite_self, outOf_live, outOf_next, outOf_ite, ↓emit_but]
  | split <;> try (with_reducible have h := congrArg Prod.snd ‹(_ : _ × State) = (_, _)›; dsimp only at h; subst h)
  | with_reducible refine (each_but (fun _ _ => ?_) _ _).trans ?_
  | with_reducible refine (whenS_but (fun _ => ?_) _ _).trans ?_
  | with_reducible refine (foldl_but (fun _ _ => ?_) _ _).trans ?_
  | with_reducible refine (foldl_but2 (fun _ _ => ?_) _ _).trans ?_
theorem voteMode_but {m} (hm : sub 1057408 m = true) (g : Nat) (old : Nat) (x : GroupSt) (s : State) : (voteMode g old x s).but m = s.but m := but_mono hm (voteMode_but' g old x s)

theorem voteGroup_but' (g : GroupRec) (s : State) : (voteGroup g s).but 1057408 = s.but 1057408 := by
  unfold voteGroup
  repeat' first
  | with_reducible rfl
  | simp (disch := first | exact Or.inr rfl | exact Or.inl rfl | decide) only [↓but_mk, ↓but_ite, ↓but_snd_ite, ↓but_snd_mk, ↓but_snd2_ite, ↓but_snd2_mk, ↓but_cond, ite_self, outOf_live, outOf_next, outOf_ite, ↓voteMode_but]
  | split <;> try (with_reducible have h := congrArg Prod.snd ‹(_ : _ × State) = (_, _)›; dsimp only at h; subst h)
  | with_reducible refine (each_but (fun _ _ => ?_) _ _).trans ?_
  | with_reducible refine (whenS_but (fun _ => ?_) _ _).trans ?_
  | with_reducible refine (foldl_but (fun _ _ => ?_) _ _).trans ?_
  | with_reducible refine (foldl_but2 (fun _ _ => ?_) _ _).trans ?_
theorem voteGroup_but {m} (hm : sub 1057408 m = true) (g : GroupRec) (s : State) : (voteGroup g s).but m = s.but m := but_mono hm (voteGroup_but' g s)

theorem spExtern_but' (r : ChanRec) (s : State) : (spExtern r s).but 1057408 = s.but 1057408 := by
  unfold spExtern
  repeat' first
  | with_reducible rfl
  | simp (disch := first | exact Or.inr rfl | exact Or.inl rfl | decide) only [↓but_mk, ↓but_ite, ↓but_snd_ite, ↓but_snd_mk, ↓but_snd2_ite, ↓but_snd2_mk, ↓but_cond, ite_self, outOf_live, outOf_next, outOf_ite, ↓setSp_but, ↓emit_but]
  | split <;> try (with_reducible have h := congrArg Prod.snd ‹(_ : _ × State) = (_, _)›; dsimp only at h; subst h)
  | with_reducible refine (each_but (fun _ _ => ?_) _ _).trans ?_
  | with_reducible refine (whenS_but (fun _ => ?_) _ _).trans ?_
  | with_reducible refine (foldl_but (fun _ _ => ?_) _ _).trans ?_
  | with_reducible refine (foldl_but2 (fun _ _ => ?_) _ _).trans ?_
theorem spExtern_but {m} (hm : sub 1057408 m = true) (r : ChanRec) (s : State) : (spExtern r s).but m = s.but m := but_mono hm (spExtern_but' r s)

theorem trialFault_but' (cause : Nat) (arg : Nat) (s : State) : (trialFault cause arg s).but 2048 = s.but 2048 := by
  unfold trialFault
  repeat' first
  | with_reducible rfl
  | simp (disch := first | exact Or.inr rfl | exact Or.inl rfl | decide) only [↓but_mk, ↓but_ite, ↓but_snd_ite, ↓but_snd_mk, ↓but_snd2_ite, ↓but_snd2_mk, ↓but_cond, ite_self, outOf_live, outOf_next, outOf_ite]
  | split <;> try (with_reducible have h := congrArg Prod.snd ‹(_ : _ × State) = (_, _)›; dsimp only at h; subst h)
  | with_reducible refine (each_but (fun _ _ => ?_) _ _).trans ?_
  | with_reducible refine (whenS_but (fun _ => ?_) _ _).trans ?_
  | with_reducible refine (foldl_but (fun _ _ => ?_) _ _).trans ?_
  | with_reducible refine (foldl_but2 (fun _ _ => ?_) _ _).trans ?_
theorem trialFault_but {m} (hm : sub 2048 m = true) (cause : Nat) (arg : Nat) (s : State) : (trialFault cause arg s).but m = s.but m := but_mono hm (trialFault_but' cause arg s)

theorem feTrip_but' (c : Nat) (x : ChanSt) (s : State) : (feTrip c x s).but 1059456 = s.but 1059456 := by
  unfold feTrip
  repeat' first
  | with_reducible rfl
  | simp (disch := first | exact Or.inr rfl | exact Or.inl rfl | decide) only [↓but_mk, ↓but_ite, ↓but_snd_ite, ↓but_snd_mk, ↓but_snd2_ite, ↓but_snd2_mk, ↓but_cond, ite_self, outOf_live, outOf_next, outOf_ite, ↓trialFault_but, ↓emit_but, ↓setCh_but]
  | split <;> try (with_reducible have h := congrArg Prod.snd ‹(_ : _ × State) = (_, _)›; dsimp only at h; subst h)
  | with_reducible refine (each_but (fun _ _ => ?_) _ _).trans ?_
  | with_reducible refine (whenS_but (fun _ => ?_) _ _).trans ?_
  | with_reducible refine (foldl_but (fun _ _ => ?_) _ _).trans ?_
  | with_reducible refine (foldl_but2 (fun _ _ => ?_) _ _).trans ?_
theorem feTrip_but {m} (hm : sub 1059456 m = true) (c : Nat) (x : ChanSt) (s : State) : (feTrip c x s).but m = s.but m := but_mono hm (feTrip_but' c x s)

theorem checkReadback_but' (r : MapRec) (s : State) : (checkReadback r s).but 8192 = s.but 8192 := by
  unfold checkReadback
  repeat' first
  | with_reducible rfl
  | simp (disch := first | exact Or.inr rfl | exact Or.inl rfl | decide) only [↓but_mk, ↓but_ite, ↓but_snd_ite, ↓but_snd_mk, ↓but_snd2_ite, ↓but_snd2_mk, ↓but_cond, ite_self, outOf_live, outOf_next, outOf_ite]
  | split <;> try (with_reducible have h := congrArg Prod.snd ‹(_ : _ × State) = (_, _)›; dsimp only at h; subst h)
  | with_reducible refine (each_but (fun _ _ => ?_) _ _).trans ?_
  | with_reducible refine (whenS_but (fun _ => ?_) _ _).trans ?_
  | with_reducible refine (foldl_but (fun _ _ => ?_) _ _).trans ?_
  | with_reducible refine (foldl_but2 (fun _ _ => ?_) _ _).trans ?_
theorem checkReadback_but {m} (hm : sub 8192 m = true) (r : MapRec) (s : State) : (checkReadback r s).but m = s.but m := but_mono hm (checkReadback_but' r s)

theorem reclaimTick_but' (s : State) : (reclaimTick s).but 16 = s.but 16 := by
  unfold reclaimTick
  repeat' first
  | with_reducible rfl
  | simp (disch := first | exact Or.inr rfl | exact Or.inl rfl | decide) only [↓but_mk, ↓but_ite, ↓but_snd_ite, ↓but_snd_mk, ↓but_snd2_ite, ↓but_snd2_mk, ↓but_cond, ite_self, outOf_live, outOf_next, outOf_ite]
  | split <;> try (with_reducible have h := congrArg Prod.snd ‹(_ : _ × State) = (_, _)›; dsimp only at h; subst h)
  | with_reducible refine (each_but (fun _ _ => ?_) _ _).trans ?_
  | with_reducible refine (whenS_but (fun _ => ?_) _ _).trans ?_
  | with_reducible refine (foldl_but (fun _ _ => ?_) _ _).trans ?_
  | with_reducible refine (foldl_but2 (fun _ _ => ?_) _ _).trans ?_
theorem reclaimTick_but {m} (hm : sub 16 m = true) (s : State) : (reclaimTick s).but m = s.but m := but_mono hm (reclaimTick_but' s)

theorem computeOutputs_but' (s : State) : (computeOutputs s).but 8192 = s.but 8192 := by
  unfold computeOutputs
  repeat' first
  | with_reducible rfl
  | simp (disch := first | exact Or.inr rfl | exact Or.inl rfl | decide) only [↓but_mk, ↓but_ite, ↓but_snd_ite, ↓but_snd_mk, ↓but_snd2_ite, ↓but_snd2_mk, ↓but_cond, ite_self, outOf_live, outOf_next, outOf_ite]
  | split <;> try (with_reducible have h := congrArg Prod.snd ‹(_ : _ × State) = (_, _)›; dsimp only at h; subst h)
  | with_reducible refine (each_but (fun _ _ => ?_) _ _).trans ?_
  | with_reducible refine (whenS_but (fun _ => ?_) _ _).trans ?_
  | with_reducible refine (foldl_but (fun _ _ => ?_) _ _).trans ?_
  | with_reducible refine (foldl_but2 (fun _ _ => ?_) _ _).trans ?_
theorem computeOutputs_but {m} (hm : sub 8192 m = true) (s : State) : (computeOutputs s).but m = s.but m := but_mono hm (computeOutputs_but' s)

theorem applyOutput_but' (e : Nat × F32) (s : State) : (applyOutput e s).but 139264 = s.but 139264 := by
  unfold applyOutput
  repeat' first
  | with_reducible rfl
  | simp (disch := first | exact Or.inr rfl | exact Or.inl rfl | decide) only [↓but_mk, ↓but_ite, ↓but_snd_ite, ↓but_snd_mk, ↓but_snd2_ite, ↓but_snd2_mk, ↓but_cond, ite_self, outOf_live, outOf_next, outOf_ite]
  | split <;> try (with_reducible have h := congrArg Prod.snd ‹(_ : _ × State) = (_, _)›; dsimp only at h; subst h)
  | with_reducible refine (each_but (fun _ _ => ?_) _ _).trans ?_
  | with_reducible refine (whenS_but (fun _ => ?_) _ _).trans ?_
  | with_reducible refine (foldl_but (fun _ _ => ?_) _ _).trans ?_
  | with_reducible refine (foldl_but2 (fun _ _ => ?_) _ _).trans ?_
theorem applyOutput_but {m} (hm : sub 139264 m = true) (e : Nat × F32) (s : State) : (applyOutput e s).but m = s.but m := but_mono hm (applyOutput_but' e s)

theorem applyOutputs_but' (s : State) : (applyOutputs s).but 139264 = s.but 139264 := by
  unfold applyOutputs
  repeat' first
  | with_reducible rfl
  | simp (disch := first | exact Or.inr rfl | exact Or.inl rfl | decide) only [↓but_mk, ↓but_ite, ↓but_snd_ite, ↓but_snd_mk, ↓but_snd2_ite, ↓but_snd2_mk, ↓but_cond, ite_self, outOf_live, outOf_next, outOf_ite, ↓applyOutput_but]
  | split <;> try (with_reducible have h := congrArg Prod.snd ‹(_ : _ × State) = (_, _)›; dsimp only at h; subst h)
  | with_reducible refine (each_but (fun _ _ => ?_) _ _).trans ?_
  | with_reducible refine (whenS_but (fun _ => ?_) _ _).trans ?_
  | with_reducible refine (foldl_but (fun _ _ => ?_) _ _).trans ?_
  | with_reducible refine (foldl_but2 (fun _ _ => ?_) _ _).trans ?_
theorem applyOutputs_but {m} (hm : sub 139264 m = true) (s : State) : (applyOutputs s).but m = s.but m := but_mono hm (applyOutputs_but' s)

theorem initChannel_but' (c : Nat) (s : State) : (initChannel c s).2.but 8192 = s.but 8192 := by
  unfold initChannel
  repeat' first
  | with_reducible rfl
  | simp (disch := first | exact Or.inr rfl | exact Or.inl rfl | decide) only [↓but_mk, ↓but_ite, ↓but_snd_ite, ↓but_snd_mk, ↓but_snd2_ite, ↓but_snd2_mk, ↓but_cond, ite_self, outOf_live, outOf_next, outOf_ite, ↓setCh_but]
  | split <;> try (with_reducible have h := congrArg Prod.snd ‹(_ : _ × State) = (_, _)›; dsimp only at h; subst h)
  | with_reducible refine (each_but (fun _ _ => ?_) _ _).trans ?_
  | with_reducible refine (whenS_but (fun _ => ?_) _ _).trans ?_
  | with_reducible refine (foldl_but (fun _ _ => ?_) _ _).trans ?_
  | with_reducible refine (foldl_but2 (fun _ _ => ?_) _ _).trans ?_
theorem initChannel_but {m} (hm : sub 8192 m = true) (c : Nat) (s : State) : (initChannel c s).2.but m = s.but m := but_mono hm (initChannel_but' c s)

theorem heldTrips_but' (s : State) : (heldTrips s).but 8192 = s.but 8192 := by
  unfold heldTrips
  repeat' first
  | with_reducible rfl
  | simp (disch := first | exact Or.inr rfl | exact Or.inl rfl | decide) only [↓but_mk, ↓but_ite, ↓but_snd_ite, ↓but_snd_mk, ↓but_snd2_ite, ↓but_snd2_mk, ↓but_cond, ite_self, outOf_live, outOf_next, outOf_ite, ↓setCh_but]
  | split <;> try (with_reducible have h := congrArg Prod.snd ‹(_ : _ × State) = (_, _)›; dsimp only at h; subst h)
  | with_reducible refine (each_but (fun _ _ => ?_) _ _).trans ?_
  | with_reducible refine (whenS_but (fun _ => ?_) _ _).trans ?_
  | with_reducible refine (foldl_but (fun _ _ => ?_) _ _).trans ?_
  | with_reducible refine (foldl_but2 (fun _ _ => ?_) _ _).trans ?_
theorem heldTrips_but {m} (hm : sub 8192 m = true) (s : State) : (heldTrips s).but m = s.but m := but_mono hm (heldTrips_but' s)

theorem initAll_but' (s : State) : (initAll s).but 8192 = s.but 8192 := by
  unfold initAll
  repeat' first
  | with_reducible rfl
  | simp (disch := first | exact Or.inr rfl | exact Or.inl rfl | decide) only [↓but_mk, ↓but_ite, ↓but_snd_ite, ↓but_snd_mk, ↓but_snd2_ite, ↓but_snd2_mk, ↓but_cond, ite_self, outOf_live, outOf_next, outOf_ite, ↓initChannel_but]
  | split <;> try (with_reducible have h := congrArg Prod.snd ‹(_ : _ × State) = (_, _)›; dsimp only at h; subst h)
  | with_reducible refine (each_but (fun _ _ => ?_) _ _).trans ?_
  | with_reducible refine (whenS_but (fun _ => ?_) _ _).trans ?_
  | with_reducible refine (foldl_but (fun _ _ => ?_) _ _).trans ?_
  | with_reducible refine (foldl_but2 (fun _ _ => ?_) _ _).trans ?_
theorem initAll_but {m} (hm : sub 8192 m = true) (s : State) : (initAll s).but m = s.but m := but_mono hm (initAll_but' s)

theorem sampleEnd_but' (c : Nat) (inj : Option (Nat × Nat × Int)) (s : State) : (sampleEnd c inj s).but 1065472 = s.but 1065472 := by
  unfold sampleEnd
  repeat' first
  | with_reducible rfl
  | simp (disch := first | exact Or.inr rfl | exact Or.inl rfl | decide) only [↓but_mk, ↓but_ite, ↓but_snd_ite, ↓but_snd_mk, ↓but_snd2_ite, ↓but_snd2_mk, ↓but_cond, ite_self, outOf_live, outOf_next, outOf_ite, ↓trAll_but, ↓swAfter_but]
  | split <;> try (with_reducible have h := congrArg Prod.snd ‹(_ : _ × State) = (_, _)›; dsimp only at h; subst h)
  | with_reducible refine (each_but (fun _ _ => ?_) _ _).trans ?_
  | with_reducible refine (whenS_but (fun _ => ?_) _ _).trans ?_
  | with_reducible refine (foldl_but (fun _ _ => ?_) _ _).trans ?_
  | with_reducible refine (foldl_but2 (fun _ _ => ?_) _ _).trans ?_
theorem sampleEnd_but {m} (hm : sub 1065472 m = true) (c : Nat) (inj : Option (Nat × Nat × Int)) (s : State) : (sampleEnd c inj s).but m = s.but m := but_mono hm (sampleEnd_but' c inj s)

theorem channelSample_but' (driving : Bool) (r : ChanRec) (s : State) : (channelSample driving r s).but 1075840 = s.but 1075840 := by
  unfold channelSample
  repeat' first
  | with_reducible rfl
  | simp (disch := first | exact Or.inr rfl | exact Or.inl rfl | decide) only [↓but_mk, ↓but_ite, ↓but_snd_ite, ↓but_snd_mk, ↓but_snd2_ite, ↓but_snd2_mk, ↓but_cond, ite_self, outOf_live, outOf_next, outOf_ite, ↓initChannel_but, ↓swBefore_but, ↓sampleEnd_but, ↓setCh_but, ↓spExtern_but, ↓feTrip_but]
  | split <;> try (with_reducible have h := congrArg Prod.snd ‹(_ : _ × State) = (_, _)›; dsimp only at h; subst h)
  | with_reducible refine (each_but (fun _ _ => ?_) _ _).trans ?_
  | with_reducible refine (whenS_but (fun _ => ?_) _ _).trans ?_
  | with_reducible refine (foldl_but (fun _ _ => ?_) _ _).trans ?_
  | with_reducible refine (foldl_but2 (fun _ _ => ?_) _ _).trans ?_
theorem channelSample_but {m} (hm : sub 1075840 m = true) (driving : Bool) (r : ChanRec) (s : State) : (channelSample driving r s).but m = s.but m := but_mono hm (channelSample_but' driving r s)

theorem estReset_but' (s : State) : (estReset s).but 8192 = s.but 8192 := by
  unfold estReset
  repeat' first
  | with_reducible rfl
  | simp (disch := first | exact Or.inr rfl | exact Or.inl rfl | decide) only [↓but_mk, ↓but_ite, ↓but_snd_ite, ↓but_snd_mk, ↓but_snd2_ite, ↓but_snd2_mk, ↓but_cond, ite_self, outOf_live, outOf_next, outOf_ite]
  | split <;> try (with_reducible have h := congrArg Prod.snd ‹(_ : _ × State) = (_, _)›; dsimp only at h; subst h)
  | with_reducible refine (each_but (fun _ _ => ?_) _ _).trans ?_
  | with_reducible refine (whenS_but (fun _ => ?_) _ _).trans ?_
  | with_reducible refine (foldl_but (fun _ _ => ?_) _ _).trans ?_
  | with_reducible refine (foldl_but2 (fun _ _ => ?_) _ _).trans ?_
theorem estReset_but {m} (hm : sub 8192 m = true) (s : State) : (estReset s).but m = s.but m := but_mono hm (estReset_but' s)

theorem setBus_but' (k : Nat) (x : BusSt) (s : State) : (setBus k x s).but 131072 = s.but 131072 := by
  unfold setBus
  repeat' first
  | with_reducible rfl
  | simp (disch := first | exact Or.inr rfl | exact Or.inl rfl | decide) only [↓but_mk, ↓but_ite, ↓but_snd_ite, ↓but_snd_mk, ↓but_snd2_ite, ↓but_snd2_mk, ↓but_cond, ite_self, outOf_live, outOf_next, outOf_ite]
  | split <;> try (with_reducible have h := congrArg Prod.snd ‹(_ : _ × State) = (_, _)›; dsimp only at h; subst h)
  | with_reducible refine (each_but (fun _ _ => ?_) _ _).trans ?_
  | with_reducible refine (whenS_but (fun _ => ?_) _ _).trans ?_
  | with_reducible refine (foldl_but (fun _ _ => ?_) _ _).trans ?_
  | with_reducible refine (foldl_but2 (fun _ _ => ?_) _ _).trans ?_
theorem setBus_but {m} (hm : sub 131072 m = true) (k : Nat) (x : BusSt) (s : State) : (setBus k x s).but m = s.but m := but_mono hm (setBus_but' k x s)

theorem setBuf_but' (k : Nat) (x : BusBuf) (s : State) : (setBuf k x s).but 131072 = s.but 131072 := by
  unfold setBuf
  repeat' first
  | with_reducible rfl
  | simp (disch := first | exact Or.inr rfl | exact Or.inl rfl | decide) only [↓but_mk, ↓but_ite, ↓but_snd_ite, ↓but_snd_mk, ↓but_snd2_ite, ↓but_snd2_mk, ↓but_cond, ite_self, outOf_live, outOf_next, outOf_ite]
  | split <;> try (with_reducible have h := congrArg Prod.snd ‹(_ : _ × State) = (_, _)›; dsimp only at h; subst h)
  | with_reducible refine (each_but (fun _ _ => ?_) _ _).trans ?_
  | with_reducible refine (whenS_but (fun _ => ?_) _ _).trans ?_
  | with_reducible refine (foldl_but (fun _ _ => ?_) _ _).trans ?_
  | with_reducible refine (foldl_but2 (fun _ _ => ?_) _ _).trans ?_
theorem setBuf_but {m} (hm : sub 131072 m = true) (k : Nat) (x : BusBuf) (s : State) : (setBuf k x s).but m = s.but m := but_mono hm (setBuf_but' k x s)

theorem fbEmit_but' (k : Nat) (code : Nat) (bit : Nat) (args : List Word) (s : State) (clear : Bool) : (fbEmit k code bit args s clear).but 1049216 = s.but 1049216 := by
  unfold fbEmit
  repeat' first
  | with_reducible rfl
  | simp (disch := first | exact Or.inr rfl | exact Or.inl rfl | decide) only [↓but_mk, ↓but_ite, ↓but_snd_ite, ↓but_snd_mk, ↓but_snd2_ite, ↓but_snd2_mk, ↓but_cond, ite_self, outOf_live, outOf_next, outOf_ite, ↓setErr_but, ↓emit_but]
  | split <;> try (with_reducible have h := congrArg Prod.snd ‹(_ : _ × State) = (_, _)›; dsimp only at h; subst h)
  | with_reducible refine (each_but (fun _ _ => ?_) _ _).trans ?_
  | with_reducible refine (whenS_but (fun _ => ?_) _ _).trans ?_
  | with_reducible refine (foldl_but (fun _ _ => ?_) _ _).trans ?_
  | with_reducible refine (foldl_but2 (fun _ _ => ?_) _ _).trans ?_
theorem fbEmit_but {m} (hm : sub 1049216 m = true) (k : Nat) (code : Nat) (bit : Nat) (args : List Word) (s : State) (clear : Bool) : (fbEmit k code bit args s clear).but m = s.but m := but_mono hm (fbEmit_but' k code bit args s clear)

theorem txOutcome_but' (k : Nat) (tag : Nat) (out : Nat) (s : State) : (txOutcome k tag out s).but 131072 = s.but 131072 := by
  unfold txOutcome
  repeat' first
  | with_reducible rfl
  | simp (disch := first | exact Or.inr rfl | exact Or.inl rfl | decide) only [↓but_mk, ↓but_ite, ↓but_snd_ite, ↓but_snd_mk, ↓but_snd2_ite, ↓but_snd2_mk, ↓but_cond, ite_self, outOf_live, outOf_next, outOf_ite, ↓setBus_but]
  | split <;> try (with_reducible have h := congrArg Prod.snd ‹(_ : _ × State) = (_, _)›; dsimp only at h; subst h)
  | with_reducible refine (each_but (fun _ _ => ?_) _ _).trans ?_
  | with_reducible refine (whenS_but (fun _ => ?_) _ _).trans ?_
  | with_reducible refine (foldl_but (fun _ _ => ?_) _ _).trans ?_
  | with_reducible refine (foldl_but2 (fun _ _ => ?_) _ _).trans ?_
theorem txOutcome_but {m} (hm : sub 131072 m = true) (k : Nat) (tag : Nat) (out : Nat) (s : State) : (txOutcome k tag out s).but m = s.but m := but_mono hm (txOutcome_but' k tag out s)

theorem txRemove_but' (k : Nat) (out : Nat) (f : TxEnt → Bool) (s : State) : (txRemove k out f s).but 131072 = s.but 131072 := by
  unfold txRemove
  repeat' first
  | with_reducible rfl
  | simp (disch := first | exact Or.inr rfl | exact Or.inl rfl | decide) only [↓but_mk, ↓but_ite, ↓but_snd_ite, ↓but_snd_mk, ↓but_snd2_ite, ↓but_snd2_mk, ↓but_cond, ite_self, outOf_live, outOf_next, outOf_ite, ↓txOutcome_but, ↓setBus_but]
  | split <;> try (with_reducible have h := congrArg Prod.snd ‹(_ : _ × State) = (_, _)›; dsimp only at h; subst h)
  | with_reducible refine (each_but (fun _ _ => ?_) _ _).trans ?_
  | with_reducible refine (whenS_but (fun _ => ?_) _ _).trans ?_
  | with_reducible refine (foldl_but (fun _ _ => ?_) _ _).trans ?_
  | with_reducible refine (foldl_but2 (fun _ _ => ?_) _ _).trans ?_
theorem txRemove_but {m} (hm : sub 131072 m = true) (k : Nat) (out : Nat) (f : TxEnt → Bool) (s : State) : (txRemove k out f s).but m = s.but m := but_mono hm (txRemove_but' k out f s)

theorem txEnqueue_but' (k : Nat) (f : BusFrame) (owner : Nat) (msg : Option Nat) (s : State) : (txEnqueue k f owner msg s).2.but 131072 = s.but 131072 := by
  unfold txEnqueue
  repeat' first
  | with_reducible rfl
  | simp (disch := first | exact Or.inr rfl | exact Or.inl rfl | decide) only [↓but_mk, ↓but_ite, ↓but_snd_ite, ↓but_snd_mk, ↓but_snd2_ite, ↓but_snd2_mk, ↓but_cond, ite_self, outOf_live, outOf_next, outOf_ite, ↓setBus_but]
  | split <;> try (with_reducible have h := congrArg Prod.snd ‹(_ : _ × State) = (_, _)›; dsimp only at h; subst h)
  | with_reducible refine (each_but (fun _ _ => ?_) _ _).trans ?_
  | with_reducible refine (whenS_but (fun _ => ?_) _ _).trans ?_
  | with_reducible refine (foldl_but (fun _ _ => ?_) _ _).trans ?_
  | with_reducible refine (foldl_but2 (fun _ _ => ?_) _ _).trans ?_
theorem txEnqueue_but {m} (hm : sub 131072 m = true) (k : Nat) (f : BusFrame) (owner : Nat) (msg : Option Nat) (s : State) : (txEnqueue k f owner msg s).2.but m = s.but m := but_mono hm (txEnqueue_but' k f owner msg s)

theorem txLate_but' (k : Nat) (m0 : Nat) (cause : Nat) (s : State) : (txLate k m0 cause s).but 1180288 = s.but 1180288 := by
  unfold txLate
  repeat' first
  | with_reducible rfl
  | simp (disch := first | exact Or.inr rfl | exact Or.inl rfl | decide) only [↓but_mk, ↓but_ite, ↓but_snd_ite, ↓but_snd_mk, ↓but_snd2_ite, ↓but_snd2_mk, ↓but_cond, ite_self, outOf_live, outOf_next, outOf_ite, ↓setErr_but, ↓emit_but, ↓setBuf_but]
  | split <;> try (with_reducible have h := congrArg Prod.snd ‹(_ : _ × State) = (_, _)›; dsimp only at h; subst h)
  | with_reducible refine (each_but (fun _ _ => ?_) _ _).trans ?_
  | with_reducible refine (whenS_but (fun _ => ?_) _ _).trans ?_
  | with_reducible refine (foldl_but (fun _ _ => ?_) _ _).trans ?_
  | with_reducible refine (foldl_but2 (fun _ _ => ?_) _ _).trans ?_
theorem txLate_but {m} (hm : sub 1180288 m = true) (k : Nat) (m0 : Nat) (cause : Nat) (s : State) : (txLate k m0 cause s).but m = s.but m := but_mono hm (txLate_but' k m0 cause s)

theorem txMark_but' (m0 : TxMsgRec) (s : State) : (txMark m0 s).but 1180288 = s.but 1180288 := by
  unfold txMark
  repeat' first
  | with_reducible rfl
  | simp (disch := first | exact Or.inr rfl | exact Or.inl rfl | decide) only [↓but_mk, ↓but_ite, ↓but_snd_ite, ↓but_snd_mk, ↓but_snd2_ite, ↓but_snd2_mk, ↓but_cond, ite_self, outOf_live, outOf_next, outOf_ite, ↓txLate_but, ↓setBus_but, ↓txEnqueue_but]
  | split <;> try (with_reducible have h := congrArg Prod.snd ‹(_ : _ × State) = (_, _)›; dsimp only at h; subst h)
  | with_reducible refine (each_but (fun _ _ => ?_) _ _).trans ?_
  | with_reducible refine (whenS_but (fun _ => ?_) _ _).trans ?_
  | with_reducible refine (foldl_but (fun _ _ => ?_) _ _).trans ?_
  | with_reducible refine (foldl_but2 (fun _ _ => ?_) _ _).trans ?_
theorem txMark_but {m} (hm : sub 1180288 m = true) (m0 : TxMsgRec) (s : State) : (txMark m0 s).but m = s.but m := but_mono hm (txMark_but' m0 s)

theorem flushDrive_but' (k : Nat) (s : State) : (flushDrive k s).but 131072 = s.but 131072 := by
  unfold flushDrive
  repeat' first
  | with_reducible rfl
  | simp (disch := first | exact Or.inr rfl | exact Or.inl rfl | decide) only [↓but_mk, ↓but_ite, ↓but_snd_ite, ↓but_snd_mk, ↓but_snd2_ite, ↓but_snd2_mk, ↓but_cond, ite_self, outOf_live, outOf_next, outOf_ite, ↓txRemove_but, ↓setBus_but]
  | split <;> try (with_reducible have h := congrArg Prod.snd ‹(_ : _ × State) = (_, _)›; dsimp only at h; subst h)
  | with_reducible refine (each_but (fun _ _ => ?_) _ _).trans ?_
  | with_reducible refine (whenS_but (fun _ => ?_) _ _).trans ?_
  | with_reducible refine (foldl_but (fun _ _ => ?_) _ _).trans ?_
  | with_reducible refine (foldl_but2 (fun _ _ => ?_) _ _).trans ?_
theorem flushDrive_but {m} (hm : sub 131072 m = true) (k : Nat) (s : State) : (flushDrive k s).but m = s.but m := but_mono hm (flushDrive_but' k s)

theorem releaseId_but' (k : Nat) (cause : Nat) (key : Nat) (s : State) : (releaseId k cause key s).but 1180288 = s.but 1180288 := by
  unfold releaseId
  repeat' first
  | with_reducible rfl
  | simp (disch := first | exact Or.inr rfl | exact Or.inl rfl | decide) only [↓but_mk, ↓but_ite, ↓but_snd_ite, ↓but_snd_mk, ↓but_snd2_ite, ↓but_snd2_mk, ↓but_cond, ite_self, outOf_live, outOf_next, outOf_ite, ↓emit_but, ↓setBus_but]
  | split <;> try (with_reducible have h := congrArg Prod.snd ‹(_ : _ × State) = (_, _)›; dsimp only at h; subst h)
  | with_reducible refine (each_but (fun _ _ => ?_) _ _).trans ?_
  | with_reducible refine (whenS_but (fun _ => ?_) _ _).trans ?_
  | with_reducible refine (foldl_but (fun _ _ => ?_) _ _).trans ?_
  | with_reducible refine (foldl_but2 (fun _ _ => ?_) _ _).trans ?_
theorem releaseId_but {m} (hm : sub 1180288 m = true) (k : Nat) (cause : Nat) (key : Nat) (s : State) : (releaseId k cause key s).but m = s.but m := but_mono hm (releaseId_but' k cause key s)

theorem releaseIds_but' (k : Nat) (cause : Nat) (s : State) : (releaseIds k cause s).but 1180288 = s.but 1180288 := by
  unfold releaseIds
  repeat' first
  | with_reducible rfl
  | simp (disch := first | exact Or.inr rfl | exact Or.inl rfl | decide) only [↓but_mk, ↓but_ite, ↓but_snd_ite, ↓but_snd_mk, ↓but_snd2_ite, ↓but_snd2_mk, ↓but_cond, ite_self, outOf_live, outOf_next, outOf_ite, ↓releaseId_but]
  | split <;> try (with_reducible have h := congrArg Prod.snd ‹(_ : _ × State) = (_, _)›; dsimp only at h; subst h)
  | with_reducible refine (each_but (fun _ _ => ?_) _ _).trans ?_
  | with_reducible refine (whenS_but (fun _ => ?_) _ _).trans ?_
  | with_reducible refine (foldl_but (fun _ _ => ?_) _ _).trans ?_
  | with_reducible refine (foldl_but2 (fun _ _ => ?_) _ _).trans ?_
theorem releaseIds_but {m} (hm : sub 1180288 m = true) (k : Nat) (cause : Nat) (s : State) : (releaseIds k cause s).but m = s.but m := but_mono hm (releaseIds_but' k cause s)

theorem restrictBuses_but' (s : State) : (restrictBuses s).but 131072 = s.but 131072 := by
  unfold restrictBuses
  repeat' first
  | with_reducible rfl
  | simp (disch := first | exact Or.inr rfl | exact Or.inl rfl | decide) only [↓but_mk, ↓but_ite, ↓but_snd_ite, ↓but_snd_mk, ↓but_snd2_ite, ↓but_snd2_mk, ↓but_cond, ite_self, outOf_live, outOf_next, outOf_ite, ↓setBus_but]
  | split <;> try (with_reducible have h := congrArg Prod.snd ‹(_ : _ × State) = (_, _)›; dsimp only at h; subst h)
  | with_reducible refine (each_but (fun _ _ => ?_) _ _).trans ?_
  | with_reducible refine (whenS_but (fun _ => ?_) _ _).trans ?_
  | with_reducible refine (foldl_but (fun _ _ => ?_) _ _).trans ?_
  | with_reducible refine (foldl_but2 (fun _ _ => ?_) _ _).trans ?_
theorem restrictBuses_but {m} (hm : sub 131072 m = true) (s : State) : (restrictBuses s).but m = s.but m := but_mono hm (restrictBuses_but' s)

theorem urgFill_but' (k : Nat) (s : State) : (urgFill k s).but 131072 = s.but 131072 := by
  unfold urgFill
  repeat' first
  | with_reducible rfl
  | simp (disch := first | exact Or.inr rfl | exact Or.inl rfl | decide) only [↓but_mk, ↓but_ite, ↓but_snd_ite, ↓but_snd_mk, ↓but_snd2_ite, ↓but_snd2_mk, ↓but_cond, ite_self, outOf_live, outOf_next, outOf_ite, ↓setBus_but]
  | split <;> try (with_reducible have h := congrArg Prod.snd ‹(_ : _ × State) = (_, _)›; dsimp only at h; subst h)
  | with_reducible refine (each_but (fun _ _ => ?_) _ _).trans ?_
  | with_reducible refine (whenS_but (fun _ => ?_) _ _).trans ?_
  | with_reducible refine (foldl_but (fun _ _ => ?_) _ _).trans ?_
  | with_reducible refine (foldl_but2 (fun _ _ => ?_) _ _).trans ?_
theorem urgFill_but {m} (hm : sub 131072 m = true) (k : Nat) (s : State) : (urgFill k s).but m = s.but m := but_mono hm (urgFill_but' k s)

theorem urgPut_but' (k : Nat) (u : UrgSt) (s : State) : (urgPut k u s).but 131072 = s.but 131072 := by
  unfold urgPut
  repeat' first
  | with_reducible rfl
  | simp (disch := first | exact Or.inr rfl | exact Or.inl rfl | decide) only [↓but_mk, ↓but_ite, ↓but_snd_ite, ↓but_snd_mk, ↓but_snd2_ite, ↓but_snd2_mk, ↓but_cond, ite_self, outOf_live, outOf_next, outOf_ite, ↓setBus_but, ↓urgFill_but]
  | split <;> try (with_reducible have h := congrArg Prod.snd ‹(_ : _ × State) = (_, _)›; dsimp only at h; subst h)
  | with_reducible refine (each_but (fun _ _ => ?_) _ _).trans ?_
  | with_reducible refine (whenS_but (fun _ => ?_) _ _).trans ?_
  | with_reducible refine (foldl_but (fun _ _ => ?_) _ _).trans ?_
  | with_reducible refine (foldl_but2 (fun _ _ => ?_) _ _).trans ?_
theorem urgPut_but {m} (hm : sub 131072 m = true) (k : Nat) (u : UrgSt) (s : State) : (urgPut k u s).but m = s.but m := but_mono hm (urgPut_but' k u s)

theorem errPassive_but' (k : Nat) (s : State) : (errPassive k s).but 1180288 = s.but 1180288 := by
  unfold errPassive
  repeat' first
  | with_reducible rfl
  | simp (disch := first | exact Or.inr rfl | exact Or.inl rfl | decide) only [↓but_mk, ↓but_ite, ↓but_snd_ite, ↓but_snd_mk, ↓but_snd2_ite, ↓but_snd2_mk, ↓but_cond, ite_self, outOf_live, outOf_next, outOf_ite, ↓fbEmit_but, ↓setBus_but]
  | split <;> try (with_reducible have h := congrArg Prod.snd ‹(_ : _ × State) = (_, _)›; dsimp only at h; subst h)
  | with_reducible refine (each_but (fun _ _ => ?_) _ _).trans ?_
  | with_reducible refine (whenS_but (fun _ => ?_) _ _).trans ?_
  | with_reducible refine (foldl_but (fun _ _ => ?_) _ _).trans ?_
  | with_reducible refine (foldl_but2 (fun _ _ => ?_) _ _).trans ?_
theorem errPassive_but {m} (hm : sub 1180288 m = true) (k : Nat) (s : State) : (errPassive k s).but m = s.but m := but_mono hm (errPassive_but' k s)

theorem tecError_but' (k : Nat) (kind : Nat) (s : State) : (tecError k kind s).but 1180288 = s.but 1180288 := by
  unfold tecError
  repeat' first
  | with_reducible rfl
  | simp (disch := first | exact Or.inr rfl | exact Or.inl rfl | decide) only [↓but_mk, ↓but_ite, ↓but_snd_ite, ↓but_snd_mk, ↓but_snd2_ite, ↓but_snd2_mk, ↓but_cond, ite_self, outOf_live, outOf_next, outOf_ite, ↓errPassive_but, ↓setBus_but]
  | split <;> try (with_reducible have h := congrArg Prod.snd ‹(_ : _ × State) = (_, _)›; dsimp only at h; subst h)
  | with_reducible refine (each_but (fun _ _ => ?_) _ _).trans ?_
  | with_reducible refine (whenS_but (fun _ => ?_) _ _).trans ?_
  | with_reducible refine (foldl_but (fun _ _ => ?_) _ _).trans ?_
  | with_reducible refine (foldl_but2 (fun _ _ => ?_) _ _).trans ?_
theorem tecError_but {m} (hm : sub 1180288 m = true) (k : Nat) (kind : Nat) (s : State) : (tecError k kind s).but m = s.but m := but_mono hm (tecError_but' k kind s)

theorem tecSent_but' (k : Nat) (f : BusFrame) (s : State) : (tecSent k f s).but 1180288 = s.but 1180288 := by
  unfold tecSent
  repeat' first
  | with_reducible rfl
  | simp (disch := first | exact Or.inr rfl | exact Or.inl rfl | decide) only [↓but_mk, ↓but_ite, ↓but_snd_ite, ↓but_snd_mk, ↓but_snd2_ite, ↓but_snd2_mk, ↓but_cond, ite_self, outOf_live, outOf_next, outOf_ite, ↓setBus_but, ↓errPassive_but, ↓setBuf_but]
  | split <;> try (with_reducible have h := congrArg Prod.snd ‹(_ : _ × State) = (_, _)›; dsimp only at h; subst h)
  | with_reducible refine (each_but (fun _ _ => ?_) _ _).trans ?_
  | with_reducible refine (whenS_but (fun _ => ?_) _ _).trans ?_
  | with_reducible refine (foldl_but (fun _ _ => ?_) _ _).trans ?_
  | with_reducible refine (foldl_but2 (fun _ _ => ?_) _ _).trans ?_
theorem tecSent_but {m} (hm : sub 1180288 m = true) (k : Nat) (f : BusFrame) (s : State) : (tecSent k f s).but m = s.but m := but_mono hm (tecSent_but' k f s)

theorem queueEnd_but' (k : Nat) (res : AttemptEnd) (s : State) : (queueEnd k res s).but 1180288 = s.but 1180288 := by
  unfold queueEnd
  repeat' first
  | with_reducible rfl
  | simp (disch := first | exact Or.inr rfl | exact Or.inl rfl | decide) only [↓but_mk, ↓but_ite, ↓but_snd_ite, ↓but_snd_mk, ↓but_snd2_ite, ↓but_snd2_mk, ↓but_cond, ite_self, outOf_live, outOf_next, outOf_ite, ↓txOutcome_but, ↓tecSent_but, ↓setBus_but, ↓tecError_but, ↓fbEmit_but]
  | split <;> try (with_reducible have h := congrArg Prod.snd ‹(_ : _ × State) = (_, _)›; dsimp only at h; subst h)
  | with_reducible refine (each_but (fun _ _ => ?_) _ _).trans ?_
  | with_reducible refine (whenS_but (fun _ => ?_) _ _).trans ?_
  | with_reducible refine (foldl_but (fun _ _ => ?_) _ _).trans ?_
  | with_reducible refine (foldl_but2 (fun _ _ => ?_) _ _).trans ?_
theorem queueEnd_but {m} (hm : sub 1180288 m = true) (k : Nat) (res : AttemptEnd) (s : State) : (queueEnd k res s).but m = s.but m := but_mono hm (queueEnd_but' k res s)

theorem urgentEnd_but' (k : Nat) (res : AttemptEnd) (s : State) : (urgentEnd k res s).but 1180288 = s.but 1180288 := by
  unfold urgentEnd
  repeat' first
  | with_reducible rfl
  | simp (disch := first | exact Or.inr rfl | exact Or.inl rfl | decide) only [↓but_mk, ↓but_ite, ↓but_snd_ite, ↓but_snd_mk, ↓but_snd2_ite, ↓but_snd2_mk, ↓but_cond, ite_self, outOf_live, outOf_next, outOf_ite, ↓urgFill_but, ↓tecSent_but, ↓setBus_but, ↓tecError_but]
  | split <;> try (with_reducible have h := congrArg Prod.snd ‹(_ : _ × State) = (_, _)›; dsimp only at h; subst h)
  | with_reducible refine (each_but (fun _ _ => ?_) _ _).trans ?_
  | with_reducible refine (whenS_but (fun _ => ?_) _ _).trans ?_
  | with_reducible refine (foldl_but (fun _ _ => ?_) _ _).trans ?_
  | with_reducible refine (foldl_but2 (fun _ _ => ?_) _ _).trans ?_
theorem urgentEnd_but {m} (hm : sub 1180288 m = true) (k : Nat) (res : AttemptEnd) (s : State) : (urgentEnd k res s).but m = s.but m := but_mono hm (urgentEnd_but' k res s)

theorem refEnd_but' (k : Nat) (res : AttemptEnd) (delay : Nat) (s : State) : (refEnd k res delay s).but 1180288 = s.but 1180288 := by
  unfold refEnd
  repeat' first
  | with_reducible rfl
  | simp (disch := first | exact Or.inr rfl | exact Or.inl rfl | decide) only [↓but_mk, ↓but_ite, ↓but_snd_ite, ↓but_snd_mk, ↓but_snd2_ite, ↓but_snd2_mk, ↓but_cond, ite_self, outOf_live, outOf_next, outOf_ite, ↓tecSent_but, ↓setBus_but, ↓tecError_but]
  | split <;> try (with_reducible have h := congrArg Prod.snd ‹(_ : _ × State) = (_, _)›; dsimp only at h; subst h)
  | with_reducible refine (each_but (fun _ _ => ?_) _ _).trans ?_
  | with_reducible refine (whenS_but (fun _ => ?_) _ _).trans ?_
  | with_reducible refine (foldl_but (fun _ _ => ?_) _ _).trans ?_
  | with_reducible refine (foldl_but2 (fun _ _ => ?_) _ _).trans ?_
theorem refEnd_but {m} (hm : sub 1180288 m = true) (k : Nat) (res : AttemptEnd) (delay : Nat) (s : State) : (refEnd k res delay s).but m = s.but m := but_mono hm (refEnd_but' k res delay s)

theorem busRound_but' (s : State) : (busRound s).but 131072 = s.but 131072 := by
  unfold busRound
  repeat' first
  | with_reducible rfl
  | simp (disch := first | exact Or.inr rfl | exact Or.inl rfl | decide) only [↓but_mk, ↓but_ite, ↓but_snd_ite, ↓but_snd_mk, ↓but_snd2_ite, ↓but_snd2_mk, ↓but_cond, ite_self, outOf_live, outOf_next, outOf_ite, ↓setBus_but]
  | split <;> try (with_reducible have h := congrArg Prod.snd ‹(_ : _ × State) = (_, _)›; dsimp only at h; subst h)
  | with_reducible refine (each_but (fun _ _ => ?_) _ _).trans ?_
  | with_reducible refine (whenS_but (fun _ => ?_) _ _).trans ?_
  | with_reducible refine (foldl_but (fun _ _ => ?_) _ _).trans ?_
  | with_reducible refine (foldl_but2 (fun _ _ => ?_) _ _).trans ?_
theorem busRound_but {m} (hm : sub 131072 m = true) (s : State) : (busRound s).but m = s.but m := but_mono hm (busRound_but' s)

theorem decodeSignals_but' (entry : Nat) (f : BusFrame) (s : State) : (decodeSignals entry f s).but 131072 = s.but 131072 := by
  unfold decodeSignals
  repeat' first
  | with_reducible rfl
  | simp (disch := first | exact Or.inr rfl | exact Or.inl rfl | decide) only [↓but_mk, ↓but_ite, ↓but_snd_ite, ↓but_snd_mk, ↓but_snd2_ite, ↓but_snd2_mk, ↓but_cond, ite_self, outOf_live, outOf_next, outOf_ite]
  | split <;> try (with_reducible have h := congrArg Prod.snd ‹(_ : _ × State) = (_, _)›; dsimp only at h; subst h)
  | with_reducible refine (each_but (fun _ _ => ?_) _ _).trans ?_
  | with_reducible refine (whenS_but (fun _ => ?_) _ _).trans ?_
  | with_reducible refine (foldl_but (fun _ _ => ?_) _ _).trans ?_
  | with_reducible refine (foldl_but2 (fun _ _ => ?_) _ _).trans ?_
theorem decodeSignals_but {m} (hm : sub 131072 m = true) (entry : Nat) (f : BusFrame) (s : State) : (decodeSignals entry f s).but m = s.but m := but_mono hm (decodeSignals_but' entry f s)

theorem rxStore_but' (k : Nat) (n : Nat) (o : Nat) (f : BusFrame) (s : State) : (rxStore k n o f s).but 1180160 = s.but 1180160 := by
  unfold rxStore
  repeat' first
  | with_reducible rfl
  | simp (disch := first | exact Or.inr rfl | exact Or.inl rfl | decide) only [↓but_mk, ↓but_ite, ↓but_snd_ite, ↓but_snd_mk, ↓but_snd2_ite, ↓but_snd2_mk, ↓but_cond, ite_self, outOf_live, outOf_next, outOf_ite, ↓setBus_but, ↓setBuf_but, ↓setErr_but]
  | split <;> try (with_reducible have h := congrArg Prod.snd ‹(_ : _ × State) = (_, _)›; dsimp only at h; subst h)
  | with_reducible refine (each_but (fun _ _ => ?_) _ _).trans ?_
  | with_reducible refine (whenS_but (fun _ => ?_) _ _).trans ?_
  | with_reducible refine (foldl_but (fun _ _ => ?_) _ _).trans ?_
  | with_reducible refine (foldl_but2 (fun _ _ => ?_) _ _).trans ?_
theorem rxStore_but {m} (hm : sub 1180160 m = true) (k : Nat) (n : Nat) (o : Nat) (f : BusFrame) (s : State) : (rxStore k n o f s).but m = s.but m := but_mono hm (rxStore_but' k n o f s)

theorem pmFill_but' (k : Nat) (i : Nat) (c : RxBuf) (s : State) : (pmFill k i c s).but 1180160 = s.but 1180160 := by
  unfold pmFill
  repeat' first
  | with_reducible rfl
  | simp (disch := first | exact Or.inr rfl | exact Or.inl rfl | decide) only [↓but_mk, ↓but_ite, ↓but_snd_ite, ↓but_snd_mk, ↓but_snd2_ite, ↓but_snd2_mk, ↓but_cond, ite_self, outOf_live, outOf_next, outOf_ite, ↓setErr_but, ↓setBuf_but]
  | split <;> try (with_reducible have h := congrArg Prod.snd ‹(_ : _ × State) = (_, _)›; dsimp only at h; subst h)
  | with_reducible refine (each_but (fun _ _ => ?_) _ _).trans ?_
  | with_reducible refine (whenS_but (fun _ => ?_) _ _).trans ?_
  | with_reducible refine (foldl_but (fun _ _ => ?_) _ _).trans ?_
  | with_reducible refine (foldl_but2 (fun _ _ => ?_) _ _).trans ?_
theorem pmFill_but {m} (hm : sub 1180160 m = true) (k : Nat) (i : Nat) (c : RxBuf) (s : State) : (pmFill k i c s).but m = s.but m := but_mono hm (pmFill_but' k i c s)

theorem pmStore_but' (k : Nat) (i : Nat) (f : BusFrame) (s : State) : (pmStore k i f s).but 1180160 = s.but 1180160 := by
  unfold pmStore
  repeat' first
  | with_reducible rfl
  | simp (disch := first | exact Or.inr rfl | exact Or.inl rfl | decide) only [↓but_mk, ↓but_ite, ↓but_snd_ite, ↓but_snd_mk, ↓but_snd2_ite, ↓but_snd2_mk, ↓but_cond, ite_self, outOf_live, outOf_next, outOf_ite, ↓setBuf_but, ↓pmFill_but]
  | split <;> try (with_reducible have h := congrArg Prod.snd ‹(_ : _ × State) = (_, _)›; dsimp only at h; subst h)
  | with_reducible refine (each_but (fun _ _ => ?_) _ _).trans ?_
  | with_reducible refine (whenS_but (fun _ => ?_) _ _).trans ?_
  | with_reducible refine (foldl_but (fun _ _ => ?_) _ _).trans ?_
  | with_reducible refine (foldl_but2 (fun _ _ => ?_) _ _).trans ?_
theorem pmStore_but {m} (hm : sub 1180160 m = true) (k : Nat) (i : Nat) (f : BusFrame) (s : State) : (pmStore k i f s).but m = s.but m := but_mono hm (pmStore_but' k i f s)

theorem pmUnlock_but' (k : Nat) (i : Nat) (stale : Bool) (s : State) : (pmUnlock k i stale s).but 1180160 = s.but 1180160 := by
  unfold pmUnlock
  repeat' first
  | with_reducible rfl
  | simp (disch := first | exact Or.inr rfl | exact Or.inl rfl | decide) only [↓but_mk, ↓but_ite, ↓but_snd_ite, ↓but_snd_mk, ↓but_snd2_ite, ↓but_snd2_mk, ↓but_cond, ite_self, outOf_live, outOf_next, outOf_ite, ↓setBuf_but, ↓pmFill_but]
  | split <;> try (with_reducible have h := congrArg Prod.snd ‹(_ : _ × State) = (_, _)›; dsimp only at h; subst h)
  | with_reducible refine (each_but (fun _ _ => ?_) _ _).trans ?_
  | with_reducible refine (whenS_but (fun _ => ?_) _ _).trans ?_
  | with_reducible refine (foldl_but (fun _ _ => ?_) _ _).trans ?_
  | with_reducible refine (foldl_but2 (fun _ _ => ?_) _ _).trans ?_
theorem pmUnlock_but {m} (hm : sub 1180160 m = true) (k : Nat) (i : Nat) (stale : Bool) (s : State) : (pmUnlock k i stale s).but m = s.but m := but_mono hm (pmUnlock_but' k i stale s)

theorem rxTooLong_but' (k : Nat) (s : State) : (rxTooLong k s).but 131072 = s.but 131072 := by
  unfold rxTooLong
  repeat' first
  | with_reducible rfl
  | simp (disch := first | exact Or.inr rfl | exact Or.inl rfl | decide) only [↓but_mk, ↓but_ite, ↓but_snd_ite, ↓but_snd_mk, ↓but_snd2_ite, ↓but_snd2_mk, ↓but_cond, ite_self, outOf_live, outOf_next, outOf_ite, ↓setBus_but]
  | split <;> try (with_reducible have h := congrArg Prod.snd ‹(_ : _ × State) = (_, _)›; dsimp only at h; subst h)
  | with_reducible refine (each_but (fun _ _ => ?_) _ _).trans ?_
  | with_reducible refine (whenS_but (fun _ => ?_) _ _).trans ?_
  | with_reducible refine (foldl_but (fun _ _ => ?_) _ _).trans ?_
  | with_reducible refine (foldl_but2 (fun _ _ => ?_) _ _).trans ?_
theorem rxTooLong_but {m} (hm : sub 131072 m = true) (k : Nat) (s : State) : (rxTooLong k s).but m = s.but m := but_mono hm (rxTooLong_but' k s)

theorem rxNoMatch_but' (k : Nat) (s : State) : (rxNoMatch k s).but 131072 = s.but 131072 := by
  unfold rxNoMatch
  repeat' first
  | with_reducible rfl
  | simp (disch := first | exact Or.inr rfl | exact Or.inl rfl | decide) only [↓but_mk, ↓but_ite, ↓but_snd_ite, ↓but_snd_mk, ↓but_snd2_ite, ↓but_snd2_mk, ↓but_cond, ite_self, outOf_live, outOf_next, outOf_ite, ↓setBus_but]
  | split <;> try (with_reducible have h := congrArg Prod.snd ‹(_ : _ × State) = (_, _)›; dsimp only at h; subst h)
  | with_reducible refine (each_but (fun _ _ => ?_) _ _).trans ?_
  | with_reducible refine (whenS_but (fun _ => ?_) _ _).trans ?_
  | with_reducible refine (foldl_but (fun _ _ => ?_) _ _).trans ?_
  | with_reducible refine (foldl_but2 (fun _ _ => ?_) _ _).trans ?_
theorem rxNoMatch_but {m} (hm : sub 131072 m = true) (k : Nat) (s : State) : (rxNoMatch k s).but m = s.but m := but_mono hm (rxNoMatch_but' k s)

theorem rxRoute_but' (k : Nat) (f : BusFrame) (broken : Bool) (s : State) : (rxRoute k f broken s).but 1180160 = s.but 1180160 := by
  unfold rxRoute
  repeat' first
  | with_reducible rfl
  | simp (disch := first | exact Or.inr rfl | exact Or.inl rfl | decide) only [↓but_mk, ↓but_ite, ↓but_snd_ite, ↓but_snd_mk, ↓but_snd2_ite, ↓but_snd2_mk, ↓but_cond, ite_self, outOf_live, outOf_next, outOf_ite, ↓rxNoMatch_but, ↓setBus_but, ↓decodeSignals_but, ↓rxTooLong_but, ↓rxStore_but, ↓pmStore_but]
  | split <;> try (with_reducible have h := congrArg Prod.snd ‹(_ : _ × State) = (_, _)›; dsimp only at h; subst h)
  | with_reducible refine (each_but (fun _ _ => ?_) _ _).trans ?_
  | with_reducible refine (whenS_but (fun _ => ?_) _ _).trans ?_
  | with_reducible refine (foldl_but (fun _ _ => ?_) _ _).trans ?_
  | with_reducible refine (foldl_but2 (fun _ _ => ?_) _ _).trans ?_
theorem rxRoute_but {m} (hm : sub 1180160 m = true) (k : Nat) (f : BusFrame) (broken : Bool) (s : State) : (rxRoute k f broken s).but m = s.but m := but_mono hm (rxRoute_but' k f broken s)

theorem autoNext_but' (k : Nat) (s : State) : (autoNext k s).but 1180288 = s.but 1180288 := by
  unfold autoNext
  repeat' first
  | with_reducible rfl
  | simp (disch := first | exact Or.inr rfl | exact Or.inl rfl | decide) only [↓but_mk, ↓but_ite, ↓but_snd_ite, ↓but_snd_mk, ↓but_snd2_ite, ↓but_snd2_mk, ↓but_cond, ite_self, outOf_live, outOf_next, outOf_ite, ↓setBus_but, ↓fbEmit_but]
  | split <;> try (with_reducible have h := congrArg Prod.snd ‹(_ : _ × State) = (_, _)›; dsimp only at h; subst h)
  | with_reducible refine (each_but (fun _ _ => ?_) _ _).trans ?_
  | with_reducible refine (whenS_but (fun _ => ?_) _ _).trans ?_
  | with_reducible refine (foldl_but (fun _ _ => ?_) _ _).trans ?_
  | with_reducible refine (foldl_but2 (fun _ _ => ?_) _ _).trans ?_
theorem autoNext_but {m} (hm : sub 1180288 m = true) (k : Nat) (s : State) : (autoNext k s).but m = s.but m := but_mono hm (autoNext_but' k s)

theorem autoFrame_but' (k : Nat) (f : BusFrame) (s : State) : (autoFrame k f s).but 1180288 = s.but 1180288 := by
  unfold autoFrame
  repeat' first
  | with_reducible rfl
  | simp (disch := first | exact Or.inr rfl | exact Or.inl rfl | decide) only [↓but_mk, ↓but_ite, ↓but_snd_ite, ↓but_snd_mk, ↓but_snd2_ite, ↓but_snd2_mk, ↓but_cond, ite_self, outOf_live, outOf_next, outOf_ite, ↓autoNext_but, ↓fbEmit_but, ↓setBus_but]
  | split <;> try (with_reducible have h := congrArg Prod.snd ‹(_ : _ × State) = (_, _)›; dsimp only at h; subst h)
  | with_reducible refine (each_but (fun _ _ => ?_) _ _).trans ?_
  | with_reducible refine (whenS_but (fun _ => ?_) _ _).trans ?_
  | with_reducible refine (foldl_but (fun _ _ => ?_) _ _).trans ?_
  | with_reducible refine (foldl_but2 (fun _ _ => ?_) _ _).trans ?_
theorem autoFrame_but {m} (hm : sub 1180288 m = true) (k : Nat) (f : BusFrame) (s : State) : (autoFrame k f s).but m = s.but m := but_mono hm (autoFrame_but' k f s)

theorem recError_but' (k : Nat) (kind : Nat) (s : State) : (recError k kind s).but 1180288 = s.but 1180288 := by
  unfold recError
  repeat' first
  | with_reducible rfl
  | simp (disch := first | exact Or.inr rfl | exact Or.inl rfl | decide) only [↓but_mk, ↓but_ite, ↓but_snd_ite, ↓but_snd_mk, ↓but_snd2_ite, ↓but_snd2_mk, ↓but_cond, ite_self, outOf_live, outOf_next, outOf_ite, ↓errPassive_but, ↓setBus_but]
  | split <;> try (with_reducible have h := congrArg Prod.snd ‹(_ : _ × State) = (_, _)›; dsimp only at h; subst h)
  | with_reducible refine (each_but (fun _ _ => ?_) _ _).trans ?_
  | with_reducible refine (whenS_but (fun _ => ?_) _ _).trans ?_
  | with_reducible refine (foldl_but (fun _ _ => ?_) _ _).trans ?_
  | with_reducible refine (foldl_but2 (fun _ _ => ?_) _ _).trans ?_
theorem recError_but {m} (hm : sub 1180288 m = true) (k : Nat) (kind : Nat) (s : State) : (recError k kind s).but m = s.but m := but_mono hm (recError_but' k kind s)

theorem rxError_but' (k : Nat) (kind : Nat) (s : State) : (rxError k kind s).but 1180288 = s.but 1180288 := by
  unfold rxError
  repeat' first
  | with_reducible rfl
  | simp (disch := first | exact Or.inr rfl | exact Or.inl rfl | decide) only [↓but_mk, ↓but_ite, ↓but_snd_ite, ↓but_snd_mk, ↓but_snd2_ite, ↓but_snd2_mk, ↓but_cond, ite_self, outOf_live, outOf_next, outOf_ite, ↓autoNext_but, ↓recError_but]
  | split <;> try (with_reducible have h := congrArg Prod.snd ‹(_ : _ × State) = (_, _)›; dsimp only at h; subst h)
  | with_reducible refine (each_but (fun _ _ => ?_) _ _).trans ?_
  | with_reducible refine (whenS_but (fun _ => ?_) _ _).trans ?_
  | with_reducible refine (foldl_but (fun _ _ => ?_) _ _).trans ?_
  | with_reducible refine (foldl_but2 (fun _ _ => ?_) _ _).trans ?_
theorem rxError_but {m} (hm : sub 1180288 m = true) (k : Nat) (kind : Nat) (s : State) : (rxError k kind s).but m = s.but m := but_mono hm (rxError_but' k kind s)

theorem rxFrame_but' (k : Nat) (f : BusFrame) (broken : Bool) (s : State) : (rxFrame k f broken s).but 1180288 = s.but 1180288 := by
  unfold rxFrame
  repeat' first
  | with_reducible rfl
  | simp (disch := first | exact Or.inr rfl | exact Or.inl rfl | decide) only [↓but_mk, ↓but_ite, ↓but_snd_ite, ↓but_snd_mk, ↓but_snd2_ite, ↓but_snd2_mk, ↓but_cond, ite_self, outOf_live, outOf_next, outOf_ite, ↓setBus_but, ↓setBuf_but, ↓autoFrame_but, ↓errPassive_but, ↓rxRoute_but]
  | split <;> try (with_reducible have h := congrArg Prod.snd ‹(_ : _ × State) = (_, _)›; dsimp only at h; subst h)
  | with_reducible refine (each_but (fun _ _ => ?_) _ _).trans ?_
  | with_reducible refine (whenS_but (fun _ => ?_) _ _).trans ?_
  | with_reducible refine (foldl_but (fun _ _ => ?_) _ _).trans ?_
  | with_reducible refine (foldl_but2 (fun _ _ => ?_) _ _).trans ?_
theorem rxFrame_but {m} (hm : sub 1180288 m = true) (k : Nat) (f : BusFrame) (broken : Bool) (s : State) : (rxFrame k f broken s).but m = s.but m := but_mono hm (rxFrame_but' k f broken s)

theorem startWake_but' (k : Nat) (s : State) : (startWake k s).but 131072 = s.but 131072 := by
  unfold startWake
  repeat' first
  | with_reducible rfl
  | simp (disch := first | exact Or.inr rfl | exact Or.inl rfl | decide) only [↓but_mk, ↓but_ite, ↓but_snd_ite, ↓but_snd_mk, ↓but_snd2_ite, ↓but_snd2_mk, ↓but_cond, ite_self, outOf_live, outOf_next, outOf_ite, ↓setBuf_but, ↓setBus_but]
  | split <;> try (with_reducible have h := congrArg Prod.snd ‹(_ : _ × State) = (_, _)›; dsimp only at h; subst h)
  | with_reducible refine (each_but (fun _ _ => ?_) _ _).trans ?_
  | with_reducible refine (whenS_but (fun _ => ?_) _ _).trans ?_
  | with_reducible refine (foldl_but (fun _ _ => ?_) _ _).trans ?_
  | with_reducible refine (foldl_but2 (fun _ _ => ?_) _ _).trans ?_
theorem startWake_but {m} (hm : sub 131072 m = true) (k : Nat) (s : State) : (startWake k s).but m = s.but m := but_mono hm (startWake_but' k s)

theorem txCommitOp_but' (k : Nat) (host : Bool) (s : State) : (txCommitOp k host s).but 131072 = s.but 131072 := by
  unfold txCommitOp
  repeat' first
  | with_reducible rfl
  | simp (disch := first | exact Or.inr rfl | exact Or.inl rfl | decide) only [↓but_mk, ↓but_ite, ↓but_snd_ite, ↓but_snd_mk, ↓but_snd2_ite, ↓but_snd2_mk, ↓but_cond, ite_self, outOf_live, outOf_next, outOf_ite, ↓txEnqueue_but, ↓setBus_but, ↓startWake_but]
  | split <;> try (with_reducible have h := congrArg Prod.snd ‹(_ : _ × State) = (_, _)›; dsimp only at h; subst h)
  | with_reducible refine (each_but (fun _ _ => ?_) _ _).trans ?_
  | with_reducible refine (whenS_but (fun _ => ?_) _ _).trans ?_
  | with_reducible refine (foldl_but (fun _ _ => ?_) _ _).trans ?_
  | with_reducible refine (foldl_but2 (fun _ _ => ?_) _ _).trans ?_
theorem txCommitOp_but {m} (hm : sub 131072 m = true) (k : Nat) (host : Bool) (s : State) : (txCommitOp k host s).but m = s.but m := but_mono hm (txCommitOp_but' k host s)

theorem busStart_but' (s : State) : (busStart s).but 131072 = s.but 131072 := by
  unfold busStart
  repeat' first
  | with_reducible rfl
  | simp (disch := first | exact Or.inr rfl | exact Or.inl rfl | decide) only [↓but_mk, ↓but_ite, ↓but_snd_ite, ↓but_snd_mk, ↓but_snd2_ite, ↓but_snd2_mk, ↓but_cond, ite_self, outOf_live, outOf_next, outOf_ite, ↓setBuf_but, ↓setBus_but]
  | split <;> try (with_reducible have h := congrArg Prod.snd ‹(_ : _ × State) = (_, _)›; dsimp only at h; subst h)
  | with_reducible refine (each_but (fun _ _ => ?_) _ _).trans ?_
  | with_reducible refine (whenS_but (fun _ => ?_) _ _).trans ?_
  | with_reducible refine (foldl_but (fun _ _ => ?_) _ _).trans ?_
  | with_reducible refine (foldl_but2 (fun _ _ => ?_) _ _).trans ?_
theorem busStart_but {m} (hm : sub 131072 m = true) (s : State) : (busStart s).but m = s.but m := but_mono hm (busStart_but' s)

theorem releaseOutputs_but' (s : State) : (releaseOutputs s).but 139272 = s.but 139272 := by
  unfold releaseOutputs
  repeat' first
  | with_reducible rfl
  | simp (disch := first | exact Or.inr rfl | exact Or.inl rfl | decide) only [↓but_mk, ↓but_ite, ↓but_snd_ite, ↓but_snd_mk, ↓but_snd2_ite, ↓but_snd2_mk, ↓but_cond, ite_self, outOf_live, outOf_next, outOf_ite, ↓flushDrive_but]
  | split <;> try (with_reducible have h := congrArg Prod.snd ‹(_ : _ × State) = (_, _)›; dsimp only at h; subst h)
  | with_reducible refine (each_but (fun _ _ => ?_) _ _).trans ?_
  | with_reducible refine (whenS_but (fun _ => ?_) _ _).trans ?_
  | with_reducible refine (foldl_but (fun _ _ => ?_) _ _).trans ?_
  | with_reducible refine (foldl_but2 (fun _ _ => ?_) _ _).trans ?_
theorem releaseOutputs_but {m} (hm : sub 139272 m = true) (s : State) : (releaseOutputs s).but m = s.but m := but_mono hm (releaseOutputs_but' s)

theorem setRole_but' (new : Role) (held : Nat) (s : State) : (setRole new held s).but 8591114882 = s.but 8591114882 := by
  unfold setRole
  repeat' first
  | with_reducible rfl
  | simp (disch := first | exact Or.inr rfl | exact Or.inl rfl | decide) only [↓but_mk, ↓but_ite, ↓but_snd_ite, ↓but_snd_mk, ↓but_snd2_ite, ↓but_snd2_mk, ↓but_cond, ite_self, outOf_live, outOf_next, outOf_ite, ↓freshWord_but, ↓releaseIds_but, ↓emit_but]
  | split <;> try (with_reducible have h := congrArg Prod.snd ‹(_ : _ × State) = (_, _)›; dsimp only at h; subst h)
  | with_reducible refine (each_but (fun _ _ => ?_) _ _).trans ?_
  | with_reducible refine (whenS_but (fun _ => ?_) _ _).trans ?_
  | with_reducible refine (foldl_but (fun _ _ => ?_) _ _).trans ?_
  | with_reducible refine (foldl_but2 (fun _ _ => ?_) _ _).trans ?_
theorem setRole_but {m} (hm : sub 8591114882 m = true) (new : Role) (held : Nat) (s : State) : (setRole new held s).but m = s.but m := but_mono hm (setRole_but' new held s)

theorem yieldRole_but' (held : Nat) (s : State) : (yieldRole held s).but 8591123082 = s.but 8591123082 := by
  unfold yieldRole
  repeat' first
  | with_reducible rfl
  | simp (disch := first | exact Or.inr rfl | exact Or.inl rfl | decide) only [↓but_mk, ↓but_ite, ↓but_snd_ite, ↓but_snd_mk, ↓but_snd2_ite, ↓but_snd2_mk, ↓but_cond, ite_self, outOf_live, outOf_next, outOf_ite, ↓setRole_but, ↓releaseOutputs_but]
  | split <;> try (with_reducible have h := congrArg Prod.snd ‹(_ : _ × State) = (_, _)›; dsimp only at h; subst h)
  | with_reducible refine (each_but (fun _ _ => ?_) _ _).trans ?_
  | with_reducible refine (whenS_but (fun _ => ?_) _ _).trans ?_
  | with_reducible refine (foldl_but (fun _ _ => ?_) _ _).trans ?_
  | with_reducible refine (foldl_but2 (fun _ _ => ?_) _ _).trans ?_
theorem yieldRole_but {m} (hm : sub 8591123082 m = true) (held : Nat) (s : State) : (yieldRole held s).but m = s.but m := but_mono hm (yieldRole_but' held s)

theorem settleDriving_but' (s : State) : (settleDriving s).but 8591114882 = s.but 8591114882 := by
  unfold settleDriving
  repeat' first
  | with_reducible rfl
  | simp (disch := first | exact Or.inr rfl | exact Or.inl rfl | decide) only [↓but_mk, ↓but_ite, ↓but_snd_ite, ↓but_snd_mk, ↓but_snd2_ite, ↓but_snd2_mk, ↓but_cond, ite_self, outOf_live, outOf_next, outOf_ite, ↓setRole_but]
  | split <;> try (with_reducible have h := congrArg Prod.snd ‹(_ : _ × State) = (_, _)›; dsimp only at h; subst h)
  | with_reducible refine (each_but (fun _ _ => ?_) _ _).trans ?_
  | with_reducible refine (whenS_but (fun _ => ?_) _ _).trans ?_
  | with_reducible refine (foldl_but (fun _ _ => ?_) _ _).trans ?_
  | with_reducible refine (foldl_but2 (fun _ _ => ?_) _ _).trans ?_
theorem settleDriving_but {m} (hm : sub 8591114882 m = true) (s : State) : (settleDriving s).but m = s.but m := but_mono hm (settleDriving_but' s)

theorem startHandover_but' (h : HandoverSt) (s : State) : (startHandover h s).but 1049224 = s.but 1049224 := by
  unfold startHandover
  repeat' first
  | with_reducible rfl
  | simp (disch := first | exact Or.inr rfl | exact Or.inl rfl | decide) only [↓but_mk, ↓but_ite, ↓but_snd_ite, ↓but_snd_mk, ↓but_snd2_ite, ↓but_snd2_mk, ↓but_cond, ite_self, outOf_live, outOf_next, outOf_ite, ↓emit_but]
  | split <;> try (with_reducible have h := congrArg Prod.snd ‹(_ : _ × State) = (_, _)›; dsimp only at h; subst h)
  | with_reducible refine (each_but (fun _ _ => ?_) _ _).trans ?_
  | with_reducible refine (whenS_but (fun _ => ?_) _ _).trans ?_
  | with_reducible refine (foldl_but (fun _ _ => ?_) _ _).trans ?_
  | with_reducible refine (foldl_but2 (fun _ _ => ?_) _ _).trans ?_
theorem startHandover_but {m} (hm : sub 1049224 m = true) (h : HandoverSt) (s : State) : (startHandover h s).but m = s.but m := but_mono hm (startHandover_but' h s)

theorem requestHandover_but' (cause : Nat) (cmd : Option Dgram) (arg : Nat) (s : State) : (requestHandover cause cmd arg s).but 1049224 = s.but 1049224 := by
  unfold requestHandover
  repeat' first
  | with_reducible rfl
  | simp (disch := first | exact Or.inr rfl | exact Or.inl rfl | decide) only [↓but_mk, ↓but_ite, ↓but_snd_ite, ↓but_snd_mk, ↓but_snd2_ite, ↓but_snd2_mk, ↓but_cond, ite_self, outOf_live, outOf_next, outOf_ite, ↓startHandover_but]
  | split <;> try (with_reducible have h := congrArg Prod.snd ‹(_ : _ × State) = (_, _)›; dsimp only at h; subst h)
  | with_reducible refine (each_but (fun _ _ => ?_) _ _).trans ?_
  | with_reducible refine (whenS_but (fun _ => ?_) _ _).trans ?_
  | with_reducible refine (foldl_but (fun _ _ => ?_) _ _).trans ?_
  | with_reducible refine (foldl_but2 (fun _ _ => ?_) _ _).trans ?_
theorem requestHandover_but {m} (hm : sub 1049224 m = true) (cause : Nat) (cmd : Option Dgram) (arg : Nat) (s : State) : (requestHandover cause cmd arg s).but m = s.but m := but_mono hm (requestHandover_but' cause cmd arg s)

theorem nextHandover_but' (s : State) : (nextHandover s).but 1049224 = s.but 1049224 := by
  unfold nextHandover
  repeat' first
  | with_reducible rfl
  | simp (disch := first | exact Or.inr rfl | exact Or.inl rfl | decide) only [↓but_mk, ↓but_ite, ↓but_snd_ite, ↓but_snd_mk, ↓but_snd2_ite, ↓but_snd2_mk, ↓but_cond, ite_self, outOf_live, outOf_next, outOf_ite, ↓startHandover_but]
  | split <;> try (with_reducible have h := congrArg Prod.snd ‹(_ : _ × State) = (_, _)›; dsimp only at h; subst h)
  | with_reducible refine (each_but (fun _ _ => ?_) _ _).trans ?_
  | with_reducible refine (whenS_but (fun _ => ?_) _ _).trans ?_
  | with_reducible refine (foldl_but (fun _ _ => ?_) _ _).trans ?_
  | with_reducible refine (foldl_but2 (fun _ _ => ?_) _ _).trans ?_
theorem nextHandover_but {m} (hm : sub 1049224 m = true) (s : State) : (nextHandover s).but m = s.but m := but_mono hm (nextHandover_but' s)

theorem cancelHandover_but' (cause : Nat) (s : State) : (cancelHandover cause s).but 1049224 = s.but 1049224 := by
  unfold cancelHandover
  repeat' first
  | with_reducible rfl
  | simp (disch := first | exact Or.inr rfl | exact Or.inl rfl | decide) only [↓but_mk, ↓but_ite, ↓but_snd_ite, ↓but_snd_mk, ↓but_snd2_ite, ↓but_snd2_mk, ↓but_cond, ite_self, outOf_live, outOf_next, outOf_ite, ↓nextHandover_but]
  | split <;> try (with_reducible have h := congrArg Prod.snd ‹(_ : _ × State) = (_, _)›; dsimp only at h; subst h)
  | with_reducible refine (each_but (fun _ _ => ?_) _ _).trans ?_
  | with_reducible refine (whenS_but (fun _ => ?_) _ _).trans ?_
  | with_reducible refine (foldl_but (fun _ _ => ?_) _ _).trans ?_
  | with_reducible refine (foldl_but2 (fun _ _ => ?_) _ _).trans ?_
theorem cancelHandover_but {m} (hm : sub 1049224 m = true) (cause : Nat) (s : State) : (cancelHandover cause s).but m = s.but m := but_mono hm (cancelHandover_but' cause s)

theorem enterSafe_but' (ho : Nat) (s : State) : (enterSafe ho s).but 8591139546 = s.but 8591139546 := by
  unfold enterSafe
  repeat' first
  | with_reducible rfl
  | simp (disch := first | exact Or.inr rfl | exact Or.inl rfl | decide) only [↓but_mk, ↓but_ite, ↓but_snd_ite, ↓but_snd_mk, ↓but_snd2_ite, ↓but_snd2_mk, ↓but_cond, ite_self, outOf_live, outOf_next, outOf_ite, ↓programStaging_but, ↓swAbortAll_but, ↓restrictBuses_but, ↓releaseOutputs_but, ↓setRole_but, ↓emit_but]
  | split <;> try (with_reducible have h := congrArg Prod.snd ‹(_ : _ × State) = (_, _)›; dsimp only at h; subst h)
  | with_reducible refine (each_but (fun _ _ => ?_) _ _).trans ?_
  | with_reducible refine (whenS_but (fun _ => ?_) _ _).trans ?_
  | with_reducible refine (foldl_but (fun _ _ => ?_) _ _).trans ?_
  | with_reducible refine (foldl_but2 (fun _ _ => ?_) _ _).trans ?_
theorem enterSafe_but {m} (hm : sub 8591139546 m = true) (ho : Nat) (s : State) : (enterSafe ho s).but m = s.but m := but_mono hm (enterSafe_but' ho s)

theorem fatal_but' (cause : Nat) (code : Nat) (unit : Nat) (args : List Word) (s : State) : (fatal cause code unit args s).but 8591139546 = s.but 8591139546 := by
  unfold fatal
  repeat' first
  | with_reducible rfl
  | simp (disch := first | exact Or.inr rfl | exact Or.inl rfl | decide) only [↓but_mk, ↓but_ite, ↓but_snd_ite, ↓but_snd_mk, ↓but_snd2_ite, ↓but_snd2_mk, ↓but_cond, ite_self, outOf_live, outOf_next, outOf_ite, ↓emit_but, ↓startHandover_but, ↓enterSafe_but]
  | split <;> try (with_reducible have h := congrArg Prod.snd ‹(_ : _ × State) = (_, _)›; dsimp only at h; subst h)
  | with_reducible refine (each_but (fun _ _ => ?_) _ _).trans ?_
  | with_reducible refine (whenS_but (fun _ => ?_) _ _).trans ?_
  | with_reducible refine (foldl_but (fun _ _ => ?_) _ _).trans ?_
  | with_reducible refine (foldl_but2 (fun _ _ => ?_) _ _).trans ?_
theorem fatal_but {m} (hm : sub 8591139546 m = true) (cause : Nat) (code : Nat) (unit : Nat) (args : List Word) (s : State) : (fatal cause code unit args s).but m = s.but m := but_mono hm (fatal_but' cause code unit args s)

theorem mirrorSend_but' (sub : Nat) (size : Nat) (recs : List Bytes) (s : State) : (mirrorSend sub size recs s).but 8388608 = s.but 8388608 := by
  unfold mirrorSend
  repeat' first
  | with_reducible rfl
  | simp (disch := first | exact Or.inr rfl | exact Or.inl rfl | decide) only [↓but_mk, ↓but_ite, ↓but_snd_ite, ↓but_snd_mk, ↓but_snd2_ite, ↓but_snd2_mk, ↓but_cond, ite_self, outOf_live, outOf_next, outOf_ite, ↓sendFrags_but]
  | split <;> try (with_reducible have h := congrArg Prod.snd ‹(_ : _ × State) = (_, _)›; dsimp only at h; subst h)
  | with_reducible refine (each_but (fun _ _ => ?_) _ _).trans ?_
  | with_reducible refine (whenS_but (fun _ => ?_) _ _).trans ?_
  | with_reducible refine (foldl_but (fun _ _ => ?_) _ _).trans ?_
  | with_reducible refine (foldl_but2 (fun _ _ => ?_) _ _).trans ?_
theorem mirrorSend_but {m} (hm : sub 8388608 m = true) (sub : Nat) (size : Nat) (recs : List Bytes) (s : State) : (mirrorSend sub size recs s).but m = s.but m := but_mono hm (mirrorSend_but' sub size recs s)

theorem mirrorStatus_but' (s : State) : (mirrorStatus s).but 8388608 = s.but 8388608 := by
  unfold mirrorStatus
  repeat' first
  | with_reducible rfl
  | simp (disch := first | exact Or.inr rfl | exact Or.inl rfl | decide) only [↓but_mk, ↓but_ite, ↓but_snd_ite, ↓but_snd_mk, ↓but_snd2_ite, ↓but_snd2_mk, ↓but_cond, ite_self, outOf_live, outOf_next, outOf_ite, ↓mirrorSend_but]
  | split <;> try (with_reducible have h := congrArg Prod.snd ‹(_ : _ × State) = (_, _)›; dsimp only at h; subst h)
  | with_reducible refine (each_but (fun _ _ => ?_) _ _).trans ?_
  | with_reducible refine (whenS_but (fun _ => ?_) _ _).trans ?_
  | with_reducible refine (foldl_but (fun _ _ => ?_) _ _).trans ?_
  | with_reducible refine (foldl_but2 (fun _ _ => ?_) _ _).trans ?_
theorem mirrorStatus_but {m} (hm : sub 8388608 m = true) (s : State) : (mirrorStatus s).but m = s.but m := but_mono hm (mirrorStatus_but' s)

theorem mirrorSnaps_but' (s : State) : (mirrorSnaps s).but 8388608 = s.but 8388608 := by
  unfold mirrorSnaps
  repeat' first
  | with_reducible rfl
  | simp (disch := first | exact Or.inr rfl | exact Or.inl rfl | decide) only [↓but_mk, ↓but_ite, ↓but_snd_ite, ↓but_snd_mk, ↓but_snd2_ite, ↓but_snd2_mk, ↓but_cond, ite_self, outOf_live, outOf_next, outOf_ite, ↓mirrorSend_but]
  | split <;> try (with_reducible have h := congrArg Prod.snd ‹(_ : _ × State) = (_, _)›; dsimp only at h; subst h)
  | with_reducible refine (each_but (fun _ _ => ?_) _ _).trans ?_
  | with_reducible refine (whenS_but (fun _ => ?_) _ _).trans ?_
  | with_reducible refine (foldl_but (fun _ _ => ?_) _ _).trans ?_
  | with_reducible refine (foldl_but2 (fun _ _ => ?_) _ _).trans ?_
theorem mirrorSnaps_but {m} (hm : sub 8388608 m = true) (s : State) : (mirrorSnaps s).but m = s.but m := but_mono hm (mirrorSnaps_but' s)

theorem mirrorOvr_but' (s : State) : (mirrorOvr s).but 8388608 = s.but 8388608 := by
  unfold mirrorOvr
  repeat' first
  | with_reducible rfl
  | simp (disch := first | exact Or.inr rfl | exact Or.inl rfl | decide) only [↓but_mk, ↓but_ite, ↓but_snd_ite, ↓but_snd_mk, ↓but_snd2_ite, ↓but_snd2_mk, ↓but_cond, ite_self, outOf_live, outOf_next, outOf_ite, ↓mirrorSend_but]
  | split <;> try (with_reducible have h := congrArg Prod.snd ‹(_ : _ × State) = (_, _)›; dsimp only at h; subst h)
  | with_reducible refine (each_but (fun _ _ => ?_) _ _).trans ?_
  | with_reducible refine (whenS_but (fun _ => ?_) _ _).trans ?_
  | with_reducible refine (foldl_but (fun _ _ => ?_) _ _).trans ?_
  | with_reducible refine (foldl_but2 (fun _ _ => ?_) _ _).trans ?_
theorem mirrorOvr_but {m} (hm : sub 8388608 m = true) (s : State) : (mirrorOvr s).but m = s.but m := but_mono hm (mirrorOvr_but' s)

theorem mirrorRound_but' (s : State) : (mirrorRound s).but 8388608 = s.but 8388608 := by
  unfold mirrorRound
  repeat' first
  | with_reducible rfl
  | simp (disch := first | exact Or.inr rfl | exact Or.inl rfl | decide) only [↓but_mk, ↓but_ite, ↓but_snd_ite, ↓but_snd_mk, ↓but_snd2_ite, ↓but_snd2_mk, ↓but_cond, ite_self, outOf_live, outOf_next, outOf_ite, ↓mirrorSnaps_but, ↓mirrorStatus_but, ↓mirrorOvr_but]
  | split <;> try (with_reducible have h := congrArg Prod.snd ‹(_ : _ × State) = (_, _)›; dsimp only at h; subst h)
  | with_reducible refine (each_but (fun _ _ => ?_) _ _).trans ?_
  | with_reducible refine (whenS_but (fun _ => ?_) _ _).trans ?_
  | with_reducible refine (foldl_but (fun _ _ => ?_) _ _).trans ?_
  | with_reducible refine (foldl_but2 (fun _ _ => ?_) _ _).trans ?_
theorem mirrorRound_but {m} (hm : sub 8388608 m = true) (s : State) : (mirrorRound s).but m = s.but m := but_mono hm (mirrorRound_but' s)

theorem claimEnd_but' (result : Nat) (s : State) : (claimEnd result s).but 1049232 = s.but 1049232 := by
  unfold claimEnd
  repeat' first
  | with_reducible rfl
  | simp (disch := first | exact Or.inr rfl | exact Or.inl rfl | decide) only [↓but_mk, ↓but_ite, ↓but_snd_ite, ↓but_snd_mk, ↓but_snd2_ite, ↓but_snd2_mk, ↓but_cond, ite_self, outOf_live, outOf_next, outOf_ite, ↓emit_but]
  | split <;> try (with_reducible have h := congrArg Prod.snd ‹(_ : _ × State) = (_, _)›; dsimp only at h; subst h)
  | with_reducible refine (each_but (fun _ _ => ?_) _ _).trans ?_
  | with_reducible refine (whenS_but (fun _ => ?_) _ _).trans ?_
  | with_reducible refine (foldl_but (fun _ _ => ?_) _ _).trans ?_
  | with_reducible refine (foldl_but2 (fun _ _ => ?_) _ _).trans ?_
theorem claimEnd_but {m} (hm : sub 1049232 m = true) (result : Nat) (s : State) : (claimEnd result s).but m = s.but m := but_mono hm (claimEnd_but' result s)

theorem abortTakeover_but' (trigger : Nat) (object : Nat) (s : State) : (abortTakeover trigger object s).but 8591123098 = s.but 8591123098 := by
  unfold abortTakeover
  repeat' first
  | with_reducible rfl
  | simp (disch := first | exact Or.inr rfl | exact Or.inl rfl | decide) only [↓but_mk, ↓but_ite, ↓but_snd_ite, ↓but_snd_mk, ↓but_snd2_ite, ↓but_snd2_mk, ↓but_cond, ite_self, outOf_live, outOf_next, outOf_ite, ↓yieldRole_but, ↓emit_but]
  | split <;> try (with_reducible have h := congrArg Prod.snd ‹(_ : _ × State) = (_, _)›; dsimp only at h; subst h)
  | with_reducible refine (each_but (fun _ _ => ?_) _ _).trans ?_
  | with_reducible refine (whenS_but (fun _ => ?_) _ _).trans ?_
  | with_reducible refine (foldl_but (fun _ _ => ?_) _ _).trans ?_
  | with_reducible refine (foldl_but2 (fun _ _ => ?_) _ _).trans ?_
theorem abortTakeover_but {m} (hm : sub 8591123098 m = true) (trigger : Nat) (object : Nat) (s : State) : (abortTakeover trigger object s).but m = s.but m := but_mono hm (abortTakeover_but' trigger object s)

theorem execFrameReceive_but' (bus : Nat) (f : BusFrame × Nat) (s : State) : (outOf (execFrameReceive bus f s) s).but 1180288 = s.but 1180288 := by
  unfold execFrameReceive
  repeat' first
  | with_reducible rfl
  | simp (disch := first | exact Or.inr rfl | exact Or.inl rfl | decide) only [↓but_mk, ↓but_ite, ↓but_snd_ite, ↓but_snd_mk, ↓but_snd2_ite, ↓but_snd2_mk, ↓but_cond, ite_self, outOf_live, outOf_next, outOf_ite, ↓rxFrame_but, ↓rxError_but]
  | split <;> try (with_reducible have h := congrArg Prod.snd ‹(_ : _ × State) = (_, _)›; dsimp only at h; subst h)
  | with_reducible refine (each_but (fun _ _ => ?_) _ _).trans ?_
  | with_reducible refine (whenS_but (fun _ => ?_) _ _).trans ?_
  | with_reducible refine (foldl_but (fun _ _ => ?_) _ _).trans ?_
  | with_reducible refine (foldl_but2 (fun _ _ => ?_) _ _).trans ?_
theorem execFrameReceive_but {m} (hm : sub 1180288 m = true) (bus : Nat) (f : BusFrame × Nat) (s : State) : (outOf (execFrameReceive bus f s) s).but m = s.but m := but_mono hm (execFrameReceive_but' bus f s)

theorem pmLockOp_but' (k : Nat) (i : Nat) (s : State) : (pmLockOp k i s).but 131072 = s.but 131072 := by
  unfold pmLockOp
  repeat' first
  | with_reducible rfl
  | simp (disch := first | exact Or.inr rfl | exact Or.inl rfl | decide) only [↓but_mk, ↓but_ite, ↓but_snd_ite, ↓but_snd_mk, ↓but_snd2_ite, ↓but_snd2_mk, ↓but_cond, ite_self, outOf_live, outOf_next, outOf_ite, ↓setBuf_but]
  | split <;> try (with_reducible have h := congrArg Prod.snd ‹(_ : _ × State) = (_, _)›; dsimp only at h; subst h)
  | with_reducible refine (each_but (fun _ _ => ?_) _ _).trans ?_
  | with_reducible refine (whenS_but (fun _ => ?_) _ _).trans ?_
  | with_reducible refine (foldl_but (fun _ _ => ?_) _ _).trans ?_
  | with_reducible refine (foldl_but2 (fun _ _ => ?_) _ _).trans ?_
theorem pmLockOp_but {m} (hm : sub 131072 m = true) (k : Nat) (i : Nat) (s : State) : (pmLockOp k i s).but m = s.but m := but_mono hm (pmLockOp_but' k i s)

theorem execPmLock_but' (bus : Nat) (i : Nat) (s : State) : (outOf (execPmLock bus i s) s).but 131072 = s.but 131072 := by
  unfold execPmLock
  repeat' first
  | with_reducible rfl
  | simp (disch := first | exact Or.inr rfl | exact Or.inl rfl | decide) only [↓but_mk, ↓but_ite, ↓but_snd_ite, ↓but_snd_mk, ↓but_snd2_ite, ↓but_snd2_mk, ↓but_cond, ite_self, outOf_live, outOf_next, outOf_ite, ↓pmLockOp_but]
  | split <;> try (with_reducible have h := congrArg Prod.snd ‹(_ : _ × State) = (_, _)›; dsimp only at h; subst h)
  | with_reducible refine (each_but (fun _ _ => ?_) _ _).trans ?_
  | with_reducible refine (whenS_but (fun _ => ?_) _ _).trans ?_
  | with_reducible refine (foldl_but (fun _ _ => ?_) _ _).trans ?_
  | with_reducible refine (foldl_but2 (fun _ _ => ?_) _ _).trans ?_
theorem execPmLock_but {m} (hm : sub 131072 m = true) (bus : Nat) (i : Nat) (s : State) : (outOf (execPmLock bus i s) s).but m = s.but m := but_mono hm (execPmLock_but' bus i s)

theorem pmReleaseOp_but' (k : Nat) (i : Nat) (s : State) : (pmReleaseOp k i s).but 1180160 = s.but 1180160 := by
  unfold pmReleaseOp
  repeat' first
  | with_reducible rfl
  | simp (disch := first | exact Or.inr rfl | exact Or.inl rfl | decide) only [↓but_mk, ↓but_ite, ↓but_snd_ite, ↓but_snd_mk, ↓but_snd2_ite, ↓but_snd2_mk, ↓but_cond, ite_self, outOf_live, outOf_next, outOf_ite, ↓pmUnlock_but]
  | split <;> try (with_reducible have h := congrArg Prod.snd ‹(_ : _ × State) = (_, _)›; dsimp only at h; subst h)
  | with_reducible refine (each_but (fun _ _ => ?_) _ _).trans ?_
  | with_reducible refine (whenS_but (fun _ => ?_) _ _).trans ?_
  | with_reducible refine (foldl_but (fun _ _ => ?_) _ _).trans ?_
  | with_reducible refine (foldl_but2 (fun _ _ => ?_) _ _).trans ?_
theorem pmReleaseOp_but {m} (hm : sub 1180160 m = true) (k : Nat) (i : Nat) (s : State) : (pmReleaseOp k i s).but m = s.but m := but_mono hm (pmReleaseOp_but' k i s)

theorem execPmRelease_but' (bus : Nat) (i : Nat) (s : State) : (outOf (execPmRelease bus i s) s).but 1180160 = s.but 1180160 := by
  unfold execPmRelease
  repeat' first
  | with_reducible rfl
  | simp (disch := first | exact Or.inr rfl | exact Or.inl rfl | decide) only [↓but_mk, ↓but_ite, ↓but_snd_ite, ↓but_snd_mk, ↓but_snd2_ite, ↓but_snd2_mk, ↓but_cond, ite_self, outOf_live, outOf_next, outOf_ite, ↓pmReleaseOp_but]
  | split <;> try (with_reducible have h := congrArg Prod.snd ‹(_ : _ × State) = (_, _)›; dsimp only at h; subst h)
  | with_reducible refine (each_but (fun _ _ => ?_) _ _).trans ?_
  | with_reducible refine (whenS_but (fun _ => ?_) _ _).trans ?_
  | with_reducible refine (foldl_but (fun _ _ => ?_) _ _).trans ?_
  | with_reducible refine (foldl_but2 (fun _ _ => ?_) _ _).trans ?_
theorem execPmRelease_but {m} (hm : sub 1180160 m = true) (bus : Nat) (i : Nat) (s : State) : (outOf (execPmRelease bus i s) s).but m = s.but m := but_mono hm (execPmRelease_but' bus i s)

theorem execPmLockTimeout_but' (bus : Nat) (i : Nat) (s : State) : (outOf (execPmLockTimeout bus i s) s).but 68289152 = s.but 68289152 := by
  unfold execPmLockTimeout
  repeat' first
  | with_reducible rfl
  | simp (disch := first | exact Or.inr rfl | exact Or.inl rfl | decide) only [↓but_mk, ↓but_ite, ↓but_snd_ite, ↓but_snd_mk, ↓but_snd2_ite, ↓but_snd2_mk, ↓but_cond, ite_self, outOf_live, outOf_next, outOf_ite, ↓clockTo_but, ↓pmUnlock_but, ↓emit_but]
  | split <;> try (with_reducible have h := congrArg Prod.snd ‹(_ : _ × State) = (_, _)›; dsimp only at h; subst h)
  | with_reducible refine (each_but (fun _ _ => ?_) _ _).trans ?_
  | with_reducible refine (whenS_but (fun _ => ?_) _ _).trans ?_
  | with_reducible refine (foldl_but (fun _ _ => ?_) _ _).trans ?_
  | with_reducible refine (foldl_but2 (fun _ _ => ?_) _ _).trans ?_
theorem execPmLockTimeout_but {m} (hm : sub 68289152 m = true) (bus : Nat) (i : Nat) (s : State) : (outOf (execPmLockTimeout bus i s) s).but m = s.but m := but_mono hm (execPmLockTimeout_but' bus i s)

theorem execTxMessageMark_but' (m0 : Nat) (s : State) : (outOf (execTxMessageMark m0 s) s).but 68289152 = s.but 68289152 := by
  unfold execTxMessageMark
  repeat' first
  | with_reducible rfl
  | simp (disch := first | exact Or.inr rfl | exact Or.inl rfl | decide) only [↓but_mk, ↓but_ite, ↓but_snd_ite, ↓but_snd_mk, ↓but_snd2_ite, ↓but_snd2_mk, ↓but_cond, ite_self, outOf_live, outOf_next, outOf_ite, ↓txMark_but, ↓clockTo_but]
  | split <;> try (with_reducible have h := congrArg Prod.snd ‹(_ : _ × State) = (_, _)›; dsimp only at h; subst h)
  | with_reducible refine (each_but (fun _ _ => ?_) _ _).trans ?_
  | with_reducible refine (whenS_but (fun _ => ?_) _ _).trans ?_
  | with_reducible refine (foldl_but (fun _ _ => ?_) _ _).trans ?_
  | with_reducible refine (foldl_but2 (fun _ _ => ?_) _ _).trans ?_
theorem execTxMessageMark_but {m} (hm : sub 68289152 m = true) (m0 : Nat) (s : State) : (outOf (execTxMessageMark m0 s) s).but m = s.but m := but_mono hm (execTxMessageMark_but' m0 s)

theorem attemptOver_but' (k : Nat) (s : State) : (attemptOver k s).but 131072 = s.but 131072 := by
  unfold attemptOver
  repeat' first
  | with_reducible rfl
  | simp (disch := first | exact Or.inr rfl | exact Or.inl rfl | decide) only [↓but_mk, ↓but_ite, ↓but_snd_ite, ↓but_snd_mk, ↓but_snd2_ite, ↓but_snd2_mk, ↓but_cond, ite_self, outOf_live, outOf_next, outOf_ite, ↓setBus_but]
  | split <;> try (with_reducible have h := congrArg Prod.snd ‹(_ : _ × State) = (_, _)›; dsimp only at h; subst h)
  | with_reducible refine (each_but (fun _ _ => ?_) _ _).trans ?_
  | with_reducible refine (whenS_but (fun _ => ?_) _ _).trans ?_
  | with_reducible refine (foldl_but (fun _ _ => ?_) _ _).trans ?_
  | with_reducible refine (foldl_but2 (fun _ _ => ?_) _ _).trans ?_
theorem attemptOver_but {m} (hm : sub 131072 m = true) (k : Nat) (s : State) : (attemptOver k s).but m = s.but m := but_mono hm (attemptOver_but' k s)

theorem execTxAttemptEnd_but' (bus : Nat) (src : TxSource) (res : AttemptEnd) (delay : Nat) (s : State) : (outOf (execTxAttemptEnd bus src res delay s) s).but 1180288 = s.but 1180288 := by
  unfold execTxAttemptEnd
  repeat' first
  | with_reducible rfl
  | simp (disch := first | exact Or.inr rfl | exact Or.inl rfl | decide) only [↓but_mk, ↓but_ite, ↓but_snd_ite, ↓but_snd_mk, ↓but_snd2_ite, ↓but_snd2_mk, ↓but_cond, ite_self, outOf_live, outOf_next, outOf_ite, ↓attemptOver_but, ↓urgentEnd_but, ↓refEnd_but, ↓queueEnd_but, ↓setBus_but]
  | split <;> try (with_reducible have h := congrArg Prod.snd ‹(_ : _ × State) = (_, _)›; dsimp only at h; subst h)
  | with_reducible refine (each_but (fun _ _ => ?_) _ _).trans ?_
  | with_reducible refine (whenS_but (fun _ => ?_) _ _).trans ?_
  | with_reducible refine (foldl_but (fun _ _ => ?_) _ _).trans ?_
  | with_reducible refine (foldl_but2 (fun _ _ => ?_) _ _).trans ?_
theorem execTxAttemptEnd_but {m} (hm : sub 1180288 m = true) (bus : Nat) (src : TxSource) (res : AttemptEnd) (delay : Nat) (s : State) : (outOf (execTxAttemptEnd bus src res delay s) s).but m = s.but m := but_mono hm (execTxAttemptEnd_but' bus src res delay s)

theorem conflictAttempt_but' (k : Nat) (key : Nat) (s : State) : (conflictAttempt k key s).but 1180288 = s.but 1180288 := by
  unfold conflictAttempt
  repeat' first
  | with_reducible rfl
  | simp (disch := first | exact Or.inr rfl | exact Or.inl rfl | decide) only [↓but_mk, ↓but_ite, ↓but_snd_ite, ↓but_snd_mk, ↓but_snd2_ite, ↓but_snd2_mk, ↓but_cond, ite_self, outOf_live, outOf_next, outOf_ite, ↓attemptOver_but, ↓urgentEnd_but, ↓refEnd_but, ↓queueEnd_but, ↓tecError_but]
  | split <;> try (with_reducible have h := congrArg Prod.snd ‹(_ : _ × State) = (_, _)›; dsimp only at h; subst h)
  | with_reducible refine (each_but (fun _ _ => ?_) _ _).trans ?_
  | with_reducible refine (whenS_but (fun _ => ?_) _ _).trans ?_
  | with_reducible refine (foldl_but (fun _ _ => ?_) _ _).trans ?_
  | with_reducible refine (foldl_but2 (fun _ _ => ?_) _ _).trans ?_
theorem conflictAttempt_but {m} (hm : sub 1180288 m = true) (k : Nat) (key : Nat) (s : State) : (conflictAttempt k key s).but m = s.but m := but_mono hm (conflictAttempt_but' k key s)

theorem conflictCount_but' (k : Nat) (id : Nat) (key : Nat) (cls : Nat) (s : State) : (conflictCount k id key cls s).but 8591123098 = s.but 8591123098 := by
  unfold conflictCount
  repeat' first
  | with_reducible rfl
  | simp (disch := first | exact Or.inr rfl | exact Or.inl rfl | decide) only [↓but_mk, ↓but_ite, ↓but_snd_ite, ↓but_snd_mk, ↓but_snd2_ite, ↓but_snd2_mk, ↓but_cond, ite_self, outOf_live, outOf_next, outOf_ite, ↓setBus_but, ↓abortTakeover_but, ↓fbEmit_but, ↓txRemove_but]
  | split <;> try (with_reducible have h := congrArg Prod.snd ‹(_ : _ × State) = (_, _)›; dsimp only at h; subst h)
  | with_reducible refine (each_but (fun _ _ => ?_) _ _).trans ?_
  | with_reducible refine (whenS_but (fun _ => ?_) _ _).trans ?_
  | with_reducible refine (foldl_but (fun _ _ => ?_) _ _).trans ?_
  | with_reducible refine (foldl_but2 (fun _ _ => ?_) _ _).trans ?_
theorem conflictCount_but {m} (hm : sub 8591123098 m = true) (k : Nat) (id : Nat) (key : Nat) (cls : Nat) (s : State) : (conflictCount k id key cls s).but m = s.but m := but_mono hm (conflictCount_but' k id key cls s)

theorem execIdConflict_but' (bus : Nat) (id : Nat) (xtd : Bool) (s : State) : (outOf (execIdConflict bus id xtd s) s).but 8591123098 = s.but 8591123098 := by
  unfold execIdConflict
  repeat' first
  | with_reducible rfl
  | simp (disch := first | exact Or.inr rfl | exact Or.inl rfl | decide) only [↓but_mk, ↓but_ite, ↓but_snd_ite, ↓but_snd_mk, ↓but_snd2_ite, ↓but_snd2_mk, ↓but_cond, ite_self, outOf_live, outOf_next, outOf_ite, ↓conflictCount_but, ↓conflictAttempt_but]
  | split <;> try (with_reducible have h := congrArg Prod.snd ‹(_ : _ × State) = (_, _)›; dsimp only at h; subst h)
  | with_reducible refine (each_but (fun _ _ => ?_) _ _).trans ?_
  | with_reducible refine (whenS_but (fun _ => ?_) _ _).trans ?_
  | with_reducible refine (foldl_but (fun _ _ => ?_) _ _).trans ?_
  | with_reducible refine (foldl_but2 (fun _ _ => ?_) _ _).trans ?_
theorem execIdConflict_but {m} (hm : sub 8591123098 m = true) (bus : Nat) (id : Nat) (xtd : Bool) (s : State) : (outOf (execIdConflict bus id xtd s) s).but m = s.but m := but_mono hm (execIdConflict_but' bus id xtd s)

theorem execTxCommit_but' (bus : Nat) (host : Bool) (s : State) : (outOf (execTxCommit bus host s) s).but 131072 = s.but 131072 := by
  unfold execTxCommit
  repeat' first
  | with_reducible rfl
  | simp (disch := first | exact Or.inr rfl | exact Or.inl rfl | decide) only [↓but_mk, ↓but_ite, ↓but_snd_ite, ↓but_snd_mk, ↓but_snd2_ite, ↓but_snd2_mk, ↓but_cond, ite_self, outOf_live, outOf_next, outOf_ite, ↓txCommitOp_but]
  | split <;> try (with_reducible have h := congrArg Prod.snd ‹(_ : _ × State) = (_, _)›; dsimp only at h; subst h)
  | with_reducible refine (each_but (fun _ _ => ?_) _ _).trans ?_
  | with_reducible refine (whenS_but (fun _ => ?_) _ _).trans ?_
  | with_reducible refine (foldl_but (fun _ _ => ?_) _ _).trans ?_
  | with_reducible refine (foldl_but2 (fun _ _ => ?_) _ _).trans ?_
theorem execTxCommit_but {m} (hm : sub 131072 m = true) (bus : Nat) (host : Bool) (s : State) : (outOf (execTxCommit bus host s) s).but m = s.but m := but_mono hm (execTxCommit_but' bus host s)

theorem txCancelOp_but' (k : Nat) (tag : Nat) (started : Bool) (s : State) : (txCancelOp k tag started s).but 131072 = s.but 131072 := by
  unfold txCancelOp
  repeat' first
  | with_reducible rfl
  | simp (disch := first | exact Or.inr rfl | exact Or.inl rfl | decide) only [↓but_mk, ↓but_ite, ↓but_snd_ite, ↓but_snd_mk, ↓but_snd2_ite, ↓but_snd2_mk, ↓but_cond, ite_self, outOf_live, outOf_next, outOf_ite, ↓setBus_but, ↓txRemove_but]
  | split <;> try (with_reducible have h := congrArg Prod.snd ‹(_ : _ × State) = (_, _)›; dsimp only at h; subst h)
  | with_reducible refine (each_but (fun _ _ => ?_) _ _).trans ?_
  | with_reducible refine (whenS_but (fun _ => ?_) _ _).trans ?_
  | with_reducible refine (foldl_but (fun _ _ => ?_) _ _).trans ?_
  | with_reducible refine (foldl_but2 (fun _ _ => ?_) _ _).trans ?_
theorem txCancelOp_but {m} (hm : sub 131072 m = true) (k : Nat) (tag : Nat) (started : Bool) (s : State) : (txCancelOp k tag started s).but m = s.but m := but_mono hm (txCancelOp_but' k tag started s)

theorem execTxCancel_but' (bus : Nat) (tag : Nat) (started : Bool) (s : State) : (outOf (execTxCancel bus tag started s) s).but 131072 = s.but 131072 := by
  unfold execTxCancel
  repeat' first
  | with_reducible rfl
  | simp (disch := first | exact Or.inr rfl | exact Or.inl rfl | decide) only [↓but_mk, ↓but_ite, ↓but_snd_ite, ↓but_snd_mk, ↓but_snd2_ite, ↓but_snd2_mk, ↓but_cond, ite_self, outOf_live, outOf_next, outOf_ite, ↓txCancelOp_but]
  | split <;> try (with_reducible have h := congrArg Prod.snd ‹(_ : _ × State) = (_, _)›; dsimp only at h; subst h)
  | with_reducible refine (each_but (fun _ _ => ?_) _ _).trans ?_
  | with_reducible refine (whenS_but (fun _ => ?_) _ _).trans ?_
  | with_reducible refine (foldl_but (fun _ _ => ?_) _ _).trans ?_
  | with_reducible refine (foldl_but2 (fun _ _ => ?_) _ _).trans ?_
theorem execTxCancel_but {m} (hm : sub 131072 m = true) (bus : Nat) (tag : Nat) (started : Bool) (s : State) : (outOf (execTxCancel bus tag started s) s).but m = s.but m := but_mono hm (execTxCancel_but' bus tag started s)

theorem execIdReleased_but' (bus : Nat) (id : Nat) (xtd : Bool) (s : State) : (outOf (execIdReleased bus id xtd s) s).but 1180288 = s.but 1180288 := by
  unfold execIdReleased
  repeat' first
  | with_reducible rfl
  | simp (disch := first | exact Or.inr rfl | exact Or.inl rfl | decide) only [↓but_mk, ↓but_ite, ↓but_snd_ite, ↓but_snd_mk, ↓but_snd2_ite, ↓but_snd2_mk, ↓but_cond, ite_self, outOf_live, outOf_next, outOf_ite, ↓releaseId_but]
  | split <;> try (with_reducible have h := congrArg Prod.snd ‹(_ : _ × State) = (_, _)›; dsimp only at h; subst h)
  | with_reducible refine (each_but (fun _ _ => ?_) _ _).trans ?_
  | with_reducible refine (whenS_but (fun _ => ?_) _ _).trans ?_
  | with_reducible refine (foldl_but (fun _ _ => ?_) _ _).trans ?_
  | with_reducible refine (foldl_but2 (fun _ _ => ?_) _ _).trans ?_
theorem execIdReleased_but {m} (hm : sub 1180288 m = true) (bus : Nat) (id : Nat) (xtd : Bool) (s : State) : (outOf (execIdReleased bus id xtd s) s).but m = s.but m := but_mono hm (execIdReleased_but' bus id xtd s)

theorem execBusOff_but' (bus : Nat) (kind : Nat) (s : State) : (outOf (execBusOff bus kind s) s).but 1180288 = s.but 1180288 := by
  unfold execBusOff
  repeat' first
  | with_reducible rfl
  | simp (disch := first | exact Or.inr rfl | exact Or.inl rfl | decide) only [↓but_mk, ↓but_ite, ↓but_snd_ite, ↓but_snd_mk, ↓but_snd2_ite, ↓but_snd2_mk, ↓but_cond, ite_self, outOf_live, outOf_next, outOf_ite, ↓fbEmit_but, ↓errPassive_but, ↓setBus_but]
  | split <;> try (with_reducible have h := congrArg Prod.snd ‹(_ : _ × State) = (_, _)›; dsimp only at h; subst h)
  | with_reducible refine (each_but (fun _ _ => ?_) _ _).trans ?_
  | with_reducible refine (whenS_but (fun _ => ?_) _ _).trans ?_
  | with_reducible refine (foldl_but (fun _ _ => ?_) _ _).trans ?_
  | with_reducible refine (foldl_but2 (fun _ _ => ?_) _ _).trans ?_
theorem execBusOff_but {m} (hm : sub 1180288 m = true) (bus : Nat) (kind : Nat) (s : State) : (outOf (execBusOff bus kind s) s).but m = s.but m := but_mono hm (execBusOff_but' bus kind s)

theorem recoverOp_but' (k : Nat) (s : State) : (recoverOp k s).but 131072 = s.but 131072 := by
  unfold recoverOp
  repeat' first
  | with_reducible rfl
  | simp (disch := first | exact Or.inr rfl | exact Or.inl rfl | decide) only [↓but_mk, ↓but_ite, ↓but_snd_ite, ↓but_snd_mk, ↓but_snd2_ite, ↓but_snd2_mk, ↓but_cond, ite_self, outOf_live, outOf_next, outOf_ite, ↓setBus_but]
  | split <;> try (with_reducible have h := congrArg Prod.snd ‹(_ : _ × State) = (_, _)›; dsimp only at h; subst h)
  | with_reducible refine (each_but (fun _ _ => ?_) _ _).trans ?_
  | with_reducible refine (whenS_but (fun _ => ?_) _ _).trans ?_
  | with_reducible refine (foldl_but (fun _ _ => ?_) _ _).trans ?_
  | with_reducible refine (foldl_but2 (fun _ _ => ?_) _ _).trans ?_
theorem recoverOp_but {m} (hm : sub 131072 m = true) (k : Nat) (s : State) : (recoverOp k s).but m = s.but m := but_mono hm (recoverOp_but' k s)

theorem execRecover_but' (bus : Nat) (s : State) : (outOf (execRecover bus s) s).but 131072 = s.but 131072 := by
  unfold execRecover
  repeat' first
  | with_reducible rfl
  | simp (disch := first | exact Or.inr rfl | exact Or.inl rfl | decide) only [↓but_mk, ↓but_ite, ↓but_snd_ite, ↓but_snd_mk, ↓but_snd2_ite, ↓but_snd2_mk, ↓but_cond, ite_self, outOf_live, outOf_next, outOf_ite, ↓recoverOp_but]
  | split <;> try (with_reducible have h := congrArg Prod.snd ‹(_ : _ × State) = (_, _)›; dsimp only at h; subst h)
  | with_reducible refine (each_but (fun _ _ => ?_) _ _).trans ?_
  | with_reducible refine (whenS_but (fun _ => ?_) _ _).trans ?_
  | with_reducible refine (foldl_but (fun _ _ => ?_) _ _).trans ?_
  | with_reducible refine (foldl_but2 (fun _ _ => ?_) _ _).trans ?_
theorem execRecover_but {m} (hm : sub 131072 m = true) (bus : Nat) (s : State) : (outOf (execRecover bus s) s).but m = s.but m := but_mono hm (execRecover_but' bus s)

theorem execBusRecovered_but' (bus : Nat) (s : State) : (outOf (execBusRecovered bus s) s).but 1180288 = s.but 1180288 := by
  unfold execBusRecovered
  repeat' first
  | with_reducible rfl
  | simp (disch := first | exact Or.inr rfl | exact Or.inl rfl | decide) only [↓but_mk, ↓but_ite, ↓but_snd_ite, ↓but_snd_mk, ↓but_snd2_ite, ↓but_snd2_mk, ↓but_cond, ite_self, outOf_live, outOf_next, outOf_ite, ↓errPassive_but, ↓setBus_but, ↓emit_but]
  | split <;> try (with_reducible have h := congrArg Prod.snd ‹(_ : _ × State) = (_, _)›; dsimp only at h; subst h)
  | with_reducible refine (each_but (fun _ _ => ?_) _ _).trans ?_
  | with_reducible refine (whenS_but (fun _ => ?_) _ _).trans ?_
  | with_reducible refine (foldl_but (fun _ _ => ?_) _ _).trans ?_
  | with_reducible refine (foldl_but2 (fun _ _ => ?_) _ _).trans ?_
theorem execBusRecovered_but {m} (hm : sub 1180288 m = true) (bus : Nat) (s : State) : (outOf (execBusRecovered bus s) s).but m = s.but m := but_mono hm (execBusRecovered_but' bus s)

theorem autoRestartOp_but' (k : Nat) (s : State) : (autoRestartOp k s).but 131072 = s.but 131072 := by
  unfold autoRestartOp
  repeat' first
  | with_reducible rfl
  | simp (disch := first | exact Or.inr rfl | exact Or.inl rfl | decide) only [↓but_mk, ↓but_ite, ↓but_snd_ite, ↓but_snd_mk, ↓but_snd2_ite, ↓but_snd2_mk, ↓but_cond, ite_self, outOf_live, outOf_next, outOf_ite, ↓setBus_but]
  | split <;> try (with_reducible have h := congrArg Prod.snd ‹(_ : _ × State) = (_, _)›; dsimp only at h; subst h)
  | with_reducible refine (each_but (fun _ _ => ?_) _ _).trans ?_
  | with_reducible refine (whenS_but (fun _ => ?_) _ _).trans ?_
  | with_reducible refine (foldl_but (fun _ _ => ?_) _ _).trans ?_
  | with_reducible refine (foldl_but2 (fun _ _ => ?_) _ _).trans ?_
theorem autoRestartOp_but {m} (hm : sub 131072 m = true) (k : Nat) (s : State) : (autoRestartOp k s).but m = s.but m := but_mono hm (autoRestartOp_but' k s)

theorem execAutoRestart_but' (bus : Nat) (s : State) : (outOf (execAutoRestart bus s) s).but 131072 = s.but 131072 := by
  unfold execAutoRestart
  repeat' first
  | with_reducible rfl
  | simp (disch := first | exact Or.inr rfl | exact Or.inl rfl | decide) only [↓but_mk, ↓but_ite, ↓but_snd_ite, ↓but_snd_mk, ↓but_snd2_ite, ↓but_snd2_mk, ↓but_cond, ite_self, outOf_live, outOf_next, outOf_ite, ↓autoRestartOp_but]
  | split <;> try (with_reducible have h := congrArg Prod.snd ‹(_ : _ × State) = (_, _)›; dsimp only at h; subst h)
  | with_reducible refine (each_but (fun _ _ => ?_) _ _).trans ?_
  | with_reducible refine (whenS_but (fun _ => ?_) _ _).trans ?_
  | with_reducible refine (foldl_but (fun _ _ => ?_) _ _).trans ?_
  | with_reducible refine (foldl_but2 (fun _ _ => ?_) _ _).trans ?_
theorem execAutoRestart_but {m} (hm : sub 131072 m = true) (bus : Nat) (s : State) : (outOf (execAutoRestart bus s) s).but m = s.but m := but_mono hm (execAutoRestart_but' bus s)

theorem execAutoDwellEnd_but' (bus : Nat) (s : State) : (outOf (execAutoDwellEnd bus s) s).but 68289152 = s.but 68289152 := by
  unfold execAutoDwellEnd
  repeat' first
  | with_reducible rfl
  | simp (disch := first | exact Or.inr rfl | exact Or.inl rfl | decide) only [↓but_mk, ↓but_ite, ↓but_snd_ite, ↓but_snd_mk, ↓but_snd2_ite, ↓but_snd2_mk, ↓but_cond, ite_self, outOf_live, outOf_next, outOf_ite, ↓autoNext_but, ↓clockTo_but]
  | split <;> try (with_reducible have h := congrArg Prod.snd ‹(_ : _ × State) = (_, _)›; dsimp only at h; subst h)
  | with_reducible refine (each_but (fun _ _ => ?_) _ _).trans ?_
  | with_reducible refine (whenS_but (fun _ => ?_) _ _).trans ?_
  | with_reducible refine (foldl_but (fun _ _ => ?_) _ _).trans ?_
  | with_reducible refine (foldl_but2 (fun _ _ => ?_) _ _).trans ?_
theorem execAutoDwellEnd_but {m} (hm : sub 68289152 m = true) (bus : Nat) (s : State) : (outOf (execAutoDwellEnd bus s) s).but m = s.but m := but_mono hm (execAutoDwellEnd_but' bus s)

theorem execTtSyncLost_but' (bus : Nat) (s : State) : (outOf (execTtSyncLost bus s) s).but 1180288 = s.but 1180288 := by
  unfold execTtSyncLost
  repeat' first
  | with_reducible rfl
  | simp (disch := first | exact Or.inr rfl | exact Or.inl rfl | decide) only [↓but_mk, ↓but_ite, ↓but_snd_ite, ↓but_snd_mk, ↓but_snd2_ite, ↓but_snd2_mk, ↓but_cond, ite_self, outOf_live, outOf_next, outOf_ite, ↓fbEmit_but, ↓setBus_but]
  | split <;> try (with_reducible have h := congrArg Prod.snd ‹(_ : _ × State) = (_, _)›; dsimp only at h; subst h)
  | with_reducible refine (each_but (fun _ _ => ?_) _ _).trans ?_
  | with_reducible refine (whenS_but (fun _ => ?_) _ _).trans ?_
  | with_reducible refine (foldl_but (fun _ _ => ?_) _ _).trans ?_
  | with_reducible refine (foldl_but2 (fun _ _ => ?_) _ _).trans ?_
theorem execTtSyncLost_but {m} (hm : sub 1180288 m = true) (bus : Nat) (s : State) : (outOf (execTtSyncLost bus s) s).but m = s.but m := but_mono hm (execTtSyncLost_but' bus s)

theorem sleepOp_but' (k : Nat) (cause : Nat) (s : State) : (sleepOp k cause s).but 131072 = s.but 131072 := by
  unfold sleepOp
  repeat' first
  | with_reducible rfl
  | simp (disch := first | exact Or.inr rfl | exact Or.inl rfl | decide) only [↓but_mk, ↓but_ite, ↓but_snd_ite, ↓but_snd_mk, ↓but_snd2_ite, ↓but_snd2_mk, ↓but_cond, ite_self, outOf_live, outOf_next, outOf_ite, ↓setBuf_but]
  | split <;> try (with_reducible have h := congrArg Prod.snd ‹(_ : _ × State) = (_, _)›; dsimp only at h; subst h)
  | with_reducible refine (each_but (fun _ _ => ?_) _ _).trans ?_
  | with_reducible refine (whenS_but (fun _ => ?_) _ _).trans ?_
  | with_reducible refine (foldl_but (fun _ _ => ?_) _ _).trans ?_
  | with_reducible refine (foldl_but2 (fun _ _ => ?_) _ _).trans ?_
theorem sleepOp_but {m} (hm : sub 131072 m = true) (k : Nat) (cause : Nat) (s : State) : (sleepOp k cause s).but m = s.but m := but_mono hm (sleepOp_but' k cause s)

theorem execSleep_but' (bus : Nat) (s : State) : (outOf (execSleep bus s) s).but 131072 = s.but 131072 := by
  unfold execSleep
  repeat' first
  | with_reducible rfl
  | simp (disch := first | exact Or.inr rfl | exact Or.inl rfl | decide) only [↓but_mk, ↓but_ite, ↓but_snd_ite, ↓but_snd_mk, ↓but_snd2_ite, ↓but_snd2_mk, ↓but_cond, ite_self, outOf_live, outOf_next, outOf_ite, ↓sleepOp_but]
  | split <;> try (with_reducible have h := congrArg Prod.snd ‹(_ : _ × State) = (_, _)›; dsimp only at h; subst h)
  | with_reducible refine (each_but (fun _ _ => ?_) _ _).trans ?_
  | with_reducible refine (whenS_but (fun _ => ?_) _ _).trans ?_
  | with_reducible refine (foldl_but (fun _ _ => ?_) _ _).trans ?_
  | with_reducible refine (foldl_but2 (fun _ _ => ?_) _ _).trans ?_
theorem execSleep_but {m} (hm : sub 131072 m = true) (bus : Nat) (s : State) : (outOf (execSleep bus s) s).but m = s.but m := but_mono hm (execSleep_but' bus s)

theorem execIdleSleep_but' (bus : Nat) (s : State) : (outOf (execIdleSleep bus s) s).but 67239936 = s.but 67239936 := by
  unfold execIdleSleep
  repeat' first
  | with_reducible rfl
  | simp (disch := first | exact Or.inr rfl | exact Or.inl rfl | decide) only [↓but_mk, ↓but_ite, ↓but_snd_ite, ↓but_snd_mk, ↓but_snd2_ite, ↓but_snd2_mk, ↓but_cond, ite_self, outOf_live, outOf_next, outOf_ite, ↓sleepOp_but, ↓clockTo_but]
  | split <;> try (with_reducible have h := congrArg Prod.snd ‹(_ : _ × State) = (_, _)›; dsimp only at h; subst h)
  | with_reducible refine (each_but (fun _ _ => ?_) _ _).trans ?_
  | with_reducible refine (whenS_but (fun _ => ?_) _ _).trans ?_
  | with_reducible refine (foldl_but (fun _ _ => ?_) _ _).trans ?_
  | with_reducible refine (foldl_but2 (fun _ _ => ?_) _ _).trans ?_
theorem execIdleSleep_but {m} (hm : sub 67239936 m = true) (bus : Nat) (s : State) : (outOf (execIdleSleep bus s) s).but m = s.but m := but_mono hm (execIdleSleep_but' bus s)

theorem execBusSleep_but' (bus : Nat) (s : State) : (outOf (execBusSleep bus s) s).but 68289152 = s.but 68289152 := by
  unfold execBusSleep
  repeat' first
  | with_reducible rfl
  | simp (disch := first | exact Or.inr rfl | exact Or.inl rfl | decide) only [↓but_mk, ↓but_ite, ↓but_snd_ite, ↓but_snd_mk, ↓but_snd2_ite, ↓but_snd2_mk, ↓but_cond, ite_self, outOf_live, outOf_next, outOf_ite, ↓setBuf_but, ↓emit_but, ↓setBus_but, ↓clockTo_but]
  | split <;> try (with_reducible have h := congrArg Prod.snd ‹(_ : _ × State) = (_, _)›; dsimp only at h; subst h)
  | with_reducible refine (each_but (fun _ _ => ?_) _ _).trans ?_
  | with_reducible refine (whenS_but (fun _ => ?_) _ _).trans ?_
  | with_reducible refine (foldl_but (fun _ _ => ?_) _ _).trans ?_
  | with_reducible refine (foldl_but2 (fun _ _ => ?_) _ _).trans ?_
theorem execBusSleep_but {m} (hm : sub 68289152 m = true) (bus : Nat) (s : State) : (outOf (execBusSleep bus s) s).but m = s.but m := but_mono hm (execBusSleep_but' bus s)

theorem execWake_but' (bus : Nat) (s : State) : (outOf (execWake bus s) s).but 131072 = s.but 131072 := by
  unfold execWake
  repeat' first
  | with_reducible rfl
  | simp (disch := first | exact Or.inr rfl | exact Or.inl rfl | decide) only [↓but_mk, ↓but_ite, ↓but_snd_ite, ↓but_snd_mk, ↓but_snd2_ite, ↓but_snd2_mk, ↓but_cond, ite_self, outOf_live, outOf_next, outOf_ite, ↓startWake_but]
  | split <;> try (with_reducible have h := congrArg Prod.snd ‹(_ : _ × State) = (_, _)›; dsimp only at h; subst h)
  | with_reducible refine (each_but (fun _ _ => ?_) _ _).trans ?_
  | with_reducible refine (whenS_but (fun _ => ?_) _ _).trans ?_
  | with_reducible refine (foldl_but (fun _ _ => ?_) _ _).trans ?_
  | with_reducible refine (foldl_but2 (fun _ _ => ?_) _ _).trans ?_
theorem execWake_but {m} (hm : sub 131072 m = true) (bus : Nat) (s : State) : (outOf (execWake bus s) s).but m = s.but m := but_mono hm (execWake_but' bus s)

theorem execBusWake_but' (bus : Nat) (cause : Nat) (f : BusFrame) (s : State) : (outOf (execBusWake bus cause f s) s).but 1180288 = s.but 1180288 := by
  unfold execBusWake
  repeat' first
  | with_reducible rfl
  | simp (disch := first | exact Or.inr rfl | exact Or.inl rfl | decide) only [↓but_mk, ↓but_ite, ↓but_snd_ite, ↓but_snd_mk, ↓but_snd2_ite, ↓but_snd2_mk, ↓but_cond, ite_self, outOf_live, outOf_next, outOf_ite, ↓fbEmit_but, ↓setBuf_but, ↓setBus_but]
  | split <;> try (with_reducible have h := congrArg Prod.snd ‹(_ : _ × State) = (_, _)›; dsimp only at h; subst h)
  | with_reducible refine (each_but (fun _ _ => ?_) _ _).trans ?_
  | with_reducible refine (whenS_but (fun _ => ?_) _ _).trans ?_
  | with_reducible refine (foldl_but (fun _ _ => ?_) _ _).trans ?_
  | with_reducible refine (foldl_but2 (fun _ _ => ?_) _ _).trans ?_
theorem execBusWake_but {m} (hm : sub 1180288 m = true) (bus : Nat) (cause : Nat) (f : BusFrame) (s : State) : (outOf (execBusWake bus cause f s) s).but m = s.but m := but_mono hm (execBusWake_but' bus cause f s)

theorem busQuarantine_but' (k : Nat) (cause : Nat) (s : State) : (busQuarantine k cause s).but 1180352 = s.but 1180352 := by
  unfold busQuarantine
  repeat' first
  | with_reducible rfl
  | simp (disch := first | exact Or.inr rfl | exact Or.inl rfl | decide) only [↓but_mk, ↓but_ite, ↓but_snd_ite, ↓but_snd_mk, ↓but_snd2_ite, ↓but_snd2_mk, ↓but_cond, ite_self, outOf_live, outOf_next, outOf_ite, ↓fbEmit_but, ↓setBus_but, ↓setBuf_but]
  | split <;> try (with_reducible have h := congrArg Prod.snd ‹(_ : _ × State) = (_, _)›; dsimp only at h; subst h)
  | with_reducible refine (each_but (fun _ _ => ?_) _ _).trans ?_
  | with_reducible refine (whenS_but (fun _ => ?_) _ _).trans ?_
  | with_reducible refine (foldl_but (fun _ _ => ?_) _ _).trans ?_
  | with_reducible refine (foldl_but2 (fun _ _ => ?_) _ _).trans ?_
theorem busQuarantine_but {m} (hm : sub 1180352 m = true) (k : Nat) (cause : Nat) (s : State) : (busQuarantine k cause s).but m = s.but m := but_mono hm (busQuarantine_but' k cause s)

theorem execBusCtrlQuarantined_but' (bus : Nat) (cause : Nat) (s : State) : (outOf (execBusCtrlQuarantined bus cause s) s).but 1180352 = s.but 1180352 := by
  unfold execBusCtrlQuarantined
  repeat' first
  | with_reducible rfl
  | simp (disch := first | exact Or.inr rfl | exact Or.inl rfl | decide) only [↓but_mk, ↓but_ite, ↓but_snd_ite, ↓but_snd_mk, ↓but_snd2_ite, ↓but_snd2_mk, ↓but_cond, ite_self, outOf_live, outOf_next, outOf_ite, ↓busQuarantine_but]
  | split <;> try (with_reducible have h := congrArg Prod.snd ‹(_ : _ × State) = (_, _)›; dsimp only at h; subst h)
  | with_reducible refine (each_but (fun _ _ => ?_) _ _).trans ?_
  | with_reducible refine (whenS_but (fun _ => ?_) _ _).trans ?_
  | with_reducible refine (foldl_but (fun _ _ => ?_) _ _).trans ?_
  | with_reducible refine (foldl_but2 (fun _ _ => ?_) _ _).trans ?_
theorem execBusCtrlQuarantined_but {m} (hm : sub 1180352 m = true) (bus : Nat) (cause : Nat) (s : State) : (outOf (execBusCtrlQuarantined bus cause s) s).but m = s.but m := but_mono hm (execBusCtrlQuarantined_but' bus cause s)

end Sys2Proof.Machine
end

