-- ==== Sys2Proof/Laws/FrameSv.lean ====
section
/-! SUPPORT. What each function can change (selvedge, loop and swatch commands): it leaves every part of State outside its mask as it was. -/

set_option linter.all false

namespace Sys2Proof.Machine

theorem setCmp_but' (k : Nat) (x : CmpSt) (s : State) : (setCmp k x s).but 32768 = s.but 32768 := by
  unfold setCmp
  repeat' first
  | with_reducible rfl
  | simp (disch := first | exact Or.inr rfl | exact Or.inl rfl | decide) only [↓but_mk, ↓but_ite, ↓but_snd_ite, ↓but_snd_mk, ↓but_snd2_ite, ↓but_snd2_mk, ↓but_cond, ite_self, outOf_live, outOf_next, outOf_ite]
  | split <;> try (with_reducible have h := congrArg Prod.snd ‹(_ : _ × State) = (_, _)›; dsimp only at h; subst h)
  | with_reducible refine (each_but (fun _ _ => ?_) _ _).trans ?_
  | with_reducible refine (whenS_but (fun _ => ?_) _ _).trans ?_
  | with_reducible refine (foldl_but (fun _ _ => ?_) _ _).trans ?_
  | with_reducible refine (foldl_but2 (fun _ _ => ?_) _ _).trans ?_
theorem setCmp_but {m} (hm : sub 32768 m = true) (k : Nat) (x : CmpSt) (s : State) : (setCmp k x s).but m = s.but m := but_mono hm (setCmp_but' k x s)

theorem setRow_but' (r : Nat) (x : RowSt) (s : State) : (setRow r x s).but 32768 = s.but 32768 := by
  unfold setRow
  repeat' first
  | with_reducible rfl
  | simp (disch := first | exact Or.inr rfl | exact Or.inl rfl | decide) only [↓but_mk, ↓but_ite, ↓but_snd_ite, ↓but_snd_mk, ↓but_snd2_ite, ↓but_snd2_mk, ↓but_cond, ite_self, outOf_live, outOf_next, outOf_ite]
  | split <;> try (with_reducible have h := congrArg Prod.snd ‹(_ : _ × State) = (_, _)›; dsimp only at h; subst h)
  | with_reducible refine (each_but (fun _ _ => ?_) _ _).trans ?_
  | with_reducible refine (whenS_but (fun _ => ?_) _ _).trans ?_
  | with_reducible refine (foldl_but (fun _ _ => ?_) _ _).trans ?_
  | with_reducible refine (foldl_but2 (fun _ _ => ?_) _ _).trans ?_
theorem setRow_but {m} (hm : sub 32768 m = true) (r : Nat) (x : RowSt) (s : State) : (setRow r x s).but m = s.but m := but_mono hm (setRow_but' r x s)

theorem svEmit_but' (code : Nat) (args : List Word) (s : State) (clear : Bool) : (svEmit code args s clear).but 1081984 = s.but 1081984 := by
  unfold svEmit
  repeat' first
  | with_reducible rfl
  | simp (disch := first | exact Or.inr rfl | exact Or.inl rfl | decide) only [↓but_mk, ↓but_ite, ↓but_snd_ite, ↓but_snd_mk, ↓but_snd2_ite, ↓but_snd2_mk, ↓but_cond, ite_self, outOf_live, outOf_next, outOf_ite, ↓emit_but]
  | split <;> try (with_reducible have h := congrArg Prod.snd ‹(_ : _ × State) = (_, _)›; dsimp only at h; subst h)
  | with_reducible refine (each_but (fun _ _ => ?_) _ _).trans ?_
  | with_reducible refine (whenS_but (fun _ => ?_) _ _).trans ?_
  | with_reducible refine (foldl_but (fun _ _ => ?_) _ _).trans ?_
  | with_reducible refine (foldl_but2 (fun _ _ => ?_) _ _).trans ?_
theorem svEmit_but {m} (hm : sub 1081984 m = true) (code : Nat) (args : List Word) (s : State) (clear : Bool) : (svEmit code args s clear).but m = s.but m := but_mono hm (svEmit_but' code args s clear)

theorem svFlushLog_but' (s : State) : (svFlushLog s).but 1081984 = s.but 1081984 := by
  unfold svFlushLog
  repeat' first
  | with_reducible rfl
  | simp (disch := first | exact Or.inr rfl | exact Or.inl rfl | decide) only [↓but_mk, ↓but_ite, ↓but_snd_ite, ↓but_snd_mk, ↓but_snd2_ite, ↓but_snd2_mk, ↓but_cond, ite_self, outOf_live, outOf_next, outOf_ite, ↓emitLate_but]
  | split <;> try (with_reducible have h := congrArg Prod.snd ‹(_ : _ × State) = (_, _)›; dsimp only at h; subst h)
  | with_reducible refine (each_but (fun _ _ => ?_) _ _).trans ?_
  | with_reducible refine (whenS_but (fun _ => ?_) _ _).trans ?_
  | with_reducible refine (foldl_but (fun _ _ => ?_) _ _).trans ?_
  | with_reducible refine (foldl_but2 (fun _ _ => ?_) _ _).trans ?_
theorem svFlushLog_but {m} (hm : sub 1081984 m = true) (s : State) : (svFlushLog s).but m = s.but m := but_mono hm (svFlushLog_but' s)

theorem svErrBit_but' (b : Nat) (s : State) : (svErrBit b s).but 1049088 = s.but 1049088 := by
  unfold svErrBit
  repeat' first
  | with_reducible rfl
  | simp (disch := first | exact Or.inr rfl | exact Or.inl rfl | decide) only [↓but_mk, ↓but_ite, ↓but_snd_ite, ↓but_snd_mk, ↓but_snd2_ite, ↓but_snd2_mk, ↓but_cond, ite_self, outOf_live, outOf_next, outOf_ite, ↓setErr_but]
  | split <;> try (with_reducible have h := congrArg Prod.snd ‹(_ : _ × State) = (_, _)›; dsimp only at h; subst h)
  | with_reducible refine (each_but (fun _ _ => ?_) _ _).trans ?_
  | with_reducible refine (whenS_but (fun _ => ?_) _ _).trans ?_
  | with_reducible refine (foldl_but (fun _ _ => ?_) _ _).trans ?_
  | with_reducible refine (foldl_but2 (fun _ _ => ?_) _ _).trans ?_
theorem svErrBit_but {m} (hm : sub 1049088 m = true) (b : Nat) (s : State) : (svErrBit b s).but m = s.but m := but_mono hm (svErrBit_but' b s)

theorem svFrame_but' (kind : Nat) (assert : Bool) (mask : Nat) (s : State) : (svFrame kind assert mask s).but 8585216 = s.but 8585216 := by
  unfold svFrame
  repeat' first
  | with_reducible rfl
  | simp (disch := first | exact Or.inr rfl | exact Or.inl rfl | decide) only [↓but_mk, ↓but_ite, ↓but_snd_ite, ↓but_snd_mk, ↓but_snd2_ite, ↓but_snd2_mk, ↓but_cond, ite_self, outOf_live, outOf_next, outOf_ite, ↓urgPut_but, ↓sendMsg_but]
  | split <;> try (with_reducible have h := congrArg Prod.snd ‹(_ : _ × State) = (_, _)›; dsimp only at h; subst h)
  | with_reducible refine (each_but (fun _ _ => ?_) _ _).trans ?_
  | with_reducible refine (whenS_but (fun _ => ?_) _ _).trans ?_
  | with_reducible refine (foldl_but (fun _ _ => ?_) _ _).trans ?_
  | with_reducible refine (foldl_but2 (fun _ _ => ?_) _ _).trans ?_
theorem svFrame_but {m} (hm : sub 8585216 m = true) (kind : Nat) (assert : Bool) (mask : Nat) (s : State) : (svFrame kind assert mask s).but m = s.but m := but_mono hm (svFrame_but' kind assert mask s)

theorem svUpdateKind_but' (kind : Nat) (s : State) : (svUpdateKind kind s).but 8585216 = s.but 8585216 := by
  unfold svUpdateKind
  repeat' first
  | with_reducible rfl
  | simp (disch := first | exact Or.inr rfl | exact Or.inl rfl | decide) only [↓but_mk, ↓but_ite, ↓but_snd_ite, ↓but_snd_mk, ↓but_snd2_ite, ↓but_snd2_mk, ↓but_cond, ite_self, outOf_live, outOf_next, outOf_ite, ↓svFrame_but]
  | split <;> try (with_reducible have h := congrArg Prod.snd ‹(_ : _ × State) = (_, _)›; dsimp only at h; subst h)
  | with_reducible refine (each_but (fun _ _ => ?_) _ _).trans ?_
  | with_reducible refine (whenS_but (fun _ => ?_) _ _).trans ?_
  | with_reducible refine (foldl_but (fun _ _ => ?_) _ _).trans ?_
  | with_reducible refine (foldl_but2 (fun _ _ => ?_) _ _).trans ?_
theorem svUpdateKind_but {m} (hm : sub 8585216 m = true) (kind : Nat) (s : State) : (svUpdateKind kind s).but m = s.but m := but_mono hm (svUpdateKind_but' kind s)

theorem ecapNote_but' (s : State) : (ecapNote s).but 1081984 = s.but 1081984 := by
  unfold ecapNote
  repeat' first
  | with_reducible rfl
  | simp (disch := first | exact Or.inr rfl | exact Or.inl rfl | decide) only [↓but_mk, ↓but_ite, ↓but_snd_ite, ↓but_snd_mk, ↓but_snd2_ite, ↓but_snd2_mk, ↓but_cond, ite_self, outOf_live, outOf_next, outOf_ite, ↓svEmit_but]
  | split <;> try (with_reducible have h := congrArg Prod.snd ‹(_ : _ × State) = (_, _)›; dsimp only at h; subst h)
  | with_reducible refine (each_but (fun _ _ => ?_) _ _).trans ?_
  | with_reducible refine (whenS_but (fun _ => ?_) _ _).trans ?_
  | with_reducible refine (foldl_but (fun _ _ => ?_) _ _).trans ?_
  | with_reducible refine (foldl_but2 (fun _ _ => ?_) _ _).trans ?_
theorem ecapNote_but {m} (hm : sub 1081984 m = true) (s : State) : (ecapNote s).but m = s.but m := but_mono hm (ecapNote_but' s)

theorem svFrames_but' (s : State) : (svFrames s).but 9667200 = s.but 9667200 := by
  unfold svFrames
  repeat' first
  | with_reducible rfl
  | simp (disch := first | exact Or.inr rfl | exact Or.inl rfl | decide) only [↓but_mk, ↓but_ite, ↓but_snd_ite, ↓but_snd_mk, ↓but_snd2_ite, ↓but_snd2_mk, ↓but_cond, ite_self, outOf_live, outOf_next, outOf_ite, ↓ecapNote_but, ↓svUpdateKind_but]
  | split <;> try (with_reducible have h := congrArg Prod.snd ‹(_ : _ × State) = (_, _)›; dsimp only at h; subst h)
  | with_reducible refine (each_but (fun _ _ => ?_) _ _).trans ?_
  | with_reducible refine (whenS_but (fun _ => ?_) _ _).trans ?_
  | with_reducible refine (foldl_but (fun _ _ => ?_) _ _).trans ?_
  | with_reducible refine (foldl_but2 (fun _ _ => ?_) _ _).trans ?_
theorem svFrames_but {m} (hm : sub 9667200 m = true) (s : State) : (svFrames s).but m = s.but m := but_mono hm (svFrames_but' s)

theorem stopSent_but' (r : Nat) (actions : Nat) (s : State) : (stopSent r actions s).but 1081984 = s.but 1081984 := by
  unfold stopSent
  repeat' first
  | with_reducible rfl
  | simp (disch := first | exact Or.inr rfl | exact Or.inl rfl | decide) only [↓but_mk, ↓but_ite, ↓but_snd_ite, ↓but_snd_mk, ↓but_snd2_ite, ↓but_snd2_mk, ↓but_cond, ite_self, outOf_live, outOf_next, outOf_ite, ↓svEmit_but]
  | split <;> try (with_reducible have h := congrArg Prod.snd ‹(_ : _ × State) = (_, _)›; dsimp only at h; subst h)
  | with_reducible refine (each_but (fun _ _ => ?_) _ _).trans ?_
  | with_reducible refine (whenS_but (fun _ => ?_) _ _).trans ?_
  | with_reducible refine (foldl_but (fun _ _ => ?_) _ _).trans ?_
  | with_reducible refine (foldl_but2 (fun _ _ => ?_) _ _).trans ?_
theorem stopSent_but {m} (hm : sub 1081984 m = true) (r : Nat) (actions : Nat) (s : State) : (stopSent r actions s).but m = s.but m := but_mono hm (stopSent_but' r actions s)

theorem rowActivate_but' (r : Nat) (s : State) : (rowActivate r s).but 1084032 = s.but 1084032 := by
  unfold rowActivate
  repeat' first
  | with_reducible rfl
  | simp (disch := first | exact Or.inr rfl | exact Or.inl rfl | decide) only [↓but_mk, ↓but_ite, ↓but_snd_ite, ↓but_snd_mk, ↓but_snd2_ite, ↓but_snd2_mk, ↓but_cond, ite_self, outOf_live, outOf_next, outOf_ite, ↓svErrBit_but, ↓setRow_but, ↓svEmit_but, ↓stopSent_but, ↓trialFault_but]
  | split <;> try (with_reducible have h := congrArg Prod.snd ‹(_ : _ × State) = (_, _)›; dsimp only at h; subst h)
  | with_reducible refine (each_but (fun _ _ => ?_) _ _).trans ?_
  | with_reducible refine (whenS_but (fun _ => ?_) _ _).trans ?_
  | with_reducible refine (foldl_but (fun _ _ => ?_) _ _).trans ?_
  | with_reducible refine (foldl_but2 (fun _ _ => ?_) _ _).trans ?_
theorem rowActivate_but {m} (hm : sub 1084032 m = true) (r : Nat) (s : State) : (rowActivate r s).but m = s.but m := but_mono hm (rowActivate_but' r s)

theorem rowsActivate_but' (rs : List Nat) (s : State) : (rowsActivate rs s).but 9669248 = s.but 9669248 := by
  unfold rowsActivate
  repeat' first
  | with_reducible rfl
  | simp (disch := first | exact Or.inr rfl | exact Or.inl rfl | decide) only [↓but_mk, ↓but_ite, ↓but_snd_ite, ↓but_snd_mk, ↓but_snd2_ite, ↓but_snd2_mk, ↓but_cond, ite_self, outOf_live, outOf_next, outOf_ite, ↓svFrames_but, ↓rowActivate_but]
  | split <;> try (with_reducible have h := congrArg Prod.snd ‹(_ : _ × State) = (_, _)›; dsimp only at h; subst h)
  | with_reducible refine (each_but (fun _ _ => ?_) _ _).trans ?_
  | with_reducible refine (whenS_but (fun _ => ?_) _ _).trans ?_
  | with_reducible refine (foldl_but (fun _ _ => ?_) _ _).trans ?_
  | with_reducible refine (foldl_but2 (fun _ _ => ?_) _ _).trans ?_
theorem rowsActivate_but {m} (hm : sub 9669248 m = true) (rs : List Nat) (s : State) : (rowsActivate rs s).but m = s.but m := but_mono hm (rowsActivate_but' rs s)

theorem rowDelay_but' (r : Nat) (flow : Nat) (s : State) : (rowDelay r flow s).but 76776064 = s.but 76776064 := by
  unfold rowDelay
  repeat' first
  | with_reducible rfl
  | simp (disch := first | exact Or.inr rfl | exact Or.inl rfl | decide) only [↓but_mk, ↓but_ite, ↓but_snd_ite, ↓but_snd_mk, ↓but_snd2_ite, ↓but_snd2_mk, ↓but_cond, ite_self, outOf_live, outOf_next, outOf_ite, ↓clockTo_but, ↓setRow_but, ↓svFrames_but, ↓stopSent_but]
  | split <;> try (with_reducible have h := congrArg Prod.snd ‹(_ : _ × State) = (_, _)›; dsimp only at h; subst h)
  | with_reducible refine (each_but (fun _ _ => ?_) _ _).trans ?_
  | with_reducible refine (whenS_but (fun _ => ?_) _ _).trans ?_
  | with_reducible refine (foldl_but (fun _ _ => ?_) _ _).trans ?_
  | with_reducible refine (foldl_but2 (fun _ _ => ?_) _ _).trans ?_
theorem rowDelay_but {m} (hm : sub 76776064 m = true) (r : Nat) (flow : Nat) (s : State) : (rowDelay r flow s).but m = s.but m := but_mono hm (rowDelay_but' r flow s)

theorem rowHold_but' (r : Nat) (flow : Nat) (s : State) : (rowHold r flow s).but 32768 = s.but 32768 := by
  unfold rowHold
  repeat' first
  | with_reducible rfl
  | simp (disch := first | exact Or.inr rfl | exact Or.inl rfl | decide) only [↓but_mk, ↓but_ite, ↓but_snd_ite, ↓but_snd_mk, ↓but_snd2_ite, ↓but_snd2_mk, ↓but_cond, ite_self, outOf_live, outOf_next, outOf_ite, ↓setRow_but]
  | split <;> try (with_reducible have h := congrArg Prod.snd ‹(_ : _ × State) = (_, _)›; dsimp only at h; subst h)
  | with_reducible refine (each_but (fun _ _ => ?_) _ _).trans ?_
  | with_reducible refine (whenS_but (fun _ => ?_) _ _).trans ?_
  | with_reducible refine (foldl_but (fun _ _ => ?_) _ _).trans ?_
  | with_reducible refine (foldl_but2 (fun _ _ => ?_) _ _).trans ?_
theorem rowHold_but {m} (hm : sub 32768 m = true) (r : Nat) (flow : Nat) (s : State) : (rowHold r flow s).but m = s.but m := but_mono hm (rowHold_but' r flow s)

theorem rowClear_but' (r : Nat) (s : State) : (rowClear r s).but 76776064 = s.but 76776064 := by
  unfold rowClear
  repeat' first
  | with_reducible rfl
  | simp (disch := first | exact Or.inr rfl | exact Or.inl rfl | decide) only [↓but_mk, ↓but_ite, ↓but_snd_ite, ↓but_snd_mk, ↓but_snd2_ite, ↓but_snd2_mk, ↓but_cond, ite_self, outOf_live, outOf_next, outOf_ite, ↓clockTo_but, ↓setRow_but, ↓svErrBit_but, ↓svFrames_but, ↓svEmit_but]
  | split <;> try (with_reducible have h := congrArg Prod.snd ‹(_ : _ × State) = (_, _)›; dsimp only at h; subst h)
  | with_reducible refine (each_but (fun _ _ => ?_) _ _).trans ?_
  | with_reducible refine (whenS_but (fun _ => ?_) _ _).trans ?_
  | with_reducible refine (foldl_but (fun _ _ => ?_) _ _).trans ?_
  | with_reducible refine (foldl_but2 (fun _ _ => ?_) _ _).trans ?_
theorem rowClear_but {m} (hm : sub 76776064 m = true) (r : Nat) (s : State) : (rowClear r s).but m = s.but m := but_mono hm (rowClear_but' r s)

theorem rowsReset_but' (mask : Nat) (s : State) : (rowsReset mask s).2.but 9667200 = s.but 9667200 := by
  unfold rowsReset
  repeat' first
  | with_reducible rfl
  | simp (disch := first | exact Or.inr rfl | exact Or.inl rfl | decide) only [↓but_mk, ↓but_ite, ↓but_snd_ite, ↓but_snd_mk, ↓but_snd2_ite, ↓but_snd2_mk, ↓but_cond, ite_self, outOf_live, outOf_next, outOf_ite, ↓setRow_but, ↓svFrames_but]
  | split <;> try (with_reducible have h := congrArg Prod.snd ‹(_ : _ × State) = (_, _)›; dsimp only at h; subst h)
  | with_reducible refine (each_but (fun _ _ => ?_) _ _).trans ?_
  | with_reducible refine (whenS_but (fun _ => ?_) _ _).trans ?_
  | with_reducible refine (foldl_but (fun _ _ => ?_) _ _).trans ?_
  | with_reducible refine (foldl_but2 (fun _ _ => ?_) _ _).trans ?_
theorem rowsReset_but {m} (hm : sub 9667200 m = true) (mask : Nat) (s : State) : (rowsReset mask s).2.but m = s.but m := but_mono hm (rowsReset_but' mask s)

theorem noteUnk_but' (k : Nat) (cause : Nat) (was : Bool) (s : State) : (noteUnk k cause was s).but 1081984 = s.but 1081984 := by
  unfold noteUnk
  repeat' first
  | with_reducible rfl
  | simp (disch := first | exact Or.inr rfl | exact Or.inl rfl | decide) only [↓but_mk, ↓but_ite, ↓but_snd_ite, ↓but_snd_mk, ↓but_snd2_ite, ↓but_snd2_mk, ↓but_cond, ite_self, outOf_live, outOf_next, outOf_ite, ↓svEmit_but]
  | split <;> try (with_reducible have h := congrArg Prod.snd ‹(_ : _ × State) = (_, _)›; dsimp only at h; subst h)
  | with_reducible refine (each_but (fun _ _ => ?_) _ _).trans ?_
  | with_reducible refine (whenS_but (fun _ => ?_) _ _).trans ?_
  | with_reducible refine (foldl_but (fun _ _ => ?_) _ _).trans ?_
  | with_reducible refine (foldl_but2 (fun _ _ => ?_) _ _).trans ?_
theorem noteUnk_but {m} (hm : sub 1081984 m = true) (k : Nat) (cause : Nat) (was : Bool) (s : State) : (noteUnk k cause was s).but m = s.but m := but_mono hm (noteUnk_but' k cause was s)

theorem advRefresh_but' (k : Nat) (s : State) : (advRefresh k s).but 1081984 = s.but 1081984 := by
  unfold advRefresh
  repeat' first
  | with_reducible rfl
  | simp (disch := first | exact Or.inr rfl | exact Or.inl rfl | decide) only [↓but_mk, ↓but_ite, ↓but_snd_ite, ↓but_snd_mk, ↓but_snd2_ite, ↓but_snd2_mk, ↓but_cond, ite_self, outOf_live, outOf_next, outOf_ite, ↓noteUnk_but, ↓setCmp_but]
  | split <;> try (with_reducible have h := congrArg Prod.snd ‹(_ : _ × State) = (_, _)›; dsimp only at h; subst h)
  | with_reducible refine (each_but (fun _ _ => ?_) _ _).trans ?_
  | with_reducible refine (whenS_but (fun _ => ?_) _ _).trans ?_
  | with_reducible refine (foldl_but (fun _ _ => ?_) _ _).trans ?_
  | with_reducible refine (foldl_but2 (fun _ _ => ?_) _ _).trans ?_
theorem advRefresh_but {m} (hm : sub 1081984 m = true) (k : Nat) (s : State) : (advRefresh k s).but m = s.but m := but_mono hm (advRefresh_but' k s)

theorem advRow_but' (r : Nat) (v : Bool) (s : State) : (advRow r v s).but 32768 = s.but 32768 := by
  unfold advRow
  repeat' first
  | with_reducible rfl
  | simp (disch := first | exact Or.inr rfl | exact Or.inl rfl | decide) only [↓but_mk, ↓but_ite, ↓but_snd_ite, ↓but_snd_mk, ↓but_snd2_ite, ↓but_snd2_mk, ↓but_cond, ite_self, outOf_live, outOf_next, outOf_ite, ↓setRow_but]
  | split <;> try (with_reducible have h := congrArg Prod.snd ‹(_ : _ × State) = (_, _)›; dsimp only at h; subst h)
  | with_reducible refine (each_but (fun _ _ => ?_) _ _).trans ?_
  | with_reducible refine (whenS_but (fun _ => ?_) _ _).trans ?_
  | with_reducible refine (foldl_but (fun _ _ => ?_) _ _).trans ?_
  | with_reducible refine (foldl_but2 (fun _ _ => ?_) _ _).trans ?_
theorem advRow_but {m} (hm : sub 32768 m = true) (r : Nat) (v : Bool) (s : State) : (advRow r v s).but m = s.but m := but_mono hm (advRow_but' r v s)

theorem svRefresh_but' (s : State) : (svRefresh s).but 1081984 = s.but 1081984 := by
  unfold svRefresh
  repeat' first
  | with_reducible rfl
  | simp (disch := first | exact Or.inr rfl | exact Or.inl rfl | decide) only [↓but_mk, ↓but_ite, ↓but_snd_ite, ↓but_snd_mk, ↓but_snd2_ite, ↓but_snd2_mk, ↓but_cond, ite_self, outOf_live, outOf_next, outOf_ite, ↓advRefresh_but, ↓advRow_but]
  | split <;> try (with_reducible have h := congrArg Prod.snd ‹(_ : _ × State) = (_, _)›; dsimp only at h; subst h)
  | with_reducible refine (each_but (fun _ _ => ?_) _ _).trans ?_
  | with_reducible refine (whenS_but (fun _ => ?_) _ _).trans ?_
  | with_reducible refine (foldl_but (fun _ _ => ?_) _ _).trans ?_
  | with_reducible refine (foldl_but2 (fun _ _ => ?_) _ _).trans ?_
theorem svRefresh_but {m} (hm : sub 1081984 m = true) (s : State) : (svRefresh s).but m = s.but m := but_mono hm (svRefresh_but' s)

theorem drefWrite_but' (s : State) : (drefWrite s).but 32768 = s.but 32768 := by
  unfold drefWrite
  repeat' first
  | with_reducible rfl
  | simp (disch := first | exact Or.inr rfl | exact Or.inl rfl | decide) only [↓but_mk, ↓but_ite, ↓but_snd_ite, ↓but_snd_mk, ↓but_snd2_ite, ↓but_snd2_mk, ↓but_cond, ite_self, outOf_live, outOf_next, outOf_ite]
  | split <;> try (with_reducible have h := congrArg Prod.snd ‹(_ : _ × State) = (_, _)›; dsimp only at h; subst h)
  | with_reducible refine (each_but (fun _ _ => ?_) _ _).trans ?_
  | with_reducible refine (whenS_but (fun _ => ?_) _ _).trans ?_
  | with_reducible refine (foldl_but (fun _ _ => ?_) _ _).trans ?_
  | with_reducible refine (foldl_but2 (fun _ _ => ?_) _ _).trans ?_
theorem drefWrite_but {m} (hm : sub 32768 m = true) (s : State) : (drefWrite s).but m = s.but m := but_mono hm (drefWrite_but' s)

theorem mbTick_but' (m0 : Nat) (r : MbRec) (s : State) : (mbTick m0 r s).but 65536 = s.but 65536 := by
  unfold mbTick
  repeat' first
  | with_reducible rfl
  | simp (disch := first | exact Or.inr rfl | exact Or.inl rfl | decide) only [↓but_mk, ↓but_ite, ↓but_snd_ite, ↓but_snd_mk, ↓but_snd2_ite, ↓but_snd2_mk, ↓but_cond, ite_self, outOf_live, outOf_next, outOf_ite]
  | split <;> try (with_reducible have h := congrArg Prod.snd ‹(_ : _ × State) = (_, _)›; dsimp only at h; subst h)
  | with_reducible refine (each_but (fun _ _ => ?_) _ _).trans ?_
  | with_reducible refine (whenS_but (fun _ => ?_) _ _).trans ?_
  | with_reducible refine (foldl_but (fun _ _ => ?_) _ _).trans ?_
  | with_reducible refine (foldl_but2 (fun _ _ => ?_) _ _).trans ?_
theorem mbTick_but {m} (hm : sub 65536 m = true) (m0 : Nat) (r : MbRec) (s : State) : (mbTick m0 r s).but m = s.but m := but_mono hm (mbTick_but' m0 r s)

theorem resTick_but' (s : State) : (resTick s).but 65536 = s.but 65536 := by
  unfold resTick
  repeat' first
  | with_reducible rfl
  | simp (disch := first | exact Or.inr rfl | exact Or.inl rfl | decide) only [↓but_mk, ↓but_ite, ↓but_snd_ite, ↓but_snd_mk, ↓but_snd2_ite, ↓but_snd2_mk, ↓but_cond, ite_self, outOf_live, outOf_next, outOf_ite]
  | split <;> try (with_reducible have h := congrArg Prod.snd ‹(_ : _ × State) = (_, _)›; dsimp only at h; subst h)
  | with_reducible refine (each_but (fun _ _ => ?_) _ _).trans ?_
  | with_reducible refine (whenS_but (fun _ => ?_) _ _).trans ?_
  | with_reducible refine (foldl_but (fun _ _ => ?_) _ _).trans ?_
  | with_reducible refine (foldl_but2 (fun _ _ => ?_) _ _).trans ?_
theorem resTick_but {m} (hm : sub 65536 m = true) (s : State) : (resTick s).but m = s.but m := but_mono hm (resTick_but' s)

theorem mbTicks_but' (s : State) : (mbTicks s).but 65536 = s.but 65536 := by
  unfold mbTicks
  repeat' first
  | with_reducible rfl
  | simp (disch := first | exact Or.inr rfl | exact Or.inl rfl | decide) only [↓but_mk, ↓but_ite, ↓but_snd_ite, ↓but_snd_mk, ↓but_snd2_ite, ↓but_snd2_mk, ↓but_cond, ite_self, outOf_live, outOf_next, outOf_ite, ↓resTick_but, ↓mbTick_but]
  | split <;> try (with_reducible have h := congrArg Prod.snd ‹(_ : _ × State) = (_, _)›; dsimp only at h; subst h)
  | with_reducible refine (each_but (fun _ _ => ?_) _ _).trans ?_
  | with_reducible refine (whenS_but (fun _ => ?_) _ _).trans ?_
  | with_reducible refine (foldl_but (fun _ _ => ?_) _ _).trans ?_
  | with_reducible refine (foldl_but2 (fun _ _ => ?_) _ _).trans ?_
theorem mbTicks_but {m} (hm : sub 65536 m = true) (s : State) : (mbTicks s).but m = s.but m := but_mono hm (mbTicks_but' s)

theorem cmpLoad_but' (k : Nat) (s : State) : (cmpLoad k s).but 32768 = s.but 32768 := by
  unfold cmpLoad
  repeat' first
  | with_reducible rfl
  | simp (disch := first | exact Or.inr rfl | exact Or.inl rfl | decide) only [↓but_mk, ↓but_ite, ↓but_snd_ite, ↓but_snd_mk, ↓but_snd2_ite, ↓but_snd2_mk, ↓but_cond, ite_self, outOf_live, outOf_next, outOf_ite, ↓setCmp_but]
  | split <;> try (with_reducible have h := congrArg Prod.snd ‹(_ : _ × State) = (_, _)›; dsimp only at h; subst h)
  | with_reducible refine (each_but (fun _ _ => ?_) _ _).trans ?_
  | with_reducible refine (whenS_but (fun _ => ?_) _ _).trans ?_
  | with_reducible refine (foldl_but (fun _ _ => ?_) _ _).trans ?_
  | with_reducible refine (foldl_but2 (fun _ _ => ?_) _ _).trans ?_
theorem cmpLoad_but {m} (hm : sub 32768 m = true) (k : Nat) (s : State) : (cmpLoad k s).but m = s.but m := but_mono hm (cmpLoad_but' k s)

theorem mbDrop_but' (s : State) : (mbDrop s).but 65536 = s.but 65536 := by
  unfold mbDrop
  repeat' first
  | with_reducible rfl
  | simp (disch := first | exact Or.inr rfl | exact Or.inl rfl | decide) only [↓but_mk, ↓but_ite, ↓but_snd_ite, ↓but_snd_mk, ↓but_snd2_ite, ↓but_snd2_mk, ↓but_cond, ite_self, outOf_live, outOf_next, outOf_ite]
  | split <;> try (with_reducible have h := congrArg Prod.snd ‹(_ : _ × State) = (_, _)›; dsimp only at h; subst h)
  | with_reducible refine (each_but (fun _ _ => ?_) _ _).trans ?_
  | with_reducible refine (whenS_but (fun _ => ?_) _ _).trans ?_
  | with_reducible refine (foldl_but (fun _ _ => ?_) _ _).trans ?_
  | with_reducible refine (foldl_but2 (fun _ _ => ?_) _ _).trans ?_
theorem mbDrop_but {m} (hm : sub 65536 m = true) (s : State) : (mbDrop s).but m = s.but m := but_mono hm (mbDrop_but' s)

theorem svLoad_but' (sec : SvSection) (digest : Bytes) (s : State) : (svLoad sec digest s).but 98304 = s.but 98304 := by
  unfold svLoad
  repeat' first
  | with_reducible rfl
  | simp (disch := first | exact Or.inr rfl | exact Or.inl rfl | decide) only [↓but_mk, ↓but_ite, ↓but_snd_ite, ↓but_snd_mk, ↓but_snd2_ite, ↓but_snd2_mk, ↓but_cond, ite_self, outOf_live, outOf_next, outOf_ite, ↓mbDrop_but, ↓cmpLoad_but]
  | split <;> try (with_reducible have h := congrArg Prod.snd ‹(_ : _ × State) = (_, _)›; dsimp only at h; subst h)
  | with_reducible refine (each_but (fun _ _ => ?_) _ _).trans ?_
  | with_reducible refine (whenS_but (fun _ => ?_) _ _).trans ?_
  | with_reducible refine (foldl_but (fun _ _ => ?_) _ _).trans ?_
  | with_reducible refine (foldl_but2 (fun _ _ => ?_) _ _).trans ?_
theorem svLoad_but {m} (hm : sub 98304 m = true) (sec : SvSection) (digest : Bytes) (s : State) : (svLoad sec digest s).but m = s.but m := but_mono hm (svLoad_but' sec digest s)

theorem svPowerOn_but' (s : State) : (svPowerOn s).but 98304 = s.but 98304 := by
  unfold svPowerOn
  repeat' first
  | with_reducible rfl
  | simp (disch := first | exact Or.inr rfl | exact Or.inl rfl | decide) only [↓but_mk, ↓but_ite, ↓but_snd_ite, ↓but_snd_mk, ↓but_snd2_ite, ↓but_snd2_mk, ↓but_cond, ite_self, outOf_live, outOf_next, outOf_ite]
  | split <;> try (with_reducible have h := congrArg Prod.snd ‹(_ : _ × State) = (_, _)›; dsimp only at h; subst h)
  | with_reducible refine (each_but (fun _ _ => ?_) _ _).trans ?_
  | with_reducible refine (whenS_but (fun _ => ?_) _ _).trans ?_
  | with_reducible refine (foldl_but (fun _ _ => ?_) _ _).trans ?_
  | with_reducible refine (foldl_but2 (fun _ _ => ?_) _ _).trans ?_
theorem svPowerOn_but {m} (hm : sub 98304 m = true) (s : State) : (svPowerOn s).but m = s.but m := but_mono hm (svPowerOn_but' s)

theorem tickWork_but' (convs : List Conv) (s : State) : (tickWork convs s).but 1305232 = s.but 1305232 := by
  unfold tickWork
  repeat' first
  | with_reducible rfl
  | simp (disch := first | exact Or.inr rfl | exact Or.inl rfl | decide) only [↓but_mk, ↓but_ite, ↓but_snd_ite, ↓but_snd_mk, ↓but_snd2_ite, ↓but_snd2_mk, ↓but_cond, ite_self, outOf_live, outOf_next, outOf_ite, ↓applyOutputs_but, ↓latchSignals_but, ↓latchConv_but, ↓inputHealth_but, ↓drefWrite_but, ↓mbTicks_but, ↓svRefresh_but, ↓voteGroup_but, ↓channelSample_but, ↓computeOutputs_but, ↓checkReadback_but, ↓reclaimTick_but]
  | split <;> try (with_reducible have h := congrArg Prod.snd ‹(_ : _ × State) = (_, _)›; dsimp only at h; subst h)
  | with_reducible refine (each_but (fun _ _ => ?_) _ _).trans ?_
  | with_reducible refine (whenS_but (fun _ => ?_) _ _).trans ?_
  | with_reducible refine (foldl_but (fun _ _ => ?_) _ _).trans ?_
  | with_reducible refine (foldl_but2 (fun _ _ => ?_) _ _).trans ?_
theorem tickWork_but {m} (hm : sub 1305232 m = true) (convs : List Conv) (s : State) : (tickWork convs s).but m = s.but m := but_mono hm (tickWork_but' convs s)

theorem execInputRangeTimeout_but' (i : Nat) (s : State) : (outOf (execInputRangeTimeout i s) s).but 68166272 = s.but 68166272 := by
  unfold execInputRangeTimeout
  repeat' first
  | with_reducible rfl
  | simp (disch := first | exact Or.inr rfl | exact Or.inl rfl | decide) only [↓but_mk, ↓but_ite, ↓but_snd_ite, ↓but_snd_mk, ↓but_snd2_ite, ↓but_snd2_mk, ↓but_cond, ite_self, outOf_live, outOf_next, outOf_ite, ↓clockTo_but, ↓inputUnknown_but]
  | split <;> try (with_reducible have h := congrArg Prod.snd ‹(_ : _ × State) = (_, _)›; dsimp only at h; subst h)
  | with_reducible refine (each_but (fun _ _ => ?_) _ _).trans ?_
  | with_reducible refine (whenS_but (fun _ => ?_) _ _).trans ?_
  | with_reducible refine (foldl_but (fun _ _ => ?_) _ _).trans ?_
  | with_reducible refine (foldl_but2 (fun _ _ => ?_) _ _).trans ?_
theorem execInputRangeTimeout_but {m} (hm : sub 68166272 m = true) (i : Nat) (s : State) : (outOf (execInputRangeTimeout i s) s).but m = s.but m := but_mono hm (execInputRangeTimeout_but' i s)

theorem execInputStale_but' (i : Nat) (s : State) : (outOf (execInputStale i s) s).but 68166272 = s.but 68166272 := by
  unfold execInputStale
  repeat' first
  | with_reducible rfl
  | simp (disch := first | exact Or.inr rfl | exact Or.inl rfl | decide) only [↓but_mk, ↓but_ite, ↓but_snd_ite, ↓but_snd_mk, ↓but_snd2_ite, ↓but_snd2_mk, ↓but_cond, ite_self, outOf_live, outOf_next, outOf_ite, ↓clockTo_but, ↓inputUnknown_but]
  | split <;> try (with_reducible have h := congrArg Prod.snd ‹(_ : _ × State) = (_, _)›; dsimp only at h; subst h)
  | with_reducible refine (each_but (fun _ _ => ?_) _ _).trans ?_
  | with_reducible refine (whenS_but (fun _ => ?_) _ _).trans ?_
  | with_reducible refine (foldl_but (fun _ _ => ?_) _ _).trans ?_
  | with_reducible refine (foldl_but2 (fun _ _ => ?_) _ _).trans ?_
theorem execInputStale_but {m} (hm : sub 68166272 m = true) (i : Nat) (s : State) : (outOf (execInputStale i s) s).but m = s.but m := but_mono hm (execInputStale_but' i s)

theorem frozenTests_but' (r : InputRec) (s : State) : (frozenTests r s).but 1057408 = s.but 1057408 := by
  unfold frozenTests
  repeat' first
  | with_reducible rfl
  | simp (disch := first | exact Or.inr rfl | exact Or.inl rfl | decide) only [↓but_mk, ↓but_ite, ↓but_snd_ite, ↓but_snd_mk, ↓but_snd2_ite, ↓but_snd2_mk, ↓but_cond, ite_self, outOf_live, outOf_next, outOf_ite, ↓setIn_but, ↓inputUnknown_but]
  | split <;> try (with_reducible have h := congrArg Prod.snd ‹(_ : _ × State) = (_, _)›; dsimp only at h; subst h)
  | with_reducible refine (each_but (fun _ _ => ?_) _ _).trans ?_
  | with_reducible refine (whenS_but (fun _ => ?_) _ _).trans ?_
  | with_reducible refine (foldl_but (fun _ _ => ?_) _ _).trans ?_
  | with_reducible refine (foldl_but2 (fun _ _ => ?_) _ _).trans ?_
theorem frozenTests_but {m} (hm : sub 1057408 m = true) (r : InputRec) (s : State) : (frozenTests r s).but m = s.but m := but_mono hm (frozenTests_but' r s)

theorem execFrozenWindowEnd_but' (i : Nat) (s : State) : (outOf (execFrozenWindowEnd i s) s).but 1057408 = s.but 1057408 := by
  unfold execFrozenWindowEnd
  repeat' first
  | with_reducible rfl
  | simp (disch := first | exact Or.inr rfl | exact Or.inl rfl | decide) only [↓but_mk, ↓but_ite, ↓but_snd_ite, ↓but_snd_mk, ↓but_snd2_ite, ↓but_snd2_mk, ↓but_cond, ite_self, outOf_live, outOf_next, outOf_ite, ↓frozenTests_but]
  | split <;> try (with_reducible have h := congrArg Prod.snd ‹(_ : _ × State) = (_, _)›; dsimp only at h; subst h)
  | with_reducible refine (each_but (fun _ _ => ?_) _ _).trans ?_
  | with_reducible refine (whenS_but (fun _ => ?_) _ _).trans ?_
  | with_reducible refine (foldl_but (fun _ _ => ?_) _ _).trans ?_
  | with_reducible refine (foldl_but2 (fun _ _ => ?_) _ _).trans ?_
theorem execFrozenWindowEnd_but {m} (hm : sub 1057408 m = true) (i : Nat) (s : State) : (outOf (execFrozenWindowEnd i s) s).but m = s.but m := but_mono hm (execFrozenWindowEnd_but' i s)

theorem execInputRecovered_but' (i : Nat) (s : State) : (outOf (execInputRecovered i s) s).but 68166272 = s.but 68166272 := by
  unfold execInputRecovered
  repeat' first
  | with_reducible rfl
  | simp (disch := first | exact Or.inr rfl | exact Or.inl rfl | decide) only [↓but_mk, ↓but_ite, ↓but_snd_ite, ↓but_snd_mk, ↓but_snd2_ite, ↓but_snd2_mk, ↓but_cond, ite_self, outOf_live, outOf_next, outOf_ite, ↓clockTo_but, ↓emit_but, ↓setIn_but]
  | split <;> try (with_reducible have h := congrArg Prod.snd ‹(_ : _ × State) = (_, _)›; dsimp only at h; subst h)
  | with_reducible refine (each_but (fun _ _ => ?_) _ _).trans ?_
  | with_reducible refine (whenS_but (fun _ => ?_) _ _).trans ?_
  | with_reducible refine (foldl_but (fun _ _ => ?_) _ _).trans ?_
  | with_reducible refine (foldl_but2 (fun _ _ => ?_) _ _).trans ?_
theorem execInputRecovered_but {m} (hm : sub 68166272 m = true) (i : Nat) (s : State) : (outOf (execInputRecovered i s) s).but m = s.but m := but_mono hm (execInputRecovered_but' i s)

theorem execSensorDisagree_but' (g : Nat) (s : State) : (outOf (execSensorDisagree g s) s).but 68166272 = s.but 68166272 := by
  unfold execSensorDisagree
  repeat' first
  | with_reducible rfl
  | simp (disch := first | exact Or.inr rfl | exact Or.inl rfl | decide) only [↓but_mk, ↓but_ite, ↓but_snd_ite, ↓but_snd_mk, ↓but_snd2_ite, ↓but_snd2_mk, ↓but_cond, ite_self, outOf_live, outOf_next, outOf_ite, ↓clockTo_but, ↓emit_but]
  | split <;> try (with_reducible have h := congrArg Prod.snd ‹(_ : _ × State) = (_, _)›; dsimp only at h; subst h)
  | with_reducible refine (each_but (fun _ _ => ?_) _ _).trans ?_
  | with_reducible refine (whenS_but (fun _ => ?_) _ _).trans ?_
  | with_reducible refine (foldl_but (fun _ _ => ?_) _ _).trans ?_
  | with_reducible refine (foldl_but2 (fun _ _ => ?_) _ _).trans ?_
theorem execSensorDisagree_but {m} (hm : sub 68166272 m = true) (g : Nat) (s : State) : (outOf (execSensorDisagree g s) s).but m = s.but m := but_mono hm (execSensorDisagree_but' g s)

theorem execSensorDisagreeClear_but' (g : Nat) (s : State) : (outOf (execSensorDisagreeClear g s) s).but 68166272 = s.but 68166272 := by
  unfold execSensorDisagreeClear
  repeat' first
  | with_reducible rfl
  | simp (disch := first | exact Or.inr rfl | exact Or.inl rfl | decide) only [↓but_mk, ↓but_ite, ↓but_snd_ite, ↓but_snd_mk, ↓but_snd2_ite, ↓but_snd2_mk, ↓but_cond, ite_self, outOf_live, outOf_next, outOf_ite, ↓clockTo_but, ↓emit_but]
  | split <;> try (with_reducible have h := congrArg Prod.snd ‹(_ : _ × State) = (_, _)›; dsimp only at h; subst h)
  | with_reducible refine (each_but (fun _ _ => ?_) _ _).trans ?_
  | with_reducible refine (whenS_but (fun _ => ?_) _ _).trans ?_
  | with_reducible refine (foldl_but (fun _ _ => ?_) _ _).trans ?_
  | with_reducible refine (foldl_but2 (fun _ _ => ?_) _ _).trans ?_
theorem execSensorDisagreeClear_but {m} (hm : sub 68166272 m = true) (g : Nat) (s : State) : (outOf (execSensorDisagreeClear g s) s).but m = s.but m := but_mono hm (execSensorDisagreeClear_but' g s)

theorem execFollowingError_but' (ch : Nat) (s : State) : (outOf (execFollowingError ch s) s).but 1059456 = s.but 1059456 := by
  unfold execFollowingError
  repeat' first
  | with_reducible rfl
  | simp (disch := first | exact Or.inr rfl | exact Or.inl rfl | decide) only [↓but_mk, ↓but_ite, ↓but_snd_ite, ↓but_snd_mk, ↓but_snd2_ite, ↓but_snd2_mk, ↓but_cond, ite_self, outOf_live, outOf_next, outOf_ite, ↓feTrip_but, ↓trialFault_but, ↓emit_but, ↓setCh_but]
  | split <;> try (with_reducible have h := congrArg Prod.snd ‹(_ : _ × State) = (_, _)›; dsimp only at h; subst h)
  | with_reducible refine (each_but (fun _ _ => ?_) _ _).trans ?_
  | with_reducible refine (whenS_but (fun _ => ?_) _ _).trans ?_
  | with_reducible refine (foldl_but (fun _ _ => ?_) _ _).trans ?_
  | with_reducible refine (foldl_but2 (fun _ _ => ?_) _ _).trans ?_
theorem execFollowingError_but {m} (hm : sub 1059456 m = true) (ch : Nat) (s : State) : (outOf (execFollowingError ch s) s).but m = s.but m := but_mono hm (execFollowingError_but' ch s)

theorem execOutputFault_but' (m0 : Nat) (s : State) : (outOf (execOutputFault m0 s) s).but 68166272 = s.but 68166272 := by
  unfold execOutputFault
  repeat' first
  | with_reducible rfl
  | simp (disch := first | exact Or.inr rfl | exact Or.inl rfl | decide) only [↓but_mk, ↓but_ite, ↓but_snd_ite, ↓but_snd_mk, ↓but_snd2_ite, ↓but_snd2_mk, ↓but_cond, ite_self, outOf_live, outOf_next, outOf_ite, ↓clockTo_but, ↓emit_but]
  | split <;> try (with_reducible have h := congrArg Prod.snd ‹(_ : _ × State) = (_, _)›; dsimp only at h; subst h)
  | with_reducible refine (each_but (fun _ _ => ?_) _ _).trans ?_
  | with_reducible refine (whenS_but (fun _ => ?_) _ _).trans ?_
  | with_reducible refine (foldl_but (fun _ _ => ?_) _ _).trans ?_
  | with_reducible refine (foldl_but2 (fun _ _ => ?_) _ _).trans ?_
theorem execOutputFault_but {m} (hm : sub 68166272 m = true) (m0 : Nat) (s : State) : (outOf (execOutputFault m0 s) s).but m = s.but m := but_mono hm (execOutputFault_but' m0 s)

theorem swapOp_but' (c : Nat) (s : State) : (swapOp c s).but 1057408 = s.but 1057408 := by
  unfold swapOp
  repeat' first
  | with_reducible rfl
  | simp (disch := first | exact Or.inr rfl | exact Or.inl rfl | decide) only [↓but_mk, ↓but_ite, ↓but_snd_ite, ↓but_snd_mk, ↓but_snd2_ite, ↓but_snd2_mk, ↓but_cond, ite_self, outOf_live, outOf_next, outOf_ite, ↓emit_but, ↓setCh_but]
  | split <;> try (with_reducible have h := congrArg Prod.snd ‹(_ : _ × State) = (_, _)›; dsimp only at h; subst h)
  | with_reducible refine (each_but (fun _ _ => ?_) _ _).trans ?_
  | with_reducible refine (whenS_but (fun _ => ?_) _ _).trans ?_
  | with_reducible refine (foldl_but (fun _ _ => ?_) _ _).trans ?_
  | with_reducible refine (foldl_but2 (fun _ _ => ?_) _ _).trans ?_
theorem swapOp_but {m} (hm : sub 1057408 m = true) (c : Nat) (s : State) : (swapOp c s).but m = s.but m := but_mono hm (swapOp_but' c s)

theorem execSwap_but' (ch : Nat) (s : State) : (outOf (execSwap ch s) s).but 1057408 = s.but 1057408 := by
  unfold execSwap
  repeat' first
  | with_reducible rfl
  | simp (disch := first | exact Or.inr rfl | exact Or.inl rfl | decide) only [↓but_mk, ↓but_ite, ↓but_snd_ite, ↓but_snd_mk, ↓but_snd2_ite, ↓but_snd2_mk, ↓but_cond, ite_self, outOf_live, outOf_next, outOf_ite, ↓swapOp_but]
  | split <;> try (with_reducible have h := congrArg Prod.snd ‹(_ : _ × State) = (_, _)›; dsimp only at h; subst h)
  | with_reducible refine (each_but (fun _ _ => ?_) _ _).trans ?_
  | with_reducible refine (whenS_but (fun _ => ?_) _ _).trans ?_
  | with_reducible refine (foldl_but (fun _ _ => ?_) _ _).trans ?_
  | with_reducible refine (foldl_but2 (fun _ _ => ?_) _ _).trans ?_
theorem execSwap_but {m} (hm : sub 1057408 m = true) (ch : Nat) (s : State) : (outOf (execSwap ch s) s).but m = s.but m := but_mono hm (execSwap_but' ch s)

theorem execBankSwapped_but' (ch : Nat) (s : State) : (outOf (execBankSwapped ch s) s).but 1073792 = s.but 1073792 := by
  unfold execBankSwapped
  repeat' first
  | with_reducible rfl
  | simp (disch := first | exact Or.inr rfl | exact Or.inl rfl | decide) only [↓but_mk, ↓but_ite, ↓but_snd_ite, ↓but_snd_mk, ↓but_snd2_ite, ↓but_snd2_mk, ↓but_cond, ite_self, outOf_live, outOf_next, outOf_ite, ↓swAbortAll_but, ↓setCh_but, ↓emit_but]
  | split <;> try (with_reducible have h := congrArg Prod.snd ‹(_ : _ × State) = (_, _)›; dsimp only at h; subst h)
  | with_reducible refine (each_but (fun _ _ => ?_) _ _).trans ?_
  | with_reducible refine (whenS_but (fun _ => ?_) _ _).trans ?_
  | with_reducible refine (foldl_but (fun _ _ => ?_) _ _).trans ?_
  | with_reducible refine (foldl_but2 (fun _ _ => ?_) _ _).trans ?_
theorem execBankSwapped_but {m} (hm : sub 1073792 m = true) (ch : Nat) (s : State) : (outOf (execBankSwapped ch s) s).but m = s.but m := but_mono hm (execBankSwapped_but' ch s)

theorem tripResetOp_but' (c : Nat) (s : State) : (tripResetOp c s).but 8192 = s.but 8192 := by
  unfold tripResetOp
  repeat' first
  | with_reducible rfl
  | simp (disch := first | exact Or.inr rfl | exact Or.inl rfl | decide) only [↓but_mk, ↓but_ite, ↓but_snd_ite, ↓but_snd_mk, ↓but_snd2_ite, ↓but_snd2_mk, ↓but_cond, ite_self, outOf_live, outOf_next, outOf_ite, ↓setCh_but, ↓initChannel_but]
  | split <;> try (with_reducible have h := congrArg Prod.snd ‹(_ : _ × State) = (_, _)›; dsimp only at h; subst h)
  | with_reducible refine (each_but (fun _ _ => ?_) _ _).trans ?_
  | with_reducible refine (whenS_but (fun _ => ?_) _ _).trans ?_
  | with_reducible refine (foldl_but (fun _ _ => ?_) _ _).trans ?_
  | with_reducible refine (foldl_but2 (fun _ _ => ?_) _ _).trans ?_
theorem tripResetOp_but {m} (hm : sub 8192 m = true) (c : Nat) (s : State) : (tripResetOp c s).but m = s.but m := but_mono hm (tripResetOp_but' c s)

theorem execTripReset_but' (ch : Nat) (s : State) : (outOf (execTripReset ch s) s).but 8192 = s.but 8192 := by
  unfold execTripReset
  repeat' first
  | with_reducible rfl
  | simp (disch := first | exact Or.inr rfl | exact Or.inl rfl | decide) only [↓but_mk, ↓but_ite, ↓but_snd_ite, ↓but_snd_mk, ↓but_snd2_ite, ↓but_snd2_mk, ↓but_cond, ite_self, outOf_live, outOf_next, outOf_ite, ↓tripResetOp_but]
  | split <;> try (with_reducible have h := congrArg Prod.snd ‹(_ : _ × State) = (_, _)›; dsimp only at h; subst h)
  | with_reducible refine (each_but (fun _ _ => ?_) _ _).trans ?_
  | with_reducible refine (whenS_but (fun _ => ?_) _ _).trans ?_
  | with_reducible refine (foldl_but (fun _ _ => ?_) _ _).trans ?_
  | with_reducible refine (foldl_but2 (fun _ _ => ?_) _ _).trans ?_
theorem execTripReset_but {m} (hm : sub 8192 m = true) (ch : Nat) (s : State) : (outOf (execTripReset ch s) s).but m = s.but m := but_mono hm (execTripReset_but' ch s)

theorem loopRestartOp_but' (cause : Nat) (s : State) : (loopRestartOp cause s).but 9466496 = s.but 9466496 := by
  unfold loopRestartOp
  repeat' first
  | with_reducible rfl
  | simp (disch := first | exact Or.inr rfl | exact Or.inl rfl | decide) only [↓but_mk, ↓but_ite, ↓but_snd_ite, ↓but_snd_mk, ↓but_snd2_ite, ↓but_snd2_mk, ↓but_cond, ite_self, outOf_live, outOf_next, outOf_ite, ↓settleMsgs_but, ↓dropOwners_but, ↓swAbortAll_but, ↓initAll_but, ↓emit_but]
  | split <;> try (with_reducible have h := congrArg Prod.snd ‹(_ : _ × State) = (_, _)›; dsimp only at h; subst h)
  | with_reducible refine (each_but (fun _ _ => ?_) _ _).trans ?_
  | with_reducible refine (whenS_but (fun _ => ?_) _ _).trans ?_
  | with_reducible refine (foldl_but (fun _ _ => ?_) _ _).trans ?_
  | with_reducible refine (foldl_but2 (fun _ _ => ?_) _ _).trans ?_
theorem loopRestartOp_but {m} (hm : sub 9466496 m = true) (cause : Nat) (s : State) : (loopRestartOp cause s).but m = s.but m := but_mono hm (loopRestartOp_but' cause s)

theorem loopRestartFree_but' (s : State) : (loopRestartFree s).but 8599401096 = s.but 8599401096 := by
  unfold loopRestartFree
  repeat' first
  | with_reducible rfl
  | simp (disch := first | exact Or.inr rfl | exact Or.inl rfl | decide) only [↓but_mk, ↓but_ite, ↓but_snd_ite, ↓but_snd_mk, ↓but_snd2_ite, ↓but_snd2_mk, ↓but_cond, ite_self, outOf_live, outOf_next, outOf_ite, ↓freshWord_but, ↓requestHandover_but, ↓loopRestartOp_but]
  | split <;> try (with_reducible have h := congrArg Prod.snd ‹(_ : _ × State) = (_, _)›; dsimp only at h; subst h)
  | with_reducible refine (each_but (fun _ _ => ?_) _ _).trans ?_
  | with_reducible refine (whenS_but (fun _ => ?_) _ _).trans ?_
  | with_reducible refine (foldl_but (fun _ _ => ?_) _ _).trans ?_
  | with_reducible refine (foldl_but2 (fun _ _ => ?_) _ _).trans ?_
theorem loopRestartFree_but {m} (hm : sub 8599401096 m = true) (s : State) : (loopRestartFree s).but m = s.but m := but_mono hm (loopRestartFree_but' s)

theorem execLoopRestart_but' (cause : Nat) (s : State) : (outOf (execLoopRestart cause s) s).but 9466504 = s.but 9466504 := by
  unfold execLoopRestart
  repeat' first
  | with_reducible rfl
  | simp (disch := first | exact Or.inr rfl | exact Or.inl rfl | decide) only [↓but_mk, ↓but_ite, ↓but_snd_ite, ↓but_snd_mk, ↓but_snd2_ite, ↓but_snd2_mk, ↓but_cond, ite_self, outOf_live, outOf_next, outOf_ite, ↓requestHandover_but, ↓loopRestartOp_but]
  | split <;> try (with_reducible have h := congrArg Prod.snd ‹(_ : _ × State) = (_, _)›; dsimp only at h; subst h)
  | with_reducible refine (each_but (fun _ _ => ?_) _ _).trans ?_
  | with_reducible refine (whenS_but (fun _ => ?_) _ _).trans ?_
  | with_reducible refine (foldl_but (fun _ _ => ?_) _ _).trans ?_
  | with_reducible refine (foldl_but2 (fun _ _ => ?_) _ _).trans ?_
theorem execLoopRestart_but {m} (hm : sub 9466504 m = true) (cause : Nat) (s : State) : (outOf (execLoopRestart cause s) s).but m = s.but m := but_mono hm (execLoopRestart_but' cause s)

theorem moveChan_but' (moves : List (Nat × Nat)) (c : Nat) (s : State) : (moveChan moves c s).but 8192 = s.but 8192 := by
  unfold moveChan
  repeat' first
  | with_reducible rfl
  | simp (disch := first | exact Or.inr rfl | exact Or.inl rfl | decide) only [↓but_mk, ↓but_ite, ↓but_snd_ite, ↓but_snd_mk, ↓but_snd2_ite, ↓but_snd2_mk, ↓but_cond, ite_self, outOf_live, outOf_next, outOf_ite, ↓setCh_but]
  | split <;> try (with_reducible have h := congrArg Prod.snd ‹(_ : _ × State) = (_, _)›; dsimp only at h; subst h)
  | with_reducible refine (each_but (fun _ _ => ?_) _ _).trans ?_
  | with_reducible refine (whenS_but (fun _ => ?_) _ _).trans ?_
  | with_reducible refine (foldl_but (fun _ _ => ?_) _ _).trans ?_
  | with_reducible refine (foldl_but2 (fun _ _ => ?_) _ _).trans ?_
theorem moveChan_but {m} (hm : sub 8192 m = true) (moves : List (Nat × Nat)) (c : Nat) (s : State) : (moveChan moves c s).but m = s.but m := but_mono hm (moveChan_but' moves c s)

theorem engineQuarantine_but' (e : Nat) (moves : List (Nat × Nat)) (s : State) : (engineQuarantine e moves s).but 9466568 = s.but 9466568 := by
  unfold engineQuarantine
  repeat' first
  | with_reducible rfl
  | simp (disch := first | exact Or.inr rfl | exact Or.inl rfl | decide) only [↓but_mk, ↓but_ite, ↓but_snd_ite, ↓but_snd_mk, ↓but_snd2_ite, ↓but_snd2_mk, ↓but_cond, ite_self, outOf_live, outOf_next, outOf_ite, ↓settleMsgs_but, ↓dropOwner_but, ↓moveChan_but, ↓swAbortAll_but, ↓emit_but, ↓requestHandover_but]
  | split <;> try (with_reducible have h := congrArg Prod.snd ‹(_ : _ × State) = (_, _)›; dsimp only at h; subst h)
  | with_reducible refine (each_but (fun _ _ => ?_) _ _).trans ?_
  | with_reducible refine (whenS_but (fun _ => ?_) _ _).trans ?_
  | with_reducible refine (foldl_but (fun _ _ => ?_) _ _).trans ?_
  | with_reducible refine (foldl_but2 (fun _ _ => ?_) _ _).trans ?_
theorem engineQuarantine_but {m} (hm : sub 9466568 m = true) (e : Nat) (moves : List (Nat × Nat)) (s : State) : (engineQuarantine e moves s).but m = s.but m := but_mono hm (engineQuarantine_but' e moves s)

theorem execEngineQuarantined_but' (e : Nat) (moves : List (Nat × Nat)) (s : State) : (outOf (execEngineQuarantined e moves s) s).but 9466568 = s.but 9466568 := by
  unfold execEngineQuarantined
  repeat' first
  | with_reducible rfl
  | simp (disch := first | exact Or.inr rfl | exact Or.inl rfl | decide) only [↓but_mk, ↓but_ite, ↓but_snd_ite, ↓but_snd_mk, ↓but_snd2_ite, ↓but_snd2_mk, ↓but_cond, ite_self, outOf_live, outOf_next, outOf_ite, ↓engineQuarantine_but]
  | split <;> try (with_reducible have h := congrArg Prod.snd ‹(_ : _ × State) = (_, _)›; dsimp only at h; subst h)
  | with_reducible refine (each_but (fun _ _ => ?_) _ _).trans ?_
  | with_reducible refine (whenS_but (fun _ => ?_) _ _).trans ?_
  | with_reducible refine (foldl_but (fun _ _ => ?_) _ _).trans ?_
  | with_reducible refine (foldl_but2 (fun _ _ => ?_) _ _).trans ?_
theorem execEngineQuarantined_but {m} (hm : sub 9466568 m = true) (e : Nat) (moves : List (Nat × Nat)) (s : State) : (outOf (execEngineQuarantined e moves s) s).but m = s.but m := but_mono hm (execEngineQuarantined_but' e moves s)

theorem swArmOp_but' (k : Nat) (s : State) : (swArmOp k s).but 1065600 = s.but 1065600 := by
  unfold swArmOp
  repeat' first
  | with_reducible rfl
  | simp (disch := first | exact Or.inr rfl | exact Or.inl rfl | decide) only [↓but_mk, ↓but_ite, ↓but_snd_ite, ↓but_snd_mk, ↓but_snd2_ite, ↓but_snd2_mk, ↓but_cond, ite_self, outOf_live, outOf_next, outOf_ite, ↓swErr_but, ↓emit_but, ↓setSw_but]
  | split <;> try (with_reducible have h := congrArg Prod.snd ‹(_ : _ × State) = (_, _)›; dsimp only at h; subst h)
  | with_reducible refine (each_but (fun _ _ => ?_) _ _).trans ?_
  | with_reducible refine (whenS_but (fun _ => ?_) _ _).trans ?_
  | with_reducible refine (foldl_but (fun _ _ => ?_) _ _).trans ?_
  | with_reducible refine (foldl_but2 (fun _ _ => ?_) _ _).trans ?_
theorem swArmOp_but {m} (hm : sub 1065600 m = true) (k : Nat) (s : State) : (swArmOp k s).but m = s.but m := but_mono hm (swArmOp_but' k s)

theorem execSwatchArm_but' (k : Nat) (s : State) : (outOf (execSwatchArm k s) s).but 1065600 = s.but 1065600 := by
  unfold execSwatchArm
  repeat' first
  | with_reducible rfl
  | simp (disch := first | exact Or.inr rfl | exact Or.inl rfl | decide) only [↓but_mk, ↓but_ite, ↓but_snd_ite, ↓but_snd_mk, ↓but_snd2_ite, ↓but_snd2_mk, ↓but_cond, ite_self, outOf_live, outOf_next, outOf_ite, ↓swArmOp_but]
  | split <;> try (with_reducible have h := congrArg Prod.snd ‹(_ : _ × State) = (_, _)›; dsimp only at h; subst h)
  | with_reducible refine (each_but (fun _ _ => ?_) _ _).trans ?_
  | with_reducible refine (whenS_but (fun _ => ?_) _ _).trans ?_
  | with_reducible refine (foldl_but (fun _ _ => ?_) _ _).trans ?_
  | with_reducible refine (foldl_but2 (fun _ _ => ?_) _ _).trans ?_
theorem execSwatchArm_but {m} (hm : sub 1065600 m = true) (k : Nat) (s : State) : (outOf (execSwatchArm k s) s).but m = s.but m := but_mono hm (execSwatchArm_but' k s)

theorem swHostAbort_but' (k : Nat) (s : State) : (swHostAbort k s).but 1065600 = s.but 1065600 := by
  unfold swHostAbort
  repeat' first
  | with_reducible rfl
  | simp (disch := first | exact Or.inr rfl | exact Or.inl rfl | decide) only [↓but_mk, ↓but_ite, ↓but_snd_ite, ↓but_snd_mk, ↓but_snd2_ite, ↓but_snd2_mk, ↓but_cond, ite_self, outOf_live, outOf_next, outOf_ite, ↓setSw_but, ↓swClose_but, ↓swErr_but, ↓emit_but]
  | split <;> try (with_reducible have h := congrArg Prod.snd ‹(_ : _ × State) = (_, _)›; dsimp only at h; subst h)
  | with_reducible refine (each_but (fun _ _ => ?_) _ _).trans ?_
  | with_reducible refine (whenS_but (fun _ => ?_) _ _).trans ?_
  | with_reducible refine (foldl_but (fun _ _ => ?_) _ _).trans ?_
  | with_reducible refine (foldl_but2 (fun _ _ => ?_) _ _).trans ?_
theorem swHostAbort_but {m} (hm : sub 1065600 m = true) (k : Nat) (s : State) : (swHostAbort k s).but m = s.but m := but_mono hm (swHostAbort_but' k s)

theorem execSwatchAbort_but' (k : Nat) (s : State) : (outOf (execSwatchAbort k s) s).but 1065600 = s.but 1065600 := by
  unfold execSwatchAbort
  repeat' first
  | with_reducible rfl
  | simp (disch := first | exact Or.inr rfl | exact Or.inl rfl | decide) only [↓but_mk, ↓but_ite, ↓but_snd_ite, ↓but_snd_mk, ↓but_snd2_ite, ↓but_snd2_mk, ↓but_cond, ite_self, outOf_live, outOf_next, outOf_ite, ↓swHostAbort_but]
  | split <;> try (with_reducible have h := congrArg Prod.snd ‹(_ : _ × State) = (_, _)›; dsimp only at h; subst h)
  | with_reducible refine (each_but (fun _ _ => ?_) _ _).trans ?_
  | with_reducible refine (whenS_but (fun _ => ?_) _ _).trans ?_
  | with_reducible refine (foldl_but (fun _ _ => ?_) _ _).trans ?_
  | with_reducible refine (foldl_but2 (fun _ _ => ?_) _ _).trans ?_
theorem execSwatchAbort_but {m} (hm : sub 1065600 m = true) (k : Nat) (s : State) : (outOf (execSwatchAbort k s) s).but m = s.but m := but_mono hm (execSwatchAbort_but' k s)

theorem swHostTrigger_but' (k : Nat) (s : State) : (swHostTrigger k s).but 16384 = s.but 16384 := by
  unfold swHostTrigger
  repeat' first
  | with_reducible rfl
  | simp (disch := first | exact Or.inr rfl | exact Or.inl rfl | decide) only [↓but_mk, ↓but_ite, ↓but_snd_ite, ↓but_snd_mk, ↓but_snd2_ite, ↓but_snd2_mk, ↓but_cond, ite_self, outOf_live, outOf_next, outOf_ite, ↓setSw_but]
  | split <;> try (with_reducible have h := congrArg Prod.snd ‹(_ : _ × State) = (_, _)›; dsimp only at h; subst h)
  | with_reducible refine (each_but (fun _ _ => ?_) _ _).trans ?_
  | with_reducible refine (whenS_but (fun _ => ?_) _ _).trans ?_
  | with_reducible refine (foldl_but (fun _ _ => ?_) _ _).trans ?_
  | with_reducible refine (foldl_but2 (fun _ _ => ?_) _ _).trans ?_
theorem swHostTrigger_but {m} (hm : sub 16384 m = true) (k : Nat) (s : State) : (swHostTrigger k s).but m = s.but m := but_mono hm (swHostTrigger_but' k s)

theorem execSwatchTrigger_but' (k : Nat) (s : State) : (outOf (execSwatchTrigger k s) s).but 16384 = s.but 16384 := by
  unfold execSwatchTrigger
  repeat' first
  | with_reducible rfl
  | simp (disch := first | exact Or.inr rfl | exact Or.inl rfl | decide) only [↓but_mk, ↓but_ite, ↓but_snd_ite, ↓but_snd_mk, ↓but_snd2_ite, ↓but_snd2_mk, ↓but_cond, ite_self, outOf_live, outOf_next, outOf_ite, ↓swHostTrigger_but]
  | split <;> try (with_reducible have h := congrArg Prod.snd ‹(_ : _ × State) = (_, _)›; dsimp only at h; subst h)
  | with_reducible refine (each_but (fun _ _ => ?_) _ _).trans ?_
  | with_reducible refine (whenS_but (fun _ => ?_) _ _).trans ?_
  | with_reducible refine (foldl_but (fun _ _ => ?_) _ _).trans ?_
  | with_reducible refine (foldl_but2 (fun _ _ => ?_) _ _).trans ?_
theorem execSwatchTrigger_but {m} (hm : sub 16384 m = true) (k : Nat) (s : State) : (outOf (execSwatchTrigger k s) s).but m = s.but m := but_mono hm (execSwatchTrigger_but' k s)

theorem execSwatchDone_but' (k : Nat) (s : State) : (outOf (execSwatchDone k s) s).but 1073792 = s.but 1073792 := by
  unfold execSwatchDone
  repeat' first
  | with_reducible rfl
  | simp (disch := first | exact Or.inr rfl | exact Or.inl rfl | decide) only [↓but_mk, ↓but_ite, ↓but_snd_ite, ↓but_snd_mk, ↓but_snd2_ite, ↓but_snd2_mk, ↓but_cond, ite_self, outOf_live, outOf_next, outOf_ite, ↓swResume_but, ↓setSw_but, ↓swTail_but, ↓swErr_but, ↓emit_but]
  | split <;> try (with_reducible have h := congrArg Prod.snd ‹(_ : _ × State) = (_, _)›; dsimp only at h; subst h)
  | with_reducible refine (each_but (fun _ _ => ?_) _ _).trans ?_
  | with_reducible refine (whenS_but (fun _ => ?_) _ _).trans ?_
  | with_reducible refine (foldl_but (fun _ _ => ?_) _ _).trans ?_
  | with_reducible refine (foldl_but2 (fun _ _ => ?_) _ _).trans ?_
theorem execSwatchDone_but {m} (hm : sub 1073792 m = true) (k : Nat) (s : State) : (outOf (execSwatchDone k s) s).but m = s.but m := but_mono hm (execSwatchDone_but' k s)

theorem swatchStartKern_but' (a1 : Dgram) (a2 : PeerRec) (a3 : Nat) (args : Bytes) (s : State) : (swatchStartKern a1 a2 a3 args s).2.but 16384 = s.but 16384 := by
  unfold swatchStartKern
  repeat' first
  | with_reducible rfl
  | simp (disch := first | exact Or.inr rfl | exact Or.inl rfl | decide) only [↓but_mk, ↓but_ite, ↓but_snd_ite, ↓but_snd_mk, ↓but_snd2_ite, ↓but_snd2_mk, ↓but_cond, ite_self, outOf_live, outOf_next, outOf_ite, ↓setSw_but]
  | split <;> try (with_reducible have h := congrArg Prod.snd ‹(_ : _ × State) = (_, _)›; dsimp only at h; subst h)
  | with_reducible refine (each_but (fun _ _ => ?_) _ _).trans ?_
  | with_reducible refine (whenS_but (fun _ => ?_) _ _).trans ?_
  | with_reducible refine (foldl_but (fun _ _ => ?_) _ _).trans ?_
  | with_reducible refine (foldl_but2 (fun _ _ => ?_) _ _).trans ?_
theorem swatchStartKern_but {m} (hm : sub 16384 m = true) (a1 : Dgram) (a2 : PeerRec) (a3 : Nat) (args : Bytes) (s : State) : (swatchStartKern a1 a2 a3 args s).2.but m = s.but m := but_mono hm (swatchStartKern_but' a1 a2 a3 args s)

theorem execSwatchStart_but' (d : Dgram) (s : State) : (outOf (execSwatchStart d s) s).but 9459328 = s.but 9459328 := by
  unfold execSwatchStart
  repeat' first
  | with_reducible rfl
  | simp (disch := first | exact Or.inr rfl | exact Or.inl rfl | decide) only [↓but_mk, ↓but_ite, ↓but_snd_ite, ↓but_snd_mk, ↓but_snd2_ite, ↓but_snd2_mk, ↓but_cond, ite_self, outOf_live, outOf_next, outOf_ite, ↓swatchStartKern_but]
  | split <;> try (with_reducible have h := congrArg Prod.snd ‹(_ : _ × State) = (_, _)›; dsimp only at h; subst h)
  | with_reducible refine (each_but (fun _ _ => ?_) _ _).trans ?_
  | with_reducible refine (whenS_but (fun _ => ?_) _ _).trans ?_
  | with_reducible refine (foldl_but (fun _ _ => ?_) _ _).trans ?_
  | with_reducible refine (foldl_but2 (fun _ _ => ?_) _ _).trans ?_
  | with_reducible refine (critical_but (by decide) (fun _ _ _ _ => ?_) ..).trans ?_
theorem execSwatchStart_but {m} (hm : sub 9459328 m = true) (d : Dgram) (s : State) : (outOf (execSwatchStart d s) s).but m = s.but m := but_mono hm (execSwatchStart_but' d s)

theorem trEnable_but' (b : Nat) (s : State) : (trEnable b s).but 16384 = s.but 16384 := by
  unfold trEnable
  repeat' first
  | with_reducible rfl
  | simp (disch := first | exact Or.inr rfl | exact Or.inl rfl | decide) only [↓but_mk, ↓but_ite, ↓but_snd_ite, ↓but_snd_mk, ↓but_snd2_ite, ↓but_snd2_mk, ↓but_cond, ite_self, outOf_live, outOf_next, outOf_ite, ↓setTr_but]
  | split <;> try (with_reducible have h := congrArg Prod.snd ‹(_ : _ × State) = (_, _)›; dsimp only at h; subst h)
  | with_reducible refine (each_but (fun _ _ => ?_) _ _).trans ?_
  | with_reducible refine (whenS_but (fun _ => ?_) _ _).trans ?_
  | with_reducible refine (foldl_but (fun _ _ => ?_) _ _).trans ?_
  | with_reducible refine (foldl_but2 (fun _ _ => ?_) _ _).trans ?_
theorem trEnable_but {m} (hm : sub 16384 m = true) (b : Nat) (s : State) : (trEnable b s).but m = s.but m := but_mono hm (trEnable_but' b s)

theorem execTraceEnable_but' (b : Nat) (s : State) : (outOf (execTraceEnable b s) s).but 16384 = s.but 16384 := by
  unfold execTraceEnable
  repeat' first
  | with_reducible rfl
  | simp (disch := first | exact Or.inr rfl | exact Or.inl rfl | decide) only [↓but_mk, ↓but_ite, ↓but_snd_ite, ↓but_snd_mk, ↓but_snd2_ite, ↓but_snd2_mk, ↓but_cond, ite_self, outOf_live, outOf_next, outOf_ite, ↓trEnable_but]
  | split <;> try (with_reducible have h := congrArg Prod.snd ‹(_ : _ × State) = (_, _)›; dsimp only at h; subst h)
  | with_reducible refine (each_but (fun _ _ => ?_) _ _).trans ?_
  | with_reducible refine (whenS_but (fun _ => ?_) _ _).trans ?_
  | with_reducible refine (foldl_but (fun _ _ => ?_) _ _).trans ?_
  | with_reducible refine (foldl_but2 (fun _ _ => ?_) _ _).trans ?_
theorem execTraceEnable_but {m} (hm : sub 16384 m = true) (b : Nat) (s : State) : (outOf (execTraceEnable b s) s).but m = s.but m := but_mono hm (execTraceEnable_but' b s)

theorem execTraceStopped_but' (b : Nat) (s : State) : (outOf (execTraceStopped b s) s).but 1065600 = s.but 1065600 := by
  unfold execTraceStopped
  repeat' first
  | with_reducible rfl
  | simp (disch := first | exact Or.inr rfl | exact Or.inl rfl | decide) only [↓but_mk, ↓but_ite, ↓but_snd_ite, ↓but_snd_mk, ↓but_snd2_ite, ↓but_snd2_mk, ↓but_cond, ite_self, outOf_live, outOf_next, outOf_ite, ↓emit_but, ↓setTr_but]
  | split <;> try (with_reducible have h := congrArg Prod.snd ‹(_ : _ × State) = (_, _)›; dsimp only at h; subst h)
  | with_reducible refine (each_but (fun _ _ => ?_) _ _).trans ?_
  | with_reducible refine (whenS_but (fun _ => ?_) _ _).trans ?_
  | with_reducible refine (foldl_but (fun _ _ => ?_) _ _).trans ?_
  | with_reducible refine (foldl_but2 (fun _ _ => ?_) _ _).trans ?_
theorem execTraceStopped_but {m} (hm : sub 1065600 m = true) (b : Nat) (s : State) : (outOf (execTraceStopped b s) s).but m = s.but m := but_mono hm (execTraceStopped_but' b s)

theorem outOf_svLive (f : State → State) (s u : State) : outOf (svLive f s) u = f s := rfl

theorem execConditionPresent_but' (c : SvCond) (s : State) : (outOf (execConditionPresent c s) s).but 9669248 = s.but 9669248 := by
  unfold execConditionPresent
  repeat' first
  | with_reducible rfl
  | simp (disch := first | exact Or.inr rfl | exact Or.inl rfl | decide) only [↓but_mk, ↓but_ite, ↓but_snd_ite, ↓but_snd_mk, ↓but_snd2_ite, ↓but_snd2_mk, ↓but_cond, ite_self, outOf_live, outOf_next, outOf_ite, outOf_svLive, ↓rowsActivate_but, ↓setCmp_but]
  | split <;> try (with_reducible have h := congrArg Prod.snd ‹(_ : _ × State) = (_, _)›; dsimp only at h; subst h)
  | with_reducible refine (each_but (fun _ _ => ?_) _ _).trans ?_
  | with_reducible refine (whenS_but (fun _ => ?_) _ _).trans ?_
  | with_reducible refine (foldl_but (fun _ _ => ?_) _ _).trans ?_
  | with_reducible refine (foldl_but2 (fun _ _ => ?_) _ _).trans ?_
theorem execConditionPresent_but {m} (hm : sub 9669248 m = true) (c : SvCond) (s : State) : (outOf (execConditionPresent c s) s).but m = s.but m := but_mono hm (execConditionPresent_but' c s)

theorem execComparatorUnknown_but' (k : Nat) (reading : Nat) (s : State) : (outOf (execComparatorUnknown k reading s) s).but 1081984 = s.but 1081984 := by
  unfold execComparatorUnknown
  repeat' first
  | with_reducible rfl
  | simp (disch := first | exact Or.inr rfl | exact Or.inl rfl | decide) only [↓but_mk, ↓but_ite, ↓but_snd_ite, ↓but_snd_mk, ↓but_snd2_ite, ↓but_snd2_mk, ↓but_cond, ite_self, outOf_live, outOf_next, outOf_ite, outOf_svLive, ↓noteUnk_but, ↓setCmp_but]
  | split <;> try (with_reducible have h := congrArg Prod.snd ‹(_ : _ × State) = (_, _)›; dsimp only at h; subst h)
  | with_reducible refine (each_but (fun _ _ => ?_) _ _).trans ?_
  | with_reducible refine (whenS_but (fun _ => ?_) _ _).trans ?_
  | with_reducible refine (foldl_but (fun _ _ => ?_) _ _).trans ?_
  | with_reducible refine (foldl_but2 (fun _ _ => ?_) _ _).trans ?_
theorem execComparatorUnknown_but {m} (hm : sub 1081984 m = true) (k : Nat) (reading : Nat) (s : State) : (outOf (execComparatorUnknown k reading s) s).but m = s.but m := but_mono hm (execComparatorUnknown_but' k reading s)

theorem execSvInputUnknownClear_but' (k : Nat) (reading : Nat) (s : State) : (outOf (execSvInputUnknownClear k reading s) s).but 1081984 = s.but 1081984 := by
  unfold execSvInputUnknownClear
  repeat' first
  | with_reducible rfl
  | simp (disch := first | exact Or.inr rfl | exact Or.inl rfl | decide) only [↓but_mk, ↓but_ite, ↓but_snd_ite, ↓but_snd_mk, ↓but_snd2_ite, ↓but_snd2_mk, ↓but_cond, ite_self, outOf_live, outOf_next, outOf_ite, outOf_svLive, ↓noteUnk_but, ↓setCmp_but]
  | split <;> try (with_reducible have h := congrArg Prod.snd ‹(_ : _ × State) = (_, _)›; dsimp only at h; subst h)
  | with_reducible refine (each_but (fun _ _ => ?_) _ _).trans ?_
  | with_reducible refine (whenS_but (fun _ => ?_) _ _).trans ?_
  | with_reducible refine (foldl_but (fun _ _ => ?_) _ _).trans ?_
  | with_reducible refine (foldl_but2 (fun _ _ => ?_) _ _).trans ?_
theorem execSvInputUnknownClear_but {m} (hm : sub 1081984 m = true) (k : Nat) (reading : Nat) (s : State) : (outOf (execSvInputUnknownClear k reading s) s).but m = s.but m := but_mono hm (execSvInputUnknownClear_but' k reading s)

theorem execComparatorClears_but' (k : Nat) (reading : Nat) (s : State) : (outOf (execComparatorClears k reading s) s).but 32768 = s.but 32768 := by
  unfold execComparatorClears
  repeat' first
  | with_reducible rfl
  | simp (disch := first | exact Or.inr rfl | exact Or.inl rfl | decide) only [↓but_mk, ↓but_ite, ↓but_snd_ite, ↓but_snd_mk, ↓but_snd2_ite, ↓but_snd2_mk, ↓but_cond, ite_self, outOf_live, outOf_next, outOf_ite, outOf_svLive, ↓setCmp_but]
  | split <;> try (with_reducible have h := congrArg Prod.snd ‹(_ : _ × State) = (_, _)›; dsimp only at h; subst h)
  | with_reducible refine (each_but (fun _ _ => ?_) _ _).trans ?_
  | with_reducible refine (whenS_but (fun _ => ?_) _ _).trans ?_
  | with_reducible refine (foldl_but (fun _ _ => ?_) _ _).trans ?_
  | with_reducible refine (foldl_but2 (fun _ _ => ?_) _ _).trans ?_
theorem execComparatorClears_but {m} (hm : sub 32768 m = true) (k : Nat) (reading : Nat) (s : State) : (outOf (execComparatorClears k reading s) s).but m = s.but m := but_mono hm (execComparatorClears_but' k reading s)

theorem execRopeStateChange_but' (z : Nat) (new : Nat × Nat) (s : State) : (outOf (execRopeStateChange z new s) s).but 1081984 = s.but 1081984 := by
  unfold execRopeStateChange
  repeat' first
  | with_reducible rfl
  | simp (disch := first | exact Or.inr rfl | exact Or.inl rfl | decide) only [↓but_mk, ↓but_ite, ↓but_snd_ite, ↓but_snd_mk, ↓but_snd2_ite, ↓but_snd2_mk, ↓but_cond, ite_self, outOf_live, outOf_next, outOf_ite, outOf_svLive, ↓svEmit_but]
  | split <;> try (with_reducible have h := congrArg Prod.snd ‹(_ : _ × State) = (_, _)›; dsimp only at h; subst h)
  | with_reducible refine (each_but (fun _ _ => ?_) _ _).trans ?_
  | with_reducible refine (whenS_but (fun _ => ?_) _ _).trans ?_
  | with_reducible refine (foldl_but (fun _ _ => ?_) _ _).trans ?_
  | with_reducible refine (foldl_but2 (fun _ _ => ?_) _ _).trans ?_
theorem execRopeStateChange_but {m} (hm : sub 1081984 m = true) (z : Nat) (new : Nat × Nat) (s : State) : (outOf (execRopeStateChange z new s) s).but m = s.but m := but_mono hm (execRopeStateChange_but' z new s)

theorem execRowHolding_but' (r : Nat) (flow : Nat) (s : State) : (outOf (execRowHolding r flow s) s).but 32768 = s.but 32768 := by
  unfold execRowHolding
  repeat' first
  | with_reducible rfl
  | simp (disch := first | exact Or.inr rfl | exact Or.inl rfl | decide) only [↓but_mk, ↓but_ite, ↓but_snd_ite, ↓but_snd_mk, ↓but_snd2_ite, ↓but_snd2_mk, ↓but_cond, ite_self, outOf_live, outOf_next, outOf_ite, outOf_svLive, ↓rowHold_but]
  | split <;> try (with_reducible have h := congrArg Prod.snd ‹(_ : _ × State) = (_, _)›; dsimp only at h; subst h)
  | with_reducible refine (each_but (fun _ _ => ?_) _ _).trans ?_
  | with_reducible refine (whenS_but (fun _ => ?_) _ _).trans ?_
  | with_reducible refine (foldl_but (fun _ _ => ?_) _ _).trans ?_
  | with_reducible refine (foldl_but2 (fun _ _ => ?_) _ _).trans ?_
theorem execRowHolding_but {m} (hm : sub 32768 m = true) (r : Nat) (flow : Nat) (s : State) : (outOf (execRowHolding r flow s) s).but m = s.but m := but_mono hm (execRowHolding_but' r flow s)

theorem execRowDelayExpiry_but' (r : Nat) (flow : Nat) (s : State) : (outOf (execRowDelayExpiry r flow s) s).but 76776064 = s.but 76776064 := by
  unfold execRowDelayExpiry
  repeat' first
  | with_reducible rfl
  | simp (disch := first | exact Or.inr rfl | exact Or.inl rfl | decide) only [↓but_mk, ↓but_ite, ↓but_snd_ite, ↓but_snd_mk, ↓but_snd2_ite, ↓but_snd2_mk, ↓but_cond, ite_self, outOf_live, outOf_next, outOf_ite, outOf_svLive, ↓rowDelay_but]
  | split <;> try (with_reducible have h := congrArg Prod.snd ‹(_ : _ × State) = (_, _)›; dsimp only at h; subst h)
  | with_reducible refine (each_but (fun _ _ => ?_) _ _).trans ?_
  | with_reducible refine (whenS_but (fun _ => ?_) _ _).trans ?_
  | with_reducible refine (foldl_but (fun _ _ => ?_) _ _).trans ?_
  | with_reducible refine (foldl_but2 (fun _ _ => ?_) _ _).trans ?_
theorem execRowDelayExpiry_but {m} (hm : sub 76776064 m = true) (r : Nat) (flow : Nat) (s : State) : (outOf (execRowDelayExpiry r flow s) s).but m = s.but m := but_mono hm (execRowDelayExpiry_but' r flow s)

theorem execRowClearHold_but' (r : Nat) (s : State) : (outOf (execRowClearHold r s) s).but 76776064 = s.but 76776064 := by
  unfold execRowClearHold
  repeat' first
  | with_reducible rfl
  | simp (disch := first | exact Or.inr rfl | exact Or.inl rfl | decide) only [↓but_mk, ↓but_ite, ↓but_snd_ite, ↓but_snd_mk, ↓but_snd2_ite, ↓but_snd2_mk, ↓but_cond, ite_self, outOf_live, outOf_next, outOf_ite, outOf_svLive, ↓rowClear_but]
  | split <;> try (with_reducible have h := congrArg Prod.snd ‹(_ : _ × State) = (_, _)›; dsimp only at h; subst h)
  | with_reducible refine (each_but (fun _ _ => ?_) _ _).trans ?_
  | with_reducible refine (whenS_but (fun _ => ?_) _ _).trans ?_
  | with_reducible refine (foldl_but (fun _ _ => ?_) _ _).trans ?_
  | with_reducible refine (foldl_but2 (fun _ _ => ?_) _ _).trans ?_
theorem execRowClearHold_but {m} (hm : sub 76776064 m = true) (r : Nat) (s : State) : (outOf (execRowClearHold r s) s).but m = s.but m := but_mono hm (execRowClearHold_but' r s)

theorem execDpArmed_but' (k : Nat) (s : State) : (outOf (execDpArmed k s) s).but 32768 = s.but 32768 := by
  unfold execDpArmed
  repeat' first
  | with_reducible rfl
  | simp (disch := first | exact Or.inr rfl | exact Or.inl rfl | decide) only [↓but_mk, ↓but_ite, ↓but_snd_ite, ↓but_snd_mk, ↓but_snd2_ite, ↓but_snd2_mk, ↓but_cond, ite_self, outOf_live, outOf_next, outOf_ite, outOf_svLive, ↓setCmp_but]
  | split <;> try (with_reducible have h := congrArg Prod.snd ‹(_ : _ × State) = (_, _)›; dsimp only at h; subst h)
  | with_reducible refine (each_but (fun _ _ => ?_) _ _).trans ?_
  | with_reducible refine (whenS_but (fun _ => ?_) _ _).trans ?_
  | with_reducible refine (foldl_but (fun _ _ => ?_) _ _).trans ?_
  | with_reducible refine (foldl_but2 (fun _ _ => ?_) _ _).trans ?_
theorem execDpArmed_but {m} (hm : sub 32768 m = true) (k : Nat) (s : State) : (outOf (execDpArmed k s) s).but m = s.but m := but_mono hm (execDpArmed_but' k s)

theorem execDpDisarmed_but' (k : Nat) (s : State) : (outOf (execDpDisarmed k s) s).but 32768 = s.but 32768 := by
  unfold execDpDisarmed
  repeat' first
  | with_reducible rfl
  | simp (disch := first | exact Or.inr rfl | exact Or.inl rfl | decide) only [↓but_mk, ↓but_ite, ↓but_snd_ite, ↓but_snd_mk, ↓but_snd2_ite, ↓but_snd2_mk, ↓but_cond, ite_self, outOf_live, outOf_next, outOf_ite, outOf_svLive, ↓setCmp_but]
  | split <;> try (with_reducible have h := congrArg Prod.snd ‹(_ : _ × State) = (_, _)›; dsimp only at h; subst h)
  | with_reducible refine (each_but (fun _ _ => ?_) _ _).trans ?_
  | with_reducible refine (whenS_but (fun _ => ?_) _ _).trans ?_
  | with_reducible refine (foldl_but (fun _ _ => ?_) _ _).trans ?_
  | with_reducible refine (foldl_but2 (fun _ _ => ?_) _ _).trans ?_
theorem execDpDisarmed_but {m} (hm : sub 32768 m = true) (k : Nat) (s : State) : (outOf (execDpDisarmed k s) s).but m = s.but m := but_mono hm (execDpDisarmed_but' k s)

theorem execAdvisoryLapse_but' (l : SvLatch) (s : State) : (outOf (execAdvisoryLapse l s) s).but 68190848 = s.but 68190848 := by
  unfold execAdvisoryLapse
  repeat' first
  | with_reducible rfl
  | simp (disch := first | exact Or.inr rfl | exact Or.inl rfl | decide) only [↓but_mk, ↓but_ite, ↓but_snd_ite, ↓but_snd_mk, ↓but_snd2_ite, ↓but_snd2_mk, ↓but_cond, ite_self, outOf_live, outOf_next, outOf_ite, outOf_svLive, ↓setCmp_but, ↓clockTo_but, ↓noteUnk_but, ↓setRow_but]
  | split <;> try (with_reducible have h := congrArg Prod.snd ‹(_ : _ × State) = (_, _)›; dsimp only at h; subst h)
  | with_reducible refine (each_but (fun _ _ => ?_) _ _).trans ?_
  | with_reducible refine (whenS_but (fun _ => ?_) _ _).trans ?_
  | with_reducible refine (foldl_but (fun _ _ => ?_) _ _).trans ?_
  | with_reducible refine (foldl_but2 (fun _ _ => ?_) _ _).trans ?_
theorem execAdvisoryLapse_but {m} (hm : sub 68190848 m = true) (l : SvLatch) (s : State) : (outOf (execAdvisoryLapse l s) s).but m = s.but m := but_mono hm (execAdvisoryLapse_but' l s)

theorem execDrefStale_but' (s : State) : (outOf (execDrefStale s) s).but 67141632 = s.but 67141632 := by
  unfold execDrefStale
  repeat' first
  | with_reducible rfl
  | simp (disch := first | exact Or.inr rfl | exact Or.inl rfl | decide) only [↓but_mk, ↓but_ite, ↓but_snd_ite, ↓but_snd_mk, ↓but_snd2_ite, ↓but_snd2_mk, ↓but_cond, ite_self, outOf_live, outOf_next, outOf_ite, outOf_svLive, ↓clockTo_but]
  | split <;> try (with_reducible have h := congrArg Prod.snd ‹(_ : _ × State) = (_, _)›; dsimp only at h; subst h)
  | with_reducible refine (each_but (fun _ _ => ?_) _ _).trans ?_
  | with_reducible refine (whenS_but (fun _ => ?_) _ _).trans ?_
  | with_reducible refine (foldl_but (fun _ _ => ?_) _ _).trans ?_
  | with_reducible refine (foldl_but2 (fun _ _ => ?_) _ _).trans ?_
theorem execDrefStale_but {m} (hm : sub 67141632 m = true) (s : State) : (outOf (execDrefStale s) s).but m = s.but m := but_mono hm (execDrefStale_but' s)

theorem svClears_but' (kind : Nat) (s : State) : (svClears kind s).but 8585216 = s.but 8585216 := by
  unfold svClears
  repeat' first
  | with_reducible rfl
  | simp (disch := first | exact Or.inr rfl | exact Or.inl rfl | decide) only [↓but_mk, ↓but_ite, ↓but_snd_ite, ↓but_snd_mk, ↓but_snd2_ite, ↓but_snd2_mk, ↓but_cond, ite_self, outOf_live, outOf_next, outOf_ite, outOf_svLive, ↓svFrame_but]
  | split <;> try (with_reducible have h := congrArg Prod.snd ‹(_ : _ × State) = (_, _)›; dsimp only at h; subst h)
  | with_reducible refine (each_but (fun _ _ => ?_) _ _).trans ?_
  | with_reducible refine (whenS_but (fun _ => ?_) _ _).trans ?_
  | with_reducible refine (foldl_but (fun _ _ => ?_) _ _).trans ?_
  | with_reducible refine (foldl_but2 (fun _ _ => ?_) _ _).trans ?_
theorem svClears_but {m} (hm : sub 8585216 m = true) (kind : Nat) (s : State) : (svClears kind s).but m = s.but m := but_mono hm (svClears_but' kind s)

theorem execSelvedgeFrameRepeat_but' (kind : Nat) (s : State) : (outOf (execSelvedgeFrameRepeat kind s) s).but 9667200 = s.but 9667200 := by
  unfold execSelvedgeFrameRepeat
  repeat' first
  | with_reducible rfl
  | simp (disch := first | exact Or.inr rfl | exact Or.inl rfl | decide) only [↓but_mk, ↓but_ite, ↓but_snd_ite, ↓but_snd_mk, ↓but_snd2_ite, ↓but_snd2_mk, ↓but_cond, ite_self, outOf_live, outOf_next, outOf_ite, outOf_svLive, ↓svFrames_but, ↓svClears_but, ↓svFrame_but]
  | split <;> try (with_reducible have h := congrArg Prod.snd ‹(_ : _ × State) = (_, _)›; dsimp only at h; subst h)
  | with_reducible refine (each_but (fun _ _ => ?_) _ _).trans ?_
  | with_reducible refine (whenS_but (fun _ => ?_) _ _).trans ?_
  | with_reducible refine (foldl_but (fun _ _ => ?_) _ _).trans ?_
  | with_reducible refine (foldl_but2 (fun _ _ => ?_) _ _).trans ?_
theorem execSelvedgeFrameRepeat_but {m} (hm : sub 9667200 m = true) (kind : Nat) (s : State) : (outOf (execSelvedgeFrameRepeat kind s) s).but m = s.but m := but_mono hm (execSelvedgeFrameRepeat_but' kind s)

theorem mbBad_but' (x : MbSt) (s : State) : (mbBad x s).2.but 8589934592 = s.but 8589934592 := by
  unfold mbBad
  repeat' first
  | with_reducible rfl
  | simp (disch := first | exact Or.inr rfl | exact Or.inl rfl | decide) only [↓but_mk, ↓but_ite, ↓but_snd_ite, ↓but_snd_mk, ↓but_snd2_ite, ↓but_snd2_mk, ↓but_cond, ite_self, outOf_live, outOf_next, outOf_ite, outOf_svLive, ↓freshWord_but]
  | split <;> try (with_reducible have h := congrArg Prod.snd ‹(_ : _ × State) = (_, _)›; dsimp only at h; subst h)
  | with_reducible refine (each_but (fun _ _ => ?_) _ _).trans ?_
  | with_reducible refine (whenS_but (fun _ => ?_) _ _).trans ?_
  | with_reducible refine (foldl_but (fun _ _ => ?_) _ _).trans ?_
  | with_reducible refine (foldl_but2 (fun _ _ => ?_) _ _).trans ?_
theorem mbBad_but {m} (hm : sub 8589934592 m = true) (x : MbSt) (s : State) : (mbBad x s).2.but m = s.but m := but_mono hm (mbBad_but' x s)

theorem mbUnknown_but' (who : Nat) (old : Nat) (x : MbSt) (s : State) : (mbUnknown who old x s).but 8590983808 = s.but 8590983808 := by
  unfold mbUnknown
  repeat' first
  | with_reducible rfl
  | simp (disch := first | exact Or.inr rfl | exact Or.inl rfl | decide) only [↓but_mk, ↓but_ite, ↓but_snd_ite, ↓but_snd_mk, ↓but_snd2_ite, ↓but_snd2_mk, ↓but_cond, ite_self, outOf_live, outOf_next, outOf_ite, outOf_svLive, ↓mbBad_but, ↓emit_but]
  | split <;> try (with_reducible have h := congrArg Prod.snd ‹(_ : _ × State) = (_, _)›; dsimp only at h; subst h)
  | with_reducible refine (each_but (fun _ _ => ?_) _ _).trans ?_
  | with_reducible refine (whenS_but (fun _ => ?_) _ _).trans ?_
  | with_reducible refine (foldl_but (fun _ _ => ?_) _ _).trans ?_
  | with_reducible refine (foldl_but2 (fun _ _ => ?_) _ _).trans ?_
theorem mbUnknown_but {m} (hm : sub 8590983808 m = true) (who : Nat) (old : Nat) (x : MbSt) (s : State) : (mbUnknown who old x s).but m = s.but m := but_mono hm (mbUnknown_but' who old x s)

theorem mbSecond_but' (m0 : Nat) (r : MbRec) (s : State) : (mbSecond m0 r s).but 8591049344 = s.but 8591049344 := by
  unfold mbSecond
  repeat' first
  | with_reducible rfl
  | simp (disch := first | exact Or.inr rfl | exact Or.inl rfl | decide) only [↓but_mk, ↓but_ite, ↓but_snd_ite, ↓but_snd_mk, ↓but_snd2_ite, ↓but_snd2_mk, ↓but_cond, ite_self, outOf_live, outOf_next, outOf_ite, outOf_svLive, ↓emit_but, ↓mbUnknown_but]
  | split <;> try (with_reducible have h := congrArg Prod.snd ‹(_ : _ × State) = (_, _)›; dsimp only at h; subst h)
  | with_reducible refine (each_but (fun _ _ => ?_) _ _).trans ?_
  | with_reducible refine (whenS_but (fun _ => ?_) _ _).trans ?_
  | with_reducible refine (foldl_but (fun _ _ => ?_) _ _).trans ?_
  | with_reducible refine (foldl_but2 (fun _ _ => ?_) _ _).trans ?_
theorem mbSecond_but {m} (hm : sub 8591049344 m = true) (m0 : Nat) (r : MbRec) (s : State) : (mbSecond m0 r s).but m = s.but m := but_mono hm (mbSecond_but' m0 r s)

theorem resSecond_but' (s : State) : (resSecond s).but 8591049344 = s.but 8591049344 := by
  unfold resSecond
  repeat' first
  | with_reducible rfl
  | simp (disch := first | exact Or.inr rfl | exact Or.inl rfl | decide) only [↓but_mk, ↓but_ite, ↓but_snd_ite, ↓but_snd_mk, ↓but_snd2_ite, ↓but_snd2_mk, ↓but_cond, ite_self, outOf_live, outOf_next, outOf_ite, outOf_svLive, ↓emit_but, ↓mbUnknown_but]
  | split <;> try (with_reducible have h := congrArg Prod.snd ‹(_ : _ × State) = (_, _)›; dsimp only at h; subst h)
  | with_reducible refine (each_but (fun _ _ => ?_) _ _).trans ?_
  | with_reducible refine (whenS_but (fun _ => ?_) _ _).trans ?_
  | with_reducible refine (foldl_but (fun _ _ => ?_) _ _).trans ?_
  | with_reducible refine (foldl_but2 (fun _ _ => ?_) _ _).trans ?_
theorem resSecond_but {m} (hm : sub 8591049344 m = true) (s : State) : (resSecond s).but m = s.but m := but_mono hm (resSecond_but' s)

theorem execMassBalanceSecond_but' (s : State) : (outOf (execMassBalanceSecond s) s).but 8591049344 = s.but 8591049344 := by
  unfold execMassBalanceSecond
  repeat' first
  | with_reducible rfl
  | simp (disch := first | exact Or.inr rfl | exact Or.inl rfl | decide) only [↓but_mk, ↓but_ite, ↓but_snd_ite, ↓but_snd_mk, ↓but_snd2_ite, ↓but_snd2_mk, ↓but_cond, ite_self, outOf_live, outOf_next, outOf_ite, outOf_svLive, ↓resSecond_but, ↓mbSecond_but]
  | split <;> try (with_reducible have h := congrArg Prod.snd ‹(_ : _ × State) = (_, _)›; dsimp only at h; subst h)
  | with_reducible refine (each_but (fun _ _ => ?_) _ _).trans ?_
  | with_reducible refine (whenS_but (fun _ => ?_) _ _).trans ?_
  | with_reducible refine (foldl_but (fun _ _ => ?_) _ _).trans ?_
  | with_reducible refine (foldl_but2 (fun _ _ => ?_) _ _).trans ?_
theorem execMassBalanceSecond_but {m} (hm : sub 8591049344 m = true) (s : State) : (outOf (execMassBalanceSecond s) s).but m = s.but m := but_mono hm (execMassBalanceSecond_but' s)

theorem execLocaliserTrigger_but' (hpin : Nat × Nat) (s : State) : (outOf (execLocaliserTrigger hpin s) s).but 65536 = s.but 65536 := by
  unfold execLocaliserTrigger
  repeat' first
  | with_reducible rfl
  | simp (disch := first | exact Or.inr rfl | exact Or.inl rfl | decide) only [↓but_mk, ↓but_ite, ↓but_snd_ite, ↓but_snd_mk, ↓but_snd2_ite, ↓but_snd2_mk, ↓but_cond, ite_self, outOf_live, outOf_next, outOf_ite, outOf_svLive]
  | split <;> try (with_reducible have h := congrArg Prod.snd ‹(_ : _ × State) = (_, _)›; dsimp only at h; subst h)
  | with_reducible refine (each_but (fun _ _ => ?_) _ _).trans ?_
  | with_reducible refine (whenS_but (fun _ => ?_) _ _).trans ?_
  | with_reducible refine (foldl_but (fun _ _ => ?_) _ _).trans ?_
  | with_reducible refine (foldl_but2 (fun _ _ => ?_) _ _).trans ?_
theorem execLocaliserTrigger_but {m} (hm : sub 65536 m = true) (hpin : Nat × Nat) (s : State) : (outOf (execLocaliserTrigger hpin s) s).but m = s.but m := but_mono hm (execLocaliserTrigger_but' hpin s)

theorem execLeakLocated_but' (result : Option (Nat × Nat × Nat)) (s : State) : (outOf (execLeakLocated result s) s).but 8658158208 = s.but 8658158208 := by
  unfold execLeakLocated
  repeat' first
  | with_reducible rfl
  | simp (disch := first | exact Or.inr rfl | exact Or.inl rfl | decide) only [↓but_mk, ↓but_ite, ↓but_snd_ite, ↓but_snd_mk, ↓but_snd2_ite, ↓but_snd2_mk, ↓but_cond, ite_self, outOf_live, outOf_next, outOf_ite, outOf_svLive, ↓clockTo_but, ↓emit_but, ↓freshWord_but]
  | split <;> try (with_reducible have h := congrArg Prod.snd ‹(_ : _ × State) = (_, _)›; dsimp only at h; subst h)
  | with_reducible refine (each_but (fun _ _ => ?_) _ _).trans ?_
  | with_reducible refine (whenS_but (fun _ => ?_) _ _).trans ?_
  | with_reducible refine (foldl_but (fun _ _ => ?_) _ _).trans ?_
  | with_reducible refine (foldl_but2 (fun _ _ => ?_) _ _).trans ?_
theorem execLeakLocated_but {m} (hm : sub 8658158208 m = true) (result : Option (Nat × Nat × Nat)) (s : State) : (outOf (execLeakLocated result s) s).but m = s.but m := but_mono hm (execLeakLocated_but' result s)

theorem selvedgeResetKern_but' (a1 : Dgram) (a2 : PeerRec) (a3 : Nat) (args : Bytes) (s : State) : (selvedgeResetKern a1 a2 a3 args s).2.but 9667200 = s.but 9667200 := by
  unfold selvedgeResetKern
  repeat' first
  | with_reducible rfl
  | simp (disch := first | exact Or.inr rfl | exact Or.inl rfl | decide) only [↓but_mk, ↓but_ite, ↓but_snd_ite, ↓but_snd_mk, ↓but_snd2_ite, ↓but_snd2_mk, ↓but_cond, ite_self, outOf_live, outOf_next, outOf_ite, outOf_svLive, ↓rowsReset_but, ↓svEmit_but]
  | split <;> try (with_reducible have h := congrArg Prod.snd ‹(_ : _ × State) = (_, _)›; dsimp only at h; subst h)
  | with_reducible refine (each_but (fun _ _ => ?_) _ _).trans ?_
  | with_reducible refine (whenS_but (fun _ => ?_) _ _).trans ?_
  | with_reducible refine (foldl_but (fun _ _ => ?_) _ _).trans ?_
  | with_reducible refine (foldl_but2 (fun _ _ => ?_) _ _).trans ?_
theorem selvedgeResetKern_but {m} (hm : sub 9667200 m = true) (a1 : Dgram) (a2 : PeerRec) (a3 : Nat) (args : Bytes) (s : State) : (selvedgeResetKern a1 a2 a3 args s).2.but m = s.but m := but_mono hm (selvedgeResetKern_but' a1 a2 a3 args s)

theorem execSelvedgeReset_but' (d : Dgram) (s : State) : (outOf (execSelvedgeReset d s) s).but 9672320 = s.but 9672320 := by
  unfold execSelvedgeReset
  repeat' first
  | with_reducible rfl
  | simp (disch := first | exact Or.inr rfl | exact Or.inl rfl | decide) only [↓but_mk, ↓but_ite, ↓but_snd_ite, ↓but_snd_mk, ↓but_snd2_ite, ↓but_snd2_mk, ↓but_cond, ite_self, outOf_live, outOf_next, outOf_ite, outOf_svLive, ↓selvedgeResetKern_but]
  | split <;> try (with_reducible have h := congrArg Prod.snd ‹(_ : _ × State) = (_, _)›; dsimp only at h; subst h)
  | with_reducible refine (each_but (fun _ _ => ?_) _ _).trans ?_
  | with_reducible refine (whenS_but (fun _ => ?_) _ _).trans ?_
  | with_reducible refine (foldl_but (fun _ _ => ?_) _ _).trans ?_
  | with_reducible refine (foldl_but2 (fun _ _ => ?_) _ _).trans ?_
  | with_reducible refine (critical_but (by decide) (fun _ _ _ _ => ?_) ..).trans ?_
theorem execSelvedgeReset_but {m} (hm : sub 9672320 m = true) (d : Dgram) (s : State) : (outOf (execSelvedgeReset d s) s).but m = s.but m := but_mono hm (execSelvedgeReset_but' d s)

theorem isolateKern_but' (a1 : Dgram) (a2 : PeerRec) (a3 : Nat) (args : Bytes) (s : State) : (isolateKern a1 a2 a3 args s).2.but 9667200 = s.but 9667200 := by
  unfold isolateKern
  repeat' first
  | with_reducible rfl
  | simp (disch := first | exact Or.inr rfl | exact Or.inl rfl | decide) only [↓but_mk, ↓but_ite, ↓but_snd_ite, ↓but_snd_mk, ↓but_snd2_ite, ↓but_snd2_mk, ↓but_cond, ite_self, outOf_live, outOf_next, outOf_ite, outOf_svLive, ↓svFrames_but, ↓svEmit_but]
  | split <;> try (with_reducible have h := congrArg Prod.snd ‹(_ : _ × State) = (_, _)›; dsimp only at h; subst h)
  | with_reducible refine (each_but (fun _ _ => ?_) _ _).trans ?_
  | with_reducible refine (whenS_but (fun _ => ?_) _ _).trans ?_
  | with_reducible refine (foldl_but (fun _ _ => ?_) _ _).trans ?_
  | with_reducible refine (foldl_but2 (fun _ _ => ?_) _ _).trans ?_
theorem isolateKern_but {m} (hm : sub 9667200 m = true) (a1 : Dgram) (a2 : PeerRec) (a3 : Nat) (args : Bytes) (s : State) : (isolateKern a1 a2 a3 args s).2.but m = s.but m := but_mono hm (isolateKern_but' a1 a2 a3 args s)

theorem execIsolate_but' (d : Dgram) (s : State) : (outOf (execIsolate d s) s).but 9672320 = s.but 9672320 := by
  unfold execIsolate
  repeat' first
  | with_reducible rfl
  | simp (disch := first | exact Or.inr rfl | exact Or.inl rfl | decide) only [↓but_mk, ↓but_ite, ↓but_snd_ite, ↓but_snd_mk, ↓but_snd2_ite, ↓but_snd2_mk, ↓but_cond, ite_self, outOf_live, outOf_next, outOf_ite, outOf_svLive, ↓isolateKern_but]
  | split <;> try (with_reducible have h := congrArg Prod.snd ‹(_ : _ × State) = (_, _)›; dsimp only at h; subst h)
  | with_reducible refine (each_but (fun _ _ => ?_) _ _).trans ?_
  | with_reducible refine (whenS_but (fun _ => ?_) _ _).trans ?_
  | with_reducible refine (foldl_but (fun _ _ => ?_) _ _).trans ?_
  | with_reducible refine (foldl_but2 (fun _ _ => ?_) _ _).trans ?_
  | with_reducible refine (critical_but (by decide) (fun _ _ _ _ => ?_) ..).trans ?_
theorem execIsolate_but {m} (hm : sub 9672320 m = true) (d : Dgram) (s : State) : (outOf (execIsolate d s) s).but m = s.but m := but_mono hm (execIsolate_but' d s)

theorem isolateReleaseKern_but' (a1 : Dgram) (a2 : PeerRec) (a3 : Nat) (args : Bytes) (s : State) : (isolateReleaseKern a1 a2 a3 args s).2.but 9667200 = s.but 9667200 := by
  unfold isolateReleaseKern
  repeat' first
  | with_reducible rfl
  | simp (disch := first | exact Or.inr rfl | exact Or.inl rfl | decide) only [↓but_mk, ↓but_ite, ↓but_snd_ite, ↓but_snd_mk, ↓but_snd2_ite, ↓but_snd2_mk, ↓but_cond, ite_self, outOf_live, outOf_next, outOf_ite, outOf_svLive, ↓svFrames_but, ↓svEmit_but]
  | split <;> try (with_reducible have h := congrArg Prod.snd ‹(_ : _ × State) = (_, _)›; dsimp only at h; subst h)
  | with_reducible refine (each_but (fun _ _ => ?_) _ _).trans ?_
  | with_reducible refine (whenS_but (fun _ => ?_) _ _).trans ?_
  | with_reducible refine (foldl_but (fun _ _ => ?_) _ _).trans ?_
  | with_reducible refine (foldl_but2 (fun _ _ => ?_) _ _).trans ?_
theorem isolateReleaseKern_but {m} (hm : sub 9667200 m = true) (a1 : Dgram) (a2 : PeerRec) (a3 : Nat) (args : Bytes) (s : State) : (isolateReleaseKern a1 a2 a3 args s).2.but m = s.but m := but_mono hm (isolateReleaseKern_but' a1 a2 a3 args s)

theorem execIsolateRelease_but' (d : Dgram) (s : State) : (outOf (execIsolateRelease d s) s).but 9672320 = s.but 9672320 := by
  unfold execIsolateRelease
  repeat' first
  | with_reducible rfl
  | simp (disch := first | exact Or.inr rfl | exact Or.inl rfl | decide) only [↓but_mk, ↓but_ite, ↓but_snd_ite, ↓but_snd_mk, ↓but_snd2_ite, ↓but_snd2_mk, ↓but_cond, ite_self, outOf_live, outOf_next, outOf_ite, outOf_svLive, ↓isolateReleaseKern_but]
  | split <;> try (with_reducible have h := congrArg Prod.snd ‹(_ : _ × State) = (_, _)›; dsimp only at h; subst h)
  | with_reducible refine (each_but (fun _ _ => ?_) _ _).trans ?_
  | with_reducible refine (whenS_but (fun _ => ?_) _ _).trans ?_
  | with_reducible refine (foldl_but (fun _ _ => ?_) _ _).trans ?_
  | with_reducible refine (foldl_but2 (fun _ _ => ?_) _ _).trans ?_
  | with_reducible refine (critical_but (by decide) (fun _ _ _ _ => ?_) ..).trans ?_
theorem execIsolateRelease_but {m} (hm : sub 9672320 m = true) (d : Dgram) (s : State) : (outOf (execIsolateRelease d s) s).but m = s.but m := but_mono hm (execIsolateRelease_but' d s)

theorem relockReport_but' (dig : Bytes) (nt : Nat) (ok : Bool) (s : State) : (relockReport dig nt ok s).but 8388608 = s.but 8388608 := by
  unfold relockReport
  repeat' first
  | with_reducible rfl
  | simp (disch := first | exact Or.inr rfl | exact Or.inl rfl | decide) only [↓but_mk, ↓but_ite, ↓but_snd_ite, ↓but_snd_mk, ↓but_snd2_ite, ↓but_snd2_mk, ↓but_cond, ite_self, outOf_live, outOf_next, outOf_ite, outOf_svLive, ↓mirrorSend_but]
  | split <;> try (with_reducible have h := congrArg Prod.snd ‹(_ : _ × State) = (_, _)›; dsimp only at h; subst h)
  | with_reducible refine (each_but (fun _ _ => ?_) _ _).trans ?_
  | with_reducible refine (whenS_but (fun _ => ?_) _ _).trans ?_
  | with_reducible refine (foldl_but (fun _ _ => ?_) _ _).trans ?_
  | with_reducible refine (foldl_but2 (fun _ _ => ?_) _ _).trans ?_
theorem relockReport_but {m} (hm : sub 8388608 m = true) (dig : Bytes) (nt : Nat) (ok : Bool) (s : State) : (relockReport dig nt ok s).but m = s.but m := but_mono hm (relockReport_but' dig nt ok s)

theorem relockNo_but' (cause : Nat) (s : State) : (relockNo cause s).but 1049216 = s.but 1049216 := by
  unfold relockNo
  repeat' first
  | with_reducible rfl
  | simp (disch := first | exact Or.inr rfl | exact Or.inl rfl | decide) only [↓but_mk, ↓but_ite, ↓but_snd_ite, ↓but_snd_mk, ↓but_snd2_ite, ↓but_snd2_mk, ↓but_cond, ite_self, outOf_live, outOf_next, outOf_ite, outOf_svLive, ↓emit_but]
  | split <;> try (with_reducible have h := congrArg Prod.snd ‹(_ : _ × State) = (_, _)›; dsimp only at h; subst h)
  | with_reducible refine (each_but (fun _ _ => ?_) _ _).trans ?_
  | with_reducible refine (whenS_but (fun _ => ?_) _ _).trans ?_
  | with_reducible refine (foldl_but (fun _ _ => ?_) _ _).trans ?_
  | with_reducible refine (foldl_but2 (fun _ _ => ?_) _ _).trans ?_
theorem relockNo_but {m} (hm : sub 1049216 m = true) (cause : Nat) (s : State) : (relockNo cause s).but m = s.but m := but_mono hm (relockNo_but' cause s)

theorem relockRefused_but' (cause : Nat) (s : State) : (relockRefused cause s).but 1081984 = s.but 1081984 := by
  unfold relockRefused
  repeat' first
  | with_reducible rfl
  | simp (disch := first | exact Or.inr rfl | exact Or.inl rfl | decide) only [↓but_mk, ↓but_ite, ↓but_snd_ite, ↓but_snd_mk, ↓but_snd2_ite, ↓but_snd2_mk, ↓but_cond, ite_self, outOf_live, outOf_next, outOf_ite, outOf_svLive, ↓relockNo_but]
  | split <;> try (with_reducible have h := congrArg Prod.snd ‹(_ : _ × State) = (_, _)›; dsimp only at h; subst h)
  | with_reducible refine (each_but (fun _ _ => ?_) _ _).trans ?_
  | with_reducible refine (whenS_but (fun _ => ?_) _ _).trans ?_
  | with_reducible refine (foldl_but (fun _ _ => ?_) _ _).trans ?_
  | with_reducible refine (foldl_but2 (fun _ _ => ?_) _ _).trans ?_
theorem relockRefused_but {m} (hm : sub 1081984 m = true) (cause : Nat) (s : State) : (relockRefused cause s).but m = s.but m := but_mono hm (relockRefused_but' cause s)

theorem relockKern_but' (a1 : Dgram) (a2 : PeerRec) (a3 : Nat) (args : Bytes) (s : State) : (relockKern a1 a2 a3 args s).2.but 9470592 = s.but 9470592 := by
  unfold relockKern
  repeat' first
  | with_reducible rfl
  | simp (disch := first | exact Or.inr rfl | exact Or.inl rfl | decide) only [↓but_mk, ↓but_ite, ↓but_snd_ite, ↓but_snd_mk, ↓but_snd2_ite, ↓but_snd2_mk, ↓but_cond, ite_self, outOf_live, outOf_next, outOf_ite, outOf_svLive, ↓relockNo_but, ↓relockReport_but]
  | split <;> try (with_reducible have h := congrArg Prod.snd ‹(_ : _ × State) = (_, _)›; dsimp only at h; subst h)
  | with_reducible refine (each_but (fun _ _ => ?_) _ _).trans ?_
  | with_reducible refine (whenS_but (fun _ => ?_) _ _).trans ?_
  | with_reducible refine (foldl_but (fun _ _ => ?_) _ _).trans ?_
  | with_reducible refine (foldl_but2 (fun _ _ => ?_) _ _).trans ?_
theorem relockKern_but {m} (hm : sub 9470592 m = true) (a1 : Dgram) (a2 : PeerRec) (a3 : Nat) (args : Bytes) (s : State) : (relockKern a1 a2 a3 args s).2.but m = s.but m := but_mono hm (relockKern_but' a1 a2 a3 args s)

theorem execSelvedgeRelock_but' (d : Dgram) (s : State) : (outOf (execSelvedgeRelock d s) s).but 9475712 = s.but 9475712 := by
  unfold execSelvedgeRelock
  repeat' first
  | with_reducible rfl
  | simp (disch := first | exact Or.inr rfl | exact Or.inl rfl | decide) only [↓but_mk, ↓but_ite, ↓but_snd_ite, ↓but_snd_mk, ↓but_snd2_ite, ↓but_snd2_mk, ↓but_cond, ite_self, outOf_live, outOf_next, outOf_ite, outOf_svLive, ↓relockKern_but]
  | split <;> try (with_reducible have h := congrArg Prod.snd ‹(_ : _ × State) = (_, _)›; dsimp only at h; subst h)
  | with_reducible refine (each_but (fun _ _ => ?_) _ _).trans ?_
  | with_reducible refine (whenS_but (fun _ => ?_) _ _).trans ?_
  | with_reducible refine (foldl_but (fun _ _ => ?_) _ _).trans ?_
  | with_reducible refine (foldl_but2 (fun _ _ => ?_) _ _).trans ?_
  | with_reducible refine (critical_but (by decide) (fun _ _ _ _ => ?_) ..).trans ?_
theorem execSelvedgeRelock_but {m} (hm : sub 9475712 m = true) (d : Dgram) (s : State) : (outOf (execSelvedgeRelock d s) s).but m = s.but m := but_mono hm (execSelvedgeRelock_but' d s)

theorem execRelockDeadline_but' (s : State) : (outOf (execRelockDeadline s) s).but 1081984 = s.but 1081984 := by
  unfold execRelockDeadline
  repeat' first
  | with_reducible rfl
  | simp (disch := first | exact Or.inr rfl | exact Or.inl rfl | decide) only [↓but_mk, ↓but_ite, ↓but_snd_ite, ↓but_snd_mk, ↓but_snd2_ite, ↓but_snd2_mk, ↓but_cond, ite_self, outOf_live, outOf_next, outOf_ite, outOf_svLive, ↓relockRefused_but]
  | split <;> try (with_reducible have h := congrArg Prod.snd ‹(_ : _ × State) = (_, _)›; dsimp only at h; subst h)
  | with_reducible refine (each_but (fun _ _ => ?_) _ _).trans ?_
  | with_reducible refine (whenS_but (fun _ => ?_) _ _).trans ?_
  | with_reducible refine (foldl_but (fun _ _ => ?_) _ _).trans ?_
  | with_reducible refine (foldl_but2 (fun _ _ => ?_) _ _).trans ?_
theorem execRelockDeadline_but {m} (hm : sub 1081984 m = true) (s : State) : (outOf (execRelockDeadline s) s).but m = s.but m := but_mono hm (execRelockDeadline_but' s)

theorem execSvSectionSwitched_but' (s : State) : (outOf (execSvSectionSwitched s) s).but 9669280 = s.but 9669280 := by
  unfold execSvSectionSwitched
  repeat' first
  | with_reducible rfl
  | simp (disch := first | exact Or.inr rfl | exact Or.inl rfl | decide) only [↓but_mk, ↓but_ite, ↓but_snd_ite, ↓but_snd_mk, ↓but_snd2_ite, ↓but_snd2_mk, ↓but_cond, ite_self, outOf_live, outOf_next, outOf_ite, outOf_svLive, ↓svFrames_but, ↓svEmit_but, ↓svLoad_but]
  | split <;> try (with_reducible have h := congrArg Prod.snd ‹(_ : _ × State) = (_, _)›; dsimp only at h; subst h)
  | with_reducible refine (each_but (fun _ _ => ?_) _ _).trans ?_
  | with_reducible refine (whenS_but (fun _ => ?_) _ _).trans ?_
  | with_reducible refine (foldl_but (fun _ _ => ?_) _ _).trans ?_
  | with_reducible refine (foldl_but2 (fun _ _ => ?_) _ _).trans ?_
theorem execSvSectionSwitched_but {m} (hm : sub 9669280 m = true) (s : State) : (outOf (execSvSectionSwitched s) s).but m = s.but m := but_mono hm (execSvSectionSwitched_but' s)

end Sys2Proof.Machine
end

