-- ==== Sys2Proof/Laws/FrameArray.lean ====
section
/-! SUPPORT. What each function can change (forecast array and resets): it leaves every part of State outside its mask as it was. -/

set_option linter.all false

namespace Sys2Proof.Machine

theorem setReg_but' (k : Nat) (x : RegionSt) (s : State) : (setReg k x s).but 262144 = s.but 262144 := by
  unfold setReg
  repeat' first
  | with_reducible rfl
  | simp (disch := first | exact Or.inr rfl | exact Or.inl rfl | decide) only [↓but_mk, ↓but_ite, ↓but_snd_ite, ↓but_snd_mk, ↓but_snd2_ite, ↓but_snd2_mk, ↓but_cond, ite_self, outOf_live, outOf_next, outOf_ite]
  | split <;> try (with_reducible have h := congrArg Prod.snd ‹(_ : _ × State) = (_, _)›; dsimp only at h; subst h)
  | with_reducible refine (each_but (fun _ _ => ?_) _ _).trans ?_
  | with_reducible refine (whenS_but (fun _ => ?_) _ _).trans ?_
  | with_reducible refine (foldl_but (fun _ _ => ?_) _ _).trans ?_
  | with_reducible refine (foldl_but2 (fun _ _ => ?_) _ _).trans ?_
theorem setReg_but {m} (hm : sub 262144 m = true) (k : Nat) (x : RegionSt) (s : State) : (setReg k x s).but m = s.but m := but_mono hm (setReg_but' k x s)

theorem setTile_but' (k : Nat) (t : Nat) (x : TileSt) (s : State) : (setTile k t x s).but 262144 = s.but 262144 := by
  unfold setTile
  repeat' first
  | with_reducible rfl
  | simp (disch := first | exact Or.inr rfl | exact Or.inl rfl | decide) only [↓but_mk, ↓but_ite, ↓but_snd_ite, ↓but_snd_mk, ↓but_snd2_ite, ↓but_snd2_mk, ↓but_cond, ite_self, outOf_live, outOf_next, outOf_ite, ↓setReg_but]
  | split <;> try (with_reducible have h := congrArg Prod.snd ‹(_ : _ × State) = (_, _)›; dsimp only at h; subst h)
  | with_reducible refine (each_but (fun _ _ => ?_) _ _).trans ?_
  | with_reducible refine (whenS_but (fun _ => ?_) _ _).trans ?_
  | with_reducible refine (foldl_but (fun _ _ => ?_) _ _).trans ?_
  | with_reducible refine (foldl_but2 (fun _ _ => ?_) _ _).trans ?_
theorem setTile_but {m} (hm : sub 262144 m = true) (k : Nat) (t : Nat) (x : TileSt) (s : State) : (setTile k t x s).but m = s.but m := but_mono hm (setTile_but' k t x s)

theorem setPlate_but' (p : Nat) (x : PlateRun) (s : State) : (setPlate p x s).but 262144 = s.but 262144 := by
  unfold setPlate
  repeat' first
  | with_reducible rfl
  | simp (disch := first | exact Or.inr rfl | exact Or.inl rfl | decide) only [↓but_mk, ↓but_ite, ↓but_snd_ite, ↓but_snd_mk, ↓but_snd2_ite, ↓but_snd2_mk, ↓but_cond, ite_self, outOf_live, outOf_next, outOf_ite]
  | split <;> try (with_reducible have h := congrArg Prod.snd ‹(_ : _ × State) = (_, _)›; dsimp only at h; subst h)
  | with_reducible refine (each_but (fun _ _ => ?_) _ _).trans ?_
  | with_reducible refine (whenS_but (fun _ => ?_) _ _).trans ?_
  | with_reducible refine (foldl_but (fun _ _ => ?_) _ _).trans ?_
  | with_reducible refine (foldl_but2 (fun _ _ => ?_) _ _).trans ?_
theorem setPlate_but {m} (hm : sub 262144 m = true) (p : Nat) (x : PlateRun) (s : State) : (setPlate p x s).but m = s.but m := but_mono hm (setPlate_but' p x s)

theorem countQuar_but' (s : State) : (countQuar s).but 64 = s.but 64 := by
  unfold countQuar
  repeat' first
  | with_reducible rfl
  | simp (disch := first | exact Or.inr rfl | exact Or.inl rfl | decide) only [↓but_mk, ↓but_ite, ↓but_snd_ite, ↓but_snd_mk, ↓but_snd2_ite, ↓but_snd2_mk, ↓but_cond, ite_self, outOf_live, outOf_next, outOf_ite]
  | split <;> try (with_reducible have h := congrArg Prod.snd ‹(_ : _ × State) = (_, _)›; dsimp only at h; subst h)
  | with_reducible refine (each_but (fun _ _ => ?_) _ _).trans ?_
  | with_reducible refine (whenS_but (fun _ => ?_) _ _).trans ?_
  | with_reducible refine (foldl_but (fun _ _ => ?_) _ _).trans ?_
  | with_reducible refine (foldl_but2 (fun _ _ => ?_) _ _).trans ?_
theorem countQuar_but {m} (hm : sub 64 m = true) (s : State) : (countQuar s).but m = s.but m := but_mono hm (countQuar_but' s)

theorem countCell_but' (k : Nat) (n : Nat) (s : State) : (countCell k n s).but 64 = s.but 64 := by
  unfold countCell
  repeat' first
  | with_reducible rfl
  | simp (disch := first | exact Or.inr rfl | exact Or.inl rfl | decide) only [↓but_mk, ↓but_ite, ↓but_snd_ite, ↓but_snd_mk, ↓but_snd2_ite, ↓but_snd2_mk, ↓but_cond, ite_self, outOf_live, outOf_next, outOf_ite]
  | split <;> try (with_reducible have h := congrArg Prod.snd ‹(_ : _ × State) = (_, _)›; dsimp only at h; subst h)
  | with_reducible refine (each_but (fun _ _ => ?_) _ _).trans ?_
  | with_reducible refine (whenS_but (fun _ => ?_) _ _).trans ?_
  | with_reducible refine (foldl_but (fun _ _ => ?_) _ _).trans ?_
  | with_reducible refine (foldl_but2 (fun _ _ => ?_) _ _).trans ?_
theorem countCell_but {m} (hm : sub 64 m = true) (k : Nat) (n : Nat) (s : State) : (countCell k n s).but m = s.but m := but_mono hm (countCell_but' k n s)

theorem countResend_but' (k : Nat) (n : Nat) (s : State) : (countResend k n s).but 64 = s.but 64 := by
  unfold countResend
  repeat' first
  | with_reducible rfl
  | simp (disch := first | exact Or.inr rfl | exact Or.inl rfl | decide) only [↓but_mk, ↓but_ite, ↓but_snd_ite, ↓but_snd_mk, ↓but_snd2_ite, ↓but_snd2_mk, ↓but_cond, ite_self, outOf_live, outOf_next, outOf_ite]
  | split <;> try (with_reducible have h := congrArg Prod.snd ‹(_ : _ × State) = (_, _)›; dsimp only at h; subst h)
  | with_reducible refine (each_but (fun _ _ => ?_) _ _).trans ?_
  | with_reducible refine (whenS_but (fun _ => ?_) _ _).trans ?_
  | with_reducible refine (foldl_but (fun _ _ => ?_) _ _).trans ?_
  | with_reducible refine (foldl_but2 (fun _ _ => ?_) _ _).trans ?_
theorem countResend_but {m} (hm : sub 64 m = true) (k : Nat) (n : Nat) (s : State) : (countResend k n s).but m = s.but m := but_mono hm (countResend_but' k n s)

theorem fmtExc_but' (bit : Nat) (phys : Nat) (s : State) : (fmtExc bit phys s).but 1049216 = s.but 1049216 := by
  unfold fmtExc
  repeat' first
  | with_reducible rfl
  | simp (disch := first | exact Or.inr rfl | exact Or.inl rfl | decide) only [↓but_mk, ↓but_ite, ↓but_snd_ite, ↓but_snd_mk, ↓but_snd2_ite, ↓but_snd2_mk, ↓but_cond, ite_self, outOf_live, outOf_next, outOf_ite, ↓emit_but]
  | split <;> try (with_reducible have h := congrArg Prod.snd ‹(_ : _ × State) = (_, _)›; dsimp only at h; subst h)
  | with_reducible refine (each_but (fun _ _ => ?_) _ _).trans ?_
  | with_reducible refine (whenS_but (fun _ => ?_) _ _).trans ?_
  | with_reducible refine (foldl_but (fun _ _ => ?_) _ _).trans ?_
  | with_reducible refine (foldl_but2 (fun _ _ => ?_) _ _).trans ?_
theorem fmtExc_but {m} (hm : sub 1049216 m = true) (bit : Nat) (phys : Nat) (s : State) : (fmtExc bit phys s).but m = s.but m := but_mono hm (fmtExc_but' bit phys s)

theorem hbmPut_but' (a : Nat) (bs : Bytes) (s : State) : (hbmPut a bs s).but 16777216 = s.but 16777216 := by
  unfold hbmPut
  repeat' first
  | with_reducible rfl
  | simp (disch := first | exact Or.inr rfl | exact Or.inl rfl | decide) only [↓but_mk, ↓but_ite, ↓but_snd_ite, ↓but_snd_mk, ↓but_snd2_ite, ↓but_snd2_mk, ↓but_cond, ite_self, outOf_live, outOf_next, outOf_ite]
  | split <;> try (with_reducible have h := congrArg Prod.snd ‹(_ : _ × State) = (_, _)›; dsimp only at h; subst h)
  | with_reducible refine (each_but (fun _ _ => ?_) _ _).trans ?_
  | with_reducible refine (whenS_but (fun _ => ?_) _ _).trans ?_
  | with_reducible refine (foldl_but (fun _ _ => ?_) _ _).trans ?_
  | with_reducible refine (foldl_but2 (fun _ _ => ?_) _ _).trans ?_
theorem hbmPut_but {m} (hm : sub 16777216 m = true) (a : Nat) (bs : Bytes) (s : State) : (hbmPut a bs s).but m = s.but m := but_mono hm (hbmPut_but' a bs s)

theorem putCopies_but' (m0 : ModelC) (below : Nat) (s : State) : (putCopies m0 below s).but 16777216 = s.but 16777216 := by
  unfold putCopies
  repeat' first
  | with_reducible rfl
  | simp (disch := first | exact Or.inr rfl | exact Or.inl rfl | decide) only [↓but_mk, ↓but_ite, ↓but_snd_ite, ↓but_snd_mk, ↓but_snd2_ite, ↓but_snd2_mk, ↓but_cond, ite_self, outOf_live, outOf_next, outOf_ite, ↓hbmPut_but]
  | split <;> try (with_reducible have h := congrArg Prod.snd ‹(_ : _ × State) = (_, _)›; dsimp only at h; subst h)
  | with_reducible refine (each_but (fun _ _ => ?_) _ _).trans ?_
  | with_reducible refine (whenS_but (fun _ => ?_) _ _).trans ?_
  | with_reducible refine (foldl_but (fun _ _ => ?_) _ _).trans ?_
  | with_reducible refine (foldl_but2 (fun _ _ => ?_) _ _).trans ?_
theorem putCopies_but {m} (hm : sub 16777216 m = true) (m0 : ModelC) (below : Nat) (s : State) : (putCopies m0 below s).but m = s.but m := but_mono hm (putCopies_but' m0 below s)

theorem holdContainer_but' (k : Nat) (s : State) : (holdContainer k s).but 262144 = s.but 262144 := by
  unfold holdContainer
  repeat' first
  | with_reducible rfl
  | simp (disch := first | exact Or.inr rfl | exact Or.inl rfl | decide) only [↓but_mk, ↓but_ite, ↓but_snd_ite, ↓but_snd_mk, ↓but_snd2_ite, ↓but_snd2_mk, ↓but_cond, ite_self, outOf_live, outOf_next, outOf_ite]
  | split <;> try (with_reducible have h := congrArg Prod.snd ‹(_ : _ × State) = (_, _)›; dsimp only at h; subst h)
  | with_reducible refine (each_but (fun _ _ => ?_) _ _).trans ?_
  | with_reducible refine (whenS_but (fun _ => ?_) _ _).trans ?_
  | with_reducible refine (foldl_but (fun _ _ => ?_) _ _).trans ?_
  | with_reducible refine (foldl_but2 (fun _ _ => ?_) _ _).trans ?_
theorem holdContainer_but {m} (hm : sub 262144 m = true) (k : Nat) (s : State) : (holdContainer k s).but m = s.but m := but_mono hm (holdContainer_but' k s)

theorem demote_but' (cause : Nat) (p : Nat) (s : State) : (demote cause p s).but 1311360 = s.but 1311360 := by
  unfold demote
  repeat' first
  | with_reducible rfl
  | simp (disch := first | exact Or.inr rfl | exact Or.inl rfl | decide) only [↓but_mk, ↓but_ite, ↓but_snd_ite, ↓but_snd_mk, ↓but_snd2_ite, ↓but_snd2_mk, ↓but_cond, ite_self, outOf_live, outOf_next, outOf_ite, ↓setPlate_but, ↓emit_but]
  | split <;> try (with_reducible have h := congrArg Prod.snd ‹(_ : _ × State) = (_, _)›; dsimp only at h; subst h)
  | with_reducible refine (each_but (fun _ _ => ?_) _ _).trans ?_
  | with_reducible refine (whenS_but (fun _ => ?_) _ _).trans ?_
  | with_reducible refine (foldl_but (fun _ _ => ?_) _ _).trans ?_
  | with_reducible refine (foldl_but2 (fun _ _ => ?_) _ _).trans ?_
theorem demote_but {m} (hm : sub 1311360 m = true) (cause : Nat) (p : Nat) (s : State) : (demote cause p s).but m = s.but m := but_mono hm (demote_but' cause p s)

theorem zeroPlate_but' (p : Nat) (s : State) : (zeroPlate p s).but 262144 = s.but 262144 := by
  unfold zeroPlate
  repeat' first
  | with_reducible rfl
  | simp (disch := first | exact Or.inr rfl | exact Or.inl rfl | decide) only [↓but_mk, ↓but_ite, ↓but_snd_ite, ↓but_snd_mk, ↓but_snd2_ite, ↓but_snd2_mk, ↓but_cond, ite_self, outOf_live, outOf_next, outOf_ite, ↓setPlate_but]
  | split <;> try (with_reducible have h := congrArg Prod.snd ‹(_ : _ × State) = (_, _)›; dsimp only at h; subst h)
  | with_reducible refine (each_but (fun _ _ => ?_) _ _).trans ?_
  | with_reducible refine (whenS_but (fun _ => ?_) _ _).trans ?_
  | with_reducible refine (foldl_but (fun _ _ => ?_) _ _).trans ?_
  | with_reducible refine (foldl_but2 (fun _ _ => ?_) _ _).trans ?_
theorem zeroPlate_but {m} (hm : sub 262144 m = true) (p : Nat) (s : State) : (zeroPlate p s).but m = s.but m := but_mono hm (zeroPlate_but' p s)

theorem demoteZero_but' (cause : Nat) (p : Nat) (s : State) : (demoteZero cause p s).but 1311360 = s.but 1311360 := by
  unfold demoteZero
  repeat' first
  | with_reducible rfl
  | simp (disch := first | exact Or.inr rfl | exact Or.inl rfl | decide) only [↓but_mk, ↓but_ite, ↓but_snd_ite, ↓but_snd_mk, ↓but_snd2_ite, ↓but_snd2_mk, ↓but_cond, ite_self, outOf_live, outOf_next, outOf_ite, ↓demote_but, ↓zeroPlate_but]
  | split <;> try (with_reducible have h := congrArg Prod.snd ‹(_ : _ × State) = (_, _)›; dsimp only at h; subst h)
  | with_reducible refine (each_but (fun _ _ => ?_) _ _).trans ?_
  | with_reducible refine (whenS_but (fun _ => ?_) _ _).trans ?_
  | with_reducible refine (foldl_but (fun _ _ => ?_) _ _).trans ?_
  | with_reducible refine (foldl_but2 (fun _ _ => ?_) _ _).trans ?_
theorem demoteZero_but {m} (hm : sub 1311360 m = true) (cause : Nat) (p : Nat) (s : State) : (demoteZero cause p s).but m = s.but m := but_mono hm (demoteZero_but' cause p s)

theorem warmStart_but' (cause : Nat) (s : State) : (warmStart cause s).but 1311360 = s.but 1311360 := by
  unfold warmStart
  repeat' first
  | with_reducible rfl
  | simp (disch := first | exact Or.inr rfl | exact Or.inl rfl | decide) only [↓but_mk, ↓but_ite, ↓but_snd_ite, ↓but_snd_mk, ↓but_snd2_ite, ↓but_snd2_mk, ↓but_cond, ite_self, outOf_live, outOf_next, outOf_ite, ↓demoteZero_but]
  | split <;> try (with_reducible have h := congrArg Prod.snd ‹(_ : _ × State) = (_, _)›; dsimp only at h; subst h)
  | with_reducible refine (each_but (fun _ _ => ?_) _ _).trans ?_
  | with_reducible refine (whenS_but (fun _ => ?_) _ _).trans ?_
  | with_reducible refine (foldl_but (fun _ _ => ?_) _ _).trans ?_
  | with_reducible refine (foldl_but2 (fun _ _ => ?_) _ _).trans ?_
theorem warmStart_but {m} (hm : sub 1311360 m = true) (cause : Nat) (s : State) : (warmStart cause s).but m = s.but m := but_mono hm (warmStart_but' cause s)

theorem updateDegraded_but' (s : State) : (updateDegraded s).but 1311360 = s.but 1311360 := by
  unfold updateDegraded
  repeat' first
  | with_reducible rfl
  | simp (disch := first | exact Or.inr rfl | exact Or.inl rfl | decide) only [↓but_mk, ↓but_ite, ↓but_snd_ite, ↓but_snd_mk, ↓but_snd2_ite, ↓but_snd2_mk, ↓but_cond, ite_self, outOf_live, outOf_next, outOf_ite, ↓emit_but]
  | split <;> try (with_reducible have h := congrArg Prod.snd ‹(_ : _ × State) = (_, _)›; dsimp only at h; subst h)
  | with_reducible refine (each_but (fun _ _ => ?_) _ _).trans ?_
  | with_reducible refine (whenS_but (fun _ => ?_) _ _).trans ?_
  | with_reducible refine (foldl_but (fun _ _ => ?_) _ _).trans ?_
  | with_reducible refine (foldl_but2 (fun _ _ => ?_) _ _).trans ?_
theorem updateDegraded_but {m} (hm : sub 1311360 m = true) (s : State) : (updateDegraded s).but m = s.but m := but_mono hm (updateDegraded_but' s)

theorem movePlate_but' (k : Nat) (t : Nat) (p : Nat) (s : State) : (movePlate k t p s).but 1311360 = s.but 1311360 := by
  unfold movePlate
  repeat' first
  | with_reducible rfl
  | simp (disch := first | exact Or.inr rfl | exact Or.inl rfl | decide) only [↓but_mk, ↓but_ite, ↓but_snd_ite, ↓but_snd_mk, ↓but_snd2_ite, ↓but_snd2_mk, ↓but_cond, ite_self, outOf_live, outOf_next, outOf_ite, ↓demoteZero_but, ↓setPlate_but]
  | split <;> try (with_reducible have h := congrArg Prod.snd ‹(_ : _ × State) = (_, _)›; dsimp only at h; subst h)
  | with_reducible refine (each_but (fun _ _ => ?_) _ _).trans ?_
  | with_reducible refine (whenS_but (fun _ => ?_) _ _).trans ?_
  | with_reducible refine (foldl_but (fun _ _ => ?_) _ _).trans ?_
  | with_reducible refine (foldl_but2 (fun _ _ => ?_) _ _).trans ?_
theorem movePlate_but {m} (hm : sub 1311360 m = true) (k : Nat) (t : Nat) (p : Nat) (s : State) : (movePlate k t p s).but m = s.but m := but_mono hm (movePlate_but' k t p s)

theorem moveInto_but' (k : Nat) (a1 : List Nat) (a2 : State) : (moveInto k a1 a2).2.but 1311360 = a2.but 1311360 := by
  induction a1 generalizing a2 with
  | nil => rfl
  | cons p l ih =>
    rw [moveInto]
    split
    · rw [ih, movePlate_but (by decide)]
    · rfl
theorem moveInto_but {m} (hm : sub 1311360 m = true) (k : Nat) (a1 : List Nat) (a2 : State) : (moveInto k a1 a2).2.but m = a2.but m := but_mono hm (moveInto_but' k a1 a2)

theorem remapped_but' (k : Nat) (t : Nat) (rule : Nat) (target : Nat) (n : Nat) (s : State) : (remapped k t rule target n s).but 1049280 = s.but 1049280 := by
  unfold remapped
  repeat' first
  | with_reducible rfl
  | simp (disch := first | exact Or.inr rfl | exact Or.inl rfl | decide) only [↓but_mk, ↓but_ite, ↓but_snd_ite, ↓but_snd_mk, ↓but_snd2_ite, ↓but_snd2_mk, ↓but_cond, ite_self, outOf_live, outOf_next, outOf_ite, ↓setErr_but, ↓emit_but]
  | split <;> try (with_reducible have h := congrArg Prod.snd ‹(_ : _ × State) = (_, _)›; dsimp only at h; subst h)
  | with_reducible refine (each_but (fun _ _ => ?_) _ _).trans ?_
  | with_reducible refine (whenS_but (fun _ => ?_) _ _).trans ?_
  | with_reducible refine (foldl_but (fun _ _ => ?_) _ _).trans ?_
  | with_reducible refine (foldl_but2 (fun _ _ => ?_) _ _).trans ?_
theorem remapped_but {m} (hm : sub 1049280 m = true) (k : Nat) (t : Nat) (rule : Nat) (target : Nat) (n : Nat) (s : State) : (remapped k t rule target n s).but m = s.but m := but_mono hm (remapped_but' k t rule target n s)

theorem spread_but' (k : Nat) (t : Nat) (a1 : Nat) (a2 : List Nat) (a3 : State) : (spread k t a1 a2 a3).2.but 1311424 = a3.but 1311424 := by
  induction a1 generalizing a2 a3 with
  | zero => rfl
  | succ n ih =>
    rw [spread]
    split
    · rfl
    · split
      · rfl
      · dsimp only
        rw [ih, remapped_but (by decide), moveInto_but (by decide)]
theorem spread_but {m} (hm : sub 1311424 m = true) (k : Nat) (t : Nat) (a1 : Nat) (a2 : List Nat) (a3 : State) : (spread k t a1 a2 a3).2.but m = a3.but m := but_mono hm (spread_but' k t a1 a2 a3)

theorem unplace_but' (k : Nat) (l : List Nat) (s : State) : (unplace k l s).but 1311360 = s.but 1311360 := by
  unfold unplace
  repeat' first
  | with_reducible rfl
  | simp (disch := first | exact Or.inr rfl | exact Or.inl rfl | decide) only [↓but_mk, ↓but_ite, ↓but_snd_ite, ↓but_snd_mk, ↓but_snd2_ite, ↓but_snd2_mk, ↓but_cond, ite_self, outOf_live, outOf_next, outOf_ite, ↓demoteZero_but, ↓setPlate_but, ↓setErr_but, ↓emit_but]
  | split <;> try (with_reducible have h := congrArg Prod.snd ‹(_ : _ × State) = (_, _)›; dsimp only at h; subst h)
  | with_reducible refine (each_but (fun _ _ => ?_) _ _).trans ?_
  | with_reducible refine (whenS_but (fun _ => ?_) _ _).trans ?_
  | with_reducible refine (foldl_but (fun _ _ => ?_) _ _).trans ?_
  | with_reducible refine (foldl_but2 (fun _ _ => ?_) _ _).trans ?_
theorem unplace_but {m} (hm : sub 1311360 m = true) (k : Nat) (l : List Nat) (s : State) : (unplace k l s).but m = s.but m := but_mono hm (unplace_but' k l s)

theorem remapTile_but' (k : Nat) (t : Nat) (s : State) : (remapTile k t s).but 1311424 = s.but 1311424 := by
  unfold remapTile
  repeat' first
  | with_reducible rfl
  | simp (disch := first | exact Or.inr rfl | exact Or.inl rfl | decide) only [↓but_mk, ↓but_ite, ↓but_snd_ite, ↓but_snd_mk, ↓but_snd2_ite, ↓but_snd2_mk, ↓but_cond, ite_self, outOf_live, outOf_next, outOf_ite, ↓setTile_but, ↓remapped_but, ↓emit_but, ↓moveInto_but, ↓spread_but, ↓unplace_but]
  | split <;> try (with_reducible have h := congrArg Prod.snd ‹(_ : _ × State) = (_, _)›; dsimp only at h; subst h)
  | with_reducible refine (each_but (fun _ _ => ?_) _ _).trans ?_
  | with_reducible refine (whenS_but (fun _ => ?_) _ _).trans ?_
  | with_reducible refine (foldl_but (fun _ _ => ?_) _ _).trans ?_
  | with_reducible refine (foldl_but2 (fun _ _ => ?_) _ _).trans ?_
theorem remapTile_but {m} (hm : sub 1311424 m = true) (k : Nat) (t : Nat) (s : State) : (remapTile k t s).but m = s.but m := but_mono hm (remapTile_but' k t s)

theorem remapAll_but' (s : State) : (remapAll s).but 1311424 = s.but 1311424 := by
  unfold remapAll
  repeat' first
  | with_reducible rfl
  | simp (disch := first | exact Or.inr rfl | exact Or.inl rfl | decide) only [↓but_mk, ↓but_ite, ↓but_snd_ite, ↓but_snd_mk, ↓but_snd2_ite, ↓but_snd2_mk, ↓but_cond, ite_self, outOf_live, outOf_next, outOf_ite, ↓setTile_but, ↓remapTile_but]
  | split <;> try (with_reducible have h := congrArg Prod.snd ‹(_ : _ × State) = (_, _)›; dsimp only at h; subst h)
  | with_reducible refine (each_but (fun _ _ => ?_) _ _).trans ?_
  | with_reducible refine (whenS_but (fun _ => ?_) _ _).trans ?_
  | with_reducible refine (foldl_but (fun _ _ => ?_) _ _).trans ?_
  | with_reducible refine (foldl_but2 (fun _ _ => ?_) _ _).trans ?_
theorem remapAll_but {m} (hm : sub 1311424 m = true) (s : State) : (remapAll s).but m = s.but m := but_mono hm (remapAll_but' s)

theorem displace_but' (k : Nat) (s : State) : (displace k s).but 1311424 = s.but 1311424 := by
  unfold displace
  repeat' first
  | with_reducible rfl
  | simp (disch := first | exact Or.inr rfl | exact Or.inl rfl | decide) only [↓but_mk, ↓but_ite, ↓but_snd_ite, ↓but_snd_mk, ↓but_snd2_ite, ↓but_snd2_mk, ↓but_cond, ite_self, outOf_live, outOf_next, outOf_ite, ↓setReg_but, ↓spread_but, ↓unplace_but]
  | split <;> try (with_reducible have h := congrArg Prod.snd ‹(_ : _ × State) = (_, _)›; dsimp only at h; subst h)
  | with_reducible refine (each_but (fun _ _ => ?_) _ _).trans ?_
  | with_reducible refine (whenS_but (fun _ => ?_) _ _).trans ?_
  | with_reducible refine (foldl_but (fun _ _ => ?_) _ _).trans ?_
  | with_reducible refine (foldl_but2 (fun _ _ => ?_) _ _).trans ?_
theorem displace_but {m} (hm : sub 1311424 m = true) (k : Nat) (s : State) : (displace k s).but m = s.but m := but_mono hm (displace_but' k s)

theorem toFallback_but' (l : List Nat) (s : State) : (toFallback l s).but 262144 = s.but 262144 := by
  unfold toFallback
  repeat' first
  | with_reducible rfl
  | simp (disch := first | exact Or.inr rfl | exact Or.inl rfl | decide) only [↓but_mk, ↓but_ite, ↓but_snd_ite, ↓but_snd_mk, ↓but_snd2_ite, ↓but_snd2_mk, ↓but_cond, ite_self, outOf_live, outOf_next, outOf_ite, ↓setPlate_but]
  | split <;> try (with_reducible have h := congrArg Prod.snd ‹(_ : _ × State) = (_, _)›; dsimp only at h; subst h)
  | with_reducible refine (each_but (fun _ _ => ?_) _ _).trans ?_
  | with_reducible refine (whenS_but (fun _ => ?_) _ _).trans ?_
  | with_reducible refine (foldl_but (fun _ _ => ?_) _ _).trans ?_
  | with_reducible refine (foldl_but2 (fun _ _ => ?_) _ _).trans ?_
theorem toFallback_but {m} (hm : sub 262144 m = true) (l : List Nat) (s : State) : (toFallback l s).but m = s.but m := but_mono hm (toFallback_but' l s)

theorem tileQuarantine_but' (k : Nat) (t : Nat) (cause : Nat) (s : State) : (tileQuarantine k t cause s).but 9704128 = s.but 9704128 := by
  unfold tileQuarantine
  repeat' first
  | with_reducible rfl
  | simp (disch := first | exact Or.inr rfl | exact Or.inl rfl | decide) only [↓but_mk, ↓but_ite, ↓but_snd_ite, ↓but_snd_mk, ↓but_snd2_ite, ↓but_snd2_mk, ↓but_cond, ite_self, outOf_live, outOf_next, outOf_ite, ↓toFallback_but, ↓setTile_but, ↓setErr_but, ↓emit_but, ↓countQuar_but, ↓settleMsgs_but, ↓dropOwner_but]
  | split <;> try (with_reducible have h := congrArg Prod.snd ‹(_ : _ × State) = (_, _)›; dsimp only at h; subst h)
  | with_reducible refine (each_but (fun _ _ => ?_) _ _).trans ?_
  | with_reducible refine (whenS_but (fun _ => ?_) _ _).trans ?_
  | with_reducible refine (foldl_but (fun _ _ => ?_) _ _).trans ?_
  | with_reducible refine (foldl_but2 (fun _ _ => ?_) _ _).trans ?_
theorem tileQuarantine_but {m} (hm : sub 9704128 m = true) (k : Nat) (t : Nat) (cause : Nat) (s : State) : (tileQuarantine k t cause s).but m = s.but m := but_mono hm (tileQuarantine_but' k t cause s)

theorem shedTiles_but' (s : State) : (shedTiles s).but 9704064 = s.but 9704064 := by
  unfold shedTiles
  repeat' first
  | with_reducible rfl
  | simp (disch := first | exact Or.inr rfl | exact Or.inl rfl | decide) only [↓but_mk, ↓but_ite, ↓but_snd_ite, ↓but_snd_mk, ↓but_snd2_ite, ↓but_snd2_mk, ↓but_cond, ite_self, outOf_live, outOf_next, outOf_ite, ↓settleMsgs_but, ↓dropOwners_but]
  | split <;> try (with_reducible have h := congrArg Prod.snd ‹(_ : _ × State) = (_, _)›; dsimp only at h; subst h)
  | with_reducible refine (each_but (fun _ _ => ?_) _ _).trans ?_
  | with_reducible refine (whenS_but (fun _ => ?_) _ _).trans ?_
  | with_reducible refine (foldl_but (fun _ _ => ?_) _ _).trans ?_
  | with_reducible refine (foldl_but2 (fun _ _ => ?_) _ _).trans ?_
theorem shedTiles_but {m} (hm : sub 9704064 m = true) (s : State) : (shedTiles s).but m = s.but m := but_mono hm (shedTiles_but' s)

theorem unshedTiles_but' (s : State) : (unshedTiles s).but 1311360 = s.but 1311360 := by
  unfold unshedTiles
  repeat' first
  | with_reducible rfl
  | simp (disch := first | exact Or.inr rfl | exact Or.inl rfl | decide) only [↓but_mk, ↓but_ite, ↓but_snd_ite, ↓but_snd_mk, ↓but_snd2_ite, ↓but_snd2_mk, ↓but_cond, ite_self, outOf_live, outOf_next, outOf_ite, ↓updateDegraded_but, ↓warmStart_but]
  | split <;> try (with_reducible have h := congrArg Prod.snd ‹(_ : _ × State) = (_, _)›; dsimp only at h; subst h)
  | with_reducible refine (each_but (fun _ _ => ?_) _ _).trans ?_
  | with_reducible refine (whenS_but (fun _ => ?_) _ _).trans ?_
  | with_reducible refine (foldl_but (fun _ _ => ?_) _ _).trans ?_
  | with_reducible refine (foldl_but2 (fun _ _ => ?_) _ _).trans ?_
theorem unshedTiles_but {m} (hm : sub 1311360 m = true) (s : State) : (unshedTiles s).but m = s.but m := but_mono hm (unshedTiles_but' s)

theorem tilesWork_but' (st : Nat) (s : State) : (tilesWork st s).but 262144 = s.but 262144 := by
  unfold tilesWork
  repeat' first
  | with_reducible rfl
  | simp (disch := first | exact Or.inr rfl | exact Or.inl rfl | decide) only [↓but_mk, ↓but_ite, ↓but_snd_ite, ↓but_snd_mk, ↓but_snd2_ite, ↓but_snd2_mk, ↓but_cond, ite_self, outOf_live, outOf_next, outOf_ite]
  | split <;> try (with_reducible have h := congrArg Prod.snd ‹(_ : _ × State) = (_, _)›; dsimp only at h; subst h)
  | with_reducible refine (each_but (fun _ _ => ?_) _ _).trans ?_
  | with_reducible refine (whenS_but (fun _ => ?_) _ _).trans ?_
  | with_reducible refine (foldl_but (fun _ _ => ?_) _ _).trans ?_
  | with_reducible refine (foldl_but2 (fun _ _ => ?_) _ _).trans ?_
theorem tilesWork_but {m} (hm : sub 262144 m = true) (st : Nat) (s : State) : (tilesWork st s).but m = s.but m := but_mono hm (tilesWork_but' st s)

theorem regionOffline_but' (k : Nat) (cause : Nat) (s : State) : (regionOffline k cause s).but 9704064 = s.but 9704064 := by
  unfold regionOffline
  repeat' first
  | with_reducible rfl
  | simp (disch := first | exact Or.inr rfl | exact Or.inl rfl | decide) only [↓but_mk, ↓but_ite, ↓but_snd_ite, ↓but_snd_mk, ↓but_snd2_ite, ↓but_snd2_mk, ↓but_cond, ite_self, outOf_live, outOf_next, outOf_ite, ↓toFallback_but, ↓setReg_but, ↓setErr_but, ↓emit_but, ↓settleMsgs_but, ↓dropOwners_but]
  | split <;> try (with_reducible have h := congrArg Prod.snd ‹(_ : _ × State) = (_, _)›; dsimp only at h; subst h)
  | with_reducible refine (each_but (fun _ _ => ?_) _ _).trans ?_
  | with_reducible refine (whenS_but (fun _ => ?_) _ _).trans ?_
  | with_reducible refine (foldl_but (fun _ _ => ?_) _ _).trans ?_
  | with_reducible refine (foldl_but2 (fun _ _ => ?_) _ _).trans ?_
theorem regionOffline_but {m} (hm : sub 9704064 m = true) (k : Nat) (cause : Nat) (s : State) : (regionOffline k cause s).but m = s.but m := but_mono hm (regionOffline_but' k cause s)

theorem regionResetOp_but' (k : Nat) (s : State) : (regionResetOp k s).but 9704064 = s.but 9704064 := by
  unfold regionResetOp
  repeat' first
  | with_reducible rfl
  | simp (disch := first | exact Or.inr rfl | exact Or.inl rfl | decide) only [↓but_mk, ↓but_ite, ↓but_snd_ite, ↓but_snd_mk, ↓but_snd2_ite, ↓but_snd2_mk, ↓but_cond, ite_self, outOf_live, outOf_next, outOf_ite, ↓regionOffline_but, ↓setReg_but, ↓emit_but]
  | split <;> try (with_reducible have h := congrArg Prod.snd ‹(_ : _ × State) = (_, _)›; dsimp only at h; subst h)
  | with_reducible refine (each_but (fun _ _ => ?_) _ _).trans ?_
  | with_reducible refine (whenS_but (fun _ => ?_) _ _).trans ?_
  | with_reducible refine (foldl_but (fun _ _ => ?_) _ _).trans ?_
  | with_reducible refine (foldl_but2 (fun _ _ => ?_) _ _).trans ?_
theorem regionResetOp_but {m} (hm : sub 9704064 m = true) (k : Nat) (s : State) : (regionResetOp k s).but m = s.but m := but_mono hm (regionResetOp_but' k s)

theorem spareLeaves_but' (k : Nat) (t : Nat) (failed : List Nat) (phys : Nat) (s : State) : (spareLeaves k t failed phys s).but 262208 = s.but 262208 := by
  unfold spareLeaves
  repeat' first
  | with_reducible rfl
  | simp (disch := first | exact Or.inr rfl | exact Or.inl rfl | decide) only [↓but_mk, ↓but_ite, ↓but_snd_ite, ↓but_snd_mk, ↓but_snd2_ite, ↓but_snd2_mk, ↓but_cond, ite_self, outOf_live, outOf_next, outOf_ite, ↓countQuar_but]
  | split <;> try (with_reducible have h := congrArg Prod.snd ‹(_ : _ × State) = (_, _)›; dsimp only at h; subst h)
  | with_reducible refine (each_but (fun _ _ => ?_) _ _).trans ?_
  | with_reducible refine (whenS_but (fun _ => ?_) _ _).trans ?_
  | with_reducible refine (foldl_but (fun _ _ => ?_) _ _).trans ?_
  | with_reducible refine (foldl_but2 (fun _ _ => ?_) _ _).trans ?_
theorem spareLeaves_but {m} (hm : sub 262208 m = true) (k : Nat) (t : Nat) (failed : List Nat) (phys : Nat) (s : State) : (spareLeaves k t failed phys s).but m = s.but m := but_mono hm (spareLeaves_but' k t failed phys s)

theorem selftestTile_but' (k : Nat) (failed : List Nat) (t : Nat) (s : State) : (selftestTile k failed t s).but 9704128 = s.but 9704128 := by
  unfold selftestTile
  repeat' first
  | with_reducible rfl
  | simp (disch := first | exact Or.inr rfl | exact Or.inl rfl | decide) only [↓but_mk, ↓but_ite, ↓but_snd_ite, ↓but_snd_mk, ↓but_snd2_ite, ↓but_snd2_mk, ↓but_cond, ite_self, outOf_live, outOf_next, outOf_ite, ↓setTile_but, ↓spareLeaves_but, ↓tileQuarantine_but]
  | split <;> try (with_reducible have h := congrArg Prod.snd ‹(_ : _ × State) = (_, _)›; dsimp only at h; subst h)
  | with_reducible refine (each_but (fun _ _ => ?_) _ _).trans ?_
  | with_reducible refine (whenS_but (fun _ => ?_) _ _).trans ?_
  | with_reducible refine (foldl_but (fun _ _ => ?_) _ _).trans ?_
  | with_reducible refine (foldl_but2 (fun _ _ => ?_) _ _).trans ?_
theorem selftestTile_but {m} (hm : sub 9704128 m = true) (k : Nat) (failed : List Nat) (t : Nat) (s : State) : (selftestTile k failed t s).but m = s.but m := but_mono hm (selftestTile_but' k failed t s)

theorem selftestSpare_but' (k : Nat) (failed : List Nat) (i : Nat) (s : State) : (selftestSpare k failed i s).but 262144 = s.but 262144 := by
  unfold selftestSpare
  repeat' first
  | with_reducible rfl
  | simp (disch := first | exact Or.inr rfl | exact Or.inl rfl | decide) only [↓but_mk, ↓but_ite, ↓but_snd_ite, ↓but_snd_mk, ↓but_snd2_ite, ↓but_snd2_mk, ↓but_cond, ite_self, outOf_live, outOf_next, outOf_ite]
  | split <;> try (with_reducible have h := congrArg Prod.snd ‹(_ : _ × State) = (_, _)›; dsimp only at h; subst h)
  | with_reducible refine (each_but (fun _ _ => ?_) _ _).trans ?_
  | with_reducible refine (whenS_but (fun _ => ?_) _ _).trans ?_
  | with_reducible refine (foldl_but (fun _ _ => ?_) _ _).trans ?_
  | with_reducible refine (foldl_but2 (fun _ _ => ?_) _ _).trans ?_
theorem selftestSpare_but {m} (hm : sub 262144 m = true) (k : Nat) (failed : List Nat) (i : Nat) (s : State) : (selftestSpare k failed i s).but m = s.but m := but_mono hm (selftestSpare_but' k failed i s)

theorem plateBack_but' (k : Nat) (e : Nat × Nat) (s : State) : (plateBack k e s).but 1311360 = s.but 1311360 := by
  unfold plateBack
  repeat' first
  | with_reducible rfl
  | simp (disch := first | exact Or.inr rfl | exact Or.inl rfl | decide) only [↓but_mk, ↓but_ite, ↓but_snd_ite, ↓but_snd_mk, ↓but_snd2_ite, ↓but_snd2_mk, ↓but_cond, ite_self, outOf_live, outOf_next, outOf_ite, ↓demoteZero_but, ↓setPlate_but]
  | split <;> try (with_reducible have h := congrArg Prod.snd ‹(_ : _ × State) = (_, _)›; dsimp only at h; subst h)
  | with_reducible refine (each_but (fun _ _ => ?_) _ _).trans ?_
  | with_reducible refine (whenS_but (fun _ => ?_) _ _).trans ?_
  | with_reducible refine (foldl_but (fun _ _ => ?_) _ _).trans ?_
  | with_reducible refine (foldl_but2 (fun _ _ => ?_) _ _).trans ?_
theorem plateBack_but {m} (hm : sub 1311360 m = true) (k : Nat) (e : Nat × Nat) (s : State) : (plateBack k e s).but m = s.but m := but_mono hm (plateBack_but' k e s)

theorem regionBack_but' (k : Nat) (failed : List Nat) (s : State) : (regionBack k failed s).but 9704128 = s.but 9704128 := by
  unfold regionBack
  repeat' first
  | with_reducible rfl
  | simp (disch := first | exact Or.inr rfl | exact Or.inl rfl | decide) only [↓but_mk, ↓but_ite, ↓but_snd_ite, ↓but_snd_mk, ↓but_snd2_ite, ↓but_snd2_mk, ↓but_cond, ite_self, outOf_live, outOf_next, outOf_ite, ↓setErr_but, ↓emit_but, ↓setReg_but, ↓selftestSpare_but, ↓selftestTile_but, ↓plateBack_but]
  | split <;> try (with_reducible have h := congrArg Prod.snd ‹(_ : _ × State) = (_, _)›; dsimp only at h; subst h)
  | with_reducible refine (each_but (fun _ _ => ?_) _ _).trans ?_
  | with_reducible refine (whenS_but (fun _ => ?_) _ _).trans ?_
  | with_reducible refine (foldl_but (fun _ _ => ?_) _ _).trans ?_
  | with_reducible refine (foldl_but2 (fun _ _ => ?_) _ _).trans ?_
theorem regionBack_but {m} (hm : sub 9704128 m = true) (k : Nat) (failed : List Nat) (s : State) : (regionBack k failed s).but m = s.but m := but_mono hm (regionBack_but' k failed s)

theorem reformStacks_but' (s : State) : (reformStacks s).but 18088576 = s.but 18088576 := by
  unfold reformStacks
  repeat' first
  | with_reducible rfl
  | simp (disch := first | exact Or.inr rfl | exact Or.inl rfl | decide) only [↓but_mk, ↓but_ite, ↓but_snd_ite, ↓but_snd_mk, ↓but_snd2_ite, ↓but_snd2_mk, ↓but_cond, ite_self, outOf_live, outOf_next, outOf_ite, ↓putCopies_but, ↓demoteZero_but]
  | split <;> try (with_reducible have h := congrArg Prod.snd ‹(_ : _ × State) = (_, _)›; dsimp only at h; subst h)
  | with_reducible refine (each_but (fun _ _ => ?_) _ _).trans ?_
  | with_reducible refine (whenS_but (fun _ => ?_) _ _).trans ?_
  | with_reducible refine (foldl_but (fun _ _ => ?_) _ _).trans ?_
  | with_reducible refine (foldl_but2 (fun _ _ => ?_) _ _).trans ?_
theorem reformStacks_but {m} (hm : sub 18088576 m = true) (s : State) : (reformStacks s).but m = s.but m := but_mono hm (reformStacks_but' s)

theorem regionCells_but' (k : Nat) (n : Nat) (s : State) : (regionCells k n s).but 1311232 = s.but 1311232 := by
  unfold regionCells
  repeat' first
  | with_reducible rfl
  | simp (disch := first | exact Or.inr rfl | exact Or.inl rfl | decide) only [↓but_mk, ↓but_ite, ↓but_snd_ite, ↓but_snd_mk, ↓but_snd2_ite, ↓but_snd2_mk, ↓but_cond, ite_self, outOf_live, outOf_next, outOf_ite, ↓setErr_but, ↓setReg_but]
  | split <;> try (with_reducible have h := congrArg Prod.snd ‹(_ : _ × State) = (_, _)›; dsimp only at h; subst h)
  | with_reducible refine (each_but (fun _ _ => ?_) _ _).trans ?_
  | with_reducible refine (whenS_but (fun _ => ?_) _ _).trans ?_
  | with_reducible refine (foldl_but (fun _ _ => ?_) _ _).trans ?_
  | with_reducible refine (foldl_but2 (fun _ _ => ?_) _ _).trans ?_
theorem regionCells_but {m} (hm : sub 1311232 m = true) (k : Nat) (n : Nat) (s : State) : (regionCells k n s).but m = s.but m := but_mono hm (regionCells_but' k n s)

theorem regionResends_but' (k : Nat) (n : Nat) (s : State) : (regionResends k n s).but 1311232 = s.but 1311232 := by
  unfold regionResends
  repeat' first
  | with_reducible rfl
  | simp (disch := first | exact Or.inr rfl | exact Or.inl rfl | decide) only [↓but_mk, ↓but_ite, ↓but_snd_ite, ↓but_snd_mk, ↓but_snd2_ite, ↓but_snd2_mk, ↓but_cond, ite_self, outOf_live, outOf_next, outOf_ite, ↓setErr_but, ↓setReg_but]
  | split <;> try (with_reducible have h := congrArg Prod.snd ‹(_ : _ × State) = (_, _)›; dsimp only at h; subst h)
  | with_reducible refine (each_but (fun _ _ => ?_) _ _).trans ?_
  | with_reducible refine (whenS_but (fun _ => ?_) _ _).trans ?_
  | with_reducible refine (foldl_but (fun _ _ => ?_) _ _).trans ?_
  | with_reducible refine (foldl_but2 (fun _ _ => ?_) _ _).trans ?_
theorem regionResends_but {m} (hm : sub 1311232 m = true) (k : Nat) (n : Nat) (s : State) : (regionResends k n s).but m = s.but m := but_mono hm (regionResends_but' k n s)

theorem tileCells_but' (ph : Nat) (n : Nat) (s : State) : (tileCells ph n s).but 1311296 = s.but 1311296 := by
  unfold tileCells
  repeat' first
  | with_reducible rfl
  | simp (disch := first | exact Or.inr rfl | exact Or.inl rfl | decide) only [↓but_mk, ↓but_ite, ↓but_snd_ite, ↓but_snd_mk, ↓but_snd2_ite, ↓but_snd2_mk, ↓but_cond, ite_self, outOf_live, outOf_next, outOf_ite, ↓regionCells_but, ↓countCell_but, ↓setTile_but]
  | split <;> try (with_reducible have h := congrArg Prod.snd ‹(_ : _ × State) = (_, _)›; dsimp only at h; subst h)
  | with_reducible refine (each_but (fun _ _ => ?_) _ _).trans ?_
  | with_reducible refine (whenS_but (fun _ => ?_) _ _).trans ?_
  | with_reducible refine (foldl_but (fun _ _ => ?_) _ _).trans ?_
  | with_reducible refine (foldl_but2 (fun _ _ => ?_) _ _).trans ?_
theorem tileCells_but {m} (hm : sub 1311296 m = true) (ph : Nat) (n : Nat) (s : State) : (tileCells ph n s).but m = s.but m := but_mono hm (tileCells_but' ph n s)

theorem hbmCorrected_but' (k : Nat) (n : Nat) (s : State) : (hbmCorrected k n s).but 262144 = s.but 262144 := by
  unfold hbmCorrected
  repeat' first
  | with_reducible rfl
  | simp (disch := first | exact Or.inr rfl | exact Or.inl rfl | decide) only [↓but_mk, ↓but_ite, ↓but_snd_ite, ↓but_snd_mk, ↓but_snd2_ite, ↓but_snd2_mk, ↓but_cond, ite_self, outOf_live, outOf_next, outOf_ite, ↓setReg_but]
  | split <;> try (with_reducible have h := congrArg Prod.snd ‹(_ : _ × State) = (_, _)›; dsimp only at h; subst h)
  | with_reducible refine (each_but (fun _ _ => ?_) _ _).trans ?_
  | with_reducible refine (whenS_but (fun _ => ?_) _ _).trans ?_
  | with_reducible refine (foldl_but (fun _ _ => ?_) _ _).trans ?_
  | with_reducible refine (foldl_but2 (fun _ _ => ?_) _ _).trans ?_
theorem hbmCorrected_but {m} (hm : sub 262144 m = true) (k : Nat) (n : Nat) (s : State) : (hbmCorrected k n s).but m = s.but m := but_mono hm (hbmCorrected_but' k n s)

theorem unitCells_but' (kind : Nat) (index : Nat) (n : Nat) (s : State) : (unitCells kind index n s).but 1319488 = s.but 1319488 := by
  unfold unitCells
  repeat' first
  | with_reducible rfl
  | simp (disch := first | exact Or.inr rfl | exact Or.inl rfl | decide) only [↓but_mk, ↓but_ite, ↓but_snd_ite, ↓but_snd_mk, ↓but_snd2_ite, ↓but_snd2_mk, ↓but_cond, ite_self, outOf_live, outOf_next, outOf_ite, ↓tileCells_but, ↓hbmCorrected_but, ↓regionCells_but, ↓countCell_but]
  | split <;> try (with_reducible have h := congrArg Prod.snd ‹(_ : _ × State) = (_, _)›; dsimp only at h; subst h)
  | with_reducible refine (each_but (fun _ _ => ?_) _ _).trans ?_
  | with_reducible refine (whenS_but (fun _ => ?_) _ _).trans ?_
  | with_reducible refine (foldl_but (fun _ _ => ?_) _ _).trans ?_
  | with_reducible refine (foldl_but2 (fun _ _ => ?_) _ _).trans ?_
theorem unitCells_but {m} (hm : sub 1319488 m = true) (kind : Nat) (index : Nat) (n : Nat) (s : State) : (unitCells kind index n s).but m = s.but m := but_mono hm (unitCells_but' kind index n s)

theorem blockQuarantine_but' (kind : Nat) (s : State) : (blockQuarantine kind s).but 525504 = s.but 525504 := by
  unfold blockQuarantine
  repeat' first
  | with_reducible rfl
  | simp (disch := first | exact Or.inr rfl | exact Or.inl rfl | decide) only [↓but_mk, ↓but_ite, ↓but_snd_ite, ↓but_snd_mk, ↓but_snd2_ite, ↓but_snd2_mk, ↓but_cond, ite_self, outOf_live, outOf_next, outOf_ite, ↓countQuar_but]
  | split <;> try (with_reducible have h := congrArg Prod.snd ‹(_ : _ × State) = (_, _)›; dsimp only at h; subst h)
  | with_reducible refine (each_but (fun _ _ => ?_) _ _).trans ?_
  | with_reducible refine (whenS_but (fun _ => ?_) _ _).trans ?_
  | with_reducible refine (foldl_but (fun _ _ => ?_) _ _).trans ?_
  | with_reducible refine (foldl_but2 (fun _ _ => ?_) _ _).trans ?_
theorem blockQuarantine_but {m} (hm : sub 525504 m = true) (kind : Nat) (s : State) : (blockQuarantine kind s).but m = s.but m := but_mono hm (blockQuarantine_but' kind s)

theorem escalate_but' (kind : Nat) (index : Nat) (cause : Nat) (s : State) : (escalate kind index cause s).but 10385096 = s.but 10385096 := by
  unfold escalate
  repeat' first
  | with_reducible rfl
  | simp (disch := first | exact Or.inr rfl | exact Or.inl rfl | decide) only [↓but_mk, ↓but_ite, ↓but_snd_ite, ↓but_snd_mk, ↓but_snd2_ite, ↓but_snd2_mk, ↓but_cond, ite_self, outOf_live, outOf_next, outOf_ite, ↓tileQuarantine_but, ↓regionOffline_but, ↓engineQuarantine_but, ↓busQuarantine_but, ↓scQuarantine_but, ↓blockQuarantine_but]
  | split <;> try (with_reducible have h := congrArg Prod.snd ‹(_ : _ × State) = (_, _)›; dsimp only at h; subst h)
  | with_reducible refine (each_but (fun _ _ => ?_) _ _).trans ?_
  | with_reducible refine (whenS_but (fun _ => ?_) _ _).trans ?_
  | with_reducible refine (foldl_but (fun _ _ => ?_) _ _).trans ?_
  | with_reducible refine (foldl_but2 (fun _ _ => ?_) _ _).trans ?_
theorem escalate_but {m} (hm : sub 10385096 m = true) (kind : Nat) (index : Nat) (cause : Nat) (s : State) : (escalate kind index cause s).but m = s.but m := but_mono hm (escalate_but' kind index cause s)

theorem unitResends_but' (kind : Nat) (index : Nat) (n : Nat) (s : State) : (unitResends kind index n s).but 1311296 = s.but 1311296 := by
  unfold unitResends
  repeat' first
  | with_reducible rfl
  | simp (disch := first | exact Or.inr rfl | exact Or.inl rfl | decide) only [↓but_mk, ↓but_ite, ↓but_snd_ite, ↓but_snd_mk, ↓but_snd2_ite, ↓but_snd2_mk, ↓but_cond, ite_self, outOf_live, outOf_next, outOf_ite, ↓regionResends_but, ↓countResend_but, ↓setTile_but]
  | split <;> try (with_reducible have h := congrArg Prod.snd ‹(_ : _ × State) = (_, _)›; dsimp only at h; subst h)
  | with_reducible refine (each_but (fun _ _ => ?_) _ _).trans ?_
  | with_reducible refine (whenS_but (fun _ => ?_) _ _).trans ?_
  | with_reducible refine (foldl_but (fun _ _ => ?_) _ _).trans ?_
  | with_reducible refine (foldl_but2 (fun _ _ => ?_) _ _).trans ?_
theorem unitResends_but {m} (hm : sub 1311296 m = true) (kind : Nat) (index : Nat) (n : Nat) (s : State) : (unitResends kind index n s).but m = s.but m := but_mono hm (unitResends_but' kind index n s)

theorem blockAttempts_but' (kind : Nat) (index : Nat) (attempts : Nat) (cause : Nat) (s : State) : (blockAttempts kind index attempts cause s).but 10385096 = s.but 10385096 := by
  unfold blockAttempts
  repeat' first
  | with_reducible rfl
  | simp (disch := first | exact Or.inr rfl | exact Or.inl rfl | decide) only [↓but_mk, ↓but_ite, ↓but_snd_ite, ↓but_snd_mk, ↓but_snd2_ite, ↓but_snd2_mk, ↓but_cond, ite_self, outOf_live, outOf_next, outOf_ite, ↓unitResends_but, ↓escalate_but]
  | split <;> try (with_reducible have h := congrArg Prod.snd ‹(_ : _ × State) = (_, _)›; dsimp only at h; subst h)
  | with_reducible refine (each_but (fun _ _ => ?_) _ _).trans ?_
  | with_reducible refine (whenS_but (fun _ => ?_) _ _).trans ?_
  | with_reducible refine (foldl_but (fun _ _ => ?_) _ _).trans ?_
  | with_reducible refine (foldl_but2 (fun _ _ => ?_) _ _).trans ?_
theorem blockAttempts_but {m} (hm : sub 10385096 m = true) (kind : Nat) (index : Nat) (attempts : Nat) (cause : Nat) (s : State) : (blockAttempts kind index attempts cause s).but m = s.but m := but_mono hm (blockAttempts_but' kind index attempts cause s)

theorem execBlockCrcMismatch_but' (kind : Nat) (index : Nat) (attempts : Nat) (s : State) : (outOf (execBlockCrcMismatch kind index attempts s) s).but 10385096 = s.but 10385096 := by
  unfold execBlockCrcMismatch
  repeat' first
  | with_reducible rfl
  | simp (disch := first | exact Or.inr rfl | exact Or.inl rfl | decide) only [↓but_mk, ↓but_ite, ↓but_snd_ite, ↓but_snd_mk, ↓but_snd2_ite, ↓but_snd2_mk, ↓but_cond, ite_self, outOf_live, outOf_next, outOf_ite, ↓blockAttempts_but]
  | split <;> try (with_reducible have h := congrArg Prod.snd ‹(_ : _ × State) = (_, _)›; dsimp only at h; subst h)
  | with_reducible refine (each_but (fun _ _ => ?_) _ _).trans ?_
  | with_reducible refine (whenS_but (fun _ => ?_) _ _).trans ?_
  | with_reducible refine (foldl_but (fun _ _ => ?_) _ _).trans ?_
  | with_reducible refine (foldl_but2 (fun _ _ => ?_) _ _).trans ?_
theorem execBlockCrcMismatch_but {m} (hm : sub 10385096 m = true) (kind : Nat) (index : Nat) (attempts : Nat) (s : State) : (outOf (execBlockCrcMismatch kind index attempts s) s).but m = s.but m := but_mono hm (execBlockCrcMismatch_but' kind index attempts s)

theorem execCellParityError_but' (kind : Nat) (index : Nat) (retries : Nat) (attempts : Nat) (pastGuard : Bool) (s : State) : (outOf (execCellParityError kind index retries attempts pastGuard s) s).but 10385096 = s.but 10385096 := by
  unfold execCellParityError
  repeat' first
  | with_reducible rfl
  | simp (disch := first | exact Or.inr rfl | exact Or.inl rfl | decide) only [↓but_mk, ↓but_ite, ↓but_snd_ite, ↓but_snd_mk, ↓but_snd2_ite, ↓but_snd2_mk, ↓but_cond, ite_self, outOf_live, outOf_next, outOf_ite, ↓unitCells_but, ↓toFallback_but, ↓blockAttempts_but]
  | split <;> try (with_reducible have h := congrArg Prod.snd ‹(_ : _ × State) = (_, _)›; dsimp only at h; subst h)
  | with_reducible refine (each_but (fun _ _ => ?_) _ _).trans ?_
  | with_reducible refine (whenS_but (fun _ => ?_) _ _).trans ?_
  | with_reducible refine (foldl_but (fun _ _ => ?_) _ _).trans ?_
  | with_reducible refine (foldl_but2 (fun _ _ => ?_) _ _).trans ?_
theorem execCellParityError_but {m} (hm : sub 10385096 m = true) (kind : Nat) (index : Nat) (retries : Nat) (attempts : Nat) (pastGuard : Bool) (s : State) : (outOf (execCellParityError kind index retries attempts pastGuard s) s).but m = s.but m := but_mono hm (execCellParityError_but' kind index retries attempts pastGuard s)

theorem execTileRemap_but' (s : State) : (outOf (execTileRemap s) s).but 1311424 = s.but 1311424 := by
  unfold execTileRemap
  repeat' first
  | with_reducible rfl
  | simp (disch := first | exact Or.inr rfl | exact Or.inl rfl | decide) only [↓but_mk, ↓but_ite, ↓but_snd_ite, ↓but_snd_mk, ↓but_snd2_ite, ↓but_snd2_mk, ↓but_cond, ite_self, outOf_live, outOf_next, outOf_ite, ↓updateDegraded_but, ↓displace_but, ↓remapAll_but]
  | split <;> try (with_reducible have h := congrArg Prod.snd ‹(_ : _ × State) = (_, _)›; dsimp only at h; subst h)
  | with_reducible refine (each_but (fun _ _ => ?_) _ _).trans ?_
  | with_reducible refine (whenS_but (fun _ => ?_) _ _).trans ?_
  | with_reducible refine (foldl_but (fun _ _ => ?_) _ _).trans ?_
  | with_reducible refine (foldl_but2 (fun _ _ => ?_) _ _).trans ?_
theorem execTileRemap_but {m} (hm : sub 1311424 m = true) (s : State) : (outOf (execTileRemap s) s).but m = s.but m := but_mono hm (execTileRemap_but' s)

theorem markMissing_but' (a : Nat) (s : State) : (markMissing a s).but 16777216 = s.but 16777216 := by
  unfold markMissing
  repeat' first
  | with_reducible rfl
  | simp (disch := first | exact Or.inr rfl | exact Or.inl rfl | decide) only [↓but_mk, ↓but_ite, ↓but_snd_ite, ↓but_snd_mk, ↓but_snd2_ite, ↓but_snd2_mk, ↓but_cond, ite_self, outOf_live, outOf_next, outOf_ite]
  | split <;> try (with_reducible have h := congrArg Prod.snd ‹(_ : _ × State) = (_, _)›; dsimp only at h; subst h)
  | with_reducible refine (each_but (fun _ _ => ?_) _ _).trans ?_
  | with_reducible refine (whenS_but (fun _ => ?_) _ _).trans ?_
  | with_reducible refine (foldl_but (fun _ _ => ?_) _ _).trans ?_
  | with_reducible refine (foldl_but2 (fun _ _ => ?_) _ _).trans ?_
theorem markMissing_but {m} (hm : sub 16777216 m = true) (a : Nat) (s : State) : (markMissing a s).but m = s.but m := but_mono hm (markMissing_but' a s)

theorem freeUnit_but' (a : Nat) (s : State) : (freeUnit a s).but 8606711808 = s.but 8606711808 := by
  unfold freeUnit
  repeat' first
  | with_reducible rfl
  | simp (disch := first | exact Or.inr rfl | exact Or.inl rfl | decide) only [↓but_mk, ↓but_ite, ↓but_snd_ite, ↓but_snd_mk, ↓but_snd2_ite, ↓but_snd2_mk, ↓but_cond, ite_self, outOf_live, outOf_next, outOf_ite, ↓freshWord_but]
  | split <;> try (with_reducible have h := congrArg Prod.snd ‹(_ : _ × State) = (_, _)›; dsimp only at h; subst h)
  | with_reducible refine (each_but (fun _ _ => ?_) _ _).trans ?_
  | with_reducible refine (whenS_but (fun _ => ?_) _ _).trans ?_
  | with_reducible refine (foldl_but (fun _ _ => ?_) _ _).trans ?_
  | with_reducible refine (foldl_but2 (fun _ _ => ?_) _ _).trans ?_
theorem freeUnit_but {m} (hm : sub 8606711808 m = true) (a : Nat) (s : State) : (freeUnit a s).but m = s.but m := but_mono hm (freeUnit_but' a s)

theorem unitLost_but' (a : Nat) (s : State) : (unitLost a s).but 8608023168 = s.but 8608023168 := by
  unfold unitLost
  repeat' first
  | with_reducible rfl
  | simp (disch := first | exact Or.inr rfl | exact Or.inl rfl | decide) only [↓but_mk, ↓but_ite, ↓but_snd_ite, ↓but_snd_mk, ↓but_snd2_ite, ↓but_snd2_mk, ↓but_cond, ite_self, outOf_live, outOf_next, outOf_ite, ↓markMissing_but, ↓demote_but, ↓freeUnit_but]
  | split <;> try (with_reducible have h := congrArg Prod.snd ‹(_ : _ × State) = (_, _)›; dsimp only at h; subst h)
  | with_reducible refine (each_but (fun _ _ => ?_) _ _).trans ?_
  | with_reducible refine (whenS_but (fun _ => ?_) _ _).trans ?_
  | with_reducible refine (foldl_but (fun _ _ => ?_) _ _).trans ?_
  | with_reducible refine (foldl_but2 (fun _ _ => ?_) _ _).trans ?_
theorem unitLost_but {m} (hm : sub 8608023168 m = true) (a : Nat) (s : State) : (unitLost a s).but m = s.but m := but_mono hm (unitLost_but' a s)

theorem noteUnit_but' (k : Nat) (u : Nat) (s : State) : (noteUnit k u s).but 262144 = s.but 262144 := by
  unfold noteUnit
  repeat' first
  | with_reducible rfl
  | simp (disch := first | exact Or.inr rfl | exact Or.inl rfl | decide) only [↓but_mk, ↓but_ite, ↓but_snd_ite, ↓but_snd_mk, ↓but_snd2_ite, ↓but_snd2_mk, ↓but_cond, ite_self, outOf_live, outOf_next, outOf_ite]
  | split <;> try (with_reducible have h := congrArg Prod.snd ‹(_ : _ × State) = (_, _)›; dsimp only at h; subst h)
  | with_reducible refine (each_but (fun _ _ => ?_) _ _).trans ?_
  | with_reducible refine (whenS_but (fun _ => ?_) _ _).trans ?_
  | with_reducible refine (foldl_but (fun _ _ => ?_) _ _).trans ?_
  | with_reducible refine (foldl_but2 (fun _ _ => ?_) _ _).trans ?_
theorem noteUnit_but {m} (hm : sub 262144 m = true) (k : Nat) (u : Nat) (s : State) : (noteUnit k u s).but m = s.but m := but_mono hm (noteUnit_but' k u s)

theorem execHbmUe_but' (addr : Nat) (s : State) : (outOf (execHbmUe addr s) s).but 8608023233 = s.but 8608023233 := by
  unfold execHbmUe
  repeat' first
  | with_reducible rfl
  | simp (disch := first | exact Or.inr rfl | exact Or.inl rfl | decide) only [↓but_mk, ↓but_ite, ↓but_snd_ite, ↓but_snd_mk, ↓but_snd2_ite, ↓but_snd2_mk, ↓but_cond, ite_self, outOf_live, outOf_next, outOf_ite, ↓noteUnit_but, ↓unitResends_but, ↓setReg_but, ↓unitLost_but, ↓setErr_but, ↓emit_but]
  | split <;> try (with_reducible have h := congrArg Prod.snd ‹(_ : _ × State) = (_, _)›; dsimp only at h; subst h)
  | with_reducible refine (each_but (fun _ _ => ?_) _ _).trans ?_
  | with_reducible refine (whenS_but (fun _ => ?_) _ _).trans ?_
  | with_reducible refine (foldl_but (fun _ _ => ?_) _ _).trans ?_
  | with_reducible refine (foldl_but2 (fun _ _ => ?_) _ _).trans ?_
theorem execHbmUe_but {m} (hm : sub 8608023233 m = true) (addr : Nat) (s : State) : (outOf (execHbmUe addr s) s).but m = s.but m := but_mono hm (execHbmUe_but' addr s)

theorem execStackLost_but' (stack : Nat) (cause : Nat) (s : State) : (outOf (execStackLost stack cause s) s).but 1311432 = s.but 1311432 := by
  unfold execStackLost
  repeat' first
  | with_reducible rfl
  | simp (disch := first | exact Or.inr rfl | exact Or.inl rfl | decide) only [↓but_mk, ↓but_ite, ↓but_snd_ite, ↓but_snd_mk, ↓but_snd2_ite, ↓but_snd2_mk, ↓but_cond, ite_self, outOf_live, outOf_next, outOf_ite, ↓holdContainer_but, ↓setReg_but, ↓setErr_but, ↓emit_but, ↓updateDegraded_but, ↓countQuar_but, ↓requestHandover_but]
  | split <;> try (with_reducible have h := congrArg Prod.snd ‹(_ : _ × State) = (_, _)›; dsimp only at h; subst h)
  | with_reducible refine (each_but (fun _ _ => ?_) _ _).trans ?_
  | with_reducible refine (whenS_but (fun _ => ?_) _ _).trans ?_
  | with_reducible refine (foldl_but (fun _ _ => ?_) _ _).trans ?_
  | with_reducible refine (foldl_but2 (fun _ _ => ?_) _ _).trans ?_
theorem execStackLost_but {m} (hm : sub 1311432 m = true) (stack : Nat) (cause : Nat) (s : State) : (outOf (execStackLost stack cause s) s).but m = s.but m := but_mono hm (execStackLost_but' stack cause s)

theorem execRegionOffline_but' (region : Nat) (cause : Nat) (s : State) : (outOf (execRegionOffline region cause s) s).but 9704064 = s.but 9704064 := by
  unfold execRegionOffline
  repeat' first
  | with_reducible rfl
  | simp (disch := first | exact Or.inr rfl | exact Or.inl rfl | decide) only [↓but_mk, ↓but_ite, ↓but_snd_ite, ↓but_snd_mk, ↓but_snd2_ite, ↓but_snd2_mk, ↓but_cond, ite_self, outOf_live, outOf_next, outOf_ite, ↓regionOffline_but]
  | split <;> try (with_reducible have h := congrArg Prod.snd ‹(_ : _ × State) = (_, _)›; dsimp only at h; subst h)
  | with_reducible refine (each_but (fun _ _ => ?_) _ _).trans ?_
  | with_reducible refine (whenS_but (fun _ => ?_) _ _).trans ?_
  | with_reducible refine (foldl_but (fun _ _ => ?_) _ _).trans ?_
  | with_reducible refine (foldl_but2 (fun _ _ => ?_) _ _).trans ?_
theorem execRegionOffline_but {m} (hm : sub 9704064 m = true) (region : Nat) (cause : Nat) (s : State) : (outOf (execRegionOffline region cause s) s).but m = s.but m := but_mono hm (execRegionOffline_but' region cause s)

theorem execRegionReset_but' (region : Nat) (s : State) : (outOf (execRegionReset region s) s).but 9704064 = s.but 9704064 := by
  unfold execRegionReset
  repeat' first
  | with_reducible rfl
  | simp (disch := first | exact Or.inr rfl | exact Or.inl rfl | decide) only [↓but_mk, ↓but_ite, ↓but_snd_ite, ↓but_snd_mk, ↓but_snd2_ite, ↓but_snd2_mk, ↓but_cond, ite_self, outOf_live, outOf_next, outOf_ite, ↓regionResetOp_but]
  | split <;> try (with_reducible have h := congrArg Prod.snd ‹(_ : _ × State) = (_, _)›; dsimp only at h; subst h)
  | with_reducible refine (each_but (fun _ _ => ?_) _ _).trans ?_
  | with_reducible refine (whenS_but (fun _ => ?_) _ _).trans ?_
  | with_reducible refine (foldl_but (fun _ _ => ?_) _ _).trans ?_
  | with_reducible refine (foldl_but2 (fun _ _ => ?_) _ _).trans ?_
theorem execRegionReset_but {m} (hm : sub 9704064 m = true) (region : Nat) (s : State) : (outOf (execRegionReset region s) s).but m = s.but m := but_mono hm (execRegionReset_but' region s)

theorem execRegionRestored_but' (region : Nat) (failed : List Nat) (s : State) : (outOf (execRegionRestored region failed s) s).but 9704128 = s.but 9704128 := by
  unfold execRegionRestored
  repeat' first
  | with_reducible rfl
  | simp (disch := first | exact Or.inr rfl | exact Or.inl rfl | decide) only [↓but_mk, ↓but_ite, ↓but_snd_ite, ↓but_snd_mk, ↓but_snd2_ite, ↓but_snd2_mk, ↓but_cond, ite_self, outOf_live, outOf_next, outOf_ite, ↓updateDegraded_but, ↓regionBack_but]
  | split <;> try (with_reducible have h := congrArg Prod.snd ‹(_ : _ × State) = (_, _)›; dsimp only at h; subst h)
  | with_reducible refine (each_but (fun _ _ => ?_) _ _).trans ?_
  | with_reducible refine (whenS_but (fun _ => ?_) _ _).trans ?_
  | with_reducible refine (foldl_but (fun _ _ => ?_) _ _).trans ?_
  | with_reducible refine (foldl_but2 (fun _ _ => ?_) _ _).trans ?_
theorem execRegionRestored_but {m} (hm : sub 9704128 m = true) (region : Nat) (failed : List Nat) (s : State) : (outOf (execRegionRestored region failed s) s).but m = s.but m := but_mono hm (execRegionRestored_but' region failed s)

theorem shedSet_but' (new : Nat) (s : State) : (shedSet new s).but 9704068 = s.but 9704068 := by
  unfold shedSet
  repeat' first
  | with_reducible rfl
  | simp (disch := first | exact Or.inr rfl | exact Or.inl rfl | decide) only [↓but_mk, ↓but_ite, ↓but_snd_ite, ↓but_snd_mk, ↓but_snd2_ite, ↓but_snd2_mk, ↓but_cond, ite_self, outOf_live, outOf_next, outOf_ite, ↓emit_but, ↓shedTiles_but]
  | split <;> try (with_reducible have h := congrArg Prod.snd ‹(_ : _ × State) = (_, _)›; dsimp only at h; subst h)
  | with_reducible refine (each_but (fun _ _ => ?_) _ _).trans ?_
  | with_reducible refine (whenS_but (fun _ => ?_) _ _).trans ?_
  | with_reducible refine (foldl_but (fun _ _ => ?_) _ _).trans ?_
  | with_reducible refine (foldl_but2 (fun _ _ => ?_) _ _).trans ?_
theorem shedSet_but {m} (hm : sub 9704068 m = true) (new : Nat) (s : State) : (shedSet new s).but m = s.but m := but_mono hm (shedSet_but' new s)

theorem shedNow_but' (s : State) : (shedNow s).but 9704068 = s.but 9704068 := by
  unfold shedNow
  repeat' first
  | with_reducible rfl
  | simp (disch := first | exact Or.inr rfl | exact Or.inl rfl | decide) only [↓but_mk, ↓but_ite, ↓but_snd_ite, ↓but_snd_mk, ↓but_snd2_ite, ↓but_snd2_mk, ↓but_cond, ite_self, outOf_live, outOf_next, outOf_ite, ↓shedSet_but]
  | split <;> try (with_reducible have h := congrArg Prod.snd ‹(_ : _ × State) = (_, _)›; dsimp only at h; subst h)
  | with_reducible refine (each_but (fun _ _ => ?_) _ _).trans ?_
  | with_reducible refine (whenS_but (fun _ => ?_) _ _).trans ?_
  | with_reducible refine (foldl_but (fun _ _ => ?_) _ _).trans ?_
  | with_reducible refine (foldl_but2 (fun _ _ => ?_) _ _).trans ?_
theorem shedNow_but {m} (hm : sub 9704068 m = true) (s : State) : (shedNow s).but m = s.but m := but_mono hm (shedNow_but' s)

theorem shedT0_but' (s : State) : (shedT0 s).but 9704068 = s.but 9704068 := by
  unfold shedT0
  repeat' first
  | with_reducible rfl
  | simp (disch := first | exact Or.inr rfl | exact Or.inl rfl | decide) only [↓but_mk, ↓but_ite, ↓but_snd_ite, ↓but_snd_mk, ↓but_snd2_ite, ↓but_snd2_mk, ↓but_cond, ite_self, outOf_live, outOf_next, outOf_ite, ↓shedSet_but, ↓shedNow_but]
  | split <;> try (with_reducible have h := congrArg Prod.snd ‹(_ : _ × State) = (_, _)›; dsimp only at h; subst h)
  | with_reducible refine (each_but (fun _ _ => ?_) _ _).trans ?_
  | with_reducible refine (whenS_but (fun _ => ?_) _ _).trans ?_
  | with_reducible refine (foldl_but (fun _ _ => ?_) _ _).trans ?_
  | with_reducible refine (foldl_but2 (fun _ _ => ?_) _ _).trans ?_
theorem shedT0_but {m} (hm : sub 9704068 m = true) (s : State) : (shedT0 s).but m = s.but m := but_mono hm (shedT0_but' s)

theorem gateTiles_but' (s : State) : (gateTiles s).but 9704064 = s.but 9704064 := by
  unfold gateTiles
  repeat' first
  | with_reducible rfl
  | simp (disch := first | exact Or.inr rfl | exact Or.inl rfl | decide) only [↓but_mk, ↓but_ite, ↓but_snd_ite, ↓but_snd_mk, ↓but_snd2_ite, ↓but_snd2_mk, ↓but_cond, ite_self, outOf_live, outOf_next, outOf_ite, ↓shedTiles_but, ↓unshedTiles_but]
  | split <;> try (with_reducible have h := congrArg Prod.snd ‹(_ : _ × State) = (_, _)›; dsimp only at h; subst h)
  | with_reducible refine (each_but (fun _ _ => ?_) _ _).trans ?_
  | with_reducible refine (whenS_but (fun _ => ?_) _ _).trans ?_
  | with_reducible refine (foldl_but (fun _ _ => ?_) _ _).trans ?_
  | with_reducible refine (foldl_but2 (fun _ _ => ?_) _ _).trans ?_
theorem gateTiles_but {m} (hm : sub 9704064 m = true) (s : State) : (gateTiles s).but m = s.but m := but_mono hm (gateTiles_but' s)

theorem keeperOff_but' (cause : Nat) (s : State) : (keeperOff cause s).but 1573504 = s.but 1573504 := by
  unfold keeperOff
  repeat' first
  | with_reducible rfl
  | simp (disch := first | exact Or.inr rfl | exact Or.inl rfl | decide) only [↓but_mk, ↓but_ite, ↓but_snd_ite, ↓but_snd_mk, ↓but_snd2_ite, ↓but_snd2_mk, ↓but_cond, ite_self, outOf_live, outOf_next, outOf_ite, ↓emit_but]
  | split <;> try (with_reducible have h := congrArg Prod.snd ‹(_ : _ × State) = (_, _)›; dsimp only at h; subst h)
  | with_reducible refine (each_but (fun _ _ => ?_) _ _).trans ?_
  | with_reducible refine (whenS_but (fun _ => ?_) _ _).trans ?_
  | with_reducible refine (foldl_but (fun _ _ => ?_) _ _).trans ?_
  | with_reducible refine (foldl_but2 (fun _ _ => ?_) _ _).trans ?_
theorem keeperOff_but {m} (hm : sub 1573504 m = true) (cause : Nat) (s : State) : (keeperOff cause s).but m = s.but m := but_mono hm (keeperOff_but' cause s)

theorem dropOverrides_but' (occasion : Nat) (f : Nat → Bool) (s : State) : (dropOverrides occasion f s).but 9437826 = s.but 9437826 := by
  unfold dropOverrides
  repeat' first
  | with_reducible rfl
  | simp (disch := first | exact Or.inr rfl | exact Or.inl rfl | decide) only [↓but_mk, ↓but_ite, ↓but_snd_ite, ↓but_snd_mk, ↓but_snd2_ite, ↓but_snd2_mk, ↓but_cond, ite_self, outOf_live, outOf_next, outOf_ite, ↓mirrorSend_but, ↓emit_but]
  | split <;> try (with_reducible have h := congrArg Prod.snd ‹(_ : _ × State) = (_, _)›; dsimp only at h; subst h)
  | with_reducible refine (each_but (fun _ _ => ?_) _ _).trans ?_
  | with_reducible refine (whenS_but (fun _ => ?_) _ _).trans ?_
  | with_reducible refine (foldl_but (fun _ _ => ?_) _ _).trans ?_
  | with_reducible refine (foldl_but2 (fun _ _ => ?_) _ _).trans ?_
theorem dropOverrides_but {m} (hm : sub 9437826 m = true) (occasion : Nat) (f : Nat → Bool) (s : State) : (dropOverrides occasion f s).but m = s.but m := but_mono hm (dropOverrides_but' occasion f s)

theorem lpLoad_but' (s : State) : (lpLoad s).but 8192 = s.but 8192 := by
  unfold lpLoad
  repeat' first
  | with_reducible rfl
  | simp (disch := first | exact Or.inr rfl | exact Or.inl rfl | decide) only [↓but_mk, ↓but_ite, ↓but_snd_ite, ↓but_snd_mk, ↓but_snd2_ite, ↓but_snd2_mk, ↓but_cond, ite_self, outOf_live, outOf_next, outOf_ite, ↓estReset_but]
  | split <;> try (with_reducible have h := congrArg Prod.snd ‹(_ : _ × State) = (_, _)›; dsimp only at h; subst h)
  | with_reducible refine (each_but (fun _ _ => ?_) _ _).trans ?_
  | with_reducible refine (whenS_but (fun _ => ?_) _ _).trans ?_
  | with_reducible refine (foldl_but (fun _ _ => ?_) _ _).trans ?_
  | with_reducible refine (foldl_but2 (fun _ _ => ?_) _ _).trans ?_
theorem lpLoad_but {m} (hm : sub 8192 m = true) (s : State) : (lpLoad s).but m = s.but m := but_mono hm (lpLoad_but' s)

theorem releaseAll_but' (s : State) : (releaseAll s).but 1204864 = s.but 1204864 := by
  unfold releaseAll
  repeat' first
  | with_reducible rfl
  | simp (disch := first | exact Or.inr rfl | exact Or.inl rfl | decide) only [↓but_mk, ↓but_ite, ↓but_snd_ite, ↓but_snd_mk, ↓but_snd2_ite, ↓but_snd2_mk, ↓but_cond, ite_self, outOf_live, outOf_next, outOf_ite, ↓releaseIds_but, ↓swAbortAll_but]
  | split <;> try (with_reducible have h := congrArg Prod.snd ‹(_ : _ × State) = (_, _)›; dsimp only at h; subst h)
  | with_reducible refine (each_but (fun _ _ => ?_) _ _).trans ?_
  | with_reducible refine (whenS_but (fun _ => ?_) _ _).trans ?_
  | with_reducible refine (foldl_but (fun _ _ => ?_) _ _).trans ?_
  | with_reducible refine (foldl_but2 (fun _ _ => ?_) _ _).trans ?_
theorem releaseAll_but {m} (hm : sub 1204864 m = true) (s : State) : (releaseAll s).but m = s.but m := but_mono hm (releaseAll_but' s)

theorem ctlTests_but' (o : State) (w : Word) (s : State) : (ctlTests o w s).but 143360 = s.but 143360 := by
  unfold ctlTests
  repeat' first
  | with_reducible rfl
  | simp (disch := first | exact Or.inr rfl | exact Or.inl rfl | decide) only [↓but_mk, ↓but_ite, ↓but_snd_ite, ↓but_snd_mk, ↓but_snd2_ite, ↓but_snd2_mk, ↓but_cond, ite_self, outOf_live, outOf_next, outOf_ite, ↓setCh_but, ↓setBus_but]
  | split <;> try (with_reducible have h := congrArg Prod.snd ‹(_ : _ × State) = (_, _)›; dsimp only at h; subst h)
  | with_reducible refine (each_but (fun _ _ => ?_) _ _).trans ?_
  | with_reducible refine (whenS_but (fun _ => ?_) _ _).trans ?_
  | with_reducible refine (foldl_but (fun _ _ => ?_) _ _).trans ?_
  | with_reducible refine (foldl_but2 (fun _ _ => ?_) _ _).trans ?_
theorem ctlTests_but {m} (hm : sub 143360 m = true) (o : State) (w : Word) (s : State) : (ctlTests o w s).but m = s.but m := but_mono hm (ctlTests_but' o w s)

theorem ctlResetOp_but' (cause : Nat) (s : State) : (ctlResetOp cause s).but 8605921922 = s.but 8605921922 := by
  unfold ctlResetOp
  repeat' first
  | with_reducible rfl
  | simp (disch := first | exact Or.inr rfl | exact Or.inl rfl | decide) only [↓but_mk, ↓but_ite, ↓but_snd_ite, ↓but_snd_mk, ↓but_snd2_ite, ↓but_snd2_mk, ↓but_cond, ite_self, outOf_live, outOf_next, outOf_ite, ↓releaseAll_but, ↓freshWord_but, ↓passRec_but, ↓ctlTests_but, ↓busStart_but, ↓lpLoad_but, ↓emit_but, ↓dropOverrides_but, ↓svFlushLog_but]
  | split <;> try (with_reducible have h := congrArg Prod.snd ‹(_ : _ × State) = (_, _)›; dsimp only at h; subst h)
  | with_reducible refine (each_but (fun _ _ => ?_) _ _).trans ?_
  | with_reducible refine (whenS_but (fun _ => ?_) _ _).trans ?_
  | with_reducible refine (foldl_but (fun _ _ => ?_) _ _).trans ?_
  | with_reducible refine (foldl_but2 (fun _ _ => ?_) _ _).trans ?_
theorem ctlResetOp_but {m} (hm : sub 8605921922 m = true) (cause : Nat) (s : State) : (ctlResetOp cause s).but m = s.but m := but_mono hm (ctlResetOp_but' cause s)

theorem hstResetOp_but' (s : State) : (hstResetOp s).but 3147392 = s.but 3147392 := by
  unfold hstResetOp
  repeat' first
  | with_reducible rfl
  | simp (disch := first | exact Or.inr rfl | exact Or.inl rfl | decide) only [↓but_mk, ↓but_ite, ↓but_snd_ite, ↓but_snd_mk, ↓but_snd2_ite, ↓but_snd2_mk, ↓but_cond, ite_self, outOf_live, outOf_next, outOf_ite, ↓emit_but]
  | split <;> try (with_reducible have h := congrArg Prod.snd ‹(_ : _ × State) = (_, _)›; dsimp only at h; subst h)
  | with_reducible refine (each_but (fun _ _ => ?_) _ _).trans ?_
  | with_reducible refine (whenS_but (fun _ => ?_) _ _).trans ?_
  | with_reducible refine (foldl_but (fun _ _ => ?_) _ _).trans ?_
  | with_reducible refine (foldl_but2 (fun _ _ => ?_) _ _).trans ?_
theorem hstResetOp_but {m} (hm : sub 3147392 m = true) (s : State) : (hstResetOp s).but m = s.but m := but_mono hm (hstResetOp_but' s)

theorem supervisorRestartOp_but' (s : State) : (supervisorRestartOp s).but 9998978 = s.but 9998978 := by
  unfold supervisorRestartOp
  repeat' first
  | with_reducible rfl
  | simp (disch := first | exact Or.inr rfl | exact Or.inl rfl | decide) only [↓but_mk, ↓but_ite, ↓but_snd_ite, ↓but_snd_mk, ↓but_snd2_ite, ↓but_snd2_mk, ↓but_cond, ite_self, outOf_live, outOf_next, outOf_ite, ↓svFlushLog_but, ↓settleMsgs_but, ↓dropOwner_but]
  | split <;> try (with_reducible have h := congrArg Prod.snd ‹(_ : _ × State) = (_, _)›; dsimp only at h; subst h)
  | with_reducible refine (each_but (fun _ _ => ?_) _ _).trans ?_
  | with_reducible refine (whenS_but (fun _ => ?_) _ _).trans ?_
  | with_reducible refine (foldl_but (fun _ _ => ?_) _ _).trans ?_
  | with_reducible refine (foldl_but2 (fun _ _ => ?_) _ _).trans ?_
theorem supervisorRestartOp_but {m} (hm : sub 9998978 m = true) (s : State) : (supervisorRestartOp s).but m = s.but m := but_mono hm (supervisorRestartOp_but' s)

theorem blkStop_but' (kind : Nat) (s : State) : (blkStop kind s).but 525440 = s.but 525440 := by
  unfold blkStop
  repeat' first
  | with_reducible rfl
  | simp (disch := first | exact Or.inr rfl | exact Or.inl rfl | decide) only [↓but_mk, ↓but_ite, ↓but_snd_ite, ↓but_snd_mk, ↓but_snd2_ite, ↓but_snd2_mk, ↓but_cond, ite_self, outOf_live, outOf_next, outOf_ite]
  | split <;> try (with_reducible have h := congrArg Prod.snd ‹(_ : _ × State) = (_, _)›; dsimp only at h; subst h)
  | with_reducible refine (each_but (fun _ _ => ?_) _ _).trans ?_
  | with_reducible refine (whenS_but (fun _ => ?_) _ _).trans ?_
  | with_reducible refine (foldl_but (fun _ _ => ?_) _ _).trans ?_
  | with_reducible refine (foldl_but2 (fun _ _ => ?_) _ _).trans ?_
theorem blkStop_but {m} (hm : sub 525440 m = true) (kind : Nat) (s : State) : (blkStop kind s).but m = s.but m := but_mono hm (blkStop_but' kind s)

theorem blockResetOp_but' (kind : Nat) (index : Nat) (pass : Bool) (s : State) : (blockResetOp kind index pass s).but 1574530 = s.but 1574530 := by
  unfold blockResetOp
  repeat' first
  | with_reducible rfl
  | simp (disch := first | exact Or.inr rfl | exact Or.inl rfl | decide) only [↓but_mk, ↓but_ite, ↓but_snd_ite, ↓but_snd_mk, ↓but_snd2_ite, ↓but_snd2_mk, ↓but_cond, ite_self, outOf_live, outOf_next, outOf_ite, ↓blkStop_but, ↓emit_but]
  | split <;> try (with_reducible have h := congrArg Prod.snd ‹(_ : _ × State) = (_, _)›; dsimp only at h; subst h)
  | with_reducible refine (each_but (fun _ _ => ?_) _ _).trans ?_
  | with_reducible refine (whenS_but (fun _ => ?_) _ _).trans ?_
  | with_reducible refine (foldl_but (fun _ _ => ?_) _ _).trans ?_
  | with_reducible refine (foldl_but2 (fun _ _ => ?_) _ _).trans ?_
theorem blockResetOp_but {m} (hm : sub 1574530 m = true) (kind : Nat) (index : Nat) (pass : Bool) (s : State) : (blockResetOp kind index pass s).but m = s.but m := but_mono hm (blockResetOp_but' kind index pass s)

theorem blockResume_but' (s : State) : (blockResume s).but 1574530 = s.but 1574530 := by
  unfold blockResume
  repeat' first
  | with_reducible rfl
  | simp (disch := first | exact Or.inr rfl | exact Or.inl rfl | decide) only [↓but_mk, ↓but_ite, ↓but_snd_ite, ↓but_snd_mk, ↓but_snd2_ite, ↓but_snd2_mk, ↓but_cond, ite_self, outOf_live, outOf_next, outOf_ite, ↓passRec_but]
  | split <;> try (with_reducible have h := congrArg Prod.snd ‹(_ : _ × State) = (_, _)›; dsimp only at h; subst h)
  | with_reducible refine (each_but (fun _ _ => ?_) _ _).trans ?_
  | with_reducible refine (whenS_but (fun _ => ?_) _ _).trans ?_
  | with_reducible refine (foldl_but (fun _ _ => ?_) _ _).trans ?_
  | with_reducible refine (foldl_but2 (fun _ _ => ?_) _ _).trans ?_
theorem blockResume_but {m} (hm : sub 1574530 m = true) (s : State) : (blockResume s).but m = s.but m := but_mono hm (blockResume_but' s)

theorem row4Reset_but' (s : State) : (row4Reset s).but 32768 = s.but 32768 := by
  unfold row4Reset
  repeat' first
  | with_reducible rfl
  | simp (disch := first | exact Or.inr rfl | exact Or.inl rfl | decide) only [↓but_mk, ↓but_ite, ↓but_snd_ite, ↓but_snd_mk, ↓but_snd2_ite, ↓but_snd2_mk, ↓but_cond, ite_self, outOf_live, outOf_next, outOf_ite, ↓setRow_but]
  | split <;> try (with_reducible have h := congrArg Prod.snd ‹(_ : _ × State) = (_, _)›; dsimp only at h; subst h)
  | with_reducible refine (each_but (fun _ _ => ?_) _ _).trans ?_
  | with_reducible refine (whenS_but (fun _ => ?_) _ _).trans ?_
  | with_reducible refine (foldl_but (fun _ _ => ?_) _ _).trans ?_
  | with_reducible refine (foldl_but2 (fun _ _ => ?_) _ _).trans ?_
theorem row4Reset_but {m} (hm : sub 32768 m = true) (s : State) : (row4Reset s).but m = s.but m := but_mono hm (row4Reset_but' s)

theorem clearRings_but' (s : State) : (clearRings s).but 16777216 = s.but 16777216 := by
  unfold clearRings
  repeat' first
  | with_reducible rfl
  | simp (disch := first | exact Or.inr rfl | exact Or.inl rfl | decide) only [↓but_mk, ↓but_ite, ↓but_snd_ite, ↓but_snd_mk, ↓but_snd2_ite, ↓but_snd2_mk, ↓but_cond, ite_self, outOf_live, outOf_next, outOf_ite]
  | split <;> try (with_reducible have h := congrArg Prod.snd ‹(_ : _ × State) = (_, _)›; dsimp only at h; subst h)
  | with_reducible refine (each_but (fun _ _ => ?_) _ _).trans ?_
  | with_reducible refine (whenS_but (fun _ => ?_) _ _).trans ?_
  | with_reducible refine (foldl_but (fun _ _ => ?_) _ _).trans ?_
  | with_reducible refine (foldl_but2 (fun _ _ => ?_) _ _).trans ?_
theorem clearRings_but {m} (hm : sub 16777216 m = true) (s : State) : (clearRings s).but m = s.but m := but_mono hm (clearRings_but' s)

theorem flashBack_but' (s : State) : (flashBack s).but 3200 = s.but 3200 := by
  unfold flashBack
  repeat' first
  | with_reducible rfl
  | simp (disch := first | exact Or.inr rfl | exact Or.inl rfl | decide) only [↓but_mk, ↓but_ite, ↓but_snd_ite, ↓but_snd_mk, ↓but_snd2_ite, ↓but_snd2_mk, ↓but_cond, ite_self, outOf_live, outOf_next, outOf_ite]
  | split <;> try (with_reducible have h := congrArg Prod.snd ‹(_ : _ × State) = (_, _)›; dsimp only at h; subst h)
  | with_reducible refine (each_but (fun _ _ => ?_) _ _).trans ?_
  | with_reducible refine (whenS_but (fun _ => ?_) _ _).trans ?_
  | with_reducible refine (foldl_but (fun _ _ => ?_) _ _).trans ?_
  | with_reducible refine (foldl_but2 (fun _ _ => ?_) _ _).trans ?_
theorem flashBack_but {m} (hm : sub 3200 m = true) (s : State) : (flashBack s).but m = s.but m := but_mono hm (flashBack_but' s)

theorem slotsCut_but' (s : State) : (slotsCut s).but 2048 = s.but 2048 := by
  unfold slotsCut
  repeat' first
  | with_reducible rfl
  | simp (disch := first | exact Or.inr rfl | exact Or.inl rfl | decide) only [↓but_mk, ↓but_ite, ↓but_snd_ite, ↓but_snd_mk, ↓but_snd2_ite, ↓but_snd2_mk, ↓but_cond, ite_self, outOf_live, outOf_next, outOf_ite]
  | split <;> try (with_reducible have h := congrArg Prod.snd ‹(_ : _ × State) = (_, _)›; dsimp only at h; subst h)
  | with_reducible refine (each_but (fun _ _ => ?_) _ _).trans ?_
  | with_reducible refine (whenS_but (fun _ => ?_) _ _).trans ?_
  | with_reducible refine (foldl_but (fun _ _ => ?_) _ _).trans ?_
  | with_reducible refine (foldl_but2 (fun _ _ => ?_) _ _).trans ?_
theorem slotsCut_but {m} (hm : sub 2048 m = true) (s : State) : (slotsCut s).but m = s.but m := but_mono hm (slotsCut_but' s)

theorem bankCut_but' (s : State) : (bankCut s).but 2048 = s.but 2048 := by
  unfold bankCut
  repeat' first
  | with_reducible rfl
  | simp (disch := first | exact Or.inr rfl | exact Or.inl rfl | decide) only [↓but_mk, ↓but_ite, ↓but_snd_ite, ↓but_snd_mk, ↓but_snd2_ite, ↓but_snd2_mk, ↓but_cond, ite_self, outOf_live, outOf_next, outOf_ite]
  | split <;> try (with_reducible have h := congrArg Prod.snd ‹(_ : _ × State) = (_, _)›; dsimp only at h; subst h)
  | with_reducible refine (each_but (fun _ _ => ?_) _ _).trans ?_
  | with_reducible refine (whenS_but (fun _ => ?_) _ _).trans ?_
  | with_reducible refine (foldl_but (fun _ _ => ?_) _ _).trans ?_
  | with_reducible refine (foldl_but2 (fun _ _ => ?_) _ _).trans ?_
theorem bankCut_but {m} (hm : sub 2048 m = true) (s : State) : (bankCut s).but m = s.but m := but_mono hm (bankCut_but' s)

theorem flashCut_but' (cause : Nat) (s : State) : (flashCut cause s).but 3200 = s.but 3200 := by
  unfold flashCut
  repeat' first
  | with_reducible rfl
  | simp (disch := first | exact Or.inr rfl | exact Or.inl rfl | decide) only [↓but_mk, ↓but_ite, ↓but_snd_ite, ↓but_snd_mk, ↓but_snd2_ite, ↓but_snd2_mk, ↓but_cond, ite_self, outOf_live, outOf_next, outOf_ite, ↓bankCut_but, ↓flashBack_but, ↓slotsCut_but]
  | split <;> try (with_reducible have h := congrArg Prod.snd ‹(_ : _ × State) = (_, _)›; dsimp only at h; subst h)
  | with_reducible refine (each_but (fun _ _ => ?_) _ _).trans ?_
  | with_reducible refine (whenS_but (fun _ => ?_) _ _).trans ?_
  | with_reducible refine (foldl_but (fun _ _ => ?_) _ _).trans ?_
  | with_reducible refine (foldl_but2 (fun _ _ => ?_) _ _).trans ?_
theorem flashCut_but {m} (hm : sub 3200 m = true) (cause : Nat) (s : State) : (flashCut cause s).but m = s.but m := but_mono hm (flashCut_but' cause s)

theorem resetChip_but' (cause : Nat) (s : State) : (resetChip cause s).but 41910014 = s.but 41910014 := by
  unfold resetChip
  repeat' first
  | with_reducible rfl
  | simp (disch := first | exact Or.inr rfl | exact Or.inl rfl | decide) only [↓but_mk, ↓but_ite, ↓but_snd_ite, ↓but_snd_mk, ↓but_snd2_ite, ↓but_snd2_mk, ↓but_cond, ite_self, outOf_live, outOf_next, outOf_ite, ↓flashCut_but]
  | split <;> try (with_reducible have h := congrArg Prod.snd ‹(_ : _ × State) = (_, _)›; dsimp only at h; subst h)
  | with_reducible refine (each_but (fun _ _ => ?_) _ _).trans ?_
  | with_reducible refine (whenS_but (fun _ => ?_) _ _).trans ?_
  | with_reducible refine (foldl_but (fun _ _ => ?_) _ _).trans ?_
  | with_reducible refine (foldl_but2 (fun _ _ => ?_) _ _).trans ?_
theorem resetChip_but {m} (hm : sub 41910014 m = true) (cause : Nat) (s : State) : (resetChip cause s).but m = s.but m := but_mono hm (resetChip_but' cause s)

theorem chipReset_but' (cause : Nat) (s : State) : (chipReset cause s).but 58719998 = s.but 58719998 := by
  unfold chipReset
  repeat' first
  | with_reducible rfl
  | simp (disch := first | exact Or.inr rfl | exact Or.inl rfl | decide) only [↓but_mk, ↓but_ite, ↓but_snd_ite, ↓but_snd_mk, ↓but_snd2_ite, ↓but_snd2_mk, ↓but_cond, ite_self, outOf_live, outOf_next, outOf_ite, ↓row4Reset_but, ↓resetChip_but, ↓clearRings_but, ↓releaseAll_but]
  | split <;> try (with_reducible have h := congrArg Prod.snd ‹(_ : _ × State) = (_, _)›; dsimp only at h; subst h)
  | with_reducible refine (each_but (fun _ _ => ?_) _ _).trans ?_
  | with_reducible refine (whenS_but (fun _ => ?_) _ _).trans ?_
  | with_reducible refine (foldl_but (fun _ _ => ?_) _ _).trans ?_
  | with_reducible refine (foldl_but2 (fun _ _ => ?_) _ _).trans ?_
theorem chipReset_but {m} (hm : sub 58719998 m = true) (cause : Nat) (s : State) : (chipReset cause s).but m = s.but m := but_mono hm (chipReset_but' cause s)

theorem loseVolatile_but' (s : State) : (loseVolatile s).but 151257472 = s.but 151257472 := by
  unfold loseVolatile
  repeat' first
  | with_reducible rfl
  | simp (disch := first | exact Or.inr rfl | exact Or.inl rfl | decide) only [↓but_mk, ↓but_ite, ↓but_snd_ite, ↓but_snd_mk, ↓but_snd2_ite, ↓but_snd2_mk, ↓but_cond, ite_self, outOf_live, outOf_next, outOf_ite]
  | split <;> try (with_reducible have h := congrArg Prod.snd ‹(_ : _ × State) = (_, _)›; dsimp only at h; subst h)
  | with_reducible refine (each_but (fun _ _ => ?_) _ _).trans ?_
  | with_reducible refine (whenS_but (fun _ => ?_) _ _).trans ?_
  | with_reducible refine (foldl_but (fun _ _ => ?_) _ _).trans ?_
  | with_reducible refine (foldl_but2 (fun _ _ => ?_) _ _).trans ?_
theorem loseVolatile_but {m} (hm : sub 151257472 m = true) (s : State) : (loseVolatile s).but m = s.but m := but_mono hm (loseVolatile_but' s)

theorem brownOut_but' (s : State) : (brownOut s).but 192937982 = s.but 192937982 := by
  unfold brownOut
  repeat' first
  | with_reducible rfl
  | simp (disch := first | exact Or.inr rfl | exact Or.inl rfl | decide) only [↓but_mk, ↓but_ite, ↓but_snd_ite, ↓but_snd_mk, ↓but_snd2_ite, ↓but_snd2_mk, ↓but_cond, ite_self, outOf_live, outOf_next, outOf_ite, ↓loseVolatile_but, ↓row4Reset_but, ↓resetChip_but, ↓releaseAll_but]
  | split <;> try (with_reducible have h := congrArg Prod.snd ‹(_ : _ × State) = (_, _)›; dsimp only at h; subst h)
  | with_reducible refine (each_but (fun _ _ => ?_) _ _).trans ?_
  | with_reducible refine (whenS_but (fun _ => ?_) _ _).trans ?_
  | with_reducible refine (foldl_but (fun _ _ => ?_) _ _).trans ?_
  | with_reducible refine (foldl_but2 (fun _ _ => ?_) _ _).trans ?_
theorem brownOut_but {m} (hm : sub 192937982 m = true) (s : State) : (brownOut s).but m = s.but m := but_mono hm (brownOut_but' s)

theorem powerOn_but' (p : PorInfo) (s : State) : (powerOn p s).but 192937982 = s.but 192937982 := by
  unfold powerOn
  repeat' first
  | with_reducible rfl
  | simp (disch := first | exact Or.inr rfl | exact Or.inl rfl | decide) only [↓but_mk, ↓but_ite, ↓but_snd_ite, ↓but_snd_mk, ↓but_snd2_ite, ↓but_snd2_mk, ↓but_cond, ite_self, outOf_live, outOf_next, outOf_ite, ↓svPowerOn_but, ↓loseVolatile_but, ↓resetChip_but, ↓releaseAll_but]
  | split <;> try (with_reducible have h := congrArg Prod.snd ‹(_ : _ × State) = (_, _)›; dsimp only at h; subst h)
  | with_reducible refine (each_but (fun _ _ => ?_) _ _).trans ?_
  | with_reducible refine (whenS_but (fun _ => ?_) _ _).trans ?_
  | with_reducible refine (foldl_but (fun _ _ => ?_) _ _).trans ?_
  | with_reducible refine (foldl_but2 (fun _ _ => ?_) _ _).trans ?_
theorem powerOn_but {m} (hm : sub 192937982 m = true) (p : PorInfo) (s : State) : (powerOn p s).but m = s.but m := but_mono hm (powerOn_but' p s)

end Sys2Proof.Machine
end

