-- ==== Sys2Proof/Laws/FrameRed.lean ====
section
/-! SUPPORT. What each function can change (recorder, redundancy and power): it leaves every part of State outside its mask as it was. -/

set_option linter.all false

namespace Sys2Proof.Machine

theorem dropReport_but' (t : Nat) (s : State) : (dropReport t s).but 1049216 = s.but 1049216 := by
  unfold dropReport
  repeat' first
  | with_reducible rfl
  | simp (disch := first | exact Or.inr rfl | exact Or.inl rfl | decide) only [↓but_mk, ↓but_ite, ↓but_snd_ite, ↓but_snd_mk, ↓but_snd2_ite, ↓but_snd2_mk, ↓but_cond, ite_self, outOf_live, outOf_next, outOf_ite, ↓emit_but]
  | split <;> try (with_reducible have h := congrArg Prod.snd ‹(_ : _ × State) = (_, _)›; dsimp only at h; subst h)
  | with_reducible refine (each_but (fun _ _ => ?_) _ _).trans ?_
  | with_reducible refine (whenS_but (fun _ => ?_) _ _).trans ?_
  | with_reducible refine (foldl_but (fun _ _ => ?_) _ _).trans ?_
  | with_reducible refine (foldl_but2 (fun _ _ => ?_) _ _).trans ?_
theorem dropReport_but {m} (hm : sub 1049216 m = true) (t : Nat) (s : State) : (dropReport t s).but m = s.but m := but_mono hm (dropReport_but' t s)

theorem dropsOp_but' (s : State) : (dropsOp s).but 68158080 = s.but 68158080 := by
  unfold dropsOp
  repeat' first
  | with_reducible rfl
  | simp (disch := first | exact Or.inr rfl | exact Or.inl rfl | decide) only [↓but_mk, ↓but_ite, ↓but_snd_ite, ↓but_snd_mk, ↓but_snd2_ite, ↓but_snd2_mk, ↓but_cond, ite_self, outOf_live, outOf_next, outOf_ite, ↓dropReport_but, ↓clockTo_but]
  | split <;> try (with_reducible have h := congrArg Prod.snd ‹(_ : _ × State) = (_, _)›; dsimp only at h; subst h)
  | with_reducible refine (each_but (fun _ _ => ?_) _ _).trans ?_
  | with_reducible refine (whenS_but (fun _ => ?_) _ _).trans ?_
  | with_reducible refine (foldl_but (fun _ _ => ?_) _ _).trans ?_
  | with_reducible refine (foldl_but2 (fun _ _ => ?_) _ _).trans ?_
theorem dropsOp_but {m} (hm : sub 68158080 m = true) (s : State) : (dropsOp s).but m = s.but m := but_mono hm (dropsOp_but' s)

theorem execEventsDropped_but' (s : State) : (outOf (execEventsDropped s) s).but 68158080 = s.but 68158080 := by
  unfold execEventsDropped
  repeat' first
  | with_reducible rfl
  | simp (disch := first | exact Or.inr rfl | exact Or.inl rfl | decide) only [↓but_mk, ↓but_ite, ↓but_snd_ite, ↓but_snd_mk, ↓but_snd2_ite, ↓but_snd2_mk, ↓but_cond, ite_self, outOf_live, outOf_next, outOf_ite, ↓dropsOp_but]
  | split <;> try (with_reducible have h := congrArg Prod.snd ‹(_ : _ × State) = (_, _)›; dsimp only at h; subst h)
  | with_reducible refine (each_but (fun _ _ => ?_) _ _).trans ?_
  | with_reducible refine (whenS_but (fun _ => ?_) _ _).trans ?_
  | with_reducible refine (foldl_but (fun _ _ => ?_) _ _).trans ?_
  | with_reducible refine (foldl_but2 (fun _ _ => ?_) _ _).trans ?_
theorem execEventsDropped_but {m} (hm : sub 68158080 m = true) (s : State) : (outOf (execEventsDropped s) s).but m = s.but m := but_mono hm (execEventsDropped_but' s)

theorem execPersistentProgram_but' (s : State) : (outOf (execPersistentProgram s) s).but 128 = s.but 128 := by
  unfold execPersistentProgram
  repeat' first
  | with_reducible rfl
  | simp (disch := first | exact Or.inr rfl | exact Or.inl rfl | decide) only [↓but_mk, ↓but_ite, ↓but_snd_ite, ↓but_snd_mk, ↓but_snd2_ite, ↓but_snd2_mk, ↓but_cond, ite_self, outOf_live, outOf_next, outOf_ite, ↓programStaging_but]
  | split <;> try (with_reducible have h := congrArg Prod.snd ‹(_ : _ × State) = (_, _)›; dsimp only at h; subst h)
  | with_reducible refine (each_but (fun _ _ => ?_) _ _).trans ?_
  | with_reducible refine (whenS_but (fun _ => ?_) _ _).trans ?_
  | with_reducible refine (foldl_but (fun _ _ => ?_) _ _).trans ?_
  | with_reducible refine (foldl_but2 (fun _ _ => ?_) _ _).trans ?_
theorem execPersistentProgram_but {m} (hm : sub 128 m = true) (s : State) : (outOf (execPersistentProgram s) s).but m = s.but m := but_mono hm (execPersistentProgram_but' s)

theorem pageLoad_but' (page : Nat) (s : State) : (pageLoad page s).but 128 = s.but 128 := by
  unfold pageLoad
  repeat' first
  | with_reducible rfl
  | simp (disch := first | exact Or.inr rfl | exact Or.inl rfl | decide) only [↓but_mk, ↓but_ite, ↓but_snd_ite, ↓but_snd_mk, ↓but_snd2_ite, ↓but_snd2_mk, ↓but_cond, ite_self, outOf_live, outOf_next, outOf_ite]
  | split <;> try (with_reducible have h := congrArg Prod.snd ‹(_ : _ × State) = (_, _)›; dsimp only at h; subst h)
  | with_reducible refine (each_but (fun _ _ => ?_) _ _).trans ?_
  | with_reducible refine (whenS_but (fun _ => ?_) _ _).trans ?_
  | with_reducible refine (foldl_but (fun _ _ => ?_) _ _).trans ?_
  | with_reducible refine (foldl_but2 (fun _ _ => ?_) _ _).trans ?_
theorem pageLoad_but {m} (hm : sub 128 m = true) (page : Nat) (s : State) : (pageLoad page s).but m = s.but m := but_mono hm (pageLoad_but' page s)

theorem execPstPageLoad_but' (page : Nat) (s : State) : (outOf (execPstPageLoad page s) s).but 128 = s.but 128 := by
  unfold execPstPageLoad
  repeat' first
  | with_reducible rfl
  | simp (disch := first | exact Or.inr rfl | exact Or.inl rfl | decide) only [↓but_mk, ↓but_ite, ↓but_snd_ite, ↓but_snd_mk, ↓but_snd2_ite, ↓but_snd2_mk, ↓but_cond, ite_self, outOf_live, outOf_next, outOf_ite, ↓pageLoad_but]
  | split <;> try (with_reducible have h := congrArg Prod.snd ‹(_ : _ × State) = (_, _)›; dsimp only at h; subst h)
  | with_reducible refine (each_but (fun _ _ => ?_) _ _).trans ?_
  | with_reducible refine (whenS_but (fun _ => ?_) _ _).trans ?_
  | with_reducible refine (foldl_but (fun _ _ => ?_) _ _).trans ?_
  | with_reducible refine (foldl_but2 (fun _ _ => ?_) _ _).trans ?_
theorem execPstPageLoad_but {m} (hm : sub 128 m = true) (page : Nat) (s : State) : (outOf (execPstPageLoad page s) s).but m = s.but m := but_mono hm (execPstPageLoad_but' page s)

theorem wallSetOp_but' (peer : Nat) (s : State) : (wallSetOp peer s).but 1049472 = s.but 1049472 := by
  unfold wallSetOp
  repeat' first
  | with_reducible rfl
  | simp (disch := first | exact Or.inr rfl | exact Or.inl rfl | decide) only [↓but_mk, ↓but_ite, ↓but_snd_ite, ↓but_snd_mk, ↓but_snd2_ite, ↓but_snd2_mk, ↓but_cond, ite_self, outOf_live, outOf_next, outOf_ite, ↓emitRec_but]
  | split <;> try (with_reducible have h := congrArg Prod.snd ‹(_ : _ × State) = (_, _)›; dsimp only at h; subst h)
  | with_reducible refine (each_but (fun _ _ => ?_) _ _).trans ?_
  | with_reducible refine (whenS_but (fun _ => ?_) _ _).trans ?_
  | with_reducible refine (foldl_but (fun _ _ => ?_) _ _).trans ?_
  | with_reducible refine (foldl_but2 (fun _ _ => ?_) _ _).trans ?_
theorem wallSetOp_but {m} (hm : sub 1049472 m = true) (peer : Nat) (s : State) : (wallSetOp peer s).but m = s.but m := but_mono hm (wallSetOp_but' peer s)

theorem wallSlewOp_but' (peer : Nat) (s : State) : (wallSlewOp peer s).but 1049472 = s.but 1049472 := by
  unfold wallSlewOp
  repeat' first
  | with_reducible rfl
  | simp (disch := first | exact Or.inr rfl | exact Or.inl rfl | decide) only [↓but_mk, ↓but_ite, ↓but_snd_ite, ↓but_snd_mk, ↓but_snd2_ite, ↓but_snd2_mk, ↓but_cond, ite_self, outOf_live, outOf_next, outOf_ite, ↓wallSetOp_but]
  | split <;> try (with_reducible have h := congrArg Prod.snd ‹(_ : _ × State) = (_, _)›; dsimp only at h; subst h)
  | with_reducible refine (each_but (fun _ _ => ?_) _ _).trans ?_
  | with_reducible refine (whenS_but (fun _ => ?_) _ _).trans ?_
  | with_reducible refine (foldl_but (fun _ _ => ?_) _ _).trans ?_
  | with_reducible refine (foldl_but2 (fun _ _ => ?_) _ _).trans ?_
theorem wallSlewOp_but {m} (hm : sub 1049472 m = true) (peer : Nat) (s : State) : (wallSlewOp peer s).but m = s.but m := but_mono hm (wallSlewOp_but' peer s)

theorem wallSlewedOp_but' (s : State) : (wallSlewedOp s).but 68158336 = s.but 68158336 := by
  unfold wallSlewedOp
  repeat' first
  | with_reducible rfl
  | simp (disch := first | exact Or.inr rfl | exact Or.inl rfl | decide) only [↓but_mk, ↓but_ite, ↓but_snd_ite, ↓but_snd_mk, ↓but_snd2_ite, ↓but_snd2_mk, ↓but_cond, ite_self, outOf_live, outOf_next, outOf_ite, ↓clockTo_but, ↓emit_but]
  | split <;> try (with_reducible have h := congrArg Prod.snd ‹(_ : _ × State) = (_, _)›; dsimp only at h; subst h)
  | with_reducible refine (each_but (fun _ _ => ?_) _ _).trans ?_
  | with_reducible refine (whenS_but (fun _ => ?_) _ _).trans ?_
  | with_reducible refine (foldl_but (fun _ _ => ?_) _ _).trans ?_
  | with_reducible refine (foldl_but2 (fun _ _ => ?_) _ _).trans ?_
theorem wallSlewedOp_but {m} (hm : sub 68158336 m = true) (s : State) : (wallSlewedOp s).but m = s.but m := but_mono hm (wallSlewedOp_but' s)

theorem execWallSet_but' (peer : Nat) (s : State) : (outOf (execWallSet peer s) s).but 1049472 = s.but 1049472 := by
  unfold execWallSet
  repeat' first
  | with_reducible rfl
  | simp (disch := first | exact Or.inr rfl | exact Or.inl rfl | decide) only [↓but_mk, ↓but_ite, ↓but_snd_ite, ↓but_snd_mk, ↓but_snd2_ite, ↓but_snd2_mk, ↓but_cond, ite_self, outOf_live, outOf_next, outOf_ite, ↓wallSetOp_but]
  | split <;> try (with_reducible have h := congrArg Prod.snd ‹(_ : _ × State) = (_, _)›; dsimp only at h; subst h)
  | with_reducible refine (each_but (fun _ _ => ?_) _ _).trans ?_
  | with_reducible refine (whenS_but (fun _ => ?_) _ _).trans ?_
  | with_reducible refine (foldl_but (fun _ _ => ?_) _ _).trans ?_
  | with_reducible refine (foldl_but2 (fun _ _ => ?_) _ _).trans ?_
theorem execWallSet_but {m} (hm : sub 1049472 m = true) (peer : Nat) (s : State) : (outOf (execWallSet peer s) s).but m = s.but m := but_mono hm (execWallSet_but' peer s)

theorem execWallSlew_but' (peer : Nat) (s : State) : (outOf (execWallSlew peer s) s).but 1049472 = s.but 1049472 := by
  unfold execWallSlew
  repeat' first
  | with_reducible rfl
  | simp (disch := first | exact Or.inr rfl | exact Or.inl rfl | decide) only [↓but_mk, ↓but_ite, ↓but_snd_ite, ↓but_snd_mk, ↓but_snd2_ite, ↓but_snd2_mk, ↓but_cond, ite_self, outOf_live, outOf_next, outOf_ite, ↓wallSlewOp_but]
  | split <;> try (with_reducible have h := congrArg Prod.snd ‹(_ : _ × State) = (_, _)›; dsimp only at h; subst h)
  | with_reducible refine (each_but (fun _ _ => ?_) _ _).trans ?_
  | with_reducible refine (whenS_but (fun _ => ?_) _ _).trans ?_
  | with_reducible refine (foldl_but (fun _ _ => ?_) _ _).trans ?_
  | with_reducible refine (foldl_but2 (fun _ _ => ?_) _ _).trans ?_
theorem execWallSlew_but {m} (hm : sub 1049472 m = true) (peer : Nat) (s : State) : (outOf (execWallSlew peer s) s).but m = s.but m := but_mono hm (execWallSlew_but' peer s)

theorem execWallSlewed_but' (s : State) : (outOf (execWallSlewed s) s).but 68158336 = s.but 68158336 := by
  unfold execWallSlewed
  repeat' first
  | with_reducible rfl
  | simp (disch := first | exact Or.inr rfl | exact Or.inl rfl | decide) only [↓but_mk, ↓but_ite, ↓but_snd_ite, ↓but_snd_mk, ↓but_snd2_ite, ↓but_snd2_mk, ↓but_cond, ite_self, outOf_live, outOf_next, outOf_ite, ↓wallSlewedOp_but]
  | split <;> try (with_reducible have h := congrArg Prod.snd ‹(_ : _ × State) = (_, _)›; dsimp only at h; subst h)
  | with_reducible refine (each_but (fun _ _ => ?_) _ _).trans ?_
  | with_reducible refine (whenS_but (fun _ => ?_) _ _).trans ?_
  | with_reducible refine (foldl_but (fun _ _ => ?_) _ _).trans ?_
  | with_reducible refine (foldl_but2 (fun _ _ => ?_) _ _).trans ?_
theorem execWallSlewed_but {m} (hm : sub 68158336 m = true) (s : State) : (outOf (execWallSlewed s) s).but m = s.but m := but_mono hm (execWallSlewed_but' s)

theorem exportOp_but' (p : Nat) (s : State) : (exportOp p s).but 9437824 = s.but 9437824 := by
  unfold exportOp
  repeat' first
  | with_reducible rfl
  | simp (disch := first | exact Or.inr rfl | exact Or.inl rfl | decide) only [↓but_mk, ↓but_ite, ↓but_snd_ite, ↓but_snd_mk, ↓but_snd2_ite, ↓but_snd2_mk, ↓but_cond, ite_self, outOf_live, outOf_next, outOf_ite, ↓request_but, ↓emit_but]
  | split <;> try (with_reducible have h := congrArg Prod.snd ‹(_ : _ × State) = (_, _)›; dsimp only at h; subst h)
  | with_reducible refine (each_but (fun _ _ => ?_) _ _).trans ?_
  | with_reducible refine (whenS_but (fun _ => ?_) _ _).trans ?_
  | with_reducible refine (foldl_but (fun _ _ => ?_) _ _).trans ?_
  | with_reducible refine (foldl_but2 (fun _ _ => ?_) _ _).trans ?_
theorem exportOp_but {m} (hm : sub 9437824 m = true) (p : Nat) (s : State) : (exportOp p s).but m = s.but m := but_mono hm (exportOp_but' p s)

theorem execEventExport_but' (peer : Nat) (s : State) : (outOf (execEventExport peer s) s).but 9437824 = s.but 9437824 := by
  unfold execEventExport
  repeat' first
  | with_reducible rfl
  | simp (disch := first | exact Or.inr rfl | exact Or.inl rfl | decide) only [↓but_mk, ↓but_ite, ↓but_snd_ite, ↓but_snd_mk, ↓but_snd2_ite, ↓but_snd2_mk, ↓but_cond, ite_self, outOf_live, outOf_next, outOf_ite, ↓exportOp_but]
  | split <;> try (with_reducible have h := congrArg Prod.snd ‹(_ : _ × State) = (_, _)›; dsimp only at h; subst h)
  | with_reducible refine (each_but (fun _ _ => ?_) _ _).trans ?_
  | with_reducible refine (whenS_but (fun _ => ?_) _ _).trans ?_
  | with_reducible refine (foldl_but (fun _ _ => ?_) _ _).trans ?_
  | with_reducible refine (foldl_but2 (fun _ _ => ?_) _ _).trans ?_
theorem execEventExport_but {m} (hm : sub 9437824 m = true) (peer : Nat) (s : State) : (outOf (execEventExport peer s) s).but m = s.but m := but_mono hm (execEventExport_but' peer s)

theorem toTick_but' (t : Nat) (s : State) : (toTick t s).but 67108864 = s.but 67108864 := by
  unfold toTick
  repeat' first
  | with_reducible rfl
  | simp (disch := first | exact Or.inr rfl | exact Or.inl rfl | decide) only [↓but_mk, ↓but_ite, ↓but_snd_ite, ↓but_snd_mk, ↓but_snd2_ite, ↓but_snd2_mk, ↓but_cond, ite_self, outOf_live, outOf_next, outOf_ite, ↓clockTo_but]
  | split <;> try (with_reducible have h := congrArg Prod.snd ‹(_ : _ × State) = (_, _)›; dsimp only at h; subst h)
  | with_reducible refine (each_but (fun _ _ => ?_) _ _).trans ?_
  | with_reducible refine (whenS_but (fun _ => ?_) _ _).trans ?_
  | with_reducible refine (foldl_but (fun _ _ => ?_) _ _).trans ?_
  | with_reducible refine (foldl_but2 (fun _ _ => ?_) _ _).trans ?_
theorem toTick_but {m} (hm : sub 67108864 m = true) (t : Nat) (s : State) : (toTick t s).but m = s.but m := but_mono hm (toTick_but' t s)

theorem execChainWordSend_but' (s : State) : (outOf (execChainWordSend s) s).but 67108872 = s.but 67108872 := by
  unfold execChainWordSend
  repeat' first
  | with_reducible rfl
  | simp (disch := first | exact Or.inr rfl | exact Or.inl rfl | decide) only [↓but_mk, ↓but_ite, ↓but_snd_ite, ↓but_snd_mk, ↓but_snd2_ite, ↓but_snd2_mk, ↓but_cond, ite_self, outOf_live, outOf_next, outOf_ite, ↓toTick_but]
  | split <;> try (with_reducible have h := congrArg Prod.snd ‹(_ : _ × State) = (_, _)›; dsimp only at h; subst h)
  | with_reducible refine (each_but (fun _ _ => ?_) _ _).trans ?_
  | with_reducible refine (whenS_but (fun _ => ?_) _ _).trans ?_
  | with_reducible refine (foldl_but (fun _ _ => ?_) _ _).trans ?_
  | with_reducible refine (foldl_but2 (fun _ _ => ?_) _ _).trans ?_
theorem execChainWordSend_but {m} (hm : sub 67108872 m = true) (s : State) : (outOf (execChainWordSend s) s).but m = s.but m := but_mono hm (execChainWordSend_but' s)

theorem execHeartbeatSend_but' (s : State) : (outOf (execHeartbeatSend s) s).but 67239944 = s.but 67239944 := by
  unfold execHeartbeatSend
  repeat' first
  | with_reducible rfl
  | simp (disch := first | exact Or.inr rfl | exact Or.inl rfl | decide) only [↓but_mk, ↓but_ite, ↓but_snd_ite, ↓but_snd_mk, ↓but_snd2_ite, ↓but_snd2_mk, ↓but_cond, ite_self, outOf_live, outOf_next, outOf_ite, ↓toTick_but, ↓urgPut_but]
  | split <;> try (with_reducible have h := congrArg Prod.snd ‹(_ : _ × State) = (_, _)›; dsimp only at h; subst h)
  | with_reducible refine (each_but (fun _ _ => ?_) _ _).trans ?_
  | with_reducible refine (whenS_but (fun _ => ?_) _ _).trans ?_
  | with_reducible refine (foldl_but (fun _ _ => ?_) _ _).trans ?_
  | with_reducible refine (foldl_but2 (fun _ _ => ?_) _ _).trans ?_
theorem execHeartbeatSend_but {m} (hm : sub 67239944 m = true) (s : State) : (outOf (execHeartbeatSend s) s).but m = s.but m := but_mono hm (execHeartbeatSend_but' s)

theorem strapFault_but' (partnerSlot : Nat) (s : State) : (strapFault partnerSlot s).but 1049226 = s.but 1049226 := by
  unfold strapFault
  repeat' first
  | with_reducible rfl
  | simp (disch := first | exact Or.inr rfl | exact Or.inl rfl | decide) only [↓but_mk, ↓but_ite, ↓but_snd_ite, ↓but_snd_mk, ↓but_snd2_ite, ↓but_snd2_mk, ↓but_cond, ite_self, outOf_live, outOf_next, outOf_ite, ↓emit_but]
  | split <;> try (with_reducible have h := congrArg Prod.snd ‹(_ : _ × State) = (_, _)›; dsimp only at h; subst h)
  | with_reducible refine (each_but (fun _ _ => ?_) _ _).trans ?_
  | with_reducible refine (whenS_but (fun _ => ?_) _ _).trans ?_
  | with_reducible refine (foldl_but (fun _ _ => ?_) _ _).trans ?_
  | with_reducible refine (foldl_but2 (fun _ _ => ?_) _ _).trans ?_
theorem strapFault_but {m} (hm : sub 1049226 m = true) (partnerSlot : Nat) (s : State) : (strapFault partnerSlot s).but m = s.but m := but_mono hm (strapFault_but' partnerSlot s)

theorem partnerValid_but' (w : Word) (s : State) : (partnerValid w s).but 8591114890 = s.but 8591114890 := by
  unfold partnerValid
  repeat' first
  | with_reducible rfl
  | simp (disch := first | exact Or.inr rfl | exact Or.inl rfl | decide) only [↓but_mk, ↓but_ite, ↓but_snd_ite, ↓but_snd_mk, ↓but_snd2_ite, ↓but_snd2_mk, ↓but_cond, ite_self, outOf_live, outOf_next, outOf_ite, ↓settleDriving_but]
  | split <;> try (with_reducible have h := congrArg Prod.snd ‹(_ : _ × State) = (_, _)›; dsimp only at h; subst h)
  | with_reducible refine (each_but (fun _ _ => ?_) _ _).trans ?_
  | with_reducible refine (whenS_but (fun _ => ?_) _ _).trans ?_
  | with_reducible refine (foldl_but (fun _ _ => ?_) _ _).trans ?_
  | with_reducible refine (foldl_but2 (fun _ _ => ?_) _ _).trans ?_
theorem partnerValid_but {m} (hm : sub 8591114890 m = true) (w : Word) (s : State) : (partnerValid w s).but m = s.but m := but_mono hm (partnerValid_but' w s)

theorem execChainWordReceive_but' (w : Word) (s : State) : (outOf (execChainWordReceive w s) s).but 8591114890 = s.but 8591114890 := by
  unfold execChainWordReceive
  repeat' first
  | with_reducible rfl
  | simp (disch := first | exact Or.inr rfl | exact Or.inl rfl | decide) only [↓but_mk, ↓but_ite, ↓but_snd_ite, ↓but_snd_mk, ↓but_snd2_ite, ↓but_snd2_mk, ↓but_cond, ite_self, outOf_live, outOf_next, outOf_ite, ↓strapFault_but, ↓partnerValid_but]
  | split <;> try (with_reducible have h := congrArg Prod.snd ‹(_ : _ × State) = (_, _)›; dsimp only at h; subst h)
  | with_reducible refine (each_but (fun _ _ => ?_) _ _).trans ?_
  | with_reducible refine (whenS_but (fun _ => ?_) _ _).trans ?_
  | with_reducible refine (foldl_but (fun _ _ => ?_) _ _).trans ?_
  | with_reducible refine (foldl_but2 (fun _ _ => ?_) _ _).trans ?_
theorem execChainWordReceive_but {m} (hm : sub 8591114890 m = true) (w : Word) (s : State) : (outOf (execChainWordReceive w s) s).but m = s.but m := but_mono hm (execChainWordReceive_but' w s)

theorem execHeartbeatReceive_but' (bus : Nat) (f : BusFrame) (s : State) : (outOf (execHeartbeatReceive bus f s) s).but 8591114890 = s.but 8591114890 := by
  unfold execHeartbeatReceive
  repeat' first
  | with_reducible rfl
  | simp (disch := first | exact Or.inr rfl | exact Or.inl rfl | decide) only [↓but_mk, ↓but_ite, ↓but_snd_ite, ↓but_snd_mk, ↓but_snd2_ite, ↓but_snd2_mk, ↓but_cond, ite_self, outOf_live, outOf_next, outOf_ite, ↓strapFault_but, ↓partnerValid_but]
  | split <;> try (with_reducible have h := congrArg Prod.snd ‹(_ : _ × State) = (_, _)›; dsimp only at h; subst h)
  | with_reducible refine (each_but (fun _ _ => ?_) _ _).trans ?_
  | with_reducible refine (whenS_but (fun _ => ?_) _ _).trans ?_
  | with_reducible refine (foldl_but (fun _ _ => ?_) _ _).trans ?_
  | with_reducible refine (foldl_but2 (fun _ _ => ?_) _ _).trans ?_
theorem execHeartbeatReceive_but {m} (hm : sub 8591114890 m = true) (bus : Nat) (f : BusFrame) (s : State) : (outOf (execHeartbeatReceive bus f s) s).but m = s.but m := but_mono hm (execHeartbeatReceive_but' bus f s)

theorem partnerLost_but' (s : State) : (partnerLost s).but 8591114890 = s.but 8591114890 := by
  unfold partnerLost
  repeat' first
  | with_reducible rfl
  | simp (disch := first | exact Or.inr rfl | exact Or.inl rfl | decide) only [↓but_mk, ↓but_ite, ↓but_snd_ite, ↓but_snd_mk, ↓but_snd2_ite, ↓but_snd2_mk, ↓but_cond, ite_self, outOf_live, outOf_next, outOf_ite, ↓settleDriving_but, ↓emit_but]
  | split <;> try (with_reducible have h := congrArg Prod.snd ‹(_ : _ × State) = (_, _)›; dsimp only at h; subst h)
  | with_reducible refine (each_but (fun _ _ => ?_) _ _).trans ?_
  | with_reducible refine (whenS_but (fun _ => ?_) _ _).trans ?_
  | with_reducible refine (foldl_but (fun _ _ => ?_) _ _).trans ?_
  | with_reducible refine (foldl_but2 (fun _ _ => ?_) _ _).trans ?_
theorem partnerLost_but {m} (hm : sub 8591114890 m = true) (s : State) : (partnerLost s).but m = s.but m := but_mono hm (partnerLost_but' s)

theorem pathSilent_but' (path : Nat) (was : Bool) (s : State) : (pathSilent path was s).but 8591114890 = s.but 8591114890 := by
  unfold pathSilent
  repeat' first
  | with_reducible rfl
  | simp (disch := first | exact Or.inr rfl | exact Or.inl rfl | decide) only [↓but_mk, ↓but_ite, ↓but_snd_ite, ↓but_snd_mk, ↓but_snd2_ite, ↓but_snd2_mk, ↓but_cond, ite_self, outOf_live, outOf_next, outOf_ite, ↓partnerLost_but, ↓emit_but]
  | split <;> try (with_reducible have h := congrArg Prod.snd ‹(_ : _ × State) = (_, _)›; dsimp only at h; subst h)
  | with_reducible refine (each_but (fun _ _ => ?_) _ _).trans ?_
  | with_reducible refine (whenS_but (fun _ => ?_) _ _).trans ?_
  | with_reducible refine (foldl_but (fun _ _ => ?_) _ _).trans ?_
  | with_reducible refine (foldl_but2 (fun _ _ => ?_) _ _).trans ?_
theorem pathSilent_but {m} (hm : sub 8591114890 m = true) (path : Nat) (was : Bool) (s : State) : (pathSilent path was s).but m = s.but m := but_mono hm (pathSilent_but' path was s)

theorem execHbPathLost_but' (path : Nat) (s : State) : (outOf (execHbPathLost path s) s).but 8658223754 = s.but 8658223754 := by
  unfold execHbPathLost
  repeat' first
  | with_reducible rfl
  | simp (disch := first | exact Or.inr rfl | exact Or.inl rfl | decide) only [↓but_mk, ↓but_ite, ↓but_snd_ite, ↓but_snd_mk, ↓but_snd2_ite, ↓but_snd2_mk, ↓but_cond, ite_self, outOf_live, outOf_next, outOf_ite, ↓clockTo_but, ↓pathSilent_but]
  | split <;> try (with_reducible have h := congrArg Prod.snd ‹(_ : _ × State) = (_, _)›; dsimp only at h; subst h)
  | with_reducible refine (each_but (fun _ _ => ?_) _ _).trans ?_
  | with_reducible refine (whenS_but (fun _ => ?_) _ _).trans ?_
  | with_reducible refine (foldl_but (fun _ _ => ?_) _ _).trans ?_
  | with_reducible refine (foldl_but2 (fun _ _ => ?_) _ _).trans ?_
theorem execHbPathLost_but {m} (hm : sub 8658223754 m = true) (path : Nat) (s : State) : (outOf (execHbPathLost path s) s).but m = s.but m := but_mono hm (execHbPathLost_but' path s)

theorem pathBack_but' (path : Nat) (down : Bool) (s : State) : (pathBack path down s).but 8591114890 = s.but 8591114890 := by
  unfold pathBack
  repeat' first
  | with_reducible rfl
  | simp (disch := first | exact Or.inr rfl | exact Or.inl rfl | decide) only [↓but_mk, ↓but_ite, ↓but_snd_ite, ↓but_snd_mk, ↓but_snd2_ite, ↓but_snd2_mk, ↓but_cond, ite_self, outOf_live, outOf_next, outOf_ite, ↓settleDriving_but, ↓emit_but]
  | split <;> try (with_reducible have h := congrArg Prod.snd ‹(_ : _ × State) = (_, _)›; dsimp only at h; subst h)
  | with_reducible refine (each_but (fun _ _ => ?_) _ _).trans ?_
  | with_reducible refine (whenS_but (fun _ => ?_) _ _).trans ?_
  | with_reducible refine (foldl_but (fun _ _ => ?_) _ _).trans ?_
  | with_reducible refine (foldl_but2 (fun _ _ => ?_) _ _).trans ?_
theorem pathBack_but {m} (hm : sub 8591114890 m = true) (path : Nat) (down : Bool) (s : State) : (pathBack path down s).but m = s.but m := but_mono hm (pathBack_but' path down s)

theorem execHbPathRestored_but' (path : Nat) (s : State) : (outOf (execHbPathRestored path s) s).but 8658223754 = s.but 8658223754 := by
  unfold execHbPathRestored
  repeat' first
  | with_reducible rfl
  | simp (disch := first | exact Or.inr rfl | exact Or.inl rfl | decide) only [↓but_mk, ↓but_ite, ↓but_snd_ite, ↓but_snd_mk, ↓but_snd2_ite, ↓but_snd2_mk, ↓but_cond, ite_self, outOf_live, outOf_next, outOf_ite, ↓pathBack_but, ↓clockTo_but]
  | split <;> try (with_reducible have h := congrArg Prod.snd ‹(_ : _ × State) = (_, _)›; dsimp only at h; subst h)
  | with_reducible refine (each_but (fun _ _ => ?_) _ _).trans ?_
  | with_reducible refine (whenS_but (fun _ => ?_) _ _).trans ?_
  | with_reducible refine (foldl_but (fun _ _ => ?_) _ _).trans ?_
  | with_reducible refine (foldl_but2 (fun _ _ => ?_) _ _).trans ?_
theorem execHbPathRestored_but {m} (hm : sub 8658223754 m = true) (path : Nat) (s : State) : (outOf (execHbPathRestored path s) s).but m = s.but m := but_mono hm (execHbPathRestored_but' path s)

theorem execClaimIssued_but' (reason : Nat) (s : State) : (outOf (execClaimIssued reason s) s).but 67108880 = s.but 67108880 := by
  unfold execClaimIssued
  repeat' first
  | with_reducible rfl
  | simp (disch := first | exact Or.inr rfl | exact Or.inl rfl | decide) only [↓but_mk, ↓but_ite, ↓but_snd_ite, ↓but_snd_mk, ↓but_snd2_ite, ↓but_snd2_mk, ↓but_cond, ite_self, outOf_live, outOf_next, outOf_ite, ↓clockTo_but]
  | split <;> try (with_reducible have h := congrArg Prod.snd ‹(_ : _ × State) = (_, _)›; dsimp only at h; subst h)
  | with_reducible refine (each_but (fun _ _ => ?_) _ _).trans ?_
  | with_reducible refine (whenS_but (fun _ => ?_) _ _).trans ?_
  | with_reducible refine (foldl_but (fun _ _ => ?_) _ _).trans ?_
  | with_reducible refine (foldl_but2 (fun _ _ => ?_) _ _).trans ?_
theorem execClaimIssued_but {m} (hm : sub 67108880 m = true) (reason : Nat) (s : State) : (outOf (execClaimIssued reason s) s).but m = s.but m := but_mono hm (execClaimIssued_but' reason s)

theorem handoverDone_but' (h : HandoverSt) (s : State) : (handoverDone h s).but 8605923010 = s.but 8605923010 := by
  unfold handoverDone
  repeat' first
  | with_reducible rfl
  | simp (disch := first | exact Or.inr rfl | exact Or.inl rfl | decide) only [↓but_mk, ↓but_ite, ↓but_snd_ite, ↓but_snd_mk, ↓but_snd2_ite, ↓but_snd2_mk, ↓but_cond, ite_self, outOf_live, outOf_next, outOf_ite, ↓finishCmd_but, ↓ctlResetOp_but, ↓loopRestartOp_but]
  | split <;> try (with_reducible have h := congrArg Prod.snd ‹(_ : _ × State) = (_, _)›; dsimp only at h; subst h)
  | with_reducible refine (each_but (fun _ _ => ?_) _ _).trans ?_
  | with_reducible refine (whenS_but (fun _ => ?_) _ _).trans ?_
  | with_reducible refine (foldl_but (fun _ _ => ?_) _ _).trans ?_
  | with_reducible refine (foldl_but2 (fun _ _ => ?_) _ _).trans ?_
theorem handoverDone_but {m} (hm : sub 8605923010 m = true) (h : HandoverSt) (s : State) : (handoverDone h s).but m = s.but m := but_mono hm (handoverDone_but' h s)

theorem afterHandover_but' (s : State) : (afterHandover s).but 8605923034 = s.but 8605923034 := by
  unfold afterHandover
  repeat' first
  | with_reducible rfl
  | simp (disch := first | exact Or.inr rfl | exact Or.inl rfl | decide) only [↓but_mk, ↓but_ite, ↓but_snd_ite, ↓but_snd_mk, ↓but_snd2_ite, ↓but_snd2_mk, ↓but_cond, ite_self, outOf_live, outOf_next, outOf_ite, ↓handoverDone_but, ↓enterSafe_but]
  | split <;> try (with_reducible have h := congrArg Prod.snd ‹(_ : _ × State) = (_, _)›; dsimp only at h; subst h)
  | with_reducible refine (each_but (fun _ _ => ?_) _ _).trans ?_
  | with_reducible refine (whenS_but (fun _ => ?_) _ _).trans ?_
  | with_reducible refine (foldl_but (fun _ _ => ?_) _ _).trans ?_
  | with_reducible refine (foldl_but2 (fun _ _ => ?_) _ _).trans ?_
theorem afterHandover_but {m} (hm : sub 8605923034 m = true) (s : State) : (afterHandover s).but m = s.but m := but_mono hm (afterHandover_but' s)

theorem execClaimPulse_but' (us : Nat) (s : State) : (outOf (execClaimPulse us s) s).but 8606447322 = s.but 8606447322 := by
  unfold execClaimPulse
  repeat' first
  | with_reducible rfl
  | simp (disch := first | exact Or.inr rfl | exact Or.inl rfl | decide) only [↓but_mk, ↓but_ite, ↓but_snd_ite, ↓but_snd_mk, ↓but_snd2_ite, ↓but_snd2_mk, ↓but_cond, ite_self, outOf_live, outOf_next, outOf_ite, ↓yieldRole_but, ↓emit_but, ↓afterHandover_but, ↓keeperOff_but]
  | split <;> try (with_reducible have h := congrArg Prod.snd ‹(_ : _ × State) = (_, _)›; dsimp only at h; subst h)
  | with_reducible refine (each_but (fun _ _ => ?_) _ _).trans ?_
  | with_reducible refine (whenS_but (fun _ => ?_) _ _).trans ?_
  | with_reducible refine (foldl_but (fun _ _ => ?_) _ _).trans ?_
  | with_reducible refine (foldl_but2 (fun _ _ => ?_) _ _).trans ?_
theorem execClaimPulse_but {m} (hm : sub 8606447322 m = true) (us : Nat) (s : State) : (outOf (execClaimPulse us s) s).but m = s.but m := but_mono hm (execClaimPulse_but' us s)

theorem execReleasePulse_but' (us : Nat) (s : State) : (outOf (execReleasePulse us s) s).but 1049232 = s.but 1049232 := by
  unfold execReleasePulse
  repeat' first
  | with_reducible rfl
  | simp (disch := first | exact Or.inr rfl | exact Or.inl rfl | decide) only [↓but_mk, ↓but_ite, ↓but_snd_ite, ↓but_snd_mk, ↓but_snd2_ite, ↓but_snd2_mk, ↓but_cond, ite_self, outOf_live, outOf_next, outOf_ite, ↓claimEnd_but]
  | split <;> try (with_reducible have h := congrArg Prod.snd ‹(_ : _ × State) = (_, _)›; dsimp only at h; subst h)
  | with_reducible refine (each_but (fun _ _ => ?_) _ _).trans ?_
  | with_reducible refine (whenS_but (fun _ => ?_) _ _).trans ?_
  | with_reducible refine (foldl_but (fun _ _ => ?_) _ _).trans ?_
  | with_reducible refine (foldl_but2 (fun _ _ => ?_) _ _).trans ?_
theorem execReleasePulse_but {m} (hm : sub 1049232 m = true) (us : Nat) (s : State) : (outOf (execReleasePulse us s) s).but m = s.but m := but_mono hm (execReleasePulse_but' us s)

theorem execClaimHeldOff_but' (us : Nat) (s : State) : (outOf (execClaimHeldOff us s) s).but 8591114898 = s.but 8591114898 := by
  unfold execClaimHeldOff
  repeat' first
  | with_reducible rfl
  | simp (disch := first | exact Or.inr rfl | exact Or.inl rfl | decide) only [↓but_mk, ↓but_ite, ↓but_snd_ite, ↓but_snd_mk, ↓but_snd2_ite, ↓but_snd2_mk, ↓but_cond, ite_self, outOf_live, outOf_next, outOf_ite, ↓claimEnd_but, ↓setRole_but, ↓emit_but]
  | split <;> try (with_reducible have h := congrArg Prod.snd ‹(_ : _ × State) = (_, _)›; dsimp only at h; subst h)
  | with_reducible refine (each_but (fun _ _ => ?_) _ _).trans ?_
  | with_reducible refine (whenS_but (fun _ => ?_) _ _).trans ?_
  | with_reducible refine (foldl_but (fun _ _ => ?_) _ _).trans ?_
  | with_reducible refine (foldl_but2 (fun _ _ => ?_) _ _).trans ?_
theorem execClaimHeldOff_but {m} (hm : sub 8591114898 m = true) (us : Nat) (s : State) : (outOf (execClaimHeldOff us s) s).but m = s.but m := but_mono hm (execClaimHeldOff_but' us s)

theorem execClaimTimeout_but' (s : State) : (outOf (execClaimTimeout s) s).but 68158096 = s.but 68158096 := by
  unfold execClaimTimeout
  repeat' first
  | with_reducible rfl
  | simp (disch := first | exact Or.inr rfl | exact Or.inl rfl | decide) only [↓but_mk, ↓but_ite, ↓but_snd_ite, ↓but_snd_mk, ↓but_snd2_ite, ↓but_snd2_mk, ↓but_cond, ite_self, outOf_live, outOf_next, outOf_ite, ↓clockTo_but, ↓claimEnd_but]
  | split <;> try (with_reducible have h := congrArg Prod.snd ‹(_ : _ × State) = (_, _)›; dsimp only at h; subst h)
  | with_reducible refine (each_but (fun _ _ => ?_) _ _).trans ?_
  | with_reducible refine (whenS_but (fun _ => ?_) _ _).trans ?_
  | with_reducible refine (foldl_but (fun _ _ => ?_) _ _).trans ?_
  | with_reducible refine (foldl_but2 (fun _ _ => ?_) _ _).trans ?_
theorem execClaimTimeout_but {m} (hm : sub 68158096 m = true) (s : State) : (outOf (execClaimTimeout s) s).but m = s.but m := but_mono hm (execClaimTimeout_but' s)

theorem execClaimWithdrawn_but' (s : State) : (outOf (execClaimWithdrawn s) s).but 1049232 = s.but 1049232 := by
  unfold execClaimWithdrawn
  repeat' first
  | with_reducible rfl
  | simp (disch := first | exact Or.inr rfl | exact Or.inl rfl | decide) only [↓but_mk, ↓but_ite, ↓but_snd_ite, ↓but_snd_mk, ↓but_snd2_ite, ↓but_snd2_mk, ↓but_cond, ite_self, outOf_live, outOf_next, outOf_ite, ↓claimEnd_but]
  | split <;> try (with_reducible have h := congrArg Prod.snd ‹(_ : _ × State) = (_, _)›; dsimp only at h; subst h)
  | with_reducible refine (each_but (fun _ _ => ?_) _ _).trans ?_
  | with_reducible refine (whenS_but (fun _ => ?_) _ _).trans ?_
  | with_reducible refine (foldl_but (fun _ _ => ?_) _ _).trans ?_
  | with_reducible refine (foldl_but2 (fun _ _ => ?_) _ _).trans ?_
theorem execClaimWithdrawn_but {m} (hm : sub 1049232 m = true) (s : State) : (outOf (execClaimWithdrawn s) s).but m = s.but m := but_mono hm (execClaimWithdrawn_but' s)

theorem execClaimLineFault_but' (lowMs : Nat) (s : State) : (outOf (execClaimLineFault lowMs s) s).but 1049232 = s.but 1049232 := by
  unfold execClaimLineFault
  repeat' first
  | with_reducible rfl
  | simp (disch := first | exact Or.inr rfl | exact Or.inl rfl | decide) only [↓but_mk, ↓but_ite, ↓but_snd_ite, ↓but_snd_mk, ↓but_snd2_ite, ↓but_snd2_mk, ↓but_cond, ite_self, outOf_live, outOf_next, outOf_ite, ↓emit_but]
  | split <;> try (with_reducible have h := congrArg Prod.snd ‹(_ : _ × State) = (_, _)›; dsimp only at h; subst h)
  | with_reducible refine (each_but (fun _ _ => ?_) _ _).trans ?_
  | with_reducible refine (whenS_but (fun _ => ?_) _ _).trans ?_
  | with_reducible refine (foldl_but (fun _ _ => ?_) _ _).trans ?_
  | with_reducible refine (foldl_but2 (fun _ _ => ?_) _ _).trans ?_
theorem execClaimLineFault_but {m} (hm : sub 1049232 m = true) (lowMs : Nat) (s : State) : (outOf (execClaimLineFault lowMs s) s).but m = s.but m := but_mono hm (execClaimLineFault_but' lowMs s)

theorem execClaimLineFaultClear_but' (s : State) : (outOf (execClaimLineFaultClear s) s).but 1049232 = s.but 1049232 := by
  unfold execClaimLineFaultClear
  repeat' first
  | with_reducible rfl
  | simp (disch := first | exact Or.inr rfl | exact Or.inl rfl | decide) only [↓but_mk, ↓but_ite, ↓but_snd_ite, ↓but_snd_mk, ↓but_snd2_ite, ↓but_snd2_mk, ↓but_cond, ite_self, outOf_live, outOf_next, outOf_ite, ↓emit_but]
  | split <;> try (with_reducible have h := congrArg Prod.snd ‹(_ : _ × State) = (_, _)›; dsimp only at h; subst h)
  | with_reducible refine (each_but (fun _ _ => ?_) _ _).trans ?_
  | with_reducible refine (whenS_but (fun _ => ?_) _ _).trans ?_
  | with_reducible refine (foldl_but (fun _ _ => ?_) _ _).trans ?_
  | with_reducible refine (foldl_but2 (fun _ _ => ?_) _ _).trans ?_
theorem execClaimLineFaultClear_but {m} (hm : sub 1049232 m = true) (s : State) : (outOf (execClaimLineFaultClear s) s).but m = s.but m := but_mono hm (execClaimLineFaultClear_but' s)

theorem execTakeover_but' (s : State) : (outOf (execTakeover s) s).but 8658756250 = s.but 8658756250 := by
  unfold execTakeover
  repeat' first
  | with_reducible rfl
  | simp (disch := first | exact Or.inr rfl | exact Or.inl rfl | decide) only [↓but_mk, ↓but_ite, ↓but_snd_ite, ↓but_snd_mk, ↓but_snd2_ite, ↓but_snd2_mk, ↓but_cond, ite_self, outOf_live, outOf_next, outOf_ite, ↓clockTo_but, ↓setRole_but, ↓initAll_but, ↓heldTrips_but, ↓settleDriving_but, ↓emit_but]
  | split <;> try (with_reducible have h := congrArg Prod.snd ‹(_ : _ × State) = (_, _)›; dsimp only at h; subst h)
  | with_reducible refine (each_but (fun _ _ => ?_) _ _).trans ?_
  | with_reducible refine (whenS_but (fun _ => ?_) _ _).trans ?_
  | with_reducible refine (foldl_but (fun _ _ => ?_) _ _).trans ?_
  | with_reducible refine (foldl_but2 (fun _ _ => ?_) _ _).trans ?_
theorem execTakeover_but {m} (hm : sub 8658756250 m = true) (s : State) : (outOf (execTakeover s) s).but m = s.but m := but_mono hm (execTakeover_but' s)

theorem execTakeoverWatchEnd_but' (s : State) : (outOf (execTakeoverWatchEnd s) s).but 67108872 = s.but 67108872 := by
  unfold execTakeoverWatchEnd
  repeat' first
  | with_reducible rfl
  | simp (disch := first | exact Or.inr rfl | exact Or.inl rfl | decide) only [↓but_mk, ↓but_ite, ↓but_snd_ite, ↓but_snd_mk, ↓but_snd2_ite, ↓but_snd2_mk, ↓but_cond, ite_self, outOf_live, outOf_next, outOf_ite, ↓clockTo_but]
  | split <;> try (with_reducible have h := congrArg Prod.snd ‹(_ : _ × State) = (_, _)›; dsimp only at h; subst h)
  | with_reducible refine (each_but (fun _ _ => ?_) _ _).trans ?_
  | with_reducible refine (whenS_but (fun _ => ?_) _ _).trans ?_
  | with_reducible refine (foldl_but (fun _ _ => ?_) _ _).trans ?_
  | with_reducible refine (foldl_but2 (fun _ _ => ?_) _ _).trans ?_
theorem execTakeoverWatchEnd_but {m} (hm : sub 67108872 m = true) (s : State) : (outOf (execTakeoverWatchEnd s) s).but m = s.but m := but_mono hm (execTakeoverWatchEnd_but' s)

theorem execDualActiveAbort_but' (trigger : Nat) (object : Nat) (s : State) : (outOf (execDualActiveAbort trigger object s) s).but 8658231962 = s.but 8658231962 := by
  unfold execDualActiveAbort
  repeat' first
  | with_reducible rfl
  | simp (disch := first | exact Or.inr rfl | exact Or.inl rfl | decide) only [↓but_mk, ↓but_ite, ↓but_snd_ite, ↓but_snd_mk, ↓but_snd2_ite, ↓but_snd2_mk, ↓but_cond, ite_self, outOf_live, outOf_next, outOf_ite, ↓abortTakeover_but, ↓clockTo_but]
  | split <;> try (with_reducible have h := congrArg Prod.snd ‹(_ : _ × State) = (_, _)›; dsimp only at h; subst h)
  | with_reducible refine (each_but (fun _ _ => ?_) _ _).trans ?_
  | with_reducible refine (whenS_but (fun _ => ?_) _ _).trans ?_
  | with_reducible refine (foldl_but (fun _ _ => ?_) _ _).trans ?_
  | with_reducible refine (foldl_but2 (fun _ _ => ?_) _ _).trans ?_
theorem execDualActiveAbort_but {m} (hm : sub 8658231962 m = true) (trigger : Nat) (object : Nat) (s : State) : (outOf (execDualActiveAbort trigger object s) s).but m = s.but m := but_mono hm (execDualActiveAbort_but' trigger object s)

theorem execForeignDrive_but' (m0 : Nat) (s : State) : (outOf (execForeignDrive m0 s) s).but 68166272 = s.but 68166272 := by
  unfold execForeignDrive
  repeat' first
  | with_reducible rfl
  | simp (disch := first | exact Or.inr rfl | exact Or.inl rfl | decide) only [↓but_mk, ↓but_ite, ↓but_snd_ite, ↓but_snd_mk, ↓but_snd2_ite, ↓but_snd2_mk, ↓but_cond, ite_self, outOf_live, outOf_next, outOf_ite, ↓clockTo_but, ↓emit_but]
  | split <;> try (with_reducible have h := congrArg Prod.snd ‹(_ : _ × State) = (_, _)›; dsimp only at h; subst h)
  | with_reducible refine (each_but (fun _ _ => ?_) _ _).trans ?_
  | with_reducible refine (whenS_but (fun _ => ?_) _ _).trans ?_
  | with_reducible refine (foldl_but (fun _ _ => ?_) _ _).trans ?_
  | with_reducible refine (foldl_but2 (fun _ _ => ?_) _ _).trans ?_
theorem execForeignDrive_but {m} (hm : sub 68166272 m = true) (m0 : Nat) (s : State) : (outOf (execForeignDrive m0 s) s).but m = s.but m := but_mono hm (execForeignDrive_but' m0 s)

theorem execStandbyQualified_but' (s : State) : (outOf (execStandbyQualified s) s).but 8591114898 = s.but 8591114898 := by
  unfold execStandbyQualified
  repeat' first
  | with_reducible rfl
  | simp (disch := first | exact Or.inr rfl | exact Or.inl rfl | decide) only [↓but_mk, ↓but_ite, ↓but_snd_ite, ↓but_snd_mk, ↓but_snd2_ite, ↓but_snd2_mk, ↓but_cond, ite_self, outOf_live, outOf_next, outOf_ite, ↓setRole_but]
  | split <;> try (with_reducible have h := congrArg Prod.snd ‹(_ : _ × State) = (_, _)›; dsimp only at h; subst h)
  | with_reducible refine (each_but (fun _ _ => ?_) _ _).trans ?_
  | with_reducible refine (whenS_but (fun _ => ?_) _ _).trans ?_
  | with_reducible refine (foldl_but (fun _ _ => ?_) _ _).trans ?_
  | with_reducible refine (foldl_but2 (fun _ _ => ?_) _ _).trans ?_
theorem execStandbyQualified_but {m} (hm : sub 8591114898 m = true) (s : State) : (outOf (execStandbyQualified s) s).but m = s.but m := but_mono hm (execStandbyQualified_but' s)

theorem execQualificationLost_but' (criterion : Nat) (s : State) : (outOf (execQualificationLost criterion s) s).but 8591114882 = s.but 8591114882 := by
  unfold execQualificationLost
  repeat' first
  | with_reducible rfl
  | simp (disch := first | exact Or.inr rfl | exact Or.inl rfl | decide) only [↓but_mk, ↓but_ite, ↓but_snd_ite, ↓but_snd_mk, ↓but_snd2_ite, ↓but_snd2_mk, ↓but_cond, ite_self, outOf_live, outOf_next, outOf_ite, ↓setRole_but, ↓emit_but]
  | split <;> try (with_reducible have h := congrArg Prod.snd ‹(_ : _ × State) = (_, _)›; dsimp only at h; subst h)
  | with_reducible refine (each_but (fun _ _ => ?_) _ _).trans ?_
  | with_reducible refine (whenS_but (fun _ => ?_) _ _).trans ?_
  | with_reducible refine (foldl_but (fun _ _ => ?_) _ _).trans ?_
  | with_reducible refine (foldl_but2 (fun _ _ => ?_) _ _).trans ?_
theorem execQualificationLost_but {m} (hm : sub 8591114882 m = true) (criterion : Nat) (s : State) : (outOf (execQualificationLost criterion s) s).but m = s.but m := but_mono hm (execQualificationLost_but' criterion s)

theorem freezeRefused_but' (source : Nat) (cause : Nat) (s : State) : (freezeRefused source cause s).but 1049280 = s.but 1049280 := by
  unfold freezeRefused
  repeat' first
  | with_reducible rfl
  | simp (disch := first | exact Or.inr rfl | exact Or.inl rfl | decide) only [↓but_mk, ↓but_ite, ↓but_snd_ite, ↓but_snd_mk, ↓but_snd2_ite, ↓but_snd2_mk, ↓but_cond, ite_self, outOf_live, outOf_next, outOf_ite, ↓emit_but]
  | split <;> try (with_reducible have h := congrArg Prod.snd ‹(_ : _ × State) = (_, _)›; dsimp only at h; subst h)
  | with_reducible refine (each_but (fun _ _ => ?_) _ _).trans ?_
  | with_reducible refine (whenS_but (fun _ => ?_) _ _).trans ?_
  | with_reducible refine (foldl_but (fun _ _ => ?_) _ _).trans ?_
  | with_reducible refine (foldl_but2 (fun _ _ => ?_) _ _).trans ?_
theorem freezeRefused_but {m} (hm : sub 1049280 m = true) (source : Nat) (cause : Nat) (s : State) : (freezeRefused source cause s).but m = s.but m := but_mono hm (freezeRefused_but' source cause s)

theorem handoverLost_but' (h : HandoverSt) (s : State) : (handoverLost h s).but 8606447322 = s.but 8606447322 := by
  unfold handoverLost
  repeat' first
  | with_reducible rfl
  | simp (disch := first | exact Or.inr rfl | exact Or.inl rfl | decide) only [↓but_mk, ↓but_ite, ↓but_snd_ite, ↓but_snd_mk, ↓but_snd2_ite, ↓but_snd2_mk, ↓but_cond, ite_self, outOf_live, outOf_next, outOf_ite, ↓emit_but, ↓freshWord_but, ↓finishCmd_but, ↓ctlResetOp_but, ↓loopRestartOp_but, ↓keeperOff_but, ↓enterSafe_but, ↓freezeRefused_but]
  | split <;> try (with_reducible have h := congrArg Prod.snd ‹(_ : _ × State) = (_, _)›; dsimp only at h; subst h)
  | with_reducible refine (each_but (fun _ _ => ?_) _ _).trans ?_
  | with_reducible refine (whenS_but (fun _ => ?_) _ _).trans ?_
  | with_reducible refine (foldl_but (fun _ _ => ?_) _ _).trans ?_
  | with_reducible refine (foldl_but2 (fun _ _ => ?_) _ _).trans ?_
theorem handoverLost_but {m} (hm : sub 8606447322 m = true) (h : HandoverSt) (s : State) : (handoverLost h s).but m = s.but m := but_mono hm (handoverLost_but' h s)

theorem execHandoverFailed_but' (s : State) : (outOf (execHandoverFailed s) s).but 8673556186 = s.but 8673556186 := by
  unfold execHandoverFailed
  rw [outOf_live]
  split
  · split
    · rfl
    · split
      · rfl
      · dsimp only
        repeat' first
        | with_reducible rfl
        | simp (disch := first | exact Or.inr rfl | exact Or.inl rfl | decide) only [↓but_mk, ↓but_ite, ↓but_snd_ite, ↓but_snd_mk, ↓but_snd2_ite, ↓but_snd2_mk, ↓but_cond, ite_self, outOf_live, outOf_next, outOf_ite, ↓nextHandover_but, ↓handoverLost_but, ↓clockTo_but]
        | split <;> try (with_reducible have h := congrArg Prod.snd ‹(_ : _ × State) = (_, _)›; dsimp only at h; subst h)
        | with_reducible refine (each_but (fun _ _ => ?_) _ _).trans ?_
        | with_reducible refine (whenS_but (fun _ => ?_) _ _).trans ?_
        | with_reducible refine (foldl_but (fun _ _ => ?_) _ _).trans ?_
        | with_reducible refine (foldl_but2 (fun _ _ => ?_) _ _).trans ?_
  · rfl
theorem execHandoverFailed_but {m} (hm : sub 8673556186 m = true) (s : State) : (outOf (execHandoverFailed s) s).but m = s.but m := but_mono hm (execHandoverFailed_but' s)

theorem execStartupListenEnd_but' (s : State) : (outOf (execStartupListenEnd s) s).but 67108880 = s.but 67108880 := by
  unfold execStartupListenEnd
  repeat' first
  | with_reducible rfl
  | simp (disch := first | exact Or.inr rfl | exact Or.inl rfl | decide) only [↓but_mk, ↓but_ite, ↓but_snd_ite, ↓but_snd_mk, ↓but_snd2_ite, ↓but_snd2_mk, ↓but_cond, ite_self, outOf_live, outOf_next, outOf_ite, ↓clockTo_but]
  | split <;> try (with_reducible have h := congrArg Prod.snd ‹(_ : _ × State) = (_, _)›; dsimp only at h; subst h)
  | with_reducible refine (each_but (fun _ _ => ?_) _ _).trans ?_
  | with_reducible refine (whenS_but (fun _ => ?_) _ _).trans ?_
  | with_reducible refine (foldl_but (fun _ _ => ?_) _ _).trans ?_
  | with_reducible refine (foldl_but2 (fun _ _ => ?_) _ _).trans ?_
theorem execStartupListenEnd_but {m} (hm : sub 67108880 m = true) (s : State) : (outOf (execStartupListenEnd s) s).but m = s.but m := but_mono hm (execStartupListenEnd_but' s)

theorem moveTimer_but' (offset : Int) (s : State) : (moveTimer offset s).but 4831838208 = s.but 4831838208 := by
  unfold moveTimer
  repeat' first
  | with_reducible rfl
  | simp (disch := first | exact Or.inr rfl | exact Or.inl rfl | decide) only [↓but_mk, ↓but_ite, ↓but_snd_ite, ↓but_snd_mk, ↓but_snd2_ite, ↓but_snd2_mk, ↓but_cond, ite_self, outOf_live, outOf_next, outOf_ite]
  | split <;> try (with_reducible have h := congrArg Prod.snd ‹(_ : _ × State) = (_, _)›; dsimp only at h; subst h)
  | with_reducible refine (each_but (fun _ _ => ?_) _ _).trans ?_
  | with_reducible refine (whenS_but (fun _ => ?_) _ _).trans ?_
  | with_reducible refine (foldl_but (fun _ _ => ?_) _ _).trans ?_
  | with_reducible refine (foldl_but2 (fun _ _ => ?_) _ _).trans ?_
theorem moveTimer_but {m} (hm : sub 4831838208 m = true) (offset : Int) (s : State) : (moveTimer offset s).but m = s.but m := but_mono hm (moveTimer_but' offset s)

theorem takeOffset_but' (offset : Int) (s : State) : (takeOffset offset s).but 4832887440 = s.but 4832887440 := by
  unfold takeOffset
  repeat' first
  | with_reducible rfl
  | simp (disch := first | exact Or.inr rfl | exact Or.inl rfl | decide) only [↓but_mk, ↓but_ite, ↓but_snd_ite, ↓but_snd_mk, ↓but_snd2_ite, ↓but_snd2_mk, ↓but_cond, ite_self, outOf_live, outOf_next, outOf_ite, ↓emit_but, ↓moveTimer_but]
  | split <;> try (with_reducible have h := congrArg Prod.snd ‹(_ : _ × State) = (_, _)›; dsimp only at h; subst h)
  | with_reducible refine (each_but (fun _ _ => ?_) _ _).trans ?_
  | with_reducible refine (whenS_but (fun _ => ?_) _ _).trans ?_
  | with_reducible refine (foldl_but (fun _ _ => ?_) _ _).trans ?_
  | with_reducible refine (foldl_but2 (fun _ _ => ?_) _ _).trans ?_
theorem takeOffset_but {m} (hm : sub 4832887440 m = true) (offset : Int) (s : State) : (takeOffset offset s).but m = s.but m := but_mono hm (takeOffset_but' offset s)

theorem execReferenceMessage_but' (bus : Nat) (f : BusFrame) (sof : Int) (s : State) : (outOf (execReferenceMessage bus f sof s) s).but 4833018512 = s.but 4833018512 := by
  unfold execReferenceMessage
  repeat' first
  | with_reducible rfl
  | simp (disch := first | exact Or.inr rfl | exact Or.inl rfl | decide) only [↓but_mk, ↓but_ite, ↓but_snd_ite, ↓but_snd_mk, ↓but_snd2_ite, ↓but_snd2_mk, ↓but_cond, ite_self, outOf_live, outOf_next, outOf_ite, ↓setBus_but, ↓fbEmit_but, ↓takeOffset_but]
  | split <;> try (with_reducible have h := congrArg Prod.snd ‹(_ : _ × State) = (_, _)›; dsimp only at h; subst h)
  | with_reducible refine (each_but (fun _ _ => ?_) _ _).trans ?_
  | with_reducible refine (whenS_but (fun _ => ?_) _ _).trans ?_
  | with_reducible refine (foldl_but (fun _ _ => ?_) _ _).trans ?_
  | with_reducible refine (foldl_but2 (fun _ _ => ?_) _ _).trans ?_
theorem execReferenceMessage_but {m} (hm : sub 4833018512 m = true) (bus : Nat) (f : BusFrame) (sof : Int) (s : State) : (outOf (execReferenceMessage bus f sof s) s).but m = s.but m := but_mono hm (execReferenceMessage_but' bus f sof s)

theorem execMirrorLost_but' (clear : Bool) (s : State) : (outOf (execMirrorLost clear s) s).but 1049232 = s.but 1049232 := by
  unfold execMirrorLost
  repeat' first
  | with_reducible rfl
  | simp (disch := first | exact Or.inr rfl | exact Or.inl rfl | decide) only [↓but_mk, ↓but_ite, ↓but_snd_ite, ↓but_snd_mk, ↓but_snd2_ite, ↓but_snd2_mk, ↓but_cond, ite_self, outOf_live, outOf_next, outOf_ite, ↓emit_but]
  | split <;> try (with_reducible have h := congrArg Prod.snd ‹(_ : _ × State) = (_, _)›; dsimp only at h; subst h)
  | with_reducible refine (each_but (fun _ _ => ?_) _ _).trans ?_
  | with_reducible refine (whenS_but (fun _ => ?_) _ _).trans ?_
  | with_reducible refine (foldl_but (fun _ _ => ?_) _ _).trans ?_
  | with_reducible refine (foldl_but2 (fun _ _ => ?_) _ _).trans ?_
theorem execMirrorLost_but {m} (hm : sub 1049232 m = true) (clear : Bool) (s : State) : (outOf (execMirrorLost clear s) s).but m = s.but m := but_mono hm (execMirrorLost_but' clear s)

theorem roleSwapKern_but' (d : Dgram) (a1 : PeerRec) (a2 : Nat) (a3 : Bytes) (s : State) : (roleSwapKern d a1 a2 a3 s).2.but 8590983816 = s.but 8590983816 := by
  unfold roleSwapKern
  repeat' first
  | with_reducible rfl
  | simp (disch := first | exact Or.inr rfl | exact Or.inl rfl | decide) only [↓but_mk, ↓but_ite, ↓but_snd_ite, ↓but_snd_mk, ↓but_snd2_ite, ↓but_snd2_mk, ↓but_cond, ite_self, outOf_live, outOf_next, outOf_ite, ↓requestHandover_but, ↓freshWord_but]
  | split <;> try (with_reducible have h := congrArg Prod.snd ‹(_ : _ × State) = (_, _)›; dsimp only at h; subst h)
  | with_reducible refine (each_but (fun _ _ => ?_) _ _).trans ?_
  | with_reducible refine (whenS_but (fun _ => ?_) _ _).trans ?_
  | with_reducible refine (foldl_but (fun _ _ => ?_) _ _).trans ?_
  | with_reducible refine (foldl_but2 (fun _ _ => ?_) _ _).trans ?_
theorem roleSwapKern_but {m} (hm : sub 8590983816 m = true) (d : Dgram) (a1 : PeerRec) (a2 : Nat) (a3 : Bytes) (s : State) : (roleSwapKern d a1 a2 a3 s).2.but m = s.but m := but_mono hm (roleSwapKern_but' d a1 a2 a3 s)

theorem execRoleSwap_but' (d : Dgram) (s : State) : (outOf (execRoleSwap d s) s).but 8599377544 = s.but 8599377544 := by
  unfold execRoleSwap
  repeat' first
  | with_reducible rfl
  | simp (disch := first | exact Or.inr rfl | exact Or.inl rfl | decide) only [↓but_mk, ↓but_ite, ↓but_snd_ite, ↓but_snd_mk, ↓but_snd2_ite, ↓but_snd2_mk, ↓but_cond, ite_self, outOf_live, outOf_next, outOf_ite, ↓roleSwapKern_but]
  | split <;> try (with_reducible have h := congrArg Prod.snd ‹(_ : _ × State) = (_, _)›; dsimp only at h; subst h)
  | with_reducible refine (each_but (fun _ _ => ?_) _ _).trans ?_
  | with_reducible refine (whenS_but (fun _ => ?_) _ _).trans ?_
  | with_reducible refine (foldl_but (fun _ _ => ?_) _ _).trans ?_
  | with_reducible refine (foldl_but2 (fun _ _ => ?_) _ _).trans ?_
  | with_reducible refine (critical_but (by decide) (fun _ _ _ _ => ?_) ..).trans ?_
theorem execRoleSwap_but {m} (hm : sub 8599377544 m = true) (d : Dgram) (s : State) : (outOf (execRoleSwap d s) s).but m = s.but m := but_mono hm (execRoleSwap_but' d s)

theorem execPowerOnReset_but' (p : PorInfo) (s : State) : (outOf (execPowerOnReset p s) s).but 192937982 = s.but 192937982 := by
  unfold execPowerOnReset
  repeat' first
  | with_reducible rfl
  | simp (disch := first | exact Or.inr rfl | exact Or.inl rfl | decide) only [↓but_mk, ↓but_ite, ↓but_snd_ite, ↓but_snd_mk, ↓but_snd2_ite, ↓but_snd2_mk, ↓but_cond, ite_self, outOf_live, outOf_next, outOf_ite, ↓powerOn_but]
  | split <;> try (with_reducible have h := congrArg Prod.snd ‹(_ : _ × State) = (_, _)›; dsimp only at h; subst h)
  | with_reducible refine (each_but (fun _ _ => ?_) _ _).trans ?_
  | with_reducible refine (whenS_but (fun _ => ?_) _ _).trans ?_
  | with_reducible refine (foldl_but (fun _ _ => ?_) _ _).trans ?_
  | with_reducible refine (foldl_but2 (fun _ _ => ?_) _ _).trans ?_
theorem execPowerOnReset_but {m} (hm : sub 192937982 m = true) (p : PorInfo) (s : State) : (outOf (execPowerOnReset p s) s).but m = s.but m := but_mono hm (execPowerOnReset_but' p s)

theorem execBrownOutReset_but' (s : State) : (outOf (execBrownOutReset s) s).but 192937982 = s.but 192937982 := by
  unfold execBrownOutReset
  repeat' first
  | with_reducible rfl
  | simp (disch := first | exact Or.inr rfl | exact Or.inl rfl | decide) only [↓but_mk, ↓but_ite, ↓but_snd_ite, ↓but_snd_mk, ↓but_snd2_ite, ↓but_snd2_mk, ↓but_cond, ite_self, outOf_live, outOf_next, outOf_ite, ↓brownOut_but]
  | split <;> try (with_reducible have h := congrArg Prod.snd ‹(_ : _ × State) = (_, _)›; dsimp only at h; subst h)
  | with_reducible refine (each_but (fun _ _ => ?_) _ _).trans ?_
  | with_reducible refine (whenS_but (fun _ => ?_) _ _).trans ?_
  | with_reducible refine (foldl_but (fun _ _ => ?_) _ _).trans ?_
  | with_reducible refine (foldl_but2 (fun _ _ => ?_) _ _).trans ?_
theorem execBrownOutReset_but {m} (hm : sub 192937982 m = true) (s : State) : (outOf (execBrownOutReset s) s).but m = s.but m := but_mono hm (execBrownOutReset_but' s)

theorem execResetN_but' (lowUs : Nat) (s : State) : (outOf (execResetN lowUs s) s).but 58719998 = s.but 58719998 := by
  unfold execResetN
  repeat' first
  | with_reducible rfl
  | simp (disch := first | exact Or.inr rfl | exact Or.inl rfl | decide) only [↓but_mk, ↓but_ite, ↓but_snd_ite, ↓but_snd_mk, ↓but_snd2_ite, ↓but_snd2_mk, ↓but_cond, ite_self, outOf_live, outOf_next, outOf_ite, ↓chipReset_but]
  | split <;> try (with_reducible have h := congrArg Prod.snd ‹(_ : _ × State) = (_, _)›; dsimp only at h; subst h)
  | with_reducible refine (each_but (fun _ _ => ?_) _ _).trans ?_
  | with_reducible refine (whenS_but (fun _ => ?_) _ _).trans ?_
  | with_reducible refine (foldl_but (fun _ _ => ?_) _ _).trans ?_
  | with_reducible refine (foldl_but2 (fun _ _ => ?_) _ _).trans ?_
theorem execResetN_but {m} (hm : sub 58719998 m = true) (lowUs : Nat) (s : State) : (outOf (execResetN lowUs s) s).but m = s.but m := but_mono hm (execResetN_but' lowUs s)

theorem execReferenceLoss_but' (s : State) : (outOf (execReferenceLoss s) s).but 58719998 = s.but 58719998 := by
  unfold execReferenceLoss
  repeat' first
  | with_reducible rfl
  | simp (disch := first | exact Or.inr rfl | exact Or.inl rfl | decide) only [↓but_mk, ↓but_ite, ↓but_snd_ite, ↓but_snd_mk, ↓but_snd2_ite, ↓but_snd2_mk, ↓but_cond, ite_self, outOf_live, outOf_next, outOf_ite, ↓chipReset_but]
  | split <;> try (with_reducible have h := congrArg Prod.snd ‹(_ : _ × State) = (_, _)›; dsimp only at h; subst h)
  | with_reducible refine (each_but (fun _ _ => ?_) _ _).trans ?_
  | with_reducible refine (whenS_but (fun _ => ?_) _ _).trans ?_
  | with_reducible refine (foldl_but (fun _ _ => ?_) _ _).trans ?_
  | with_reducible refine (foldl_but2 (fun _ _ => ?_) _ _).trans ?_
theorem execReferenceLoss_but {m} (hm : sub 58719998 m = true) (s : State) : (outOf (execReferenceLoss s) s).but m = s.but m := but_mono hm (execReferenceLoss_but' s)

theorem execWatchdogExpiry_but' (s : State) : (outOf (execWatchdogExpiry s) s).but 58719998 = s.but 58719998 := by
  unfold execWatchdogExpiry
  repeat' first
  | with_reducible rfl
  | simp (disch := first | exact Or.inr rfl | exact Or.inl rfl | decide) only [↓but_mk, ↓but_ite, ↓but_snd_ite, ↓but_snd_mk, ↓but_snd2_ite, ↓but_snd2_mk, ↓but_cond, ite_self, outOf_live, outOf_next, outOf_ite, ↓chipReset_but]
  | split <;> try (with_reducible have h := congrArg Prod.snd ‹(_ : _ × State) = (_, _)›; dsimp only at h; subst h)
  | with_reducible refine (each_but (fun _ _ => ?_) _ _).trans ?_
  | with_reducible refine (whenS_but (fun _ => ?_) _ _).trans ?_
  | with_reducible refine (foldl_but (fun _ _ => ?_) _ _).trans ?_
  | with_reducible refine (foldl_but2 (fun _ _ => ?_) _ _).trans ?_
theorem execWatchdogExpiry_but {m} (hm : sub 58719998 m = true) (s : State) : (outOf (execWatchdogExpiry s) s).but m = s.but m := but_mono hm (execWatchdogExpiry_but' s)

theorem resetKern_but' (a1 : Dgram) (a2 : PeerRec) (flags : Nat) (args : Bytes) (s : State) : (resetKern a1 a2 flags args s).2.but 9998978 = s.but 9998978 := by
  unfold resetKern
  repeat' first
  | with_reducible rfl
  | simp (disch := first | exact Or.inr rfl | exact Or.inl rfl | decide) only [↓but_mk, ↓but_ite, ↓but_snd_ite, ↓but_snd_mk, ↓but_snd2_ite, ↓but_snd2_mk, ↓but_cond, ite_self, outOf_live, outOf_next, outOf_ite, ↓supervisorRestartOp_but]
  | split <;> try (with_reducible have h := congrArg Prod.snd ‹(_ : _ × State) = (_, _)›; dsimp only at h; subst h)
  | with_reducible refine (each_but (fun _ _ => ?_) _ _).trans ?_
  | with_reducible refine (whenS_but (fun _ => ?_) _ _).trans ?_
  | with_reducible refine (foldl_but (fun _ _ => ?_) _ _).trans ?_
  | with_reducible refine (foldl_but2 (fun _ _ => ?_) _ _).trans ?_
theorem resetKern_but {m} (hm : sub 9998978 m = true) (a1 : Dgram) (a2 : PeerRec) (flags : Nat) (args : Bytes) (s : State) : (resetKern a1 a2 flags args s).2.but m = s.but m := but_mono hm (resetKern_but' a1 a2 flags args s)

theorem resetAsked_but' (s : State) (t : State) : (resetAsked s t).but 58719998 = t.but 58719998 := by
  unfold resetAsked
  repeat' first
  | with_reducible rfl
  | simp (disch := first | exact Or.inr rfl | exact Or.inl rfl | decide) only [↓but_mk, ↓but_ite, ↓but_snd_ite, ↓but_snd_mk, ↓but_snd2_ite, ↓but_snd2_mk, ↓but_cond, ite_self, outOf_live, outOf_next, outOf_ite, ↓chipReset_but]
  | split <;> try (with_reducible have h := congrArg Prod.snd ‹(_ : _ × State) = (_, _)›; dsimp only at h; subst h)
  | with_reducible refine (each_but (fun _ _ => ?_) _ _).trans ?_
  | with_reducible refine (whenS_but (fun _ => ?_) _ _).trans ?_
  | with_reducible refine (foldl_but (fun _ _ => ?_) _ _).trans ?_
  | with_reducible refine (foldl_but2 (fun _ _ => ?_) _ _).trans ?_
theorem resetAsked_but {m} (hm : sub 58719998 m = true) (s : State) (t : State) : (resetAsked s t).but m = t.but m := but_mono hm (resetAsked_but' s t)

theorem resetCmd_but' (d : Dgram) (s : State) : (resetCmd d s).but 67108606 = s.but 67108606 := by
  unfold resetCmd
  repeat' first
  | with_reducible rfl
  | simp (disch := first | exact Or.inr rfl | exact Or.inl rfl | decide) only [↓but_mk, ↓but_ite, ↓but_snd_ite, ↓but_snd_mk, ↓but_snd2_ite, ↓but_snd2_mk, ↓but_cond, ite_self, outOf_live, outOf_next, outOf_ite, ↓resetAsked_but, ↓resetKern_but]
  | split <;> try (with_reducible have h := congrArg Prod.snd ‹(_ : _ × State) = (_, _)›; dsimp only at h; subst h)
  | with_reducible refine (each_but (fun _ _ => ?_) _ _).trans ?_
  | with_reducible refine (whenS_but (fun _ => ?_) _ _).trans ?_
  | with_reducible refine (foldl_but (fun _ _ => ?_) _ _).trans ?_
  | with_reducible refine (foldl_but2 (fun _ _ => ?_) _ _).trans ?_
  | with_reducible refine (critical_but (by decide) (fun _ _ _ _ => ?_) ..).trans ?_
theorem resetCmd_but {m} (hm : sub 67108606 m = true) (d : Dgram) (s : State) : (resetCmd d s).but m = s.but m := but_mono hm (resetCmd_but' d s)

theorem execReset_but' (d : Dgram) (s : State) : (outOf (execReset d s) s).but 67108606 = s.but 67108606 := by
  unfold execReset
  repeat' first
  | with_reducible rfl
  | simp (disch := first | exact Or.inr rfl | exact Or.inl rfl | decide) only [↓but_mk, ↓but_ite, ↓but_snd_ite, ↓but_snd_mk, ↓but_snd2_ite, ↓but_snd2_mk, ↓but_cond, ite_self, outOf_live, outOf_next, outOf_ite, ↓resetCmd_but]
  | split <;> try (with_reducible have h := congrArg Prod.snd ‹(_ : _ × State) = (_, _)›; dsimp only at h; subst h)
  | with_reducible refine (each_but (fun _ _ => ?_) _ _).trans ?_
  | with_reducible refine (whenS_but (fun _ => ?_) _ _).trans ?_
  | with_reducible refine (foldl_but (fun _ _ => ?_) _ _).trans ?_
  | with_reducible refine (foldl_but2 (fun _ _ => ?_) _ _).trans ?_
theorem execReset_but {m} (hm : sub 67108606 m = true) (d : Dgram) (s : State) : (outOf (execReset d s) s).but m = s.but m := but_mono hm (execReset_but' d s)

theorem execSupervisorRestart_but' (d : Dgram) (s : State) : (outOf (execSupervisorRestart d s) s).but 67108606 = s.but 67108606 := by
  unfold execSupervisorRestart
  repeat' first
  | with_reducible rfl
  | simp (disch := first | exact Or.inr rfl | exact Or.inl rfl | decide) only [↓but_mk, ↓but_ite, ↓but_snd_ite, ↓but_snd_mk, ↓but_snd2_ite, ↓but_snd2_mk, ↓but_cond, ite_self, outOf_live, outOf_next, outOf_ite, ↓resetCmd_but]
  | split <;> try (with_reducible have h := congrArg Prod.snd ‹(_ : _ × State) = (_, _)›; dsimp only at h; subst h)
  | with_reducible refine (each_but (fun _ _ => ?_) _ _).trans ?_
  | with_reducible refine (whenS_but (fun _ => ?_) _ _).trans ?_
  | with_reducible refine (foldl_but (fun _ _ => ?_) _ _).trans ?_
  | with_reducible refine (foldl_but2 (fun _ _ => ?_) _ _).trans ?_
theorem execSupervisorRestart_but {m} (hm : sub 67108606 m = true) (d : Dgram) (s : State) : (outOf (execSupervisorRestart d s) s).but m = s.but m := but_mono hm (execSupervisorRestart_but' d s)

theorem ctlResetReq_but' (s : State) : (ctlResetReq s).but 8605921930 = s.but 8605921930 := by
  unfold ctlResetReq
  repeat' first
  | with_reducible rfl
  | simp (disch := first | exact Or.inr rfl | exact Or.inl rfl | decide) only [↓but_mk, ↓but_ite, ↓but_snd_ite, ↓but_snd_mk, ↓but_snd2_ite, ↓but_snd2_mk, ↓but_cond, ite_self, outOf_live, outOf_next, outOf_ite, ↓requestHandover_but, ↓ctlResetOp_but]
  | split <;> try (with_reducible have h := congrArg Prod.snd ‹(_ : _ × State) = (_, _)›; dsimp only at h; subst h)
  | with_reducible refine (each_but (fun _ _ => ?_) _ _).trans ?_
  | with_reducible refine (whenS_but (fun _ => ?_) _ _).trans ?_
  | with_reducible refine (foldl_but (fun _ _ => ?_) _ _).trans ?_
  | with_reducible refine (foldl_but2 (fun _ _ => ?_) _ _).trans ?_
theorem ctlResetReq_but {m} (hm : sub 8605921930 m = true) (s : State) : (ctlResetReq s).but m = s.but m := but_mono hm (ctlResetReq_but' s)

theorem execCtlReset_but' (s : State) : (outOf (execCtlReset s) s).but 8605921930 = s.but 8605921930 := by
  unfold execCtlReset
  repeat' first
  | with_reducible rfl
  | simp (disch := first | exact Or.inr rfl | exact Or.inl rfl | decide) only [↓but_mk, ↓but_ite, ↓but_snd_ite, ↓but_snd_mk, ↓but_snd2_ite, ↓but_snd2_mk, ↓but_cond, ite_self, outOf_live, outOf_next, outOf_ite, ↓ctlResetReq_but]
  | split <;> try (with_reducible have h := congrArg Prod.snd ‹(_ : _ × State) = (_, _)›; dsimp only at h; subst h)
  | with_reducible refine (each_but (fun _ _ => ?_) _ _).trans ?_
  | with_reducible refine (whenS_but (fun _ => ?_) _ _).trans ?_
  | with_reducible refine (foldl_but (fun _ _ => ?_) _ _).trans ?_
  | with_reducible refine (foldl_but2 (fun _ _ => ?_) _ _).trans ?_
theorem execCtlReset_but {m} (hm : sub 8605921930 m = true) (s : State) : (outOf (execCtlReset s) s).but m = s.but m := but_mono hm (execCtlReset_but' s)

theorem execHstReset_but' (s : State) : (outOf (execHstReset s) s).but 3147392 = s.but 3147392 := by
  unfold execHstReset
  repeat' first
  | with_reducible rfl
  | simp (disch := first | exact Or.inr rfl | exact Or.inl rfl | decide) only [↓but_mk, ↓but_ite, ↓but_snd_ite, ↓but_snd_mk, ↓but_snd2_ite, ↓but_snd2_mk, ↓but_cond, ite_self, outOf_live, outOf_next, outOf_ite, ↓hstResetOp_but]
  | split <;> try (with_reducible have h := congrArg Prod.snd ‹(_ : _ × State) = (_, _)›; dsimp only at h; subst h)
  | with_reducible refine (each_but (fun _ _ => ?_) _ _).trans ?_
  | with_reducible refine (whenS_but (fun _ => ?_) _ _).trans ?_
  | with_reducible refine (foldl_but (fun _ _ => ?_) _ _).trans ?_
  | with_reducible refine (foldl_but2 (fun _ _ => ?_) _ _).trans ?_
theorem execHstReset_but {m} (hm : sub 3147392 m = true) (s : State) : (outOf (execHstReset s) s).but m = s.but m := but_mono hm (execHstReset_but' s)

theorem execBlockReset_but' (kind : Nat) (index : Nat) (pass : Bool) (s : State) : (outOf (execBlockReset kind index pass s) s).but 1574530 = s.but 1574530 := by
  unfold execBlockReset
  repeat' first
  | with_reducible rfl
  | simp (disch := first | exact Or.inr rfl | exact Or.inl rfl | decide) only [↓but_mk, ↓but_ite, ↓but_snd_ite, ↓but_snd_mk, ↓but_snd2_ite, ↓but_snd2_mk, ↓but_cond, ite_self, outOf_live, outOf_next, outOf_ite, ↓blockResetOp_but]
  | split <;> try (with_reducible have h := congrArg Prod.snd ‹(_ : _ × State) = (_, _)›; dsimp only at h; subst h)
  | with_reducible refine (each_but (fun _ _ => ?_) _ _).trans ?_
  | with_reducible refine (whenS_but (fun _ => ?_) _ _).trans ?_
  | with_reducible refine (foldl_but (fun _ _ => ?_) _ _).trans ?_
  | with_reducible refine (foldl_but2 (fun _ _ => ?_) _ _).trans ?_
theorem execBlockReset_but {m} (hm : sub 1574530 m = true) (kind : Nat) (index : Nat) (pass : Bool) (s : State) : (outOf (execBlockReset kind index pass s) s).but m = s.but m := but_mono hm (execBlockReset_but' kind index pass s)

theorem sampleVmain_but' (v : Nat) (s : State) : (sampleVmain v s).but 4 = s.but 4 := by
  unfold sampleVmain
  repeat' first
  | with_reducible rfl
  | simp (disch := first | exact Or.inr rfl | exact Or.inl rfl | decide) only [↓but_mk, ↓but_ite, ↓but_snd_ite, ↓but_snd_mk, ↓but_snd2_ite, ↓but_snd2_mk, ↓but_cond, ite_self, outOf_live, outOf_next, outOf_ite]
  | split <;> try (with_reducible have h := congrArg Prod.snd ‹(_ : _ × State) = (_, _)›; dsimp only at h; subst h)
  | with_reducible refine (each_but (fun _ _ => ?_) _ _).trans ?_
  | with_reducible refine (whenS_but (fun _ => ?_) _ _).trans ?_
  | with_reducible refine (foldl_but (fun _ _ => ?_) _ _).trans ?_
  | with_reducible refine (foldl_but2 (fun _ _ => ?_) _ _).trans ?_
theorem sampleVmain_but {m} (hm : sub 4 m = true) (v : Nat) (s : State) : (sampleVmain v s).but m = s.but m := but_mono hm (sampleVmain_but' v s)

theorem sampleVfield_but' (v : Nat) (s : State) : (sampleVfield v s).but 4 = s.but 4 := by
  unfold sampleVfield
  repeat' first
  | with_reducible rfl
  | simp (disch := first | exact Or.inr rfl | exact Or.inl rfl | decide) only [↓but_mk, ↓but_ite, ↓but_snd_ite, ↓but_snd_mk, ↓but_snd2_ite, ↓but_snd2_mk, ↓but_cond, ite_self, outOf_live, outOf_next, outOf_ite]
  | split <;> try (with_reducible have h := congrArg Prod.snd ‹(_ : _ × State) = (_, _)›; dsimp only at h; subst h)
  | with_reducible refine (each_but (fun _ _ => ?_) _ _).trans ?_
  | with_reducible refine (whenS_but (fun _ => ?_) _ _).trans ?_
  | with_reducible refine (foldl_but (fun _ _ => ?_) _ _).trans ?_
  | with_reducible refine (foldl_but2 (fun _ _ => ?_) _ _).trans ?_
theorem sampleVfield_but {m} (hm : sub 4 m = true) (v : Nat) (s : State) : (sampleVfield v s).but m = s.but m := but_mono hm (sampleVfield_but' v s)

theorem sampleVsafe_but' (v : Nat) (s : State) : (sampleVsafe v s).but 4 = s.but 4 := by
  unfold sampleVsafe
  repeat' first
  | with_reducible rfl
  | simp (disch := first | exact Or.inr rfl | exact Or.inl rfl | decide) only [↓but_mk, ↓but_ite, ↓but_snd_ite, ↓but_snd_mk, ↓but_snd2_ite, ↓but_snd2_mk, ↓but_cond, ite_self, outOf_live, outOf_next, outOf_ite]
  | split <;> try (with_reducible have h := congrArg Prod.snd ‹(_ : _ × State) = (_, _)›; dsimp only at h; subst h)
  | with_reducible refine (each_but (fun _ _ => ?_) _ _).trans ?_
  | with_reducible refine (whenS_but (fun _ => ?_) _ _).trans ?_
  | with_reducible refine (foldl_but (fun _ _ => ?_) _ _).trans ?_
  | with_reducible refine (foldl_but2 (fun _ _ => ?_) _ _).trans ?_
theorem sampleVsafe_but {m} (hm : sub 4 m = true) (v : Nat) (s : State) : (sampleVsafe v s).but m = s.but m := but_mono hm (sampleVsafe_but' v s)

theorem execSupplyDip_but' (vmain : Nat) (s : State) : (outOf (execSupplyDip vmain s) s).but 9706116 = s.but 9706116 := by
  unfold execSupplyDip
  repeat' first
  | with_reducible rfl
  | simp (disch := first | exact Or.inr rfl | exact Or.inl rfl | decide) only [↓but_mk, ↓but_ite, ↓but_snd_ite, ↓but_snd_mk, ↓but_snd2_ite, ↓but_snd2_mk, ↓but_cond, ite_self, outOf_live, outOf_next, outOf_ite, ↓programStaging_but, ↓sampleVmain_but, ↓shedNow_but]
  | split <;> try (with_reducible have h := congrArg Prod.snd ‹(_ : _ × State) = (_, _)›; dsimp only at h; subst h)
  | with_reducible refine (each_but (fun _ _ => ?_) _ _).trans ?_
  | with_reducible refine (whenS_but (fun _ => ?_) _ _).trans ?_
  | with_reducible refine (foldl_but (fun _ _ => ?_) _ _).trans ?_
  | with_reducible refine (foldl_but2 (fun _ _ => ?_) _ _).trans ?_
theorem execSupplyDip_but {m} (hm : sub 9706116 m = true) (vmain : Nat) (s : State) : (outOf (execSupplyDip vmain s) s).but m = s.but m := but_mono hm (execSupplyDip_but' vmain s)

theorem execDipShed_but' (s : State) : (outOf (execDipShed s) s).but 67108868 = s.but 67108868 := by
  unfold execDipShed
  repeat' first
  | with_reducible rfl
  | simp (disch := first | exact Or.inr rfl | exact Or.inl rfl | decide) only [↓but_mk, ↓but_ite, ↓but_snd_ite, ↓but_snd_mk, ↓but_snd2_ite, ↓but_snd2_mk, ↓but_cond, ite_self, outOf_live, outOf_next, outOf_ite, ↓clockTo_but]
  | split <;> try (with_reducible have h := congrArg Prod.snd ‹(_ : _ × State) = (_, _)›; dsimp only at h; subst h)
  | with_reducible refine (each_but (fun _ _ => ?_) _ _).trans ?_
  | with_reducible refine (whenS_but (fun _ => ?_) _ _).trans ?_
  | with_reducible refine (foldl_but (fun _ _ => ?_) _ _).trans ?_
  | with_reducible refine (foldl_but2 (fun _ _ => ?_) _ _).trans ?_
theorem execDipShed_but {m} (hm : sub 67108868 m = true) (s : State) : (outOf (execDipShed s) s).but m = s.but m := but_mono hm (execDipShed_but' s)

theorem resumeFlash_but' (s : State) : (resumeFlash s).but 2176 = s.but 2176 := by
  unfold resumeFlash
  repeat' first
  | with_reducible rfl
  | simp (disch := first | exact Or.inr rfl | exact Or.inl rfl | decide) only [↓but_mk, ↓but_ite, ↓but_snd_ite, ↓but_snd_mk, ↓but_snd2_ite, ↓but_snd2_mk, ↓but_cond, ite_self, outOf_live, outOf_next, outOf_ite, ↓programStaging_but]
  | split <;> try (with_reducible have h := congrArg Prod.snd ‹(_ : _ × State) = (_, _)›; dsimp only at h; subst h)
  | with_reducible refine (each_but (fun _ _ => ?_) _ _).trans ?_
  | with_reducible refine (whenS_but (fun _ => ?_) _ _).trans ?_
  | with_reducible refine (foldl_but (fun _ _ => ?_) _ _).trans ?_
  | with_reducible refine (foldl_but2 (fun _ _ => ?_) _ _).trans ?_
theorem resumeFlash_but {m} (hm : sub 2176 m = true) (s : State) : (resumeFlash s).but m = s.but m := but_mono hm (resumeFlash_but' s)

theorem execSupplyDipEnd_but' (vmain : Nat) (vmin : Nat) (s : State) : (outOf (execSupplyDipEnd vmain vmin s) s).but 9706116 = s.but 9706116 := by
  unfold execSupplyDipEnd
  repeat' first
  | with_reducible rfl
  | simp (disch := first | exact Or.inr rfl | exact Or.inl rfl | decide) only [↓but_mk, ↓but_ite, ↓but_snd_ite, ↓but_snd_mk, ↓but_snd2_ite, ↓but_snd2_mk, ↓but_cond, ite_self, outOf_live, outOf_next, outOf_ite, ↓sampleVmain_but, ↓emit_but, ↓shedNow_but, ↓resumeFlash_but]
  | split <;> try (with_reducible have h := congrArg Prod.snd ‹(_ : _ × State) = (_, _)›; dsimp only at h; subst h)
  | with_reducible refine (each_but (fun _ _ => ?_) _ _).trans ?_
  | with_reducible refine (whenS_but (fun _ => ?_) _ _).trans ?_
  | with_reducible refine (foldl_but (fun _ _ => ?_) _ _).trans ?_
  | with_reducible refine (foldl_but2 (fun _ _ => ?_) _ _).trans ?_
theorem execSupplyDipEnd_but {m} (hm : sub 9706116 m = true) (vmain : Nat) (vmin : Nat) (s : State) : (outOf (execSupplyDipEnd vmain vmin s) s).but m = s.but m := but_mono hm (execSupplyDipEnd_but' vmain vmin s)

theorem execVsafeLow_but' (v : Nat) (s : State) : (outOf (execVsafeLow v s) s).but 8591139550 = s.but 8591139550 := by
  unfold execVsafeLow
  repeat' first
  | with_reducible rfl
  | simp (disch := first | exact Or.inr rfl | exact Or.inl rfl | decide) only [↓but_mk, ↓but_ite, ↓but_snd_ite, ↓but_snd_mk, ↓but_snd2_ite, ↓but_snd2_mk, ↓but_cond, ite_self, outOf_live, outOf_next, outOf_ite, ↓sampleVsafe_but, ↓fatal_but, ↓emit_but]
  | split <;> try (with_reducible have h := congrArg Prod.snd ‹(_ : _ × State) = (_, _)›; dsimp only at h; subst h)
  | with_reducible refine (each_but (fun _ _ => ?_) _ _).trans ?_
  | with_reducible refine (whenS_but (fun _ => ?_) _ _).trans ?_
  | with_reducible refine (foldl_but (fun _ _ => ?_) _ _).trans ?_
  | with_reducible refine (foldl_but2 (fun _ _ => ?_) _ _).trans ?_
theorem execVsafeLow_but {m} (hm : sub 8591139550 m = true) (v : Nat) (s : State) : (outOf (execVsafeLow v s) s).but m = s.but m := but_mono hm (execVsafeLow_but' v s)

theorem execVsafeRecover_but' (v : Nat) (s : State) : (outOf (execVsafeRecover v s) s).but 1049220 = s.but 1049220 := by
  unfold execVsafeRecover
  repeat' first
  | with_reducible rfl
  | simp (disch := first | exact Or.inr rfl | exact Or.inl rfl | decide) only [↓but_mk, ↓but_ite, ↓but_snd_ite, ↓but_snd_mk, ↓but_snd2_ite, ↓but_snd2_mk, ↓but_cond, ite_self, outOf_live, outOf_next, outOf_ite, ↓emit_but, ↓sampleVsafe_but]
  | split <;> try (with_reducible have h := congrArg Prod.snd ‹(_ : _ × State) = (_, _)›; dsimp only at h; subst h)
  | with_reducible refine (each_but (fun _ _ => ?_) _ _).trans ?_
  | with_reducible refine (whenS_but (fun _ => ?_) _ _).trans ?_
  | with_reducible refine (foldl_but (fun _ _ => ?_) _ _).trans ?_
  | with_reducible refine (foldl_but2 (fun _ _ => ?_) _ _).trans ?_
theorem execVsafeRecover_but {m} (hm : sub 1049220 m = true) (v : Nat) (s : State) : (outOf (execVsafeRecover v s) s).but m = s.but m := but_mono hm (execVsafeRecover_but' v s)

theorem vfieldLevel_but' (v : Nat) (clear : Bool) (s : State) : (vfieldLevel v clear s).but 4 = s.but 4 := by
  unfold vfieldLevel
  repeat' first
  | with_reducible rfl
  | simp (disch := first | exact Or.inr rfl | exact Or.inl rfl | decide) only [↓but_mk, ↓but_ite, ↓but_snd_ite, ↓but_snd_mk, ↓but_snd2_ite, ↓but_snd2_mk, ↓but_cond, ite_self, outOf_live, outOf_next, outOf_ite, ↓sampleVfield_but]
  | split <;> try (with_reducible have h := congrArg Prod.snd ‹(_ : _ × State) = (_, _)›; dsimp only at h; subst h)
  | with_reducible refine (each_but (fun _ _ => ?_) _ _).trans ?_
  | with_reducible refine (whenS_but (fun _ => ?_) _ _).trans ?_
  | with_reducible refine (foldl_but (fun _ _ => ?_) _ _).trans ?_
  | with_reducible refine (foldl_but2 (fun _ _ => ?_) _ _).trans ?_
theorem vfieldLevel_but {m} (hm : sub 4 m = true) (v : Nat) (clear : Bool) (s : State) : (vfieldLevel v clear s).but m = s.but m := but_mono hm (vfieldLevel_but' v clear s)

theorem execVfieldLow_but' (v : Nat) (clear : Bool) (s : State) : (outOf (execVfieldLow v clear s) s).but 1049220 = s.but 1049220 := by
  unfold execVfieldLow
  repeat' first
  | with_reducible rfl
  | simp (disch := first | exact Or.inr rfl | exact Or.inl rfl | decide) only [↓but_mk, ↓but_ite, ↓but_snd_ite, ↓but_snd_mk, ↓but_snd2_ite, ↓but_snd2_mk, ↓but_cond, ite_self, outOf_live, outOf_next, outOf_ite, ↓emit_but, ↓vfieldLevel_but]
  | split <;> try (with_reducible have h := congrArg Prod.snd ‹(_ : _ × State) = (_, _)›; dsimp only at h; subst h)
  | with_reducible refine (each_but (fun _ _ => ?_) _ _).trans ?_
  | with_reducible refine (whenS_but (fun _ => ?_) _ _).trans ?_
  | with_reducible refine (foldl_but (fun _ _ => ?_) _ _).trans ?_
  | with_reducible refine (foldl_but2 (fun _ _ => ?_) _ _).trans ?_
theorem execVfieldLow_but {m} (hm : sub 1049220 m = true) (v : Nat) (clear : Bool) (s : State) : (outOf (execVfieldLow v clear s) s).but m = s.but m := but_mono hm (execVfieldLow_but' v clear s)

theorem execVfieldOverload_but' (p : Nat) (clear : Bool) (s : State) : (outOf (execVfieldOverload p clear s) s).but 1049220 = s.but 1049220 := by
  unfold execVfieldOverload
  repeat' first
  | with_reducible rfl
  | simp (disch := first | exact Or.inr rfl | exact Or.inl rfl | decide) only [↓but_mk, ↓but_ite, ↓but_snd_ite, ↓but_snd_mk, ↓but_snd2_ite, ↓but_snd2_mk, ↓but_cond, ite_self, outOf_live, outOf_next, outOf_ite, ↓emit_but]
  | split <;> try (with_reducible have h := congrArg Prod.snd ‹(_ : _ × State) = (_, _)›; dsimp only at h; subst h)
  | with_reducible refine (each_but (fun _ _ => ?_) _ _).trans ?_
  | with_reducible refine (whenS_but (fun _ => ?_) _ _).trans ?_
  | with_reducible refine (foldl_but (fun _ _ => ?_) _ _).trans ?_
  | with_reducible refine (foldl_but2 (fun _ _ => ?_) _ _).trans ?_
theorem execVfieldOverload_but {m} (hm : sub 1049220 m = true) (p : Nat) (clear : Bool) (s : State) : (outOf (execVfieldOverload p clear s) s).but m = s.but m := but_mono hm (execVfieldOverload_but' p clear s)

theorem execVmainHigh_but' (v : Nat) (clear : Bool) (s : State) : (outOf (execVmainHigh v clear s) s).but 1049220 = s.but 1049220 := by
  unfold execVmainHigh
  repeat' first
  | with_reducible rfl
  | simp (disch := first | exact Or.inr rfl | exact Or.inl rfl | decide) only [↓but_mk, ↓but_ite, ↓but_snd_ite, ↓but_snd_mk, ↓but_snd2_ite, ↓but_snd2_mk, ↓but_cond, ite_self, outOf_live, outOf_next, outOf_ite, ↓emit_but, ↓sampleVmain_but]
  | split <;> try (with_reducible have h := congrArg Prod.snd ‹(_ : _ × State) = (_, _)›; dsimp only at h; subst h)
  | with_reducible refine (each_but (fun _ _ => ?_) _ _).trans ?_
  | with_reducible refine (whenS_but (fun _ => ?_) _ _).trans ?_
  | with_reducible refine (foldl_but (fun _ _ => ?_) _ _).trans ?_
  | with_reducible refine (foldl_but2 (fun _ _ => ?_) _ _).trans ?_
theorem execVmainHigh_but {m} (hm : sub 1049220 m = true) (v : Nat) (clear : Bool) (s : State) : (outOf (execVmainHigh v clear s) s).but m = s.but m := but_mono hm (execVmainHigh_but' v clear s)

theorem execClockFault_but' (clk : Nat) (s : State) : (outOf (execClockFault clk s) s).but 8591139546 = s.but 8591139546 := by
  unfold execClockFault
  repeat' first
  | with_reducible rfl
  | simp (disch := first | exact Or.inr rfl | exact Or.inl rfl | decide) only [↓but_mk, ↓but_ite, ↓but_snd_ite, ↓but_snd_mk, ↓but_snd2_ite, ↓but_snd2_mk, ↓but_cond, ite_self, outOf_live, outOf_next, outOf_ite, ↓fatal_but]
  | split <;> try (with_reducible have h := congrArg Prod.snd ‹(_ : _ × State) = (_, _)›; dsimp only at h; subst h)
  | with_reducible refine (each_but (fun _ _ => ?_) _ _).trans ?_
  | with_reducible refine (whenS_but (fun _ => ?_) _ _).trans ?_
  | with_reducible refine (foldl_but (fun _ _ => ?_) _ _).trans ?_
  | with_reducible refine (foldl_but2 (fun _ _ => ?_) _ _).trans ?_
theorem execClockFault_but {m} (hm : sub 8591139546 m = true) (clk : Nat) (s : State) : (outOf (execClockFault clk s) s).but m = s.but m := but_mono hm (execClockFault_but' clk s)

theorem execOscTolerance_but' (dev : Int) (clear : Bool) (s : State) : (outOf (execOscTolerance dev clear s) s).but 1049218 = s.but 1049218 := by
  unfold execOscTolerance
  repeat' first
  | with_reducible rfl
  | simp (disch := first | exact Or.inr rfl | exact Or.inl rfl | decide) only [↓but_mk, ↓but_ite, ↓but_snd_ite, ↓but_snd_mk, ↓but_snd2_ite, ↓but_snd2_mk, ↓but_cond, ite_self, outOf_live, outOf_next, outOf_ite, ↓emit_but]
  | split <;> try (with_reducible have h := congrArg Prod.snd ‹(_ : _ × State) = (_, _)›; dsimp only at h; subst h)
  | with_reducible refine (each_but (fun _ _ => ?_) _ _).trans ?_
  | with_reducible refine (whenS_but (fun _ => ?_) _ _).trans ?_
  | with_reducible refine (foldl_but (fun _ _ => ?_) _ _).trans ?_
  | with_reducible refine (foldl_but2 (fun _ _ => ?_) _ _).trans ?_
theorem execOscTolerance_but {m} (hm : sub 1049218 m = true) (dev : Int) (clear : Bool) (s : State) : (outOf (execOscTolerance dev clear s) s).but m = s.but m := but_mono hm (execOscTolerance_but' dev clear s)

theorem execThermalShed_but' (stage : Nat) (temp : Nat) (s : State) : (outOf (execThermalShed stage temp s) s).but 9704068 = s.but 9704068 := by
  unfold execThermalShed
  repeat' first
  | with_reducible rfl
  | simp (disch := first | exact Or.inr rfl | exact Or.inl rfl | decide) only [↓but_mk, ↓but_ite, ↓but_snd_ite, ↓but_snd_mk, ↓but_snd2_ite, ↓but_snd2_mk, ↓but_cond, ite_self, outOf_live, outOf_next, outOf_ite, ↓shedNow_but]
  | split <;> try (with_reducible have h := congrArg Prod.snd ‹(_ : _ × State) = (_, _)›; dsimp only at h; subst h)
  | with_reducible refine (each_but (fun _ _ => ?_) _ _).trans ?_
  | with_reducible refine (whenS_but (fun _ => ?_) _ _).trans ?_
  | with_reducible refine (foldl_but (fun _ _ => ?_) _ _).trans ?_
  | with_reducible refine (foldl_but2 (fun _ _ => ?_) _ _).trans ?_
theorem execThermalShed_but {m} (hm : sub 9704068 m = true) (stage : Nat) (temp : Nat) (s : State) : (outOf (execThermalShed stage temp s) s).but m = s.but m := but_mono hm (execThermalShed_but' stage temp s)

theorem execThermalShedExit_but' (temp : Nat) (s : State) : (outOf (execThermalShedExit temp s) s).but 9704068 = s.but 9704068 := by
  unfold execThermalShedExit
  repeat' first
  | with_reducible rfl
  | simp (disch := first | exact Or.inr rfl | exact Or.inl rfl | decide) only [↓but_mk, ↓but_ite, ↓but_snd_ite, ↓but_snd_mk, ↓but_snd2_ite, ↓but_snd2_mk, ↓but_cond, ite_self, outOf_live, outOf_next, outOf_ite, ↓shedNow_but]
  | split <;> try (with_reducible have h := congrArg Prod.snd ‹(_ : _ × State) = (_, _)›; dsimp only at h; subst h)
  | with_reducible refine (each_but (fun _ _ => ?_) _ _).trans ?_
  | with_reducible refine (whenS_but (fun _ => ?_) _ _).trans ?_
  | with_reducible refine (foldl_but (fun _ _ => ?_) _ _).trans ?_
  | with_reducible refine (foldl_but2 (fun _ _ => ?_) _ _).trans ?_
theorem execThermalShedExit_but {m} (hm : sub 9704068 m = true) (temp : Nat) (s : State) : (outOf (execThermalShedExit temp s) s).but m = s.but m := but_mono hm (execThermalShedExit_but' temp s)

theorem execSelfCoolantHigh_but' (inlet : Nat) (clear : Bool) (s : State) : (outOf (execSelfCoolantHigh inlet clear s) s).but 1049220 = s.but 1049220 := by
  unfold execSelfCoolantHigh
  repeat' first
  | with_reducible rfl
  | simp (disch := first | exact Or.inr rfl | exact Or.inl rfl | decide) only [↓but_mk, ↓but_ite, ↓but_snd_ite, ↓but_snd_mk, ↓but_snd2_ite, ↓but_snd2_mk, ↓but_cond, ite_self, outOf_live, outOf_next, outOf_ite, ↓emit_but]
  | split <;> try (with_reducible have h := congrArg Prod.snd ‹(_ : _ × State) = (_, _)›; dsimp only at h; subst h)
  | with_reducible refine (each_but (fun _ _ => ?_) _ _).trans ?_
  | with_reducible refine (whenS_but (fun _ => ?_) _ _).trans ?_
  | with_reducible refine (foldl_but (fun _ _ => ?_) _ _).trans ?_
  | with_reducible refine (foldl_but2 (fun _ _ => ?_) _ _).trans ?_
theorem execSelfCoolantHigh_but {m} (hm : sub 1049220 m = true) (inlet : Nat) (clear : Bool) (s : State) : (outOf (execSelfCoolantHigh inlet clear s) s).but m = s.but m := but_mono hm (execSelfCoolantHigh_but' inlet clear s)

theorem execFabricFault_but' (unit : Nat) (cls : Nat) (addr : Nat) (s : State) : (outOf (execFabricFault unit cls addr s) s).but 8591139546 = s.but 8591139546 := by
  unfold execFabricFault
  repeat' first
  | with_reducible rfl
  | simp (disch := first | exact Or.inr rfl | exact Or.inl rfl | decide) only [↓but_mk, ↓but_ite, ↓but_snd_ite, ↓but_snd_mk, ↓but_snd2_ite, ↓but_snd2_mk, ↓but_cond, ite_self, outOf_live, outOf_next, outOf_ite, ↓fatal_but]
  | split <;> try (with_reducible have h := congrArg Prod.snd ‹(_ : _ × State) = (_, _)›; dsimp only at h; subst h)
  | with_reducible refine (each_but (fun _ _ => ?_) _ _).trans ?_
  | with_reducible refine (whenS_but (fun _ => ?_) _ _).trans ?_
  | with_reducible refine (foldl_but (fun _ _ => ?_) _ _).trans ?_
  | with_reducible refine (foldl_but2 (fun _ _ => ?_) _ _).trans ?_
theorem execFabricFault_but {m} (hm : sub 8591139546 m = true) (unit : Nat) (cls : Nat) (addr : Nat) (s : State) : (outOf (execFabricFault unit cls addr s) s).but m = s.but m := but_mono hm (execFabricFault_but' unit cls addr s)

theorem execCoreLockstep_but' (stage : Nat) (s : State) : (outOf (execCoreLockstep stage s) s).but 8591139546 = s.but 8591139546 := by
  unfold execCoreLockstep
  repeat' first
  | with_reducible rfl
  | simp (disch := first | exact Or.inr rfl | exact Or.inl rfl | decide) only [↓but_mk, ↓but_ite, ↓but_snd_ite, ↓but_snd_mk, ↓but_snd2_ite, ↓but_snd2_mk, ↓but_cond, ite_self, outOf_live, outOf_next, outOf_ite, ↓fatal_but]
  | split <;> try (with_reducible have h := congrArg Prod.snd ‹(_ : _ × State) = (_, _)›; dsimp only at h; subst h)
  | with_reducible refine (each_but (fun _ _ => ?_) _ _).trans ?_
  | with_reducible refine (whenS_but (fun _ => ?_) _ _).trans ?_
  | with_reducible refine (foldl_but (fun _ _ => ?_) _ _).trans ?_
  | with_reducible refine (foldl_but2 (fun _ _ => ?_) _ _).trans ?_
theorem execCoreLockstep_but {m} (hm : sub 8591139546 m = true) (stage : Nat) (s : State) : (outOf (execCoreLockstep stage s) s).but m = s.but m := but_mono hm (execCoreLockstep_but' stage s)

end Sys2Proof.Machine
end

