-- ==== Sys2Proof/Laws/FrameFc.lean ====
section
/-! SUPPORT. What each function can change (ingest, forecast and model): it leaves every part of State outside its mask as it was. -/

set_option linter.all false

namespace Sys2Proof.Machine

theorem latchSupply_but' (s : State) : (latchSupply s).but 524288 = s.but 524288 := by
  unfold latchSupply
  repeat' first
  | with_reducible rfl
  | simp (disch := first | exact Or.inr rfl | exact Or.inl rfl | decide) only [↓but_mk, ↓but_ite, ↓but_snd_ite, ↓but_snd_mk, ↓but_snd2_ite, ↓but_snd2_mk, ↓but_cond, ite_self, outOf_live, outOf_next, outOf_ite]
  | split <;> try (with_reducible have h := congrArg Prod.snd ‹(_ : _ × State) = (_, _)›; dsimp only at h; subst h)
  | with_reducible refine (each_but (fun _ _ => ?_) _ _).trans ?_
  | with_reducible refine (whenS_but (fun _ => ?_) _ _).trans ?_
  | with_reducible refine (foldl_but (fun _ _ => ?_) _ _).trans ?_
  | with_reducible refine (foldl_but2 (fun _ _ => ?_) _ _).trans ?_
theorem latchSupply_but {m} (hm : sub 524288 m = true) (s : State) : (latchSupply s).but m = s.but m := but_mono hm (latchSupply_but' s)

theorem ringPut_but' (p : Nat) (m0 : Nat) (col : Nat) (vs : List F16) (s : State) : (ringPut p m0 col vs s).but 16777216 = s.but 16777216 := by
  unfold ringPut
  repeat' first
  | with_reducible rfl
  | simp (disch := first | exact Or.inr rfl | exact Or.inl rfl | decide) only [↓but_mk, ↓but_ite, ↓but_snd_ite, ↓but_snd_mk, ↓but_snd2_ite, ↓but_snd2_mk, ↓but_cond, ite_self, outOf_live, outOf_next, outOf_ite, ↓hbmPut_but]
  | split <;> try (with_reducible have h := congrArg Prod.snd ‹(_ : _ × State) = (_, _)›; dsimp only at h; subst h)
  | with_reducible refine (each_but (fun _ _ => ?_) _ _).trans ?_
  | with_reducible refine (whenS_but (fun _ => ?_) _ _).trans ?_
  | with_reducible refine (foldl_but (fun _ _ => ?_) _ _).trans ?_
  | with_reducible refine (foldl_but2 (fun _ _ => ?_) _ _).trans ?_
theorem ringPut_but {m} (hm : sub 16777216 m = true) (p : Nat) (m0 : Nat) (col : Nat) (vs : List F16) (s : State) : (ringPut p m0 col vs s).but m = s.but m := but_mono hm (ringPut_but' p m0 col vs s)

theorem ringOpen_but' (m0 : Nat) (p : Nat) (s : State) : (ringOpen m0 p s).but 16777216 = s.but 16777216 := by
  unfold ringOpen
  repeat' first
  | with_reducible rfl
  | simp (disch := first | exact Or.inr rfl | exact Or.inl rfl | decide) only [↓but_mk, ↓but_ite, ↓but_snd_ite, ↓but_snd_mk, ↓but_snd2_ite, ↓but_snd2_mk, ↓but_cond, ite_self, outOf_live, outOf_next, outOf_ite, ↓ringPut_but]
  | split <;> try (with_reducible have h := congrArg Prod.snd ‹(_ : _ × State) = (_, _)›; dsimp only at h; subst h)
  | with_reducible refine (each_but (fun _ _ => ?_) _ _).trans ?_
  | with_reducible refine (whenS_but (fun _ => ?_) _ _).trans ?_
  | with_reducible refine (foldl_but (fun _ _ => ?_) _ _).trans ?_
  | with_reducible refine (foldl_but2 (fun _ _ => ?_) _ _).trans ?_
theorem ringOpen_but {m} (hm : sub 16777216 m = true) (m0 : Nat) (p : Nat) (s : State) : (ringOpen m0 p s).but m = s.but m := but_mono hm (ringOpen_but' m0 p s)

theorem ringOpenRound_but' (s : State) : (ringOpenRound s).but 16777216 = s.but 16777216 := by
  unfold ringOpenRound
  repeat' first
  | with_reducible rfl
  | simp (disch := first | exact Or.inr rfl | exact Or.inl rfl | decide) only [↓but_mk, ↓but_ite, ↓but_snd_ite, ↓but_snd_mk, ↓but_snd2_ite, ↓but_snd2_mk, ↓but_cond, ite_self, outOf_live, outOf_next, outOf_ite, ↓ringOpen_but]
  | split <;> try (with_reducible have h := congrArg Prod.snd ‹(_ : _ × State) = (_, _)›; dsimp only at h; subst h)
  | with_reducible refine (each_but (fun _ _ => ?_) _ _).trans ?_
  | with_reducible refine (whenS_but (fun _ => ?_) _ _).trans ?_
  | with_reducible refine (foldl_but (fun _ _ => ?_) _ _).trans ?_
  | with_reducible refine (foldl_but2 (fun _ _ => ?_) _ _).trans ?_
theorem ringOpenRound_but {m} (hm : sub 16777216 m = true) (s : State) : (ringOpenRound s).but m = s.but m := but_mono hm (ringOpenRound_but' s)

theorem bundleRing_but' (rack : Nat) (b : BundleIn) (s : State) : (bundleRing rack b s).but 16777216 = s.but 16777216 := by
  unfold bundleRing
  repeat' first
  | with_reducible rfl
  | simp (disch := first | exact Or.inr rfl | exact Or.inl rfl | decide) only [↓but_mk, ↓but_ite, ↓but_snd_ite, ↓but_snd_mk, ↓but_snd2_ite, ↓but_snd2_mk, ↓but_cond, ite_self, outOf_live, outOf_next, outOf_ite, ↓ringPut_but]
  | split <;> try (with_reducible have h := congrArg Prod.snd ‹(_ : _ × State) = (_, _)›; dsimp only at h; subst h)
  | with_reducible refine (each_but (fun _ _ => ?_) _ _).trans ?_
  | with_reducible refine (whenS_but (fun _ => ?_) _ _).trans ?_
  | with_reducible refine (foldl_but (fun _ _ => ?_) _ _).trans ?_
  | with_reducible refine (foldl_but2 (fun _ _ => ?_) _ _).trans ?_
theorem bundleRing_but {m} (hm : sub 16777216 m = true) (rack : Nat) (b : BundleIn) (s : State) : (bundleRing rack b s).but m = s.but m := but_mono hm (bundleRing_but' rack b s)

theorem bundleDone_but' (b : BundleSt) (s : State) : (bundleDone b s).but 17039872 = s.but 17039872 := by
  unfold bundleDone
  repeat' first
  | with_reducible rfl
  | simp (disch := first | exact Or.inr rfl | exact Or.inl rfl | decide) only [↓but_mk, ↓but_ite, ↓but_snd_ite, ↓but_snd_mk, ↓but_snd2_ite, ↓but_snd2_mk, ↓but_cond, ite_self, outOf_live, outOf_next, outOf_ite, ↓bundleRing_but]
  | split <;> try (with_reducible have h := congrArg Prod.snd ‹(_ : _ × State) = (_, _)›; dsimp only at h; subst h)
  | with_reducible refine (each_but (fun _ _ => ?_) _ _).trans ?_
  | with_reducible refine (whenS_but (fun _ => ?_) _ _).trans ?_
  | with_reducible refine (foldl_but (fun _ _ => ?_) _ _).trans ?_
  | with_reducible refine (foldl_but2 (fun _ _ => ?_) _ _).trans ?_
theorem bundleDone_but {m} (hm : sub 17039872 m = true) (b : BundleSt) (s : State) : (bundleDone b s).but m = s.but m := but_mono hm (bundleDone_but' b s)

theorem telFragment_but' (d : Dgram) (s : State) : (telFragment d s).but 17039872 = s.but 17039872 := by
  unfold telFragment
  repeat' first
  | with_reducible rfl
  | simp (disch := first | exact Or.inr rfl | exact Or.inl rfl | decide) only [↓but_mk, ↓but_ite, ↓but_snd_ite, ↓but_snd_mk, ↓but_snd2_ite, ↓but_snd2_mk, ↓but_cond, ite_self, outOf_live, outOf_next, outOf_ite, ↓bundleDone_but]
  | split <;> try (with_reducible have h := congrArg Prod.snd ‹(_ : _ × State) = (_, _)›; dsimp only at h; subst h)
  | with_reducible refine (each_but (fun _ _ => ?_) _ _).trans ?_
  | with_reducible refine (whenS_but (fun _ => ?_) _ _).trans ?_
  | with_reducible refine (foldl_but (fun _ _ => ?_) _ _).trans ?_
  | with_reducible refine (foldl_but2 (fun _ _ => ?_) _ _).trans ?_
theorem telFragment_but {m} (hm : sub 17039872 m = true) (d : Dgram) (s : State) : (telFragment d s).but m = s.but m := but_mono hm (telFragment_but' d s)

theorem execTelemetryFragment_but' (d : Dgram) (s : State) : (outOf (execTelemetryFragment d s) s).but 26482304 = s.but 26482304 := by
  unfold execTelemetryFragment
  repeat' first
  | with_reducible rfl
  | simp (disch := first | exact Or.inr rfl | exact Or.inl rfl | decide) only [↓but_mk, ↓but_ite, ↓but_snd_ite, ↓but_snd_mk, ↓but_snd2_ite, ↓but_snd2_mk, ↓but_cond, ite_self, outOf_live, outOf_next, outOf_ite, ↓accept_but, ↓telFragment_but]
  | split <;> try (with_reducible have h := congrArg Prod.snd ‹(_ : _ × State) = (_, _)›; dsimp only at h; subst h)
  | with_reducible refine (each_but (fun _ _ => ?_) _ _).trans ?_
  | with_reducible refine (whenS_but (fun _ => ?_) _ _).trans ?_
  | with_reducible refine (foldl_but (fun _ _ => ?_) _ _).trans ?_
  | with_reducible refine (foldl_but2 (fun _ _ => ?_) _ _).trans ?_
theorem execTelemetryFragment_but {m} (hm : sub 26482304 m = true) (d : Dgram) (s : State) : (outOf (execTelemetryFragment d s) s).but m = s.but m := but_mono hm (execTelemetryFragment_but' d s)

theorem execBundleIncomplete_but' (rack : Nat) (tag : Nat) (s : State) : (outOf (execBundleIncomplete rack tag s) s).but 1049216 = s.but 1049216 := by
  unfold execBundleIncomplete
  repeat' first
  | with_reducible rfl
  | simp (disch := first | exact Or.inr rfl | exact Or.inl rfl | decide) only [↓but_mk, ↓but_ite, ↓but_snd_ite, ↓but_snd_mk, ↓but_snd2_ite, ↓but_snd2_mk, ↓but_cond, ite_self, outOf_live, outOf_next, outOf_ite, ↓emit_but]
  | split <;> try (with_reducible have h := congrArg Prod.snd ‹(_ : _ × State) = (_, _)›; dsimp only at h; subst h)
  | with_reducible refine (each_but (fun _ _ => ?_) _ _).trans ?_
  | with_reducible refine (whenS_but (fun _ => ?_) _ _).trans ?_
  | with_reducible refine (foldl_but (fun _ _ => ?_) _ _).trans ?_
  | with_reducible refine (foldl_but2 (fun _ _ => ?_) _ _).trans ?_
theorem execBundleIncomplete_but {m} (hm : sub 1049216 m = true) (rack : Nat) (tag : Nat) (s : State) : (outOf (execBundleIncomplete rack tag s) s).but m = s.but m := but_mono hm (execBundleIncomplete_but' rack tag s)

theorem takeSample_but' (r : PlateRec) (t : Nat) (vals : List (PlateChan × F16)) (s : State) : (takeSample r t vals s).but 262144 = s.but 262144 := by
  unfold takeSample
  repeat' first
  | with_reducible rfl
  | simp (disch := first | exact Or.inr rfl | exact Or.inl rfl | decide) only [↓but_mk, ↓but_ite, ↓but_snd_ite, ↓but_snd_mk, ↓but_snd2_ite, ↓but_snd2_mk, ↓but_cond, ite_self, outOf_live, outOf_next, outOf_ite, ↓setPlate_but]
  | split <;> try (with_reducible have h := congrArg Prod.snd ‹(_ : _ × State) = (_, _)›; dsimp only at h; subst h)
  | with_reducible refine (each_but (fun _ _ => ?_) _ _).trans ?_
  | with_reducible refine (whenS_but (fun _ => ?_) _ _).trans ?_
  | with_reducible refine (foldl_but (fun _ _ => ?_) _ _).trans ?_
  | with_reducible refine (foldl_but2 (fun _ _ => ?_) _ _).trans ?_
theorem takeSample_but {m} (hm : sub 262144 m = true) (r : PlateRec) (t : Nat) (vals : List (PlateChan × F16)) (s : State) : (takeSample r t vals s).but m = s.but m := but_mono hm (takeSample_but' r t vals s)

theorem usePlate_but' (tag : Nat) (r : PlateRec) (e : Nat × Bytes × List (Int × List F16)) (s : State) : (usePlate tag r e s).but 262144 = s.but 262144 := by
  unfold usePlate
  repeat' first
  | with_reducible rfl
  | simp (disch := first | exact Or.inr rfl | exact Or.inl rfl | decide) only [↓but_mk, ↓but_ite, ↓but_snd_ite, ↓but_snd_mk, ↓but_snd2_ite, ↓but_snd2_mk, ↓but_cond, ite_self, outOf_live, outOf_next, outOf_ite, ↓setPlate_but, ↓takeSample_but]
  | split <;> try (with_reducible have h := congrArg Prod.snd ‹(_ : _ × State) = (_, _)›; dsimp only at h; subst h)
  | with_reducible refine (each_but (fun _ _ => ?_) _ _).trans ?_
  | with_reducible refine (whenS_but (fun _ => ?_) _ _).trans ?_
  | with_reducible refine (foldl_but (fun _ _ => ?_) _ _).trans ?_
  | with_reducible refine (foldl_but2 (fun _ _ => ?_) _ _).trans ?_
theorem usePlate_but {m} (hm : sub 262144 m = true) (tag : Nat) (r : PlateRec) (e : Nat × Bytes × List (Int × List F16)) (s : State) : (usePlate tag r e s).but m = s.but m := but_mono hm (usePlate_but' tag r e s)

theorem useBundle_but' (rack : Nat) (b : BundleIn) (s : State) : (useBundle rack b s).but 262144 = s.but 262144 := by
  unfold useBundle
  repeat' first
  | with_reducible rfl
  | simp (disch := first | exact Or.inr rfl | exact Or.inl rfl | decide) only [↓but_mk, ↓but_ite, ↓but_snd_ite, ↓but_snd_mk, ↓but_snd2_ite, ↓but_snd2_mk, ↓but_cond, ite_self, outOf_live, outOf_next, outOf_ite, ↓usePlate_but]
  | split <;> try (with_reducible have h := congrArg Prod.snd ‹(_ : _ × State) = (_, _)›; dsimp only at h; subst h)
  | with_reducible refine (each_but (fun _ _ => ?_) _ _).trans ?_
  | with_reducible refine (whenS_but (fun _ => ?_) _ _).trans ?_
  | with_reducible refine (foldl_but (fun _ _ => ?_) _ _).trans ?_
  | with_reducible refine (foldl_but2 (fun _ _ => ?_) _ _).trans ?_
theorem useBundle_but {m} (hm : sub 262144 m = true) (rack : Nat) (b : BundleIn) (s : State) : (useBundle rack b s).but m = s.but m := but_mono hm (useBundle_but' rack b s)

theorem rackIngest_but' (rack : Nat) (s : State) : (rackIngest rack s).but 1311360 = s.but 1311360 := by
  unfold rackIngest
  repeat' first
  | with_reducible rfl
  | simp (disch := first | exact Or.inr rfl | exact Or.inl rfl | decide) only [↓but_mk, ↓but_ite, ↓but_snd_ite, ↓but_snd_mk, ↓but_snd2_ite, ↓but_snd2_mk, ↓but_cond, ite_self, outOf_live, outOf_next, outOf_ite, ↓useBundle_but, ↓setPlate_but, ↓emit_but]
  | split <;> try (with_reducible have h := congrArg Prod.snd ‹(_ : _ × State) = (_, _)›; dsimp only at h; subst h)
  | with_reducible refine (each_but (fun _ _ => ?_) _ _).trans ?_
  | with_reducible refine (whenS_but (fun _ => ?_) _ _).trans ?_
  | with_reducible refine (foldl_but (fun _ _ => ?_) _ _).trans ?_
  | with_reducible refine (foldl_but2 (fun _ _ => ?_) _ _).trans ?_
theorem rackIngest_but {m} (hm : sub 1311360 m = true) (rack : Nat) (s : State) : (rackIngest rack s).but m = s.but m := but_mono hm (rackIngest_but' rack s)

theorem setLs_but' (p : Nat) (x : PlateLs) (s : State) : (setLs p x s).but 524288 = s.but 524288 := by
  unfold setLs
  repeat' first
  | with_reducible rfl
  | simp (disch := first | exact Or.inr rfl | exact Or.inl rfl | decide) only [↓but_mk, ↓but_ite, ↓but_snd_ite, ↓but_snd_mk, ↓but_snd2_ite, ↓but_snd2_mk, ↓but_cond, ite_self, outOf_live, outOf_next, outOf_ite]
  | split <;> try (with_reducible have h := congrArg Prod.snd ‹(_ : _ × State) = (_, _)›; dsimp only at h; subst h)
  | with_reducible refine (each_but (fun _ _ => ?_) _ _).trans ?_
  | with_reducible refine (whenS_but (fun _ => ?_) _ _).trans ?_
  | with_reducible refine (foldl_but (fun _ _ => ?_) _ _).trans ?_
  | with_reducible refine (foldl_but2 (fun _ _ => ?_) _ _).trans ?_
theorem setLs_but {m} (hm : sub 524288 m = true) (p : Nat) (x : PlateLs) (s : State) : (setLs p x s).but m = s.but m := but_mono hm (setLs_but' p x s)

theorem ackCheck_but' (r : PlateRec) (s : State) : (ackCheck r s).but 1311360 = s.but 1311360 := by
  unfold ackCheck
  repeat' first
  | with_reducible rfl
  | simp (disch := first | exact Or.inr rfl | exact Or.inl rfl | decide) only [↓but_mk, ↓but_ite, ↓but_snd_ite, ↓but_snd_mk, ↓but_snd2_ite, ↓but_snd2_mk, ↓but_cond, ite_self, outOf_live, outOf_next, outOf_ite, ↓setPlate_but, ↓emit_but]
  | split <;> try (with_reducible have h := congrArg Prod.snd ‹(_ : _ × State) = (_, _)›; dsimp only at h; subst h)
  | with_reducible refine (each_but (fun _ _ => ?_) _ _).trans ?_
  | with_reducible refine (whenS_but (fun _ => ?_) _ _).trans ?_
  | with_reducible refine (foldl_but (fun _ _ => ?_) _ _).trans ?_
  | with_reducible refine (foldl_but2 (fun _ _ => ?_) _ _).trans ?_
theorem ackCheck_but {m} (hm : sub 1311360 m = true) (r : PlateRec) (s : State) : (ackCheck r s).but m = s.but m := but_mono hm (ackCheck_but' r s)

theorem plateSilence_but' (r : PlateRec) (s : State) : (plateSilence r s).but 1311360 = s.but 1311360 := by
  unfold plateSilence
  repeat' first
  | with_reducible rfl
  | simp (disch := first | exact Or.inr rfl | exact Or.inl rfl | decide) only [↓but_mk, ↓but_ite, ↓but_snd_ite, ↓but_snd_mk, ↓but_snd2_ite, ↓but_snd2_mk, ↓but_cond, ite_self, outOf_live, outOf_next, outOf_ite, ↓setPlate_but, ↓emit_but, ↓ackCheck_but]
  | split <;> try (with_reducible have h := congrArg Prod.snd ‹(_ : _ × State) = (_, _)›; dsimp only at h; subst h)
  | with_reducible refine (each_but (fun _ _ => ?_) _ _).trans ?_
  | with_reducible refine (whenS_but (fun _ => ?_) _ _).trans ?_
  | with_reducible refine (foldl_but (fun _ _ => ?_) _ _).trans ?_
  | with_reducible refine (foldl_but2 (fun _ _ => ?_) _ _).trans ?_
theorem plateSilence_but {m} (hm : sub 1311360 m = true) (r : PlateRec) (s : State) : (plateSilence r s).but m = s.but m := but_mono hm (plateSilence_but' r s)

theorem estPlate_but' (r : PlateRec) (s : State) : (estPlate r s).but 8192 = s.but 8192 := by
  unfold estPlate
  repeat' first
  | with_reducible rfl
  | simp (disch := first | exact Or.inr rfl | exact Or.inl rfl | decide) only [↓but_mk, ↓but_ite, ↓but_snd_ite, ↓but_snd_mk, ↓but_snd2_ite, ↓but_snd2_mk, ↓but_cond, ite_self, outOf_live, outOf_next, outOf_ite]
  | split <;> try (with_reducible have h := congrArg Prod.snd ‹(_ : _ × State) = (_, _)›; dsimp only at h; subst h)
  | with_reducible refine (each_but (fun _ _ => ?_) _ _).trans ?_
  | with_reducible refine (whenS_but (fun _ => ?_) _ _).trans ?_
  | with_reducible refine (foldl_but (fun _ _ => ?_) _ _).trans ?_
  | with_reducible refine (foldl_but2 (fun _ _ => ?_) _ _).trans ?_
theorem estPlate_but {m} (hm : sub 8192 m = true) (r : PlateRec) (s : State) : (estPlate r s).but m = s.but m := but_mono hm (estPlate_but' r s)

theorem histEntry_but' (k : Nat) (r : PlateRec) (s : State) : (histEntry k r s).but 16777216 = s.but 16777216 := by
  unfold histEntry
  repeat' first
  | with_reducible rfl
  | simp (disch := first | exact Or.inr rfl | exact Or.inl rfl | decide) only [↓but_mk, ↓but_ite, ↓but_snd_ite, ↓but_snd_mk, ↓but_snd2_ite, ↓but_snd2_mk, ↓but_cond, ite_self, outOf_live, outOf_next, outOf_ite, ↓hbmPut_but]
  | split <;> try (with_reducible have h := congrArg Prod.snd ‹(_ : _ × State) = (_, _)›; dsimp only at h; subst h)
  | with_reducible refine (each_but (fun _ _ => ?_) _ _).trans ?_
  | with_reducible refine (whenS_but (fun _ => ?_) _ _).trans ?_
  | with_reducible refine (foldl_but (fun _ _ => ?_) _ _).trans ?_
  | with_reducible refine (foldl_but2 (fun _ _ => ?_) _ _).trans ?_
theorem histEntry_but {m} (hm : sub 16777216 m = true) (k : Nat) (r : PlateRec) (s : State) : (histEntry k r s).but m = s.but m := but_mono hm (histEntry_but' k r s)

theorem histRound_but' (s : State) : (histRound s).but 16777216 = s.but 16777216 := by
  unfold histRound
  repeat' first
  | with_reducible rfl
  | simp (disch := first | exact Or.inr rfl | exact Or.inl rfl | decide) only [↓but_mk, ↓but_ite, ↓but_snd_ite, ↓but_snd_mk, ↓but_snd2_ite, ↓but_snd2_mk, ↓but_cond, ite_self, outOf_live, outOf_next, outOf_ite, ↓histEntry_but]
  | split <;> try (with_reducible have h := congrArg Prod.snd ‹(_ : _ × State) = (_, _)›; dsimp only at h; subst h)
  | with_reducible refine (each_but (fun _ _ => ?_) _ _).trans ?_
  | with_reducible refine (whenS_but (fun _ => ?_) _ _).trans ?_
  | with_reducible refine (foldl_but (fun _ _ => ?_) _ _).trans ?_
  | with_reducible refine (foldl_but2 (fun _ _ => ?_) _ _).trans ?_
theorem histRound_but {m} (hm : sub 16777216 m = true) (s : State) : (histRound s).but m = s.but m := but_mono hm (histRound_but' s)

theorem selfIngest_but' (e : SelfSens) (r : PlateRec) (s : State) : (selfIngest e r s).but 17047552 = s.but 17047552 := by
  unfold selfIngest
  repeat' first
  | with_reducible rfl
  | simp (disch := first | exact Or.inr rfl | exact Or.inl rfl | decide) only [↓but_mk, ↓but_ite, ↓but_snd_ite, ↓but_snd_mk, ↓but_snd2_ite, ↓but_snd2_mk, ↓but_cond, ite_self, outOf_live, outOf_next, outOf_ite, ↓ringPut_but, ↓takeSample_but, ↓setPlate_but, ↓estPlate_but]
  | split <;> try (with_reducible have h := congrArg Prod.snd ‹(_ : _ × State) = (_, _)›; dsimp only at h; subst h)
  | with_reducible refine (each_but (fun _ _ => ?_) _ _).trans ?_
  | with_reducible refine (whenS_but (fun _ => ?_) _ _).trans ?_
  | with_reducible refine (foldl_but (fun _ _ => ?_) _ _).trans ?_
  | with_reducible refine (foldl_but2 (fun _ _ => ?_) _ _).trans ?_
theorem selfIngest_but {m} (hm : sub 17047552 m = true) (e : SelfSens) (r : PlateRec) (s : State) : (selfIngest e r s).but m = s.but m := but_mono hm (selfIngest_but' e r s)

theorem selfTemps_but' (e : SelfSens) (s : State) : (selfTemps e s).but 4 = s.but 4 := by
  unfold selfTemps
  repeat' first
  | with_reducible rfl
  | simp (disch := first | exact Or.inr rfl | exact Or.inl rfl | decide) only [↓but_mk, ↓but_ite, ↓but_snd_ite, ↓but_snd_mk, ↓but_snd2_ite, ↓but_snd2_mk, ↓but_cond, ite_self, outOf_live, outOf_next, outOf_ite]
  | split <;> try (with_reducible have h := congrArg Prod.snd ‹(_ : _ × State) = (_, _)›; dsimp only at h; subst h)
  | with_reducible refine (each_but (fun _ _ => ?_) _ _).trans ?_
  | with_reducible refine (whenS_but (fun _ => ?_) _ _).trans ?_
  | with_reducible refine (foldl_but (fun _ _ => ?_) _ _).trans ?_
  | with_reducible refine (foldl_but2 (fun _ _ => ?_) _ _).trans ?_
theorem selfTemps_but {m} (hm : sub 4 m = true) (e : SelfSens) (s : State) : (selfTemps e s).but m = s.but m := but_mono hm (selfTemps_but' e s)

theorem ingestOp_but' (e : SelfSens) (s : State) : (ingestOp e s).but 18621060 = s.but 18621060 := by
  unfold ingestOp
  repeat' first
  | with_reducible rfl
  | simp (disch := first | exact Or.inr rfl | exact Or.inl rfl | decide) only [↓but_mk, ↓but_ite, ↓but_snd_ite, ↓but_snd_mk, ↓but_snd2_ite, ↓but_snd2_mk, ↓but_cond, ite_self, outOf_live, outOf_next, outOf_ite, ↓latchSupply_but, ↓selfIngest_but, ↓rackIngest_but, ↓estPlate_but, ↓plateSilence_but, ↓histRound_but, ↓selfTemps_but]
  | split <;> try (with_reducible have h := congrArg Prod.snd ‹(_ : _ × State) = (_, _)›; dsimp only at h; subst h)
  | with_reducible refine (each_but (fun _ _ => ?_) _ _).trans ?_
  | with_reducible refine (whenS_but (fun _ => ?_) _ _).trans ?_
  | with_reducible refine (foldl_but (fun _ _ => ?_) _ _).trans ?_
  | with_reducible refine (foldl_but2 (fun _ _ => ?_) _ _).trans ?_
theorem ingestOp_but {m} (hm : sub 18621060 m = true) (e : SelfSens) (s : State) : (ingestOp e s).but m = s.but m := but_mono hm (ingestOp_but' e s)

theorem execIngestClose_but' (sens : SelfSens) (s : State) : (outOf (execIngestClose sens s) s).but 85729924 = s.but 85729924 := by
  unfold execIngestClose
  repeat' first
  | with_reducible rfl
  | simp (disch := first | exact Or.inr rfl | exact Or.inl rfl | decide) only [↓but_mk, ↓but_ite, ↓but_snd_ite, ↓but_snd_mk, ↓but_snd2_ite, ↓but_snd2_mk, ↓but_cond, ite_self, outOf_live, outOf_next, outOf_ite, ↓ingestOp_but, ↓clockTo_but]
  | split <;> try (with_reducible have h := congrArg Prod.snd ‹(_ : _ × State) = (_, _)›; dsimp only at h; subst h)
  | with_reducible refine (each_but (fun _ _ => ?_) _ _).trans ?_
  | with_reducible refine (whenS_but (fun _ => ?_) _ _).trans ?_
  | with_reducible refine (foldl_but (fun _ _ => ?_) _ _).trans ?_
  | with_reducible refine (foldl_but2 (fun _ _ => ?_) _ _).trans ?_
theorem execIngestClose_but {m} (hm : sub 85729924 m = true) (sens : SelfSens) (s : State) : (outOf (execIngestClose sens s) s).but m = s.but m := but_mono hm (execIngestClose_but' sens s)

theorem bindRaw_but' (r : PlateRec) (i : Nat) (b : BindEntry) (s : State) : (bindRaw r i b s).2.but 8590196736 = s.but 8590196736 := by
  unfold bindRaw
  repeat' first
  | with_reducible rfl
  | simp (disch := first | exact Or.inr rfl | exact Or.inl rfl | decide) only [↓but_mk, ↓but_ite, ↓but_snd_ite, ↓but_snd_mk, ↓but_snd2_ite, ↓but_snd2_mk, ↓but_cond, ite_self, outOf_live, outOf_next, outOf_ite, ↓freshWord_but, ↓setPlate_but]
  | split <;> try (with_reducible have h := congrArg Prod.snd ‹(_ : _ × State) = (_, _)›; dsimp only at h; subst h)
  | with_reducible refine (each_but (fun _ _ => ?_) _ _).trans ?_
  | with_reducible refine (whenS_but (fun _ => ?_) _ _).trans ?_
  | with_reducible refine (foldl_but (fun _ _ => ?_) _ _).trans ?_
  | with_reducible refine (foldl_but2 (fun _ _ => ?_) _ _).trans ?_
theorem bindRaw_but {m} (hm : sub 8590196736 m = true) (r : PlateRec) (i : Nat) (b : BindEntry) (s : State) : (bindRaw r i b s).2.but m = s.but m := but_mono hm (bindRaw_but' r i b s)

theorem stageWindow_but' (p : Nat) (l : List F32) (s : State) : (stageWindow p l s).but 262144 = s.but 262144 := by
  unfold stageWindow
  repeat' first
  | with_reducible rfl
  | simp (disch := first | exact Or.inr rfl | exact Or.inl rfl | decide) only [↓but_mk, ↓but_ite, ↓but_snd_ite, ↓but_snd_mk, ↓but_snd2_ite, ↓but_snd2_mk, ↓but_cond, ite_self, outOf_live, outOf_next, outOf_ite, ↓setPlate_but]
  | split <;> try (with_reducible have h := congrArg Prod.snd ‹(_ : _ × State) = (_, _)›; dsimp only at h; subst h)
  | with_reducible refine (each_but (fun _ _ => ?_) _ _).trans ?_
  | with_reducible refine (whenS_but (fun _ => ?_) _ _).trans ?_
  | with_reducible refine (foldl_but (fun _ _ => ?_) _ _).trans ?_
  | with_reducible refine (foldl_but2 (fun _ _ => ?_) _ _).trans ?_
theorem stageWindow_but {m} (hm : sub 262144 m = true) (p : Nat) (l : List F32) (s : State) : (stageWindow p l s).but m = s.but m := but_mono hm (stageWindow_but' p l s)

theorem bindInputs_but' (m0 : ModelC) (r : PlateRec) (s : State) : (bindInputs m0 r s).2.but 8590196736 = s.but 8590196736 := by
  unfold bindInputs
  repeat' first
  | with_reducible rfl
  | simp (disch := first | exact Or.inr rfl | exact Or.inl rfl | decide) only [↓but_mk, ↓but_ite, ↓but_snd_ite, ↓but_snd_mk, ↓but_snd2_ite, ↓but_snd2_mk, ↓but_cond, ite_self, outOf_live, outOf_next, outOf_ite, ↓bindRaw_but, ↓stageWindow_but, ↓setPlate_but]
  | split <;> try (with_reducible have h := congrArg Prod.snd ‹(_ : _ × State) = (_, _)›; dsimp only at h; subst h)
  | with_reducible refine (each_but (fun _ _ => ?_) _ _).trans ?_
  | with_reducible refine (whenS_but (fun _ => ?_) _ _).trans ?_
  | with_reducible refine (foldl_but (fun _ _ => ?_) _ _).trans ?_
  | with_reducible refine (foldl_but2 (fun _ _ => ?_) _ _).trans ?_
theorem bindInputs_but {m} (hm : sub 8590196736 m = true) (m0 : ModelC) (r : PlateRec) (s : State) : (bindInputs m0 r s).2.but m = s.but m := but_mono hm (bindInputs_but' m0 r s)

theorem fmtExcs_but' (mask : Nat) (phys : Nat) (s : State) : (fmtExcs mask phys s).but 1049216 = s.but 1049216 := by
  unfold fmtExcs
  repeat' first
  | with_reducible rfl
  | simp (disch := first | exact Or.inr rfl | exact Or.inl rfl | decide) only [↓but_mk, ↓but_ite, ↓but_snd_ite, ↓but_snd_mk, ↓but_snd2_ite, ↓but_snd2_mk, ↓but_cond, ite_self, outOf_live, outOf_next, outOf_ite, ↓fmtExc_but]
  | split <;> try (with_reducible have h := congrArg Prod.snd ‹(_ : _ × State) = (_, _)›; dsimp only at h; subst h)
  | with_reducible refine (each_but (fun _ _ => ?_) _ _).trans ?_
  | with_reducible refine (whenS_but (fun _ => ?_) _ _).trans ?_
  | with_reducible refine (foldl_but (fun _ _ => ?_) _ _).trans ?_
  | with_reducible refine (foldl_but2 (fun _ _ => ?_) _ _).trans ?_
theorem fmtExcs_but {m} (hm : sub 1049216 m = true) (mask : Nat) (phys : Nat) (s : State) : (fmtExcs mask phys s).but m = s.but m := but_mono hm (fmtExcs_but' mask phys s)

theorem forecastPlate_but' (m0 : ModelC) (r : PlateRec) (phys : Nat) (s : State) : (forecastPlate m0 r phys s).but 8591245952 = s.but 8591245952 := by
  unfold forecastPlate
  repeat' first
  | with_reducible rfl
  | simp (disch := first | exact Or.inr rfl | exact Or.inl rfl | decide) only [↓but_mk, ↓but_ite, ↓but_snd_ite, ↓but_snd_mk, ↓but_snd2_ite, ↓but_snd2_mk, ↓but_cond, ite_self, outOf_live, outOf_next, outOf_ite, ↓bindInputs_but, ↓fmtExcs_but, ↓setPlate_but]
  | split <;> try (with_reducible have h := congrArg Prod.snd ‹(_ : _ × State) = (_, _)›; dsimp only at h; subst h)
  | with_reducible refine (each_but (fun _ _ => ?_) _ _).trans ?_
  | with_reducible refine (whenS_but (fun _ => ?_) _ _).trans ?_
  | with_reducible refine (foldl_but (fun _ _ => ?_) _ _).trans ?_
  | with_reducible refine (foldl_but2 (fun _ _ => ?_) _ _).trans ?_
theorem forecastPlate_but {m} (hm : sub 8591245952 m = true) (m0 : ModelC) (r : PlateRec) (phys : Nat) (s : State) : (forecastPlate m0 r phys s).but m = s.but m := but_mono hm (forecastPlate_but' m0 r phys s)

theorem forecastSelf_but' (r : PlateRec) (s : State) : (forecastSelf r s).but 262144 = s.but 262144 := by
  unfold forecastSelf
  repeat' first
  | with_reducible rfl
  | simp (disch := first | exact Or.inr rfl | exact Or.inl rfl | decide) only [↓but_mk, ↓but_ite, ↓but_snd_ite, ↓but_snd_mk, ↓but_snd2_ite, ↓but_snd2_mk, ↓but_cond, ite_self, outOf_live, outOf_next, outOf_ite, ↓setPlate_but]
  | split <;> try (with_reducible have h := congrArg Prod.snd ‹(_ : _ × State) = (_, _)›; dsimp only at h; subst h)
  | with_reducible refine (each_but (fun _ _ => ?_) _ _).trans ?_
  | with_reducible refine (whenS_but (fun _ => ?_) _ _).trans ?_
  | with_reducible refine (foldl_but (fun _ _ => ?_) _ _).trans ?_
  | with_reducible refine (foldl_but2 (fun _ _ => ?_) _ _).trans ?_
theorem forecastSelf_but {m} (hm : sub 262144 m = true) (r : PlateRec) (s : State) : (forecastSelf r s).but m = s.but m := but_mono hm (forecastSelf_but' r s)

theorem tilesForecast_but' (s : State) : (tilesForecast s).but 262144 = s.but 262144 := by
  unfold tilesForecast
  repeat' first
  | with_reducible rfl
  | simp (disch := first | exact Or.inr rfl | exact Or.inl rfl | decide) only [↓but_mk, ↓but_ite, ↓but_snd_ite, ↓but_snd_mk, ↓but_snd2_ite, ↓but_snd2_mk, ↓but_cond, ite_self, outOf_live, outOf_next, outOf_ite, ↓tilesWork_but]
  | split <;> try (with_reducible have h := congrArg Prod.snd ‹(_ : _ × State) = (_, _)›; dsimp only at h; subst h)
  | with_reducible refine (each_but (fun _ _ => ?_) _ _).trans ?_
  | with_reducible refine (whenS_but (fun _ => ?_) _ _).trans ?_
  | with_reducible refine (foldl_but (fun _ _ => ?_) _ _).trans ?_
  | with_reducible refine (foldl_but2 (fun _ _ => ?_) _ _).trans ?_
theorem tilesForecast_but {m} (hm : sub 262144 m = true) (s : State) : (tilesForecast s).but m = s.but m := but_mono hm (tilesForecast_but' s)

theorem forecastOp_but' (s : State) : (forecastOp s).but 8591245952 = s.but 8591245952 := by
  unfold forecastOp
  repeat' first
  | with_reducible rfl
  | simp (disch := first | exact Or.inr rfl | exact Or.inl rfl | decide) only [↓but_mk, ↓but_ite, ↓but_snd_ite, ↓but_snd_mk, ↓but_snd2_ite, ↓but_snd2_mk, ↓but_cond, ite_self, outOf_live, outOf_next, outOf_ite, ↓tilesForecast_but, ↓forecastSelf_but, ↓forecastPlate_but, ↓setPlate_but]
  | split <;> try (with_reducible have h := congrArg Prod.snd ‹(_ : _ × State) = (_, _)›; dsimp only at h; subst h)
  | with_reducible refine (each_but (fun _ _ => ?_) _ _).trans ?_
  | with_reducible refine (whenS_but (fun _ => ?_) _ _).trans ?_
  | with_reducible refine (foldl_but (fun _ _ => ?_) _ _).trans ?_
  | with_reducible refine (foldl_but2 (fun _ _ => ?_) _ _).trans ?_
theorem forecastOp_but {m} (hm : sub 8591245952 m = true) (s : State) : (forecastOp s).but m = s.but m := but_mono hm (forecastOp_but' s)

theorem execForecastStart_but' (s : State) : (outOf (execForecastStart s) s).but 8658354816 = s.but 8658354816 := by
  unfold execForecastStart
  repeat' first
  | with_reducible rfl
  | simp (disch := first | exact Or.inr rfl | exact Or.inl rfl | decide) only [↓but_mk, ↓but_ite, ↓but_snd_ite, ↓but_snd_mk, ↓but_snd2_ite, ↓but_snd2_mk, ↓but_cond, ite_self, outOf_live, outOf_next, outOf_ite, ↓forecastOp_but, ↓clockTo_but]
  | split <;> try (with_reducible have h := congrArg Prod.snd ‹(_ : _ × State) = (_, _)›; dsimp only at h; subst h)
  | with_reducible refine (each_but (fun _ _ => ?_) _ _).trans ?_
  | with_reducible refine (whenS_but (fun _ => ?_) _ _).trans ?_
  | with_reducible refine (foldl_but (fun _ _ => ?_) _ _).trans ?_
  | with_reducible refine (foldl_but2 (fun _ _ => ?_) _ _).trans ?_
theorem execForecastStart_but {m} (hm : sub 8658354816 m = true) (s : State) : (outOf (execForecastStart s) s).but m = s.but m := but_mono hm (execForecastStart_but' s)

theorem setFc_but' (p : Nat) (round : Nat) (st : Nat) (s : State) : (setFc p round st s).but 262144 = s.but 262144 := by
  unfold setFc
  repeat' first
  | with_reducible rfl
  | simp (disch := first | exact Or.inr rfl | exact Or.inl rfl | decide) only [↓but_mk, ↓but_ite, ↓but_snd_ite, ↓but_snd_mk, ↓but_snd2_ite, ↓but_snd2_mk, ↓but_cond, ite_self, outOf_live, outOf_next, outOf_ite, ↓setPlate_but]
  | split <;> try (with_reducible have h := congrArg Prod.snd ‹(_ : _ × State) = (_, _)›; dsimp only at h; subst h)
  | with_reducible refine (each_but (fun _ _ => ?_) _ _).trans ?_
  | with_reducible refine (whenS_but (fun _ => ?_) _ _).trans ?_
  | with_reducible refine (foldl_but (fun _ _ => ?_) _ _).trans ?_
  | with_reducible refine (foldl_but2 (fun _ _ => ?_) _ _).trans ?_
theorem setFc_but {m} (hm : sub 262144 m = true) (p : Nat) (round : Nat) (st : Nat) (s : State) : (setFc p round st s).but m = s.but m := but_mono hm (setFc_but' p round st s)

theorem countEval_but' (p : Nat) (exc : Bool) (s : State) : (countEval p exc s).but 1311360 = s.but 1311360 := by
  unfold countEval
  repeat' first
  | with_reducible rfl
  | simp (disch := first | exact Or.inr rfl | exact Or.inl rfl | decide) only [↓but_mk, ↓but_ite, ↓but_snd_ite, ↓but_snd_mk, ↓but_snd2_ite, ↓but_snd2_mk, ↓but_cond, ite_self, outOf_live, outOf_next, outOf_ite, ↓setPlate_but, ↓demote_but, ↓emit_but]
  | split <;> try (with_reducible have h := congrArg Prod.snd ‹(_ : _ × State) = (_, _)›; dsimp only at h; subst h)
  | with_reducible refine (each_but (fun _ _ => ?_) _ _).trans ?_
  | with_reducible refine (whenS_but (fun _ => ?_) _ _).trans ?_
  | with_reducible refine (foldl_but (fun _ _ => ?_) _ _).trans ?_
  | with_reducible refine (foldl_but2 (fun _ _ => ?_) _ _).trans ?_
theorem countEval_but {m} (hm : sub 1311360 m = true) (p : Nat) (exc : Bool) (s : State) : (countEval p exc s).but m = s.but m := but_mono hm (countEval_but' p exc s)

theorem selfHot_but' (r : PlateRec) (f : FcRec) (s : State) : (selfHot r f s).but 1049216 = s.but 1049216 := by
  unfold selfHot
  repeat' first
  | with_reducible rfl
  | simp (disch := first | exact Or.inr rfl | exact Or.inl rfl | decide) only [↓but_mk, ↓but_ite, ↓but_snd_ite, ↓but_snd_mk, ↓but_snd2_ite, ↓but_snd2_mk, ↓but_cond, ite_self, outOf_live, outOf_next, outOf_ite, ↓emit_but]
  | split <;> try (with_reducible have h := congrArg Prod.snd ‹(_ : _ × State) = (_, _)›; dsimp only at h; subst h)
  | with_reducible refine (each_but (fun _ _ => ?_) _ _).trans ?_
  | with_reducible refine (whenS_but (fun _ => ?_) _ _).trans ?_
  | with_reducible refine (foldl_but (fun _ _ => ?_) _ _).trans ?_
  | with_reducible refine (foldl_but2 (fun _ _ => ?_) _ _).trans ?_
theorem selfHot_but {m} (hm : sub 1049216 m = true) (r : PlateRec) (f : FcRec) (s : State) : (selfHot r f s).but m = s.but m := but_mono hm (selfHot_but' r f s)

theorem settleFc_but' (r : PlateRec) (f : FcRec) (exc : Bool) (s : State) : (settleFc r f exc s).but 1311360 = s.but 1311360 := by
  unfold settleFc
  repeat' first
  | with_reducible rfl
  | simp (disch := first | exact Or.inr rfl | exact Or.inl rfl | decide) only [↓but_mk, ↓but_ite, ↓but_snd_ite, ↓but_snd_mk, ↓but_snd2_ite, ↓but_snd2_mk, ↓but_cond, ite_self, outOf_live, outOf_next, outOf_ite, ↓setFc_but, ↓setPlate_but, ↓selfHot_but]
  | split <;> try (with_reducible have h := congrArg Prod.snd ‹(_ : _ × State) = (_, _)›; dsimp only at h; subst h)
  | with_reducible refine (each_but (fun _ _ => ?_) _ _).trans ?_
  | with_reducible refine (whenS_but (fun _ => ?_) _ _).trans ?_
  | with_reducible refine (foldl_but (fun _ _ => ?_) _ _).trans ?_
  | with_reducible refine (foldl_but2 (fun _ _ => ?_) _ _).trans ?_
theorem settleFc_but {m} (hm : sub 1311360 m = true) (r : PlateRec) (f : FcRec) (exc : Bool) (s : State) : (settleFc r f exc s).but m = s.but m := but_mono hm (settleFc_but' r f exc s)

theorem feedVoters_but' (r : PlateRec) (tm : Nat) (s : State) : (feedVoters r tm s).but 8192 = s.but 8192 := by
  unfold feedVoters
  repeat' first
  | with_reducible rfl
  | simp (disch := first | exact Or.inr rfl | exact Or.inl rfl | decide) only [↓but_mk, ↓but_ite, ↓but_snd_ite, ↓but_snd_mk, ↓but_snd2_ite, ↓but_snd2_mk, ↓but_cond, ite_self, outOf_live, outOf_next, outOf_ite]
  | split <;> try (with_reducible have h := congrArg Prod.snd ‹(_ : _ × State) = (_, _)›; dsimp only at h; subst h)
  | with_reducible refine (each_but (fun _ _ => ?_) _ _).trans ?_
  | with_reducible refine (whenS_but (fun _ => ?_) _ _).trans ?_
  | with_reducible refine (foldl_but (fun _ _ => ?_) _ _).trans ?_
  | with_reducible refine (foldl_but2 (fun _ _ => ?_) _ _).trans ?_
theorem feedVoters_but {m} (hm : sub 8192 m = true) (r : PlateRec) (tm : Nat) (s : State) : (feedVoters r tm s).but m = s.but m := but_mono hm (feedVoters_but' r tm s)

theorem endVoters_but' (p : Nat) (s : State) : (endVoters p s).but 8192 = s.but 8192 := by
  unfold endVoters
  repeat' first
  | with_reducible rfl
  | simp (disch := first | exact Or.inr rfl | exact Or.inl rfl | decide) only [↓but_mk, ↓but_ite, ↓but_snd_ite, ↓but_snd_mk, ↓but_snd2_ite, ↓but_snd2_mk, ↓but_cond, ite_self, outOf_live, outOf_next, outOf_ite]
  | split <;> try (with_reducible have h := congrArg Prod.snd ‹(_ : _ × State) = (_, _)›; dsimp only at h; subst h)
  | with_reducible refine (each_but (fun _ _ => ?_) _ _).trans ?_
  | with_reducible refine (whenS_but (fun _ => ?_) _ _).trans ?_
  | with_reducible refine (foldl_but (fun _ _ => ?_) _ _).trans ?_
  | with_reducible refine (foldl_but2 (fun _ _ => ?_) _ _).trans ?_
theorem endVoters_but {m} (hm : sub 8192 m = true) (p : Nat) (s : State) : (endVoters p s).but m = s.but m := but_mono hm (endVoters_but' p s)

theorem guardPlate_but' (r : PlateRec) (s : State) : (guardPlate r s).but 1319552 = s.but 1319552 := by
  unfold guardPlate
  repeat' first
  | with_reducible rfl
  | simp (disch := first | exact Or.inr rfl | exact Or.inl rfl | decide) only [↓but_mk, ↓but_ite, ↓but_snd_ite, ↓but_snd_mk, ↓but_snd2_ite, ↓but_snd2_mk, ↓but_cond, ite_self, outOf_live, outOf_next, outOf_ite, ↓endVoters_but, ↓countEval_but, ↓setPlate_but, ↓feedVoters_but, ↓settleFc_but]
  | split <;> try (with_reducible have h := congrArg Prod.snd ‹(_ : _ × State) = (_, _)›; dsimp only at h; subst h)
  | with_reducible refine (each_but (fun _ _ => ?_) _ _).trans ?_
  | with_reducible refine (whenS_but (fun _ => ?_) _ _).trans ?_
  | with_reducible refine (foldl_but (fun _ _ => ?_) _ _).trans ?_
  | with_reducible refine (foldl_but2 (fun _ _ => ?_) _ _).trans ?_
theorem guardPlate_but {m} (hm : sub 1319552 m = true) (r : PlateRec) (s : State) : (guardPlate r s).but m = s.but m := but_mono hm (guardPlate_but' r s)

theorem archiveEntry_but' (p : Nat) (f : FcRec) (s : State) : (archiveEntry p f s).but 16777216 = s.but 16777216 := by
  unfold archiveEntry
  repeat' first
  | with_reducible rfl
  | simp (disch := first | exact Or.inr rfl | exact Or.inl rfl | decide) only [↓but_mk, ↓but_ite, ↓but_snd_ite, ↓but_snd_mk, ↓but_snd2_ite, ↓but_snd2_mk, ↓but_cond, ite_self, outOf_live, outOf_next, outOf_ite, ↓hbmPut_but]
  | split <;> try (with_reducible have h := congrArg Prod.snd ‹(_ : _ × State) = (_, _)›; dsimp only at h; subst h)
  | with_reducible refine (each_but (fun _ _ => ?_) _ _).trans ?_
  | with_reducible refine (whenS_but (fun _ => ?_) _ _).trans ?_
  | with_reducible refine (foldl_but (fun _ _ => ?_) _ _).trans ?_
  | with_reducible refine (foldl_but2 (fun _ _ => ?_) _ _).trans ?_
theorem archiveEntry_but {m} (hm : sub 16777216 m = true) (p : Nat) (f : FcRec) (s : State) : (archiveEntry p f s).but m = s.but m := but_mono hm (archiveEntry_but' p f s)

theorem completeRun_but' (late : Bool) (r : PlateRec) (s : State) : (completeRun late r s).but 17039360 = s.but 17039360 := by
  unfold completeRun
  repeat' first
  | with_reducible rfl
  | simp (disch := first | exact Or.inr rfl | exact Or.inl rfl | decide) only [↓but_mk, ↓but_ite, ↓but_snd_ite, ↓but_snd_mk, ↓but_snd2_ite, ↓but_snd2_mk, ↓but_cond, ite_self, outOf_live, outOf_next, outOf_ite, ↓setPlate_but, ↓archiveEntry_but]
  | split <;> try (with_reducible have h := congrArg Prod.snd ‹(_ : _ × State) = (_, _)›; dsimp only at h; subst h)
  | with_reducible refine (each_but (fun _ _ => ?_) _ _).trans ?_
  | with_reducible refine (whenS_but (fun _ => ?_) _ _).trans ?_
  | with_reducible refine (foldl_but (fun _ _ => ?_) _ _).trans ?_
  | with_reducible refine (foldl_but2 (fun _ _ => ?_) _ _).trans ?_
theorem completeRun_but {m} (hm : sub 17039360 m = true) (late : Bool) (r : PlateRec) (s : State) : (completeRun late r s).but m = s.but m := but_mono hm (completeRun_but' late r s)

theorem latchCounts_but' (s : State) : (latchCounts s).but 262144 = s.but 262144 := by
  unfold latchCounts
  repeat' first
  | with_reducible rfl
  | simp (disch := first | exact Or.inr rfl | exact Or.inl rfl | decide) only [↓but_mk, ↓but_ite, ↓but_snd_ite, ↓but_snd_mk, ↓but_snd2_ite, ↓but_snd2_mk, ↓but_cond, ite_self, outOf_live, outOf_next, outOf_ite]
  | split <;> try (with_reducible have h := congrArg Prod.snd ‹(_ : _ × State) = (_, _)›; dsimp only at h; subst h)
  | with_reducible refine (each_but (fun _ _ => ?_) _ _).trans ?_
  | with_reducible refine (whenS_but (fun _ => ?_) _ _).trans ?_
  | with_reducible refine (foldl_but (fun _ _ => ?_) _ _).trans ?_
  | with_reducible refine (foldl_but2 (fun _ _ => ?_) _ _).trans ?_
theorem latchCounts_but {m} (hm : sub 262144 m = true) (s : State) : (latchCounts s).but m = s.but m := but_mono hm (latchCounts_but' s)

theorem guardOp_but' (late : List Nat) (s : State) : (guardOp late s).but 18096768 = s.but 18096768 := by
  unfold guardOp
  repeat' first
  | with_reducible rfl
  | simp (disch := first | exact Or.inr rfl | exact Or.inl rfl | decide) only [↓but_mk, ↓but_ite, ↓but_snd_ite, ↓but_snd_mk, ↓but_snd2_ite, ↓but_snd2_mk, ↓but_cond, ite_self, outOf_live, outOf_next, outOf_ite, ↓completeRun_but, ↓tilesWork_but, ↓latchCounts_but, ↓guardPlate_but]
  | split <;> try (with_reducible have h := congrArg Prod.snd ‹(_ : _ × State) = (_, _)›; dsimp only at h; subst h)
  | with_reducible refine (each_but (fun _ _ => ?_) _ _).trans ?_
  | with_reducible refine (whenS_but (fun _ => ?_) _ _).trans ?_
  | with_reducible refine (foldl_but (fun _ _ => ?_) _ _).trans ?_
  | with_reducible refine (foldl_but2 (fun _ _ => ?_) _ _).trans ?_
theorem guardOp_but {m} (hm : sub 18096768 m = true) (late : List Nat) (s : State) : (guardOp late s).but m = s.but m := but_mono hm (guardOp_but' late s)

theorem execResidualGuard_but' (late : List Nat) (s : State) : (outOf (execResidualGuard late s) s).but 85205632 = s.but 85205632 := by
  unfold execResidualGuard
  repeat' first
  | with_reducible rfl
  | simp (disch := first | exact Or.inr rfl | exact Or.inl rfl | decide) only [↓but_mk, ↓but_ite, ↓but_snd_ite, ↓but_snd_mk, ↓but_snd2_ite, ↓but_snd2_mk, ↓but_cond, ite_self, outOf_live, outOf_next, outOf_ite, ↓guardOp_but, ↓clockTo_but]
  | split <;> try (with_reducible have h := congrArg Prod.snd ‹(_ : _ × State) = (_, _)›; dsimp only at h; subst h)
  | with_reducible refine (each_but (fun _ _ => ?_) _ _).trans ?_
  | with_reducible refine (whenS_but (fun _ => ?_) _ _).trans ?_
  | with_reducible refine (foldl_but (fun _ _ => ?_) _ _).trans ?_
  | with_reducible refine (foldl_but2 (fun _ _ => ?_) _ _).trans ?_
theorem execResidualGuard_but {m} (hm : sub 85205632 m = true) (late : List Nat) (s : State) : (outOf (execResidualGuard late s) s).but m = s.but m := but_mono hm (execResidualGuard_but' late s)

theorem forceOp_but' (p : Nat) (s : State) : (forceOp p s).but 1311360 = s.but 1311360 := by
  unfold forceOp
  repeat' first
  | with_reducible rfl
  | simp (disch := first | exact Or.inr rfl | exact Or.inl rfl | decide) only [↓but_mk, ↓but_ite, ↓but_snd_ite, ↓but_snd_mk, ↓but_snd2_ite, ↓but_snd2_mk, ↓but_cond, ite_self, outOf_live, outOf_next, outOf_ite, ↓demote_but, ↓setPlate_but]
  | split <;> try (with_reducible have h := congrArg Prod.snd ‹(_ : _ × State) = (_, _)›; dsimp only at h; subst h)
  | with_reducible refine (each_but (fun _ _ => ?_) _ _).trans ?_
  | with_reducible refine (whenS_but (fun _ => ?_) _ _).trans ?_
  | with_reducible refine (foldl_but (fun _ _ => ?_) _ _).trans ?_
  | with_reducible refine (foldl_but2 (fun _ _ => ?_) _ _).trans ?_
theorem forceOp_but {m} (hm : sub 1311360 m = true) (p : Nat) (s : State) : (forceOp p s).but m = s.but m := but_mono hm (forceOp_but' p s)

theorem releaseOp_but' (p : Nat) (s : State) : (releaseOp p s).but 262144 = s.but 262144 := by
  unfold releaseOp
  repeat' first
  | with_reducible rfl
  | simp (disch := first | exact Or.inr rfl | exact Or.inl rfl | decide) only [↓but_mk, ↓but_ite, ↓but_snd_ite, ↓but_snd_mk, ↓but_snd2_ite, ↓but_snd2_mk, ↓but_cond, ite_self, outOf_live, outOf_next, outOf_ite, ↓setPlate_but]
  | split <;> try (with_reducible have h := congrArg Prod.snd ‹(_ : _ × State) = (_, _)›; dsimp only at h; subst h)
  | with_reducible refine (each_but (fun _ _ => ?_) _ _).trans ?_
  | with_reducible refine (whenS_but (fun _ => ?_) _ _).trans ?_
  | with_reducible refine (foldl_but (fun _ _ => ?_) _ _).trans ?_
  | with_reducible refine (foldl_but2 (fun _ _ => ?_) _ _).trans ?_
theorem releaseOp_but {m} (hm : sub 262144 m = true) (p : Nat) (s : State) : (releaseOp p s).but m = s.but m := but_mono hm (releaseOp_but' p s)

theorem execForceDemoted_but' (plate : Nat) (s : State) : (outOf (execForceDemoted plate s) s).but 1311360 = s.but 1311360 := by
  unfold execForceDemoted
  repeat' first
  | with_reducible rfl
  | simp (disch := first | exact Or.inr rfl | exact Or.inl rfl | decide) only [↓but_mk, ↓but_ite, ↓but_snd_ite, ↓but_snd_mk, ↓but_snd2_ite, ↓but_snd2_mk, ↓but_cond, ite_self, outOf_live, outOf_next, outOf_ite, ↓forceOp_but]
  | split <;> try (with_reducible have h := congrArg Prod.snd ‹(_ : _ × State) = (_, _)›; dsimp only at h; subst h)
  | with_reducible refine (each_but (fun _ _ => ?_) _ _).trans ?_
  | with_reducible refine (whenS_but (fun _ => ?_) _ _).trans ?_
  | with_reducible refine (foldl_but (fun _ _ => ?_) _ _).trans ?_
  | with_reducible refine (foldl_but2 (fun _ _ => ?_) _ _).trans ?_
theorem execForceDemoted_but {m} (hm : sub 1311360 m = true) (plate : Nat) (s : State) : (outOf (execForceDemoted plate s) s).but m = s.but m := but_mono hm (execForceDemoted_but' plate s)

theorem execPlateRelease_but' (plate : Nat) (s : State) : (outOf (execPlateRelease plate s) s).but 262144 = s.but 262144 := by
  unfold execPlateRelease
  repeat' first
  | with_reducible rfl
  | simp (disch := first | exact Or.inr rfl | exact Or.inl rfl | decide) only [↓but_mk, ↓but_ite, ↓but_snd_ite, ↓but_snd_mk, ↓but_snd2_ite, ↓but_snd2_mk, ↓but_cond, ite_self, outOf_live, outOf_next, outOf_ite, ↓releaseOp_but]
  | split <;> try (with_reducible have h := congrArg Prod.snd ‹(_ : _ × State) = (_, _)›; dsimp only at h; subst h)
  | with_reducible refine (each_but (fun _ _ => ?_) _ _).trans ?_
  | with_reducible refine (whenS_but (fun _ => ?_) _ _).trans ?_
  | with_reducible refine (foldl_but (fun _ _ => ?_) _ _).trans ?_
  | with_reducible refine (foldl_but2 (fun _ _ => ?_) _ _).trans ?_
theorem execPlateRelease_but {m} (hm : sub 262144 m = true) (plate : Nat) (s : State) : (outOf (execPlateRelease plate s) s).but m = s.but m := but_mono hm (execPlateRelease_but' plate s)

theorem execWarmHoldEnd_but' (s : State) : (outOf (execWarmHoldEnd s) s).but 1311360 = s.but 1311360 := by
  unfold execWarmHoldEnd
  repeat' first
  | with_reducible rfl
  | simp (disch := first | exact Or.inr rfl | exact Or.inl rfl | decide) only [↓but_mk, ↓but_ite, ↓but_snd_ite, ↓but_snd_mk, ↓but_snd2_ite, ↓but_snd2_mk, ↓but_cond, ite_self, outOf_live, outOf_next, outOf_ite, ↓updateDegraded_but]
  | split <;> try (with_reducible have h := congrArg Prod.snd ‹(_ : _ × State) = (_, _)›; dsimp only at h; subst h)
  | with_reducible refine (each_but (fun _ _ => ?_) _ _).trans ?_
  | with_reducible refine (whenS_but (fun _ => ?_) _ _).trans ?_
  | with_reducible refine (foldl_but (fun _ _ => ?_) _ _).trans ?_
  | with_reducible refine (foldl_but2 (fun _ _ => ?_) _ _).trans ?_
theorem execWarmHoldEnd_but {m} (hm : sub 1311360 m = true) (s : State) : (outOf (execWarmHoldEnd s) s).but m = s.but m := but_mono hm (execWarmHoldEnd_but' s)

theorem sliceOp_but' (m0 : ModelC) (k : Nat) (t : Nat) (p : Nat) (s : State) : (sliceOp m0 k t p s).but 8608023168 = s.but 8608023168 := by
  unfold sliceOp
  repeat' first
  | with_reducible rfl
  | simp (disch := first | exact Or.inr rfl | exact Or.inl rfl | decide) only [↓but_mk, ↓but_ite, ↓but_snd_ite, ↓but_snd_mk, ↓but_snd2_ite, ↓but_snd2_mk, ↓but_cond, ite_self, outOf_live, outOf_next, outOf_ite, ↓setTile_but, ↓fmtExcs_but]
  | split <;> try (with_reducible have h := congrArg Prod.snd ‹(_ : _ × State) = (_, _)›; dsimp only at h; subst h)
  | with_reducible refine (each_but (fun _ _ => ?_) _ _).trans ?_
  | with_reducible refine (whenS_but (fun _ => ?_) _ _).trans ?_
  | with_reducible refine (foldl_but (fun _ _ => ?_) _ _).trans ?_
  | with_reducible refine (foldl_but2 (fun _ _ => ?_) _ _).trans ?_
theorem sliceOp_but {m} (hm : sub 8608023168 m = true) (m0 : ModelC) (k : Nat) (t : Nat) (p : Nat) (s : State) : (sliceOp m0 k t p s).but m = s.but m := but_mono hm (sliceOp_but' m0 k t p s)

theorem sliceEnded_but' (k : Nat) (t : Nat) (s : State) : (sliceEnded k t s).but 4096 = s.but 4096 := by
  unfold sliceEnded
  repeat' first
  | with_reducible rfl
  | simp (disch := first | exact Or.inr rfl | exact Or.inl rfl | decide) only [↓but_mk, ↓but_ite, ↓but_snd_ite, ↓but_snd_mk, ↓but_snd2_ite, ↓but_snd2_mk, ↓but_cond, ite_self, outOf_live, outOf_next, outOf_ite]
  | split <;> try (with_reducible have h := congrArg Prod.snd ‹(_ : _ × State) = (_, _)›; dsimp only at h; subst h)
  | with_reducible refine (each_but (fun _ _ => ?_) _ _).trans ?_
  | with_reducible refine (whenS_but (fun _ => ?_) _ _).trans ?_
  | with_reducible refine (foldl_but (fun _ _ => ?_) _ _).trans ?_
  | with_reducible refine (foldl_but2 (fun _ _ => ?_) _ _).trans ?_
theorem sliceEnded_but {m} (hm : sub 4096 m = true) (k : Nat) (t : Nat) (s : State) : (sliceEnded k t s).but m = s.but m := but_mono hm (sliceEnded_but' k t s)

theorem execAdaptationSlice_but' (region : Nat) (pos : Nat) (completed : Bool) (s : State) : (outOf (execAdaptationSlice region pos completed s) s).but 8675136128 = s.but 8675136128 := by
  unfold execAdaptationSlice
  repeat' first
  | with_reducible rfl
  | simp (disch := first | exact Or.inr rfl | exact Or.inl rfl | decide) only [↓but_mk, ↓but_ite, ↓but_snd_ite, ↓but_snd_mk, ↓but_snd2_ite, ↓but_snd2_mk, ↓but_cond, ite_self, outOf_live, outOf_next, outOf_ite, ↓sliceEnded_but, ↓sliceOp_but, ↓clockTo_but]
  | split <;> try (with_reducible have h := congrArg Prod.snd ‹(_ : _ × State) = (_, _)›; dsimp only at h; subst h)
  | with_reducible refine (each_but (fun _ _ => ?_) _ _).trans ?_
  | with_reducible refine (whenS_but (fun _ => ?_) _ _).trans ?_
  | with_reducible refine (foldl_but (fun _ _ => ?_) _ _).trans ?_
  | with_reducible refine (foldl_but2 (fun _ _ => ?_) _ _).trans ?_
theorem execAdaptationSlice_but {m} (hm : sub 8675136128 m = true) (region : Nat) (pos : Nat) (completed : Bool) (s : State) : (outOf (execAdaptationSlice region pos completed s) s).but m = s.but m := but_mono hm (execAdaptationSlice_but' region pos completed s)

theorem execMirrorSweep_but' (s : State) : (outOf (execMirrorSweep s) s).but 76808832 = s.but 76808832 := by
  unfold execMirrorSweep
  repeat' first
  | with_reducible rfl
  | simp (disch := first | exact Or.inr rfl | exact Or.inl rfl | decide) only [↓but_mk, ↓but_ite, ↓but_snd_ite, ↓but_snd_mk, ↓but_snd2_ite, ↓but_snd2_mk, ↓but_cond, ite_self, outOf_live, outOf_next, outOf_ite, ↓clockTo_but, ↓mirrorSend_but, ↓emit_but]
  | split <;> try (with_reducible have h := congrArg Prod.snd ‹(_ : _ × State) = (_, _)›; dsimp only at h; subst h)
  | with_reducible refine (each_but (fun _ _ => ?_) _ _).trans ?_
  | with_reducible refine (whenS_but (fun _ => ?_) _ _).trans ?_
  | with_reducible refine (foldl_but (fun _ _ => ?_) _ _).trans ?_
  | with_reducible refine (foldl_but2 (fun _ _ => ?_) _ _).trans ?_
theorem execMirrorSweep_but {m} (hm : sub 76808832 m = true) (s : State) : (outOf (execMirrorSweep s) s).but m = s.but m := but_mono hm (execMirrorSweep_but' s)

theorem modelRefused_but' (c : Nat) (us : Nat) (bytes : Nat) (s : State) : (modelRefused c us bytes s).but 1311360 = s.but 1311360 := by
  unfold modelRefused
  repeat' first
  | with_reducible rfl
  | simp (disch := first | exact Or.inr rfl | exact Or.inl rfl | decide) only [↓but_mk, ↓but_ite, ↓but_snd_ite, ↓but_snd_mk, ↓but_snd2_ite, ↓but_snd2_mk, ↓but_cond, ite_self, outOf_live, outOf_next, outOf_ite, ↓emit_but]
  | split <;> try (with_reducible have h := congrArg Prod.snd ‹(_ : _ × State) = (_, _)›; dsimp only at h; subst h)
  | with_reducible refine (each_but (fun _ _ => ?_) _ _).trans ?_
  | with_reducible refine (whenS_but (fun _ => ?_) _ _).trans ?_
  | with_reducible refine (foldl_but (fun _ _ => ?_) _ _).trans ?_
  | with_reducible refine (foldl_but2 (fun _ _ => ?_) _ _).trans ?_
theorem modelRefused_but {m} (hm : sub 1311360 m = true) (c : Nat) (us : Nat) (bytes : Nat) (s : State) : (modelRefused c us bytes s).but m = s.but m := but_mono hm (modelRefused_but' c us bytes s)

theorem activateRun_but' (d : Dgram) (addr : Nat) (len : Nat) (s : State) : (activateRun d addr len s).2.but 1311360 = s.but 1311360 := by
  unfold activateRun
  repeat' first
  | with_reducible rfl
  | simp (disch := first | exact Or.inr rfl | exact Or.inl rfl | decide) only [↓but_mk, ↓but_ite, ↓but_snd_ite, ↓but_snd_mk, ↓but_snd2_ite, ↓but_snd2_mk, ↓but_cond, ite_self, outOf_live, outOf_next, outOf_ite, ↓modelRefused_but]
  | split <;> try (with_reducible have h := congrArg Prod.snd ‹(_ : _ × State) = (_, _)›; dsimp only at h; subst h)
  | with_reducible refine (each_but (fun _ _ => ?_) _ _).trans ?_
  | with_reducible refine (whenS_but (fun _ => ?_) _ _).trans ?_
  | with_reducible refine (foldl_but (fun _ _ => ?_) _ _).trans ?_
  | with_reducible refine (foldl_but2 (fun _ _ => ?_) _ _).trans ?_
theorem activateRun_but {m} (hm : sub 1311360 m = true) (d : Dgram) (addr : Nat) (len : Nat) (s : State) : (activateRun d addr len s).2.but m = s.but m := but_mono hm (activateRun_but' d addr len s)

theorem activateKern_but' (d : Dgram) (p : PeerRec) (a1 : Nat) (args : Bytes) (s : State) : (activateKern d p a1 args s).2.but 1311360 = s.but 1311360 := by
  unfold activateKern
  repeat' first
  | with_reducible rfl
  | simp (disch := first | exact Or.inr rfl | exact Or.inl rfl | decide) only [↓but_mk, ↓but_ite, ↓but_snd_ite, ↓but_snd_mk, ↓but_snd2_ite, ↓but_snd2_mk, ↓but_cond, ite_self, outOf_live, outOf_next, outOf_ite, ↓activateRun_but]
  | split <;> try (with_reducible have h := congrArg Prod.snd ‹(_ : _ × State) = (_, _)›; dsimp only at h; subst h)
  | with_reducible refine (each_but (fun _ _ => ?_) _ _).trans ?_
  | with_reducible refine (whenS_but (fun _ => ?_) _ _).trans ?_
  | with_reducible refine (foldl_but (fun _ _ => ?_) _ _).trans ?_
  | with_reducible refine (foldl_but2 (fun _ _ => ?_) _ _).trans ?_
  | with_reducible refine (signalGate_but (by decide) (fun _ => ?_) ..).trans ?_
theorem activateKern_but {m} (hm : sub 1311360 m = true) (d : Dgram) (p : PeerRec) (a1 : Nat) (args : Bytes) (s : State) : (activateKern d p a1 args s).2.but m = s.but m := but_mono hm (activateKern_but' d p a1 args s)

theorem execModelActivate_but' (d : Dgram) (s : State) : (outOf (execModelActivate d s) s).but 9705088 = s.but 9705088 := by
  unfold execModelActivate
  repeat' first
  | with_reducible rfl
  | simp (disch := first | exact Or.inr rfl | exact Or.inl rfl | decide) only [↓but_mk, ↓but_ite, ↓but_snd_ite, ↓but_snd_mk, ↓but_snd2_ite, ↓but_snd2_mk, ↓but_cond, ite_self, outOf_live, outOf_next, outOf_ite, ↓activateKern_but]
  | split <;> try (with_reducible have h := congrArg Prod.snd ‹(_ : _ × State) = (_, _)›; dsimp only at h; subst h)
  | with_reducible refine (each_but (fun _ _ => ?_) _ _).trans ?_
  | with_reducible refine (whenS_but (fun _ => ?_) _ _).trans ?_
  | with_reducible refine (foldl_but (fun _ _ => ?_) _ _).trans ?_
  | with_reducible refine (foldl_but2 (fun _ _ => ?_) _ _).trans ?_
  | with_reducible refine (critical_but (by decide) (fun _ _ _ _ => ?_) ..).trans ?_
theorem execModelActivate_but {m} (hm : sub 9705088 m = true) (d : Dgram) (s : State) : (outOf (execModelActivate d s) s).but m = s.but m := but_mono hm (execModelActivate_but' d s)

theorem bindPlates_but' (m0 : ModelC) (s : State) : (bindPlates m0 s).but 1311360 = s.but 1311360 := by
  unfold bindPlates
  repeat' first
  | with_reducible rfl
  | simp (disch := first | exact Or.inr rfl | exact Or.inl rfl | decide) only [↓but_mk, ↓but_ite, ↓but_snd_ite, ↓but_snd_mk, ↓but_snd2_ite, ↓but_snd2_mk, ↓but_cond, ite_self, outOf_live, outOf_next, outOf_ite, ↓setPlate_but, ↓emit_but]
  | split <;> try (with_reducible have h := congrArg Prod.snd ‹(_ : _ × State) = (_, _)›; dsimp only at h; subst h)
  | with_reducible refine (each_but (fun _ _ => ?_) _ _).trans ?_
  | with_reducible refine (whenS_but (fun _ => ?_) _ _).trans ?_
  | with_reducible refine (foldl_but (fun _ _ => ?_) _ _).trans ?_
  | with_reducible refine (foldl_but2 (fun _ _ => ?_) _ _).trans ?_
theorem bindPlates_but {m} (hm : sub 1311360 m = true) (m0 : ModelC) (s : State) : (bindPlates m0 s).but m = s.but m := but_mono hm (bindPlates_but' m0 s)

theorem loaderCopies_but' (s : State) : (loaderCopies s).but 16777216 = s.but 16777216 := by
  unfold loaderCopies
  repeat' first
  | with_reducible rfl
  | simp (disch := first | exact Or.inr rfl | exact Or.inl rfl | decide) only [↓but_mk, ↓but_ite, ↓but_snd_ite, ↓but_snd_mk, ↓but_snd2_ite, ↓but_snd2_mk, ↓but_cond, ite_self, outOf_live, outOf_next, outOf_ite, ↓putCopies_but]
  | split <;> try (with_reducible have h := congrArg Prod.snd ‹(_ : _ × State) = (_, _)›; dsimp only at h; subst h)
  | with_reducible refine (each_but (fun _ _ => ?_) _ _).trans ?_
  | with_reducible refine (whenS_but (fun _ => ?_) _ _).trans ?_
  | with_reducible refine (foldl_but (fun _ _ => ?_) _ _).trans ?_
  | with_reducible refine (foldl_but2 (fun _ _ => ?_) _ _).trans ?_
theorem loaderCopies_but {m} (hm : sub 16777216 m = true) (s : State) : (loaderCopies s).but m = s.but m := but_mono hm (loaderCopies_but' s)

theorem activateBegin_but' (m0 : ModelC) (s : State) : (activateBegin m0 s).but 18088576 = s.but 18088576 := by
  unfold activateBegin
  repeat' first
  | with_reducible rfl
  | simp (disch := first | exact Or.inr rfl | exact Or.inl rfl | decide) only [↓but_mk, ↓but_ite, ↓but_snd_ite, ↓but_snd_mk, ↓but_snd2_ite, ↓but_snd2_mk, ↓but_cond, ite_self, outOf_live, outOf_next, outOf_ite, ↓warmStart_but, ↓updateDegraded_but, ↓bindPlates_but, ↓loaderCopies_but]
  | split <;> try (with_reducible have h := congrArg Prod.snd ‹(_ : _ × State) = (_, _)›; dsimp only at h; subst h)
  | with_reducible refine (each_but (fun _ _ => ?_) _ _).trans ?_
  | with_reducible refine (whenS_but (fun _ => ?_) _ _).trans ?_
  | with_reducible refine (foldl_but (fun _ _ => ?_) _ _).trans ?_
  | with_reducible refine (foldl_but2 (fun _ _ => ?_) _ _).trans ?_
theorem activateBegin_but {m} (hm : sub 18088576 m = true) (m0 : ModelC) (s : State) : (activateBegin m0 s).but m = s.but m := but_mono hm (activateBegin_but' m0 s)

theorem storesLoaded_but' (m0 : ModelC) (s : State) : (storesLoaded m0 s).but 262144 = s.but 262144 := by
  unfold storesLoaded
  repeat' first
  | with_reducible rfl
  | simp (disch := first | exact Or.inr rfl | exact Or.inl rfl | decide) only [↓but_mk, ↓but_ite, ↓but_snd_ite, ↓but_snd_mk, ↓but_snd2_ite, ↓but_snd2_mk, ↓but_cond, ite_self, outOf_live, outOf_next, outOf_ite]
  | split <;> try (with_reducible have h := congrArg Prod.snd ‹(_ : _ × State) = (_, _)›; dsimp only at h; subst h)
  | with_reducible refine (each_but (fun _ _ => ?_) _ _).trans ?_
  | with_reducible refine (whenS_but (fun _ => ?_) _ _).trans ?_
  | with_reducible refine (foldl_but (fun _ _ => ?_) _ _).trans ?_
  | with_reducible refine (foldl_but2 (fun _ _ => ?_) _ _).trans ?_
theorem storesLoaded_but {m} (hm : sub 262144 m = true) (m0 : ModelC) (s : State) : (storesLoaded m0 s).but m = s.but m := but_mono hm (storesLoaded_but' m0 s)

theorem modelRound_but' (s : State) : (modelRound s).but 18088576 = s.but 18088576 := by
  unfold modelRound
  repeat' first
  | with_reducible rfl
  | simp (disch := first | exact Or.inr rfl | exact Or.inl rfl | decide) only [↓but_mk, ↓but_ite, ↓but_snd_ite, ↓but_snd_mk, ↓but_snd2_ite, ↓but_snd2_mk, ↓but_cond, ite_self, outOf_live, outOf_next, outOf_ite, ↓activateBegin_but, ↓storesLoaded_but, ↓updateDegraded_but, ↓emit_but]
  | split <;> try (with_reducible have h := congrArg Prod.snd ‹(_ : _ × State) = (_, _)›; dsimp only at h; subst h)
  | with_reducible refine (each_but (fun _ _ => ?_) _ _).trans ?_
  | with_reducible refine (whenS_but (fun _ => ?_) _ _).trans ?_
  | with_reducible refine (foldl_but (fun _ _ => ?_) _ _).trans ?_
  | with_reducible refine (foldl_but2 (fun _ _ => ?_) _ _).trans ?_
theorem modelRound_but {m} (hm : sub 18088576 m = true) (s : State) : (modelRound s).but m = s.but m := but_mono hm (modelRound_but' s)

theorem mdlAnswer_but' (st : Nat) (det : Nat) (s : State) : (mdlAnswer st det s).but 8652288 = s.but 8652288 := by
  unfold mdlAnswer
  repeat' first
  | with_reducible rfl
  | simp (disch := first | exact Or.inr rfl | exact Or.inl rfl | decide) only [↓but_mk, ↓but_ite, ↓but_snd_ite, ↓but_snd_mk, ↓but_snd2_ite, ↓but_snd2_mk, ↓but_cond, ite_self, outOf_live, outOf_next, outOf_ite, ↓finishCmd_but]
  | split <;> try (with_reducible have h := congrArg Prod.snd ‹(_ : _ × State) = (_, _)›; dsimp only at h; subst h)
  | with_reducible refine (each_but (fun _ _ => ?_) _ _).trans ?_
  | with_reducible refine (whenS_but (fun _ => ?_) _ _).trans ?_
  | with_reducible refine (foldl_but (fun _ _ => ?_) _ _).trans ?_
  | with_reducible refine (foldl_but2 (fun _ _ => ?_) _ _).trans ?_
theorem mdlAnswer_but {m} (hm : sub 8652288 m = true) (st : Nat) (det : Nat) (s : State) : (mdlAnswer st det s).but m = s.but m := but_mono hm (mdlAnswer_but' st det s)

theorem execModelFitTrialEnd_but' (tRoll : Nat) (tStall : Nat) (s : State) : (outOf (execModelFitTrialEnd tRoll tStall s) s).but 9700992 = s.but 9700992 := by
  unfold execModelFitTrialEnd
  repeat' first
  | with_reducible rfl
  | simp (disch := first | exact Or.inr rfl | exact Or.inl rfl | decide) only [↓but_mk, ↓but_ite, ↓but_snd_ite, ↓but_snd_mk, ↓but_snd2_ite, ↓but_snd2_mk, ↓but_cond, ite_self, outOf_live, outOf_next, outOf_ite, ↓mdlAnswer_but, ↓updateDegraded_but, ↓emit_but, ↓modelRefused_but, ↓demoteZero_but]
  | split <;> try (with_reducible have h := congrArg Prod.snd ‹(_ : _ × State) = (_, _)›; dsimp only at h; subst h)
  | with_reducible refine (each_but (fun _ _ => ?_) _ _).trans ?_
  | with_reducible refine (whenS_but (fun _ => ?_) _ _).trans ?_
  | with_reducible refine (foldl_but (fun _ _ => ?_) _ _).trans ?_
  | with_reducible refine (foldl_but2 (fun _ _ => ?_) _ _).trans ?_
theorem execModelFitTrialEnd_but {m} (hm : sub 9700992 m = true) (tRoll : Nat) (tStall : Nat) (s : State) : (outOf (execModelFitTrialEnd tRoll tStall s) s).but m = s.but m := but_mono hm (execModelFitTrialEnd_but' tRoll tStall s)

end Sys2Proof.Machine
end

