-- ==== Sys2Proof/Laws/FrameAl.lean ====
section
/-! SUPPORT. What each function can change (allocator, leases and counter commands): it leaves every part of State outside its mask as it was. -/

set_option linter.all false

namespace Sys2Proof.Machine

theorem inputLost_but' (kind : Nat) (index : Nat) (sub : Word) (s : State) : (inputLost kind index sub s).but 1573504 = s.but 1573504 := by
  unfold inputLost
  repeat' first
  | with_reducible rfl
  | simp (disch := first | exact Or.inr rfl | exact Or.inl rfl | decide) only [↓but_mk, ↓but_ite, ↓but_snd_ite, ↓but_snd_mk, ↓but_snd2_ite, ↓but_snd2_mk, ↓but_cond, ite_self, outOf_live, outOf_next, outOf_ite, ↓emit_but]
  | split <;> try (with_reducible have h := congrArg Prod.snd ‹(_ : _ × State) = (_, _)›; dsimp only at h; subst h)
  | with_reducible refine (each_but (fun _ _ => ?_) _ _).trans ?_
  | with_reducible refine (whenS_but (fun _ => ?_) _ _).trans ?_
  | with_reducible refine (foldl_but (fun _ _ => ?_) _ _).trans ?_
  | with_reducible refine (foldl_but2 (fun _ _ => ?_) _ _).trans ?_
theorem inputLost_but {m} (hm : sub 1573504 m = true) (kind : Nat) (index : Nat) (sub : Word) (s : State) : (inputLost kind index sub s).but m = s.but m := but_mono hm (inputLost_but' kind index sub s)

theorem inputGood_but' (kind : Nat) (index : Nat) (v : F32) (s : State) : (inputGood kind index v s).but 524288 = s.but 524288 := by
  unfold inputGood
  repeat' first
  | with_reducible rfl
  | simp (disch := first | exact Or.inr rfl | exact Or.inl rfl | decide) only [↓but_mk, ↓but_ite, ↓but_snd_ite, ↓but_snd_mk, ↓but_snd2_ite, ↓but_snd2_mk, ↓but_cond, ite_self, outOf_live, outOf_next, outOf_ite]
  | split <;> try (with_reducible have h := congrArg Prod.snd ‹(_ : _ × State) = (_, _)›; dsimp only at h; subst h)
  | with_reducible refine (each_but (fun _ _ => ?_) _ _).trans ?_
  | with_reducible refine (whenS_but (fun _ => ?_) _ _).trans ?_
  | with_reducible refine (foldl_but (fun _ _ => ?_) _ _).trans ?_
  | with_reducible refine (foldl_but2 (fun _ _ => ?_) _ _).trans ?_
theorem inputGood_but {m} (hm : sub 524288 m = true) (kind : Nat) (index : Nat) (v : F32) (s : State) : (inputGood kind index v s).but m = s.but m := but_mono hm (inputGood_but' kind index v s)

theorem capInput_but' (kind : Nat) (index : Nat) (ch : Nat) (s : State) : (capInput kind index ch s).2.but 1573504 = s.but 1573504 := by
  unfold capInput
  repeat' first
  | with_reducible rfl
  | simp (disch := first | exact Or.inr rfl | exact Or.inl rfl | decide) only [↓but_mk, ↓but_ite, ↓but_snd_ite, ↓but_snd_mk, ↓but_snd2_ite, ↓but_snd2_mk, ↓but_cond, ite_self, outOf_live, outOf_next, outOf_ite, ↓inputGood_but, ↓inputLost_but]
  | split <;> try (with_reducible have h := congrArg Prod.snd ‹(_ : _ × State) = (_, _)›; dsimp only at h; subst h)
  | with_reducible refine (each_but (fun _ _ => ?_) _ _).trans ?_
  | with_reducible refine (whenS_but (fun _ => ?_) _ _).trans ?_
  | with_reducible refine (foldl_but (fun _ _ => ?_) _ _).trans ?_
  | with_reducible refine (foldl_but2 (fun _ _ => ?_) _ _).trans ?_
theorem capInput_but {m} (hm : sub 1573504 m = true) (kind : Nat) (index : Nat) (ch : Nat) (s : State) : (capInput kind index ch s).2.but m = s.but m := but_mono hm (capInput_but' kind index ch s)

theorem noteInput_but' (kind : Nat) (index : Nat) (ch : Nat) (s : State) : (noteInput kind index ch s).but 524288 = s.but 524288 := by
  unfold noteInput
  repeat' first
  | with_reducible rfl
  | simp (disch := first | exact Or.inr rfl | exact Or.inl rfl | decide) only [↓but_mk, ↓but_ite, ↓but_snd_ite, ↓but_snd_mk, ↓but_snd2_ite, ↓but_snd2_mk, ↓but_cond, ite_self, outOf_live, outOf_next, outOf_ite, ↓inputGood_but]
  | split <;> try (with_reducible have h := congrArg Prod.snd ‹(_ : _ × State) = (_, _)›; dsimp only at h; subst h)
  | with_reducible refine (each_but (fun _ _ => ?_) _ _).trans ?_
  | with_reducible refine (whenS_but (fun _ => ?_) _ _).trans ?_
  | with_reducible refine (foldl_but (fun _ _ => ?_) _ _).trans ?_
  | with_reducible refine (foldl_but2 (fun _ _ => ?_) _ _).trans ?_
theorem noteInput_but {m} (hm : sub 524288 m = true) (kind : Nat) (index : Nat) (ch : Nat) (s : State) : (noteInput kind index ch s).but m = s.but m := but_mono hm (noteInput_but' kind index ch s)

theorem noteInputs_but' (s : State) : (noteInputs s).but 524288 = s.but 524288 := by
  unfold noteInputs
  repeat' first
  | with_reducible rfl
  | simp (disch := first | exact Or.inr rfl | exact Or.inl rfl | decide) only [↓but_mk, ↓but_ite, ↓but_snd_ite, ↓but_snd_mk, ↓but_snd2_ite, ↓but_snd2_mk, ↓but_cond, ite_self, outOf_live, outOf_next, outOf_ite, ↓noteInput_but]
  | split <;> try (with_reducible have h := congrArg Prod.snd ‹(_ : _ × State) = (_, _)›; dsimp only at h; subst h)
  | with_reducible refine (each_but (fun _ _ => ?_) _ _).trans ?_
  | with_reducible refine (whenS_but (fun _ => ?_) _ _).trans ?_
  | with_reducible refine (foldl_but (fun _ _ => ?_) _ _).trans ?_
  | with_reducible refine (foldl_but2 (fun _ _ => ?_) _ _).trans ?_
theorem noteInputs_but {m} (hm : sub 524288 m = true) (s : State) : (noteInputs s).but m = s.but m := but_mono hm (noteInputs_but' s)

theorem tfwInput_but' (ch : Nat) (s : State) : (tfwInput ch s).2.but 8591508096 = s.but 8591508096 := by
  unfold tfwInput
  repeat' first
  | with_reducible rfl
  | simp (disch := first | exact Or.inr rfl | exact Or.inl rfl | decide) only [↓but_mk, ↓but_ite, ↓but_snd_ite, ↓but_snd_mk, ↓but_snd2_ite, ↓but_snd2_mk, ↓but_cond, ite_self, outOf_live, outOf_next, outOf_ite, ↓inputGood_but, ↓inputLost_but, ↓freshWord_but]
  | split <;> try (with_reducible have h := congrArg Prod.snd ‹(_ : _ × State) = (_, _)›; dsimp only at h; subst h)
  | with_reducible refine (each_but (fun _ _ => ?_) _ _).trans ?_
  | with_reducible refine (whenS_but (fun _ => ?_) _ _).trans ?_
  | with_reducible refine (foldl_but (fun _ _ => ?_) _ _).trans ?_
  | with_reducible refine (foldl_but2 (fun _ _ => ?_) _ _).trans ?_
theorem tfwInput_but {m} (hm : sub 8591508096 m = true) (ch : Nat) (s : State) : (tfwInput ch s).2.but m = s.but m := but_mono hm (tfwInput_but' ch s)

theorem cPump_but' (s : State) : (cPump s).2.but 1573504 = s.but 1573504 := by
  unfold cPump
  repeat' first
  | with_reducible rfl
  | simp (disch := first | exact Or.inr rfl | exact Or.inl rfl | decide) only [↓but_mk, ↓but_ite, ↓but_snd_ite, ↓but_snd_mk, ↓but_snd2_ite, ↓but_snd2_mk, ↓but_cond, ite_self, outOf_live, outOf_next, outOf_ite, ↓capInput_but]
  | split <;> try (with_reducible have h := congrArg Prod.snd ‹(_ : _ × State) = (_, _)›; dsimp only at h; subst h)
  | with_reducible refine (each_but (fun _ _ => ?_) _ _).trans ?_
  | with_reducible refine (whenS_but (fun _ => ?_) _ _).trans ?_
  | with_reducible refine (foldl_but (fun _ _ => ?_) _ _).trans ?_
  | with_reducible refine (foldl_but2 (fun _ _ => ?_) _ _).trans ?_
theorem cPump_but {m} (hm : sub 1573504 m = true) (s : State) : (cPump s).2.but m = s.but m := but_mono hm (cPump_but' s)

theorem allowance_but' (s : State) : (allowance s).2.but 1573504 = s.but 1573504 := by
  unfold allowance
  repeat' first
  | with_reducible rfl
  | simp (disch := first | exact Or.inr rfl | exact Or.inl rfl | decide) only [↓but_mk, ↓but_ite, ↓but_snd_ite, ↓but_snd_mk, ↓but_snd2_ite, ↓but_snd2_mk, ↓but_cond, ite_self, outOf_live, outOf_next, outOf_ite, ↓capInput_but]
  | split <;> try (with_reducible have h := congrArg Prod.snd ‹(_ : _ × State) = (_, _)›; dsimp only at h; subst h)
  | with_reducible refine (each_but (fun _ _ => ?_) _ _).trans ?_
  | with_reducible refine (whenS_but (fun _ => ?_) _ _).trans ?_
  | with_reducible refine (foldl_but (fun _ _ => ?_) _ _).trans ?_
  | with_reducible refine (foldl_but2 (fun _ _ => ?_) _ _).trans ?_
theorem allowance_but {m} (hm : sub 1573504 m = true) (s : State) : (allowance s).2.but m = s.but m := but_mono hm (allowance_but' s)

theorem rowCapacity_but' (s : State) : (rowCapacity s).2.but 8591508096 = s.but 8591508096 := by
  unfold rowCapacity
  repeat' first
  | with_reducible rfl
  | simp (disch := first | exact Or.inr rfl | exact Or.inl rfl | decide) only [↓but_mk, ↓but_ite, ↓but_snd_ite, ↓but_snd_mk, ↓but_snd2_ite, ↓but_snd2_mk, ↓but_cond, ite_self, outOf_live, outOf_next, outOf_ite, ↓cPump_but, ↓tfwInput_but, ↓allowance_but]
  | split <;> try (with_reducible have h := congrArg Prod.snd ‹(_ : _ × State) = (_, _)›; dsimp only at h; subst h)
  | with_reducible refine (each_but (fun _ _ => ?_) _ _).trans ?_
  | with_reducible refine (whenS_but (fun _ => ?_) _ _).trans ?_
  | with_reducible refine (foldl_but (fun _ _ => ?_) _ _).trans ?_
  | with_reducible refine (foldl_but2 (fun _ _ => ?_) _ _).trans ?_
theorem rowCapacity_but {m} (hm : sub 8591508096 m = true) (s : State) : (rowCapacity s).2.but m = s.but m := but_mono hm (rowCapacity_but' s)

theorem manCapacity_but' (m0 : Nat) (s : State) : (manCapacity m0 s).2.but 1573504 = s.but 1573504 := by
  unfold manCapacity
  repeat' first
  | with_reducible rfl
  | simp (disch := first | exact Or.inr rfl | exact Or.inl rfl | decide) only [↓but_mk, ↓but_ite, ↓but_snd_ite, ↓but_snd_mk, ↓but_snd2_ite, ↓but_snd2_mk, ↓but_cond, ite_self, outOf_live, outOf_next, outOf_ite, ↓capInput_but]
  | split <;> try (with_reducible have h := congrArg Prod.snd ‹(_ : _ × State) = (_, _)›; dsimp only at h; subst h)
  | with_reducible refine (each_but (fun _ _ => ?_) _ _).trans ?_
  | with_reducible refine (whenS_but (fun _ => ?_) _ _).trans ?_
  | with_reducible refine (foldl_but (fun _ _ => ?_) _ _).trans ?_
  | with_reducible refine (foldl_but2 (fun _ _ => ?_) _ _).trans ?_
theorem manCapacity_but {m} (hm : sub 1573504 m = true) (m0 : Nat) (s : State) : (manCapacity m0 s).2.but m = s.but m := but_mono hm (manCapacity_but' m0 s)

theorem capacities_but' (s : State) : (capacities s).2.but 8591508096 = s.but 8591508096 := by
  unfold capacities
  repeat' first
  | with_reducible rfl
  | simp (disch := first | exact Or.inr rfl | exact Or.inl rfl | decide) only [↓but_mk, ↓but_ite, ↓but_snd_ite, ↓but_snd_mk, ↓but_snd2_ite, ↓but_snd2_mk, ↓but_cond, ite_self, outOf_live, outOf_next, outOf_ite, ↓rowCapacity_but, ↓manCapacity_but]
  | split <;> try (with_reducible have h := congrArg Prod.snd ‹(_ : _ × State) = (_, _)›; dsimp only at h; subst h)
  | with_reducible refine (each_but (fun _ _ => ?_) _ _).trans ?_
  | with_reducible refine (whenS_but (fun _ => ?_) _ _).trans ?_
  | with_reducible refine (foldl_but (fun _ _ => ?_) _ _).trans ?_
  | with_reducible refine (foldl_but2 (fun _ _ => ?_) _ _).trans ?_
theorem capacities_but {m} (hm : sub 8591508096 m = true) (s : State) : (capacities s).2.but m = s.but m := but_mono hm (capacities_but' s)

theorem noteShort_but' (short : List (Nat × F32)) (s : State) : (noteShort short s).but 1573504 = s.but 1573504 := by
  unfold noteShort
  repeat' first
  | with_reducible rfl
  | simp (disch := first | exact Or.inr rfl | exact Or.inl rfl | decide) only [↓but_mk, ↓but_ite, ↓but_snd_ite, ↓but_snd_mk, ↓but_snd2_ite, ↓but_snd2_mk, ↓but_cond, ite_self, outOf_live, outOf_next, outOf_ite, ↓emit_but]
  | split <;> try (with_reducible have h := congrArg Prod.snd ‹(_ : _ × State) = (_, _)›; dsimp only at h; subst h)
  | with_reducible refine (each_but (fun _ _ => ?_) _ _).trans ?_
  | with_reducible refine (whenS_but (fun _ => ?_) _ _).trans ?_
  | with_reducible refine (foldl_but (fun _ _ => ?_) _ _).trans ?_
  | with_reducible refine (foldl_but2 (fun _ _ => ?_) _ _).trans ?_
theorem noteShort_but {m} (hm : sub 1573504 m = true) (short : List (Nat × F32)) (s : State) : (noteShort short s).but m = s.but m := but_mono hm (noteShort_but' short s)

theorem storePlate_but' (lam : Tab F32) (r : PlateRec) (x : PlateAl) (s : State) : (storePlate lam r x s).but 1573504 = s.but 1573504 := by
  unfold storePlate
  repeat' first
  | with_reducible rfl
  | simp (disch := first | exact Or.inr rfl | exact Or.inl rfl | decide) only [↓but_mk, ↓but_ite, ↓but_snd_ite, ↓but_snd_mk, ↓but_snd2_ite, ↓but_snd2_mk, ↓but_cond, ite_self, outOf_live, outOf_next, outOf_ite, ↓setLs_but, ↓emit_but]
  | split <;> try (with_reducible have h := congrArg Prod.snd ‹(_ : _ × State) = (_, _)›; dsimp only at h; subst h)
  | with_reducible refine (each_but (fun _ _ => ?_) _ _).trans ?_
  | with_reducible refine (whenS_but (fun _ => ?_) _ _).trans ?_
  | with_reducible refine (foldl_but (fun _ _ => ?_) _ _).trans ?_
  | with_reducible refine (foldl_but2 (fun _ _ => ?_) _ _).trans ?_
theorem storePlate_but {m} (hm : sub 1573504 m = true) (lam : Tab F32) (r : PlateRec) (x : PlateAl) (s : State) : (storePlate lam r x s).but m = s.but m := but_mono hm (storePlate_but' lam r x s)

theorem allocOp_but' (late : Bool) (s : State) : (allocOp late s).but 8591508096 = s.but 8591508096 := by
  unfold allocOp
  repeat' first
  | with_reducible rfl
  | simp (disch := first | exact Or.inr rfl | exact Or.inl rfl | decide) only [↓but_mk, ↓but_ite, ↓but_snd_ite, ↓but_snd_mk, ↓but_snd2_ite, ↓but_snd2_mk, ↓but_cond, ite_self, outOf_live, outOf_next, outOf_ite, ↓setLs_but, ↓capacities_but, ↓noteShort_but, ↓storePlate_but]
  | split <;> try (with_reducible have h := congrArg Prod.snd ‹(_ : _ × State) = (_, _)›; dsimp only at h; subst h)
  | with_reducible refine (each_but (fun _ _ => ?_) _ _).trans ?_
  | with_reducible refine (whenS_but (fun _ => ?_) _ _).trans ?_
  | with_reducible refine (foldl_but (fun _ _ => ?_) _ _).trans ?_
  | with_reducible refine (foldl_but2 (fun _ _ => ?_) _ _).trans ?_
theorem allocOp_but {m} (hm : sub 8591508096 m = true) (late : Bool) (s : State) : (allocOp late s).but m = s.but m := but_mono hm (allocOp_but' late s)

theorem execAllocator_but' (runNs : Nat) (ecapLow : Bool) (s : State) : (outOf (execAllocator runNs ecapLow s) s).but 8658649728 = s.but 8658649728 := by
  unfold execAllocator
  repeat' first
  | with_reducible rfl
  | simp (disch := first | exact Or.inr rfl | exact Or.inl rfl | decide) only [↓but_mk, ↓but_ite, ↓but_snd_ite, ↓but_snd_mk, ↓but_snd2_ite, ↓but_snd2_mk, ↓but_cond, ite_self, outOf_live, outOf_next, outOf_ite, ↓clockTo_but, ↓noteInputs_but, ↓allocOp_but]
  | split <;> try (with_reducible have h := congrArg Prod.snd ‹(_ : _ × State) = (_, _)›; dsimp only at h; subst h)
  | with_reducible refine (each_but (fun _ _ => ?_) _ _).trans ?_
  | with_reducible refine (whenS_but (fun _ => ?_) _ _).trans ?_
  | with_reducible refine (foldl_but (fun _ _ => ?_) _ _).trans ?_
  | with_reducible refine (foldl_but2 (fun _ _ => ?_) _ _).trans ?_
theorem execAllocator_but {m} (hm : sub 8658649728 m = true) (runNs : Nat) (ecapLow : Bool) (s : State) : (outOf (execAllocator runNs ecapLow s) s).but m = s.but m := but_mono hm (execAllocator_but' runNs ecapLow s)

theorem execCapacityShortClear_but' (kind : Nat) (index : Nat) (s : State) : (outOf (execCapacityShortClear kind index s) s).but 68682368 = s.but 68682368 := by
  unfold execCapacityShortClear
  repeat' first
  | with_reducible rfl
  | simp (disch := first | exact Or.inr rfl | exact Or.inl rfl | decide) only [↓but_mk, ↓but_ite, ↓but_snd_ite, ↓but_snd_mk, ↓but_snd2_ite, ↓but_snd2_mk, ↓but_cond, ite_self, outOf_live, outOf_next, outOf_ite, ↓clockTo_but, ↓emit_but]
  | split <;> try (with_reducible have h := congrArg Prod.snd ‹(_ : _ × State) = (_, _)›; dsimp only at h; subst h)
  | with_reducible refine (each_but (fun _ _ => ?_) _ _).trans ?_
  | with_reducible refine (whenS_but (fun _ => ?_) _ _).trans ?_
  | with_reducible refine (foldl_but (fun _ _ => ?_) _ _).trans ?_
  | with_reducible refine (foldl_but2 (fun _ _ => ?_) _ _).trans ?_
theorem execCapacityShortClear_but {m} (hm : sub 68682368 m = true) (kind : Nat) (index : Nat) (s : State) : (outOf (execCapacityShortClear kind index s) s).but m = s.but m := but_mono hm (execCapacityShortClear_but' kind index s)

theorem execPolicyConflict_but' (kind : Nat) (object : Nat) (clear : Bool) (s : State) : (outOf (execPolicyConflict kind object clear s) s).but 1573504 = s.but 1573504 := by
  unfold execPolicyConflict
  repeat' first
  | with_reducible rfl
  | simp (disch := first | exact Or.inr rfl | exact Or.inl rfl | decide) only [↓but_mk, ↓but_ite, ↓but_snd_ite, ↓but_snd_mk, ↓but_snd2_ite, ↓but_snd2_mk, ↓but_cond, ite_self, outOf_live, outOf_next, outOf_ite, ↓emit_but]
  | split <;> try (with_reducible have h := congrArg Prod.snd ‹(_ : _ × State) = (_, _)›; dsimp only at h; subst h)
  | with_reducible refine (each_but (fun _ _ => ?_) _ _).trans ?_
  | with_reducible refine (whenS_but (fun _ => ?_) _ _).trans ?_
  | with_reducible refine (foldl_but (fun _ _ => ?_) _ _).trans ?_
  | with_reducible refine (foldl_but2 (fun _ _ => ?_) _ _).trans ?_
theorem execPolicyConflict_but {m} (hm : sub 1573504 m = true) (kind : Nat) (object : Nat) (clear : Bool) (s : State) : (outOf (execPolicyConflict kind object clear s) s).but m = s.but m := but_mono hm (execPolicyConflict_but' kind object clear s)

theorem leakPut_but' (b : Nat) (code : Nat) (s : State) : (leakPut b code s).but 16777216 = s.but 16777216 := by
  unfold leakPut
  repeat' first
  | with_reducible rfl
  | simp (disch := first | exact Or.inr rfl | exact Or.inl rfl | decide) only [↓but_mk, ↓but_ite, ↓but_snd_ite, ↓but_snd_mk, ↓but_snd2_ite, ↓but_snd2_mk, ↓but_cond, ite_self, outOf_live, outOf_next, outOf_ite, ↓hbmPut_but]
  | split <;> try (with_reducible have h := congrArg Prod.snd ‹(_ : _ × State) = (_, _)›; dsimp only at h; subst h)
  | with_reducible refine (each_but (fun _ _ => ?_) _ _).trans ?_
  | with_reducible refine (whenS_but (fun _ => ?_) _ _).trans ?_
  | with_reducible refine (foldl_but (fun _ _ => ?_) _ _).trans ?_
  | with_reducible refine (foldl_but2 (fun _ _ => ?_) _ _).trans ?_
theorem leakPut_but {m} (hm : sub 16777216 m = true) (b : Nat) (code : Nat) (s : State) : (leakPut b code s).but m = s.but m := but_mono hm (leakPut_but' b code s)

theorem leakSample_but' (v : Conv) (s : State) : (leakSample v s).but 16785408 = s.but 16785408 := by
  unfold leakSample
  repeat' first
  | with_reducible rfl
  | simp (disch := first | exact Or.inr rfl | exact Or.inl rfl | decide) only [↓but_mk, ↓but_ite, ↓but_snd_ite, ↓but_snd_mk, ↓but_snd2_ite, ↓but_snd2_mk, ↓but_cond, ite_self, outOf_live, outOf_next, outOf_ite, ↓leakPut_but]
  | split <;> try (with_reducible have h := congrArg Prod.snd ‹(_ : _ × State) = (_, _)›; dsimp only at h; subst h)
  | with_reducible refine (each_but (fun _ _ => ?_) _ _).trans ?_
  | with_reducible refine (whenS_but (fun _ => ?_) _ _).trans ?_
  | with_reducible refine (foldl_but (fun _ _ => ?_) _ _).trans ?_
  | with_reducible refine (foldl_but2 (fun _ _ => ?_) _ _).trans ?_
theorem leakSample_but {m} (hm : sub 16785408 m = true) (v : Conv) (s : State) : (leakSample v s).but m = s.but m := but_mono hm (leakSample_but' v s)

theorem tickOp_but' (convs : List Conv) (s : State) : (tickOp convs s).but 891021968 = s.but 891021968 := by
  unfold tickOp
  repeat' first
  | with_reducible rfl
  | simp (disch := first | exact Or.inr rfl | exact Or.inl rfl | decide) only [↓but_mk, ↓but_ite, ↓but_snd_ite, ↓but_snd_mk, ↓but_snd2_ite, ↓but_snd2_mk, ↓but_cond, ite_self, outOf_live, outOf_next, outOf_ite, ↓clockTo_but, ↓noteInputs_but, ↓tickWork_but, ↓leakSample_but]
  | split <;> try (with_reducible have h := congrArg Prod.snd ‹(_ : _ × State) = (_, _)›; dsimp only at h; subst h)
  | with_reducible refine (each_but (fun _ _ => ?_) _ _).trans ?_
  | with_reducible refine (whenS_but (fun _ => ?_) _ _).trans ?_
  | with_reducible refine (foldl_but (fun _ _ => ?_) _ _).trans ?_
  | with_reducible refine (foldl_but2 (fun _ _ => ?_) _ _).trans ?_
theorem tickOp_but {m} (hm : sub 891021968 m = true) (convs : List Conv) (s : State) : (tickOp convs s).but m = s.but m := but_mono hm (tickOp_but' convs s)

theorem execLoopTick_but' (convs : List Conv) (s : State) : (outOf (execLoopTick convs s) s).but 891021968 = s.but 891021968 := by
  unfold execLoopTick
  repeat' first
  | with_reducible rfl
  | simp (disch := first | exact Or.inr rfl | exact Or.inl rfl | decide) only [↓but_mk, ↓but_ite, ↓but_snd_ite, ↓but_snd_mk, ↓but_snd2_ite, ↓but_snd2_mk, ↓but_cond, ite_self, outOf_live, outOf_next, outOf_ite, ↓tickOp_but]
  | split <;> try (with_reducible have h := congrArg Prod.snd ‹(_ : _ × State) = (_, _)›; dsimp only at h; subst h)
  | with_reducible refine (each_but (fun _ _ => ?_) _ _).trans ?_
  | with_reducible refine (whenS_but (fun _ => ?_) _ _).trans ?_
  | with_reducible refine (foldl_but (fun _ _ => ?_) _ _).trans ?_
  | with_reducible refine (foldl_but2 (fun _ _ => ?_) _ _).trans ?_
theorem execLoopTick_but {m} (hm : sub 891021968 m = true) (convs : List Conv) (s : State) : (outOf (execLoopTick convs s) s).but m = s.but m := but_mono hm (execLoopTick_but' convs s)

theorem sendLeases_but' (rack : Nat) (keeper : Bool) (recs : List Bytes) (s : State) : (sendLeases rack keeper recs s).but 8388608 = s.but 8388608 := by
  unfold sendLeases
  repeat' first
  | with_reducible rfl
  | simp (disch := first | exact Or.inr rfl | exact Or.inl rfl | decide) only [↓but_mk, ↓but_ite, ↓but_snd_ite, ↓but_snd_mk, ↓but_snd2_ite, ↓but_snd2_mk, ↓but_cond, ite_self, outOf_live, outOf_next, outOf_ite, ↓sendFrags_but]
  | split <;> try (with_reducible have h := congrArg Prod.snd ‹(_ : _ × State) = (_, _)›; dsimp only at h; subst h)
  | with_reducible refine (each_but (fun _ _ => ?_) _ _).trans ?_
  | with_reducible refine (whenS_but (fun _ => ?_) _ _).trans ?_
  | with_reducible refine (foldl_but (fun _ _ => ?_) _ _).trans ?_
  | with_reducible refine (foldl_but2 (fun _ _ => ?_) _ _).trans ?_
theorem sendLeases_but {m} (hm : sub 8388608 m = true) (rack : Nat) (keeper : Bool) (recs : List Bytes) (s : State) : (sendLeases rack keeper recs s).but m = s.but m := but_mono hm (sendLeases_but' rack keeper recs s)

theorem sendAllLeases_but' (keeper : Bool) (recs : List (PlateRec × Bytes)) (s : State) : (sendAllLeases keeper recs s).but 8388608 = s.but 8388608 := by
  unfold sendAllLeases
  repeat' first
  | with_reducible rfl
  | simp (disch := first | exact Or.inr rfl | exact Or.inl rfl | decide) only [↓but_mk, ↓but_ite, ↓but_snd_ite, ↓but_snd_mk, ↓but_snd2_ite, ↓but_snd2_mk, ↓but_cond, ite_self, outOf_live, outOf_next, outOf_ite, ↓sendLeases_but, ↓mirrorSend_but]
  | split <;> try (with_reducible have h := congrArg Prod.snd ‹(_ : _ × State) = (_, _)›; dsimp only at h; subst h)
  | with_reducible refine (each_but (fun _ _ => ?_) _ _).trans ?_
  | with_reducible refine (whenS_but (fun _ => ?_) _ _).trans ?_
  | with_reducible refine (foldl_but (fun _ _ => ?_) _ _).trans ?_
  | with_reducible refine (foldl_but2 (fun _ _ => ?_) _ _).trans ?_
theorem sendAllLeases_but {m} (hm : sub 8388608 m = true) (keeper : Bool) (recs : List (PlateRec × Bytes)) (s : State) : (sendAllLeases keeper recs s).but m = s.but m := but_mono hm (sendAllLeases_but' keeper recs s)

theorem issueRec_but' (r : PlateRec) (kind : Nat) (flags : Nat) (cap : Nat) (ramp : Nat) (ref : Nat) (keeper : Bool) (s : State) : (issueRec r kind flags cap ramp ref keeper s).2.but 524288 = s.but 524288 := by
  unfold issueRec
  repeat' first
  | with_reducible rfl
  | simp (disch := first | exact Or.inr rfl | exact Or.inl rfl | decide) only [↓but_mk, ↓but_ite, ↓but_snd_ite, ↓but_snd_mk, ↓but_snd2_ite, ↓but_snd2_mk, ↓but_cond, ite_self, outOf_live, outOf_next, outOf_ite, ↓setLs_but]
  | split <;> try (with_reducible have h := congrArg Prod.snd ‹(_ : _ × State) = (_, _)›; dsimp only at h; subst h)
  | with_reducible refine (each_but (fun _ _ => ?_) _ _).trans ?_
  | with_reducible refine (whenS_but (fun _ => ?_) _ _).trans ?_
  | with_reducible refine (foldl_but (fun _ _ => ?_) _ _).trans ?_
  | with_reducible refine (foldl_but2 (fun _ _ => ?_) _ _).trans ?_
theorem issueRec_but {m} (hm : sub 524288 m = true) (r : PlateRec) (kind : Nat) (flags : Nat) (cap : Nat) (ramp : Nat) (ref : Nat) (keeper : Bool) (s : State) : (issueRec r kind flags cap ramp ref keeper s).2.but m = s.but m := but_mono hm (issueRec_but' r kind flags cap ramp ref keeper s)

theorem engineRec_but' (r : PlateRec) (s : State) : (engineRec r s).2.but 1573504 = s.but 1573504 := by
  unfold engineRec
  repeat' first
  | with_reducible rfl
  | simp (disch := first | exact Or.inr rfl | exact Or.inl rfl | decide) only [↓but_mk, ↓but_ite, ↓but_snd_ite, ↓but_snd_mk, ↓but_snd2_ite, ↓but_snd2_mk, ↓but_cond, ite_self, outOf_live, outOf_next, outOf_ite, ↓issueRec_but, ↓setLs_but, ↓emit_but]
  | split <;> try (with_reducible have h := congrArg Prod.snd ‹(_ : _ × State) = (_, _)›; dsimp only at h; subst h)
  | with_reducible refine (each_but (fun _ _ => ?_) _ _).trans ?_
  | with_reducible refine (whenS_but (fun _ => ?_) _ _).trans ?_
  | with_reducible refine (foldl_but (fun _ _ => ?_) _ _).trans ?_
  | with_reducible refine (foldl_but2 (fun _ _ => ?_) _ _).trans ?_
theorem engineRec_but {m} (hm : sub 1573504 m = true) (r : PlateRec) (s : State) : (engineRec r s).2.but m = s.but m := but_mono hm (engineRec_but' r s)

theorem recordsOfPlates_but {m} {f : PlateRec → State → Bytes × State} (hf : ∀ r t, (f r t).2.but m = t.but m) (l : List PlateRec) (s : State) :
    (recordsOfPlates f l s).2.but m = s.but m := by
  induction l generalizing s with
  | nil => rfl
  | cons r t ih => rw [recordsOfPlates]; dsimp only; rw [ih, hf]

theorem keeperCopy_but' (r : PlateRec) (s : State) : (keeperCopy r s).but 524288 = s.but 524288 := by
  unfold keeperCopy
  repeat' first
  | with_reducible rfl
  | simp (disch := first | exact Or.inr rfl | exact Or.inl rfl | decide) only [↓but_mk, ↓but_ite, ↓but_snd_ite, ↓but_snd_mk, ↓but_snd2_ite, ↓but_snd2_mk, ↓but_cond, ite_self, outOf_live, outOf_next, outOf_ite, ↓setLs_but]
  | split <;> try (with_reducible have h := congrArg Prod.snd ‹(_ : _ × State) = (_, _)›; dsimp only at h; subst h)
  | with_reducible refine (each_but (fun _ _ => ?_) _ _).trans ?_
  | with_reducible refine (whenS_but (fun _ => ?_) _ _).trans ?_
  | with_reducible refine (foldl_but (fun _ _ => ?_) _ _).trans ?_
  | with_reducible refine (foldl_but2 (fun _ _ => ?_) _ _).trans ?_
theorem keeperCopy_but {m} (hm : sub 524288 m = true) (r : PlateRec) (s : State) : (keeperCopy r s).but m = s.but m := but_mono hm (keeperCopy_but' r s)

theorem statsOp_but' (s : State) : (statsOp s).but 524288 = s.but 524288 := by
  unfold statsOp
  repeat' first
  | with_reducible rfl
  | simp (disch := first | exact Or.inr rfl | exact Or.inl rfl | decide) only [↓but_mk, ↓but_ite, ↓but_snd_ite, ↓but_snd_mk, ↓but_snd2_ite, ↓but_snd2_mk, ↓but_cond, ite_self, outOf_live, outOf_next, outOf_ite, ↓setLs_but]
  | split <;> try (with_reducible have h := congrArg Prod.snd ‹(_ : _ × State) = (_, _)›; dsimp only at h; subst h)
  | with_reducible refine (each_but (fun _ _ => ?_) _ _).trans ?_
  | with_reducible refine (whenS_but (fun _ => ?_) _ _).trans ?_
  | with_reducible refine (foldl_but (fun _ _ => ?_) _ _).trans ?_
  | with_reducible refine (foldl_but2 (fun _ _ => ?_) _ _).trans ?_
theorem statsOp_but {m} (hm : sub 524288 m = true) (s : State) : (statsOp s).but m = s.but m := but_mono hm (statsOp_but' s)

theorem lateCaps_but' (s : State) : (lateCaps s).but 1573504 = s.but 1573504 := by
  unfold lateCaps
  repeat' first
  | with_reducible rfl
  | simp (disch := first | exact Or.inr rfl | exact Or.inl rfl | decide) only [↓but_mk, ↓but_ite, ↓but_snd_ite, ↓but_snd_mk, ↓but_snd2_ite, ↓but_snd2_mk, ↓but_cond, ite_self, outOf_live, outOf_next, outOf_ite, ↓setLs_but, ↓emit_but]
  | split <;> try (with_reducible have h := congrArg Prod.snd ‹(_ : _ × State) = (_, _)›; dsimp only at h; subst h)
  | with_reducible refine (each_but (fun _ _ => ?_) _ _).trans ?_
  | with_reducible refine (whenS_but (fun _ => ?_) _ _).trans ?_
  | with_reducible refine (foldl_but (fun _ _ => ?_) _ _).trans ?_
  | with_reducible refine (foldl_but2 (fun _ _ => ?_) _ _).trans ?_
theorem lateCaps_but {m} (hm : sub 1573504 m = true) (s : State) : (lateCaps s).but m = s.but m := but_mono hm (lateCaps_but' s)

theorem writeTrims_but' (s : State) : (writeTrims s).but 8192 = s.but 8192 := by
  unfold writeTrims
  repeat' first
  | with_reducible rfl
  | simp (disch := first | exact Or.inr rfl | exact Or.inl rfl | decide) only [↓but_mk, ↓but_ite, ↓but_snd_ite, ↓but_snd_mk, ↓but_snd2_ite, ↓but_snd2_mk, ↓but_cond, ite_self, outOf_live, outOf_next, outOf_ite, ↓setSp_but]
  | split <;> try (with_reducible have h := congrArg Prod.snd ‹(_ : _ × State) = (_, _)›; dsimp only at h; subst h)
  | with_reducible refine (each_but (fun _ _ => ?_) _ _).trans ?_
  | with_reducible refine (whenS_but (fun _ => ?_) _ _).trans ?_
  | with_reducible refine (foldl_but (fun _ _ => ?_) _ _).trans ?_
  | with_reducible refine (foldl_but2 (fun _ _ => ?_) _ _).trans ?_
theorem writeTrims_but {m} (hm : sub 8192 m = true) (s : State) : (writeTrims s).but m = s.but m := but_mono hm (writeTrims_but' s)

theorem engineOp_but' (s : State) : (engineOp s).but 9962112 = s.but 9962112 := by
  unfold engineOp
  repeat' first
  | with_reducible rfl
  | simp (disch := first | exact Or.inr rfl | exact Or.inl rfl | decide) only [↓but_mk, ↓but_ite, ↓but_snd_ite, ↓but_snd_mk, ↓but_snd2_ite, ↓but_snd2_mk, ↓but_cond, ite_self, outOf_live, outOf_next, outOf_ite, ↓keeperOff_but, ↓engineRec_but, ↓sendAllLeases_but, ↓keeperCopy_but]
  | split <;> try (with_reducible have h := congrArg Prod.snd ‹(_ : _ × State) = (_, _)›; dsimp only at h; subst h)
  | with_reducible refine (each_but (fun _ _ => ?_) _ _).trans ?_
  | with_reducible refine (whenS_but (fun _ => ?_) _ _).trans ?_
  | with_reducible refine (foldl_but (fun _ _ => ?_) _ _).trans ?_
  | with_reducible refine (foldl_but2 (fun _ _ => ?_) _ _).trans ?_
  | with_reducible refine (recordsOfPlates_but (fun _ _ => ?_) ..).trans ?_
theorem engineOp_but {m} (hm : sub 9962112 m = true) (s : State) : (engineOp s).but m = s.but m := but_mono hm (engineOp_but' s)

theorem execLeaseOut_but' (s : State) : (outOf (execLeaseOut s) s).but 77079168 = s.but 77079168 := by
  unfold execLeaseOut
  repeat' first
  | with_reducible rfl
  | simp (disch := first | exact Or.inr rfl | exact Or.inl rfl | decide) only [↓but_mk, ↓but_ite, ↓but_snd_ite, ↓but_snd_mk, ↓but_snd2_ite, ↓but_snd2_mk, ↓but_cond, ite_self, outOf_live, outOf_next, outOf_ite, ↓writeTrims_but, ↓clockTo_but, ↓lateCaps_but, ↓engineOp_but, ↓statsOp_but]
  | split <;> try (with_reducible have h := congrArg Prod.snd ‹(_ : _ × State) = (_, _)›; dsimp only at h; subst h)
  | with_reducible refine (each_but (fun _ _ => ?_) _ _).trans ?_
  | with_reducible refine (whenS_but (fun _ => ?_) _ _).trans ?_
  | with_reducible refine (foldl_but (fun _ _ => ?_) _ _).trans ?_
  | with_reducible refine (foldl_but2 (fun _ _ => ?_) _ _).trans ?_
theorem execLeaseOut_but {m} (hm : sub 77079168 m = true) (s : State) : (outOf (execLeaseOut s) s).but m = s.but m := but_mono hm (execLeaseOut_but' s)

theorem keeperRec_but' (r : PlateRec) (s : State) : (keeperRec r s).2.but 524288 = s.but 524288 := by
  unfold keeperRec
  repeat' first
  | with_reducible rfl
  | simp (disch := first | exact Or.inr rfl | exact Or.inl rfl | decide) only [↓but_mk, ↓but_ite, ↓but_snd_ite, ↓but_snd_mk, ↓but_snd2_ite, ↓but_snd2_mk, ↓but_cond, ite_self, outOf_live, outOf_next, outOf_ite, ↓setLs_but]
  | split <;> try (with_reducible have h := congrArg Prod.snd ‹(_ : _ × State) = (_, _)›; dsimp only at h; subst h)
  | with_reducible refine (each_but (fun _ _ => ?_) _ _).trans ?_
  | with_reducible refine (whenS_but (fun _ => ?_) _ _).trans ?_
  | with_reducible refine (foldl_but (fun _ _ => ?_) _ _).trans ?_
  | with_reducible refine (foldl_but2 (fun _ _ => ?_) _ _).trans ?_
theorem keeperRec_but {m} (hm : sub 524288 m = true) (r : PlateRec) (s : State) : (keeperRec r s).2.but m = s.but m := but_mono hm (keeperRec_but' r s)

theorem execLeaseKeeperIssue_but' (s : State) : (outOf (execLeaseKeeperIssue s) s).but 77103744 = s.but 77103744 := by
  unfold execLeaseKeeperIssue
  repeat' first
  | with_reducible rfl
  | simp (disch := first | exact Or.inr rfl | exact Or.inl rfl | decide) only [↓but_mk, ↓but_ite, ↓but_snd_ite, ↓but_snd_mk, ↓but_snd2_ite, ↓but_snd2_mk, ↓but_cond, ite_self, outOf_live, outOf_next, outOf_ite, ↓clockTo_but, ↓emit_but, ↓keeperRec_but, ↓sendAllLeases_but]
  | split <;> try (with_reducible have h := congrArg Prod.snd ‹(_ : _ × State) = (_, _)›; dsimp only at h; subst h)
  | with_reducible refine (each_but (fun _ _ => ?_) _ _).trans ?_
  | with_reducible refine (whenS_but (fun _ => ?_) _ _).trans ?_
  | with_reducible refine (foldl_but (fun _ _ => ?_) _ _).trans ?_
  | with_reducible refine (foldl_but2 (fun _ _ => ?_) _ _).trans ?_
  | with_reducible refine (recordsOfPlates_but (fun _ _ => ?_) ..).trans ?_
theorem execLeaseKeeperIssue_but {m} (hm : sub 77103744 m = true) (s : State) : (outOf (execLeaseKeeperIssue s) s).but m = s.but m := but_mono hm (execLeaseKeeperIssue_but' s)

theorem execLeaseKeeperLimit_but' (s : State) : (outOf (execLeaseKeeperLimit s) s).but 1573512 = s.but 1573512 := by
  unfold execLeaseKeeperLimit
  repeat' first
  | with_reducible rfl
  | simp (disch := first | exact Or.inr rfl | exact Or.inl rfl | decide) only [↓but_mk, ↓but_ite, ↓but_snd_ite, ↓but_snd_mk, ↓but_snd2_ite, ↓but_snd2_mk, ↓but_cond, ite_self, outOf_live, outOf_next, outOf_ite, ↓requestHandover_but, ↓keeperOff_but]
  | split <;> try (with_reducible have h := congrArg Prod.snd ‹(_ : _ × State) = (_, _)›; dsimp only at h; subst h)
  | with_reducible refine (each_but (fun _ _ => ?_) _ _).trans ?_
  | with_reducible refine (whenS_but (fun _ => ?_) _ _).trans ?_
  | with_reducible refine (foldl_but (fun _ _ => ?_) _ _).trans ?_
  | with_reducible refine (foldl_but2 (fun _ _ => ?_) _ _).trans ?_
theorem execLeaseKeeperLimit_but {m} (hm : sub 1573512 m = true) (s : State) : (outOf (execLeaseKeeperLimit s) s).but m = s.but m := but_mono hm (execLeaseKeeperLimit_but' s)

theorem boundaryTime_but' (s : State) : (boundaryTime s).but 8388608000 = s.but 8388608000 := by
  unfold boundaryTime
  repeat' first
  | with_reducible rfl
  | simp (disch := first | exact Or.inr rfl | exact Or.inl rfl | decide) only [↓but_mk, ↓but_ite, ↓but_snd_ite, ↓but_snd_mk, ↓but_snd2_ite, ↓but_snd2_mk, ↓but_cond, ite_self, outOf_live, outOf_next, outOf_ite, ↓clockTo_but]
  | split <;> try (with_reducible have h := congrArg Prod.snd ‹(_ : _ × State) = (_, _)›; dsimp only at h; subst h)
  | with_reducible refine (each_but (fun _ _ => ?_) _ _).trans ?_
  | with_reducible refine (whenS_but (fun _ => ?_) _ _).trans ?_
  | with_reducible refine (foldl_but (fun _ _ => ?_) _ _).trans ?_
  | with_reducible refine (foldl_but2 (fun _ _ => ?_) _ _).trans ?_
theorem boundaryTime_but {m} (hm : sub 8388608000 m = true) (s : State) : (boundaryTime s).but m = s.but m := but_mono hm (boundaryTime_but' s)

theorem applyTrims_but' (s : State) : (applyTrims s).but 8192 = s.but 8192 := by
  unfold applyTrims
  repeat' first
  | with_reducible rfl
  | simp (disch := first | exact Or.inr rfl | exact Or.inl rfl | decide) only [↓but_mk, ↓but_ite, ↓but_snd_ite, ↓but_snd_mk, ↓but_snd2_ite, ↓but_snd2_mk, ↓but_cond, ite_self, outOf_live, outOf_next, outOf_ite]
  | split <;> try (with_reducible have h := congrArg Prod.snd ‹(_ : _ × State) = (_, _)›; dsimp only at h; subst h)
  | with_reducible refine (each_but (fun _ _ => ?_) _ _).trans ?_
  | with_reducible refine (whenS_but (fun _ => ?_) _ _).trans ?_
  | with_reducible refine (foldl_but (fun _ _ => ?_) _ _).trans ?_
  | with_reducible refine (foldl_but2 (fun _ _ => ?_) _ _).trans ?_
theorem applyTrims_but {m} (hm : sub 8192 m = true) (s : State) : (applyTrims s).but m = s.but m := but_mono hm (applyTrims_but' s)

theorem adoptEst_but' (s : State) : (adoptEst s).but 8224 = s.but 8224 := by
  unfold adoptEst
  repeat' first
  | with_reducible rfl
  | simp (disch := first | exact Or.inr rfl | exact Or.inl rfl | decide) only [↓but_mk, ↓but_ite, ↓but_snd_ite, ↓but_snd_mk, ↓but_snd2_ite, ↓but_snd2_mk, ↓but_cond, ite_self, outOf_live, outOf_next, outOf_ite]
  | split <;> try (with_reducible have h := congrArg Prod.snd ‹(_ : _ × State) = (_, _)›; dsimp only at h; subst h)
  | with_reducible refine (each_but (fun _ _ => ?_) _ _).trans ?_
  | with_reducible refine (whenS_but (fun _ => ?_) _ _).trans ?_
  | with_reducible refine (foldl_but (fun _ _ => ?_) _ _).trans ?_
  | with_reducible refine (foldl_but2 (fun _ _ => ?_) _ _).trans ?_
theorem adoptEst_but {m} (hm : sub 8224 m = true) (s : State) : (adoptEst s).but m = s.but m := but_mono hm (adoptEst_but' s)

theorem applyAdapter_but' (p : Nat) (s : State) : (applyAdapter p s).but 17039392 = s.but 17039392 := by
  unfold applyAdapter
  repeat' first
  | with_reducible rfl
  | simp (disch := first | exact Or.inr rfl | exact Or.inl rfl | decide) only [↓but_mk, ↓but_ite, ↓but_snd_ite, ↓but_snd_mk, ↓but_snd2_ite, ↓but_snd2_mk, ↓but_cond, ite_self, outOf_live, outOf_next, outOf_ite]
  | split <;> try (with_reducible have h := congrArg Prod.snd ‹(_ : _ × State) = (_, _)›; dsimp only at h; subst h)
  | with_reducible refine (each_but (fun _ _ => ?_) _ _).trans ?_
  | with_reducible refine (whenS_but (fun _ => ?_) _ _).trans ?_
  | with_reducible refine (foldl_but (fun _ _ => ?_) _ _).trans ?_
  | with_reducible refine (foldl_but2 (fun _ _ => ?_) _ _).trans ?_
theorem applyAdapter_but {m} (hm : sub 17039392 m = true) (p : Nat) (s : State) : (applyAdapter p s).but m = s.but m := but_mono hm (applyAdapter_but' p s)

theorem applyAdapters_but' (s : State) : (applyAdapters s).but 17039392 = s.but 17039392 := by
  unfold applyAdapters
  repeat' first
  | with_reducible rfl
  | simp (disch := first | exact Or.inr rfl | exact Or.inl rfl | decide) only [↓but_mk, ↓but_ite, ↓but_snd_ite, ↓but_snd_mk, ↓but_snd2_ite, ↓but_snd2_mk, ↓but_cond, ite_self, outOf_live, outOf_next, outOf_ite, ↓applyAdapter_but]
  | split <;> try (with_reducible have h := congrArg Prod.snd ‹(_ : _ × State) = (_, _)›; dsimp only at h; subst h)
  | with_reducible refine (each_but (fun _ _ => ?_) _ _).trans ?_
  | with_reducible refine (whenS_but (fun _ => ?_) _ _).trans ?_
  | with_reducible refine (foldl_but (fun _ _ => ?_) _ _).trans ?_
  | with_reducible refine (foldl_but2 (fun _ _ => ?_) _ _).trans ?_
theorem applyAdapters_but {m} (hm : sub 17039392 m = true) (s : State) : (applyAdapters s).but m = s.but m := but_mono hm (applyAdapters_but' s)

theorem boundaryOp_but' (s : State) : (boundaryOp s).but 8415753918 = s.but 8415753918 := by
  unfold boundaryOp
  repeat' first
  | with_reducible rfl
  | simp (disch := first | exact Or.inr rfl | exact Or.inl rfl | decide) only [↓but_mk, ↓but_ite, ↓but_snd_ite, ↓but_snd_mk, ↓but_snd2_ite, ↓but_snd2_mk, ↓but_cond, ite_self, outOf_live, outOf_next, outOf_ite, ↓settleMsgs_but, ↓dropWhere_but, ↓applyTrims_but, ↓boundaryTime_but, ↓busRound_but, ↓applyAdapters_but, ↓adoptEst_but, ↓gateTiles_but, ↓shedT0_but, ↓blockResume_but, ↓reformStacks_but, ↓tilesWork_but, ↓modelRound_but, ↓mirrorRound_but, ↓ringOpenRound_but]
  | split <;> try (with_reducible have h := congrArg Prod.snd ‹(_ : _ × State) = (_, _)›; dsimp only at h; subst h)
  | with_reducible refine (each_but (fun _ _ => ?_) _ _).trans ?_
  | with_reducible refine (whenS_but (fun _ => ?_) _ _).trans ?_
  | with_reducible refine (foldl_but (fun _ _ => ?_) _ _).trans ?_
  | with_reducible refine (foldl_but2 (fun _ _ => ?_) _ _).trans ?_
theorem boundaryOp_but {m} (hm : sub 8415753918 m = true) (s : State) : (boundaryOp s).but m = s.but m := but_mono hm (boundaryOp_but' s)

theorem execRoundBoundary_but' (s : State) : (outOf (execRoundBoundary s) s).but 8415753918 = s.but 8415753918 := by
  unfold execRoundBoundary
  repeat' first
  | with_reducible rfl
  | simp (disch := first | exact Or.inr rfl | exact Or.inl rfl | decide) only [↓but_mk, ↓but_ite, ↓but_snd_ite, ↓but_snd_mk, ↓but_snd2_ite, ↓but_snd2_mk, ↓but_cond, ite_self, outOf_live, outOf_next, outOf_ite, ↓boundaryOp_but]
  | split <;> try (with_reducible have h := congrArg Prod.snd ‹(_ : _ × State) = (_, _)›; dsimp only at h; subst h)
  | with_reducible refine (each_but (fun _ _ => ?_) _ _).trans ?_
  | with_reducible refine (whenS_but (fun _ => ?_) _ _).trans ?_
  | with_reducible refine (foldl_but (fun _ _ => ?_) _ _).trans ?_
  | with_reducible refine (foldl_but2 (fun _ _ => ?_) _ _).trans ?_
theorem execRoundBoundary_but {m} (hm : sub 8415753918 m = true) (s : State) : (outOf (execRoundBoundary s) s).but m = s.but m := but_mono hm (execRoundBoundary_but' s)

theorem scAppend_but' (p : PeerRec) (op : Nat) (k : ScCall) (s : State) : (scAppend p op k s).but 9441920 = s.but 9441920 := by
  unfold scAppend
  repeat' first
  | with_reducible rfl
  | simp (disch := first | exact Or.inr rfl | exact Or.inl rfl | decide) only [↓but_mk, ↓but_ite, ↓but_snd_ite, ↓but_snd_mk, ↓but_snd2_ite, ↓but_snd2_mk, ↓but_cond, ite_self, outOf_live, outOf_next, outOf_ite, ↓sendAck_but, ↓settleMsgs_but]
  | split <;> try (with_reducible have h := congrArg Prod.snd ‹(_ : _ × State) = (_, _)›; dsimp only at h; subst h)
  | with_reducible refine (each_but (fun _ _ => ?_) _ _).trans ?_
  | with_reducible refine (whenS_but (fun _ => ?_) _ _).trans ?_
  | with_reducible refine (foldl_but (fun _ _ => ?_) _ _).trans ?_
  | with_reducible refine (foldl_but2 (fun _ _ => ?_) _ _).trans ?_
theorem scAppend_but {m} (hm : sub 9441920 m = true) (p : PeerRec) (op : Nat) (k : ScCall) (s : State) : (scAppend p op k s).but m = s.but m := but_mono hm (scAppend_but' p op k s)

theorem scFromPeer_but' (i : Nat) (op : Nat) (k : ScCall) (s : State) : (scFromPeer i op k s).but 9442944 = s.but 9442944 := by
  unfold scFromPeer
  repeat' first
  | with_reducible rfl
  | simp (disch := first | exact Or.inr rfl | exact Or.inl rfl | decide) only [↓but_mk, ↓but_ite, ↓but_snd_ite, ↓but_snd_mk, ↓but_snd2_ite, ↓but_snd2_mk, ↓but_cond, ite_self, outOf_live, outOf_next, outOf_ite, ↓noteSession_but, ↓scAppend_but, ↓sendDgram_but, ↓emit_but, ↓answer_but]
  | split <;> try (with_reducible have h := congrArg Prod.snd ‹(_ : _ × State) = (_, _)›; dsimp only at h; subst h)
  | with_reducible refine (each_but (fun _ _ => ?_) _ _).trans ?_
  | with_reducible refine (whenS_but (fun _ => ?_) _ _).trans ?_
  | with_reducible refine (foldl_but (fun _ _ => ?_) _ _).trans ?_
  | with_reducible refine (foldl_but2 (fun _ _ => ?_) _ _).trans ?_
theorem scFromPeer_but {m} (hm : sub 9442944 m = true) (i : Nat) (op : Nat) (k : ScCall) (s : State) : (scFromPeer i op k s).but m = s.but m := but_mono hm (scFromPeer_but' i op k s)

theorem scCommand_but' (op : Nat) (k : ScCall) (s : State) : (scCommand op k s).but 9442944 = s.but 9442944 := by
  unfold scCommand
  repeat' first
  | with_reducible rfl
  | simp (disch := first | exact Or.inr rfl | exact Or.inl rfl | decide) only [↓but_mk, ↓but_ite, ↓but_snd_ite, ↓but_snd_mk, ↓but_snd2_ite, ↓but_snd2_mk, ↓but_cond, ite_self, outOf_live, outOf_next, outOf_ite, ↓scFromPeer_but, ↓scOp_but, ↓settleMsgs_but, ↓deliver_but]
  | split <;> try (with_reducible have h := congrArg Prod.snd ‹(_ : _ × State) = (_, _)›; dsimp only at h; subst h)
  | with_reducible refine (each_but (fun _ _ => ?_) _ _).trans ?_
  | with_reducible refine (whenS_but (fun _ => ?_) _ _).trans ?_
  | with_reducible refine (foldl_but (fun _ _ => ?_) _ _).trans ?_
  | with_reducible refine (foldl_but2 (fun _ _ => ?_) _ _).trans ?_
theorem scCommand_but {m} (hm : sub 9442944 m = true) (op : Nat) (k : ScCall) (s : State) : (scCommand op k s).but m = s.but m := but_mono hm (scCommand_but' op k s)

theorem execPost_but' (c : ScCall) (s : State) : (outOf (execPost c s) s).but 9442944 = s.but 9442944 := by
  unfold execPost
  repeat' first
  | with_reducible rfl
  | simp (disch := first | exact Or.inr rfl | exact Or.inl rfl | decide) only [↓but_mk, ↓but_ite, ↓but_snd_ite, ↓but_snd_mk, ↓but_snd2_ite, ↓but_snd2_mk, ↓but_cond, ite_self, outOf_live, outOf_next, outOf_ite, ↓scCommand_but]
  | split <;> try (with_reducible have h := congrArg Prod.snd ‹(_ : _ × State) = (_, _)›; dsimp only at h; subst h)
  | with_reducible refine (each_but (fun _ _ => ?_) _ _).trans ?_
  | with_reducible refine (whenS_but (fun _ => ?_) _ _).trans ?_
  | with_reducible refine (foldl_but (fun _ _ => ?_) _ _).trans ?_
  | with_reducible refine (foldl_but2 (fun _ _ => ?_) _ _).trans ?_
theorem execPost_but {m} (hm : sub 9442944 m = true) (c : ScCall) (s : State) : (outOf (execPost c s) s).but m = s.but m := but_mono hm (execPost_but' c s)

theorem execTake_but' (c : ScCall) (s : State) : (outOf (execTake c s) s).but 9442944 = s.but 9442944 := by
  unfold execTake
  repeat' first
  | with_reducible rfl
  | simp (disch := first | exact Or.inr rfl | exact Or.inl rfl | decide) only [↓but_mk, ↓but_ite, ↓but_snd_ite, ↓but_snd_mk, ↓but_snd2_ite, ↓but_snd2_mk, ↓but_cond, ite_self, outOf_live, outOf_next, outOf_ite, ↓scCommand_but]
  | split <;> try (with_reducible have h := congrArg Prod.snd ‹(_ : _ × State) = (_, _)›; dsimp only at h; subst h)
  | with_reducible refine (each_but (fun _ _ => ?_) _ _).trans ?_
  | with_reducible refine (whenS_but (fun _ => ?_) _ _).trans ?_
  | with_reducible refine (foldl_but (fun _ _ => ?_) _ _).trans ?_
  | with_reducible refine (foldl_but2 (fun _ _ => ?_) _ _).trans ?_
theorem execTake_but {m} (hm : sub 9442944 m = true) (c : ScCall) (s : State) : (outOf (execTake c s) s).but m = s.but m := but_mono hm (execTake_but' c s)

theorem execTry_but' (c : ScCall) (s : State) : (outOf (execTry c s) s).but 9442944 = s.but 9442944 := by
  unfold execTry
  repeat' first
  | with_reducible rfl
  | simp (disch := first | exact Or.inr rfl | exact Or.inl rfl | decide) only [↓but_mk, ↓but_ite, ↓but_snd_ite, ↓but_snd_mk, ↓but_snd2_ite, ↓but_snd2_mk, ↓but_cond, ite_self, outOf_live, outOf_next, outOf_ite, ↓scCommand_but]
  | split <;> try (with_reducible have h := congrArg Prod.snd ‹(_ : _ × State) = (_, _)›; dsimp only at h; subst h)
  | with_reducible refine (each_but (fun _ _ => ?_) _ _).trans ?_
  | with_reducible refine (whenS_but (fun _ => ?_) _ _).trans ?_
  | with_reducible refine (foldl_but (fun _ _ => ?_) _ _).trans ?_
  | with_reducible refine (foldl_but2 (fun _ _ => ?_) _ _).trans ?_
theorem execTry_but {m} (hm : sub 9442944 m = true) (c : ScCall) (s : State) : (outOf (execTry c s) s).but m = s.but m := but_mono hm (execTry_but' c s)

theorem execDec_but' (c : ScCall) (s : State) : (outOf (execDec c s) s).but 9442944 = s.but 9442944 := by
  unfold execDec
  repeat' first
  | with_reducible rfl
  | simp (disch := first | exact Or.inr rfl | exact Or.inl rfl | decide) only [↓but_mk, ↓but_ite, ↓but_snd_ite, ↓but_snd_mk, ↓but_snd2_ite, ↓but_snd2_mk, ↓but_cond, ite_self, outOf_live, outOf_next, outOf_ite, ↓scCommand_but]
  | split <;> try (with_reducible have h := congrArg Prod.snd ‹(_ : _ × State) = (_, _)›; dsimp only at h; subst h)
  | with_reducible refine (each_but (fun _ _ => ?_) _ _).trans ?_
  | with_reducible refine (whenS_but (fun _ => ?_) _ _).trans ?_
  | with_reducible refine (foldl_but (fun _ _ => ?_) _ _).trans ?_
  | with_reducible refine (foldl_but2 (fun _ _ => ?_) _ _).trans ?_
theorem execDec_but {m} (hm : sub 9442944 m = true) (c : ScCall) (s : State) : (outOf (execDec c s) s).but m = s.but m := but_mono hm (execDec_but' c s)

theorem execRead_but' (c : ScCall) (s : State) : (outOf (execRead c s) s).but 9442944 = s.but 9442944 := by
  unfold execRead
  repeat' first
  | with_reducible rfl
  | simp (disch := first | exact Or.inr rfl | exact Or.inl rfl | decide) only [↓but_mk, ↓but_ite, ↓but_snd_ite, ↓but_snd_mk, ↓but_snd2_ite, ↓but_snd2_mk, ↓but_cond, ite_self, outOf_live, outOf_next, outOf_ite, ↓scCommand_but]
  | split <;> try (with_reducible have h := congrArg Prod.snd ‹(_ : _ × State) = (_, _)›; dsimp only at h; subst h)
  | with_reducible refine (each_but (fun _ _ => ?_) _ _).trans ?_
  | with_reducible refine (whenS_but (fun _ => ?_) _ _).trans ?_
  | with_reducible refine (foldl_but (fun _ _ => ?_) _ _).trans ?_
  | with_reducible refine (foldl_but2 (fun _ _ => ?_) _ _).trans ?_
theorem execRead_but {m} (hm : sub 9442944 m = true) (c : ScCall) (s : State) : (outOf (execRead c s) s).but m = s.but m := but_mono hm (execRead_but' c s)

theorem execSet_but' (c : ScCall) (s : State) : (outOf (execSet c s) s).but 9442944 = s.but 9442944 := by
  unfold execSet
  repeat' first
  | with_reducible rfl
  | simp (disch := first | exact Or.inr rfl | exact Or.inl rfl | decide) only [↓but_mk, ↓but_ite, ↓but_snd_ite, ↓but_snd_mk, ↓but_snd2_ite, ↓but_snd2_mk, ↓but_cond, ite_self, outOf_live, outOf_next, outOf_ite, ↓scCommand_but]
  | split <;> try (with_reducible have h := congrArg Prod.snd ‹(_ : _ × State) = (_, _)›; dsimp only at h; subst h)
  | with_reducible refine (each_but (fun _ _ => ?_) _ _).trans ?_
  | with_reducible refine (whenS_but (fun _ => ?_) _ _).trans ?_
  | with_reducible refine (foldl_but (fun _ _ => ?_) _ _).trans ?_
  | with_reducible refine (foldl_but2 (fun _ _ => ?_) _ _).trans ?_
theorem execSet_but {m} (hm : sub 9442944 m = true) (c : ScCall) (s : State) : (outOf (execSet c s) s).but m = s.but m := but_mono hm (execSet_but' c s)

theorem execScRelease_but' (c : ScCall) (s : State) : (outOf (execScRelease c s) s).but 9442944 = s.but 9442944 := by
  unfold execScRelease
  repeat' first
  | with_reducible rfl
  | simp (disch := first | exact Or.inr rfl | exact Or.inl rfl | decide) only [↓but_mk, ↓but_ite, ↓but_snd_ite, ↓but_snd_mk, ↓but_snd2_ite, ↓but_snd2_mk, ↓but_cond, ite_self, outOf_live, outOf_next, outOf_ite, ↓scCommand_but]
  | split <;> try (with_reducible have h := congrArg Prod.snd ‹(_ : _ × State) = (_, _)›; dsimp only at h; subst h)
  | with_reducible refine (each_but (fun _ _ => ?_) _ _).trans ?_
  | with_reducible refine (whenS_but (fun _ => ?_) _ _).trans ?_
  | with_reducible refine (foldl_but (fun _ _ => ?_) _ _).trans ?_
  | with_reducible refine (foldl_but2 (fun _ _ => ?_) _ _).trans ?_
theorem execScRelease_but {m} (hm : sub 9442944 m = true) (c : ScCall) (s : State) : (outOf (execScRelease c s) s).but m = s.but m := but_mono hm (execScRelease_but' c s)

theorem takeTimeout_but' (c : Nat) (p : Party) (s : State) : (takeTimeout c p s).but 76550784 = s.but 76550784 := by
  unfold takeTimeout
  repeat' first
  | with_reducible rfl
  | simp (disch := first | exact Or.inr rfl | exact Or.inl rfl | decide) only [↓but_mk, ↓but_ite, ↓but_snd_ite, ↓but_snd_mk, ↓but_snd2_ite, ↓but_snd2_mk, ↓but_cond, ite_self, outOf_live, outOf_next, outOf_ite, ↓clockTo_but, ↓setCtr_but, ↓emit_but, ↓settleMsgs_but, ↓serveWaiters_but, ↓fullEnds_but, ↓addSpin_but, ↓deliver_but]
  | split <;> try (with_reducible have h := congrArg Prod.snd ‹(_ : _ × State) = (_, _)›; dsimp only at h; subst h)
  | with_reducible refine (each_but (fun _ _ => ?_) _ _).trans ?_
  | with_reducible refine (whenS_but (fun _ => ?_) _ _).trans ?_
  | with_reducible refine (foldl_but (fun _ _ => ?_) _ _).trans ?_
  | with_reducible refine (foldl_but2 (fun _ _ => ?_) _ _).trans ?_
theorem takeTimeout_but {m} (hm : sub 76550784 m = true) (c : Nat) (p : Party) (s : State) : (takeTimeout c p s).but m = s.but m := but_mono hm (takeTimeout_but' c p s)

theorem execScTakeTimeout_but' (counter : Nat) (party : Party) (s : State) : (outOf (execScTakeTimeout counter party s) s).but 76550784 = s.but 76550784 := by
  unfold execScTakeTimeout
  repeat' first
  | with_reducible rfl
  | simp (disch := first | exact Or.inr rfl | exact Or.inl rfl | decide) only [↓but_mk, ↓but_ite, ↓but_snd_ite, ↓but_snd_mk, ↓but_snd2_ite, ↓but_snd2_mk, ↓but_cond, ite_self, outOf_live, outOf_next, outOf_ite, ↓takeTimeout_but]
  | split <;> try (with_reducible have h := congrArg Prod.snd ‹(_ : _ × State) = (_, _)›; dsimp only at h; subst h)
  | with_reducible refine (each_but (fun _ _ => ?_) _ _).trans ?_
  | with_reducible refine (whenS_but (fun _ => ?_) _ _).trans ?_
  | with_reducible refine (foldl_but (fun _ _ => ?_) _ _).trans ?_
  | with_reducible refine (foldl_but2 (fun _ _ => ?_) _ _).trans ?_
theorem execScTakeTimeout_but {m} (hm : sub 76550784 m = true) (counter : Nat) (party : Party) (s : State) : (outOf (execScTakeTimeout counter party s) s).but m = s.but m := but_mono hm (execScTakeTimeout_but' counter party s)

theorem execScBlockQuarantined_but' (s : State) : (outOf (execScBlockQuarantined s) s).but 9441984 = s.but 9441984 := by
  unfold execScBlockQuarantined
  repeat' first
  | with_reducible rfl
  | simp (disch := first | exact Or.inr rfl | exact Or.inl rfl | decide) only [↓but_mk, ↓but_ite, ↓but_snd_ite, ↓but_snd_mk, ↓but_snd2_ite, ↓but_snd2_mk, ↓but_cond, ite_self, outOf_live, outOf_next, outOf_ite, ↓scQuarantine_but]
  | split <;> try (with_reducible have h := congrArg Prod.snd ‹(_ : _ × State) = (_, _)›; dsimp only at h; subst h)
  | with_reducible refine (each_but (fun _ _ => ?_) _ _).trans ?_
  | with_reducible refine (whenS_but (fun _ => ?_) _ _).trans ?_
  | with_reducible refine (foldl_but (fun _ _ => ?_) _ _).trans ?_
  | with_reducible refine (foldl_but2 (fun _ _ => ?_) _ _).trans ?_
theorem execScBlockQuarantined_but {m} (hm : sub 9441984 m = true) (s : State) : (outOf (execScBlockQuarantined s) s).but m = s.but m := but_mono hm (execScBlockQuarantined_but' s)

end Sys2Proof.Machine
end

