-- ==== Sys2Proof/Laws/FrameRegs.lean ====
section
/-! SUPPORT. What each function can change (registers): it leaves every part of State outside its mask as it was. -/

set_option linter.all false

namespace Sys2Proof.Machine

theorem wok_but' (s : State) : (wok s).2.but 0 = s.but 0 := by
  unfold wok
  repeat' first
  | with_reducible rfl
  | simp (disch := first | exact Or.inr rfl | exact Or.inl rfl | decide) only [↓but_mk, ↓but_ite, ↓but_snd_ite, ↓but_snd_mk, ↓but_snd2_ite, ↓but_snd2_mk, ↓but_cond, ite_self, outOf_live, outOf_next, outOf_ite]
  | split <;> try (with_reducible have h := congrArg Prod.snd ‹(_ : _ × State) = (_, _)›; dsimp only at h; subst h)
  | with_reducible refine (each_but (fun _ _ => ?_) _ _).trans ?_
  | with_reducible refine (whenS_but (fun _ => ?_) _ _).trans ?_
  | with_reducible refine (foldl_but (fun _ _ => ?_) _ _).trans ?_
  | with_reducible refine (foldl_but2 (fun _ _ => ?_) _ _).trans ?_
theorem wok_but {m} (hm : sub 0 m = true) (s : State) : (wok s).2.but m = s.but m := but_mono hm (wok_but' s)

theorem ovrNote_but' (a : Nat) (v : Nat) (s : State) : (ovrNote a v s).but 2 = s.but 2 := by
  unfold ovrNote
  repeat' first
  | with_reducible rfl
  | simp (disch := first | exact Or.inr rfl | exact Or.inl rfl | decide) only [↓but_mk, ↓but_ite, ↓but_snd_ite, ↓but_snd_mk, ↓but_snd2_ite, ↓but_snd2_mk, ↓but_cond, ite_self, outOf_live, outOf_next, outOf_ite]
  | split <;> try (with_reducible have h := congrArg Prod.snd ‹(_ : _ × State) = (_, _)›; dsimp only at h; subst h)
  | with_reducible refine (each_but (fun _ _ => ?_) _ _).trans ?_
  | with_reducible refine (whenS_but (fun _ => ?_) _ _).trans ?_
  | with_reducible refine (foldl_but (fun _ _ => ?_) _ _).trans ?_
  | with_reducible refine (foldl_but2 (fun _ _ => ?_) _ _).trans ?_
theorem ovrNote_but {m} (hm : sub 2 m = true) (a : Nat) (v : Nat) (s : State) : (ovrNote a v s).but m = s.but m := but_mono hm (ovrNote_but' a v s)

theorem fcReadEff_but' (k : Nat) (off : Nat) (s : State) : (fcReadEff k off s).but 262144 = s.but 262144 := by
  unfold fcReadEff
  repeat' first
  | with_reducible rfl
  | simp (disch := first | exact Or.inr rfl | exact Or.inl rfl | decide) only [↓but_mk, ↓but_ite, ↓but_snd_ite, ↓but_snd_mk, ↓but_snd2_ite, ↓but_snd2_mk, ↓but_cond, ite_self, outOf_live, outOf_next, outOf_ite, ↓setReg_but, ↓setTile_but]
  | split <;> try (with_reducible have h := congrArg Prod.snd ‹(_ : _ × State) = (_, _)›; dsimp only at h; subst h)
  | with_reducible refine (each_but (fun _ _ => ?_) _ _).trans ?_
  | with_reducible refine (whenS_but (fun _ => ?_) _ _).trans ?_
  | with_reducible refine (foldl_but (fun _ _ => ?_) _ _).trans ?_
  | with_reducible refine (foldl_but2 (fun _ _ => ?_) _ _).trans ?_
theorem fcReadEff_but {m} (hm : sub 262144 m = true) (k : Nat) (off : Nat) (s : State) : (fcReadEff k off s).but m = s.but m := but_mono hm (fcReadEff_but' k off s)

theorem fcWrite_but' (k : Nat) (off : Nat) (v : Nat) (s : State) : (fcWrite k off v s).2.but 9704066 = s.but 9704066 := by
  unfold fcWrite
  repeat' first
  | with_reducible rfl
  | simp (disch := first | exact Or.inr rfl | exact Or.inl rfl | decide) only [↓but_mk, ↓but_ite, ↓but_snd_ite, ↓but_snd_mk, ↓but_snd2_ite, ↓but_snd2_mk, ↓but_cond, ite_self, outOf_live, outOf_next, outOf_ite, ↓wok_but, ↓regionResetOp_but, ↓setTile_but, ↓ovrNote_but, ↓forceOp_but, ↓releaseOp_but]
  | split <;> try (with_reducible have h := congrArg Prod.snd ‹(_ : _ × State) = (_, _)›; dsimp only at h; subst h)
  | with_reducible refine (each_but (fun _ _ => ?_) _ _).trans ?_
  | with_reducible refine (whenS_but (fun _ => ?_) _ _).trans ?_
  | with_reducible refine (foldl_but (fun _ _ => ?_) _ _).trans ?_
  | with_reducible refine (foldl_but2 (fun _ _ => ?_) _ _).trans ?_
theorem fcWrite_but {m} (hm : sub 9704066 m = true) (k : Nat) (off : Nat) (v : Nat) (s : State) : (fcWrite k off v s).2.but m = s.but m := but_mono hm (fcWrite_but' k off v s)

theorem alReadEff_but' (off : Nat) (s : State) : (alReadEff off s).but 524288 = s.but 524288 := by
  unfold alReadEff
  repeat' first
  | with_reducible rfl
  | simp (disch := first | exact Or.inr rfl | exact Or.inl rfl | decide) only [↓but_mk, ↓but_ite, ↓but_snd_ite, ↓but_snd_mk, ↓but_snd2_ite, ↓but_snd2_mk, ↓but_cond, ite_self, outOf_live, outOf_next, outOf_ite]
  | split <;> try (with_reducible have h := congrArg Prod.snd ‹(_ : _ × State) = (_, _)›; dsimp only at h; subst h)
  | with_reducible refine (each_but (fun _ _ => ?_) _ _).trans ?_
  | with_reducible refine (whenS_but (fun _ => ?_) _ _).trans ?_
  | with_reducible refine (foldl_but (fun _ _ => ?_) _ _).trans ?_
  | with_reducible refine (foldl_but2 (fun _ _ => ?_) _ _).trans ?_
theorem alReadEff_but {m} (hm : sub 524288 m = true) (off : Nat) (s : State) : (alReadEff off s).but m = s.but m := but_mono hm (alReadEff_but' off s)

theorem alWrite_but' (off : Nat) (v : Nat) (s : State) : (alWrite off v s).2.but 524290 = s.but 524290 := by
  unfold alWrite
  repeat' first
  | with_reducible rfl
  | simp (disch := first | exact Or.inr rfl | exact Or.inl rfl | decide) only [↓but_mk, ↓but_ite, ↓but_snd_ite, ↓but_snd_mk, ↓but_snd2_ite, ↓but_snd2_mk, ↓but_cond, ite_self, outOf_live, outOf_next, outOf_ite, ↓wok_but, ↓ovrNote_but, ↓setLs_but]
  | split <;> try (with_reducible have h := congrArg Prod.snd ‹(_ : _ × State) = (_, _)›; dsimp only at h; subst h)
  | with_reducible refine (each_but (fun _ _ => ?_) _ _).trans ?_
  | with_reducible refine (whenS_but (fun _ => ?_) _ _).trans ?_
  | with_reducible refine (foldl_but (fun _ _ => ?_) _ _).trans ?_
  | with_reducible refine (foldl_but2 (fun _ _ => ?_) _ _).trans ?_
theorem alWrite_but {m} (hm : sub 524290 m = true) (off : Nat) (v : Nat) (s : State) : (alWrite off v s).2.but m = s.but m := but_mono hm (alWrite_but' off v s)

theorem lpReadEff_but' (off : Nat) (s : State) : (lpReadEff off s).but 8192 = s.but 8192 := by
  unfold lpReadEff
  repeat' first
  | with_reducible rfl
  | simp (disch := first | exact Or.inr rfl | exact Or.inl rfl | decide) only [↓but_mk, ↓but_ite, ↓but_snd_ite, ↓but_snd_mk, ↓but_snd2_ite, ↓but_snd2_mk, ↓but_cond, ite_self, outOf_live, outOf_next, outOf_ite]
  | split <;> try (with_reducible have h := congrArg Prod.snd ‹(_ : _ × State) = (_, _)›; dsimp only at h; subst h)
  | with_reducible refine (each_but (fun _ _ => ?_) _ _).trans ?_
  | with_reducible refine (whenS_but (fun _ => ?_) _ _).trans ?_
  | with_reducible refine (foldl_but (fun _ _ => ?_) _ _).trans ?_
  | with_reducible refine (foldl_but2 (fun _ _ => ?_) _ _).trans ?_
theorem lpReadEff_but {m} (hm : sub 8192 m = true) (off : Nat) (s : State) : (lpReadEff off s).but m = s.but m := but_mono hm (lpReadEff_but' off s)

theorem bankWrite_but' (c : Nat) (b : Bool) (w : Nat) (v : Nat) (a : Nat) (s : State) : (bankWrite c b w v a s).2.but 8194 = s.but 8194 := by
  unfold bankWrite
  repeat' first
  | with_reducible rfl
  | simp (disch := first | exact Or.inr rfl | exact Or.inl rfl | decide) only [↓but_mk, ↓but_ite, ↓but_snd_ite, ↓but_snd_mk, ↓but_snd2_ite, ↓but_snd2_mk, ↓but_cond, ite_self, outOf_live, outOf_next, outOf_ite, ↓wok_but, ↓ovrNote_but, ↓setSp_but]
  | split <;> try (with_reducible have h := congrArg Prod.snd ‹(_ : _ × State) = (_, _)›; dsimp only at h; subst h)
  | with_reducible refine (each_but (fun _ _ => ?_) _ _).trans ?_
  | with_reducible refine (whenS_but (fun _ => ?_) _ _).trans ?_
  | with_reducible refine (foldl_but (fun _ _ => ?_) _ _).trans ?_
  | with_reducible refine (foldl_but2 (fun _ _ => ?_) _ _).trans ?_
theorem bankWrite_but {m} (hm : sub 8194 m = true) (c : Nat) (b : Bool) (w : Nat) (v : Nat) (a : Nat) (s : State) : (bankWrite c b w v a s).2.but m = s.but m := but_mono hm (bankWrite_but' c b w v a s)

theorem lpWrite_but' (off : Nat) (v : Nat) (s : State) : (lpWrite off v s).2.but 8599401098 = s.but 8599401098 := by
  unfold lpWrite
  repeat' first
  | with_reducible rfl
  | simp (disch := first | exact Or.inr rfl | exact Or.inl rfl | decide) only [↓but_mk, ↓but_ite, ↓but_snd_ite, ↓but_snd_mk, ↓but_snd2_ite, ↓but_snd2_mk, ↓but_cond, ite_self, outOf_live, outOf_next, outOf_ite, ↓wok_but, ↓loopRestartFree_but, ↓ovrNote_but, ↓setSp_but, ↓swapOp_but, ↓tripResetOp_but, ↓bankWrite_but]
  | split <;> try (with_reducible have h := congrArg Prod.snd ‹(_ : _ × State) = (_, _)›; dsimp only at h; subst h)
  | with_reducible refine (each_but (fun _ _ => ?_) _ _).trans ?_
  | with_reducible refine (whenS_but (fun _ => ?_) _ _).trans ?_
  | with_reducible refine (foldl_but (fun _ _ => ?_) _ _).trans ?_
  | with_reducible refine (foldl_but2 (fun _ _ => ?_) _ _).trans ?_
theorem lpWrite_but {m} (hm : sub 8599401098 m = true) (off : Nat) (v : Nat) (s : State) : (lpWrite off v s).2.but m = s.but m := but_mono hm (lpWrite_but' off v s)

theorem fbReadEff_but' (k : Nat) (off : Nat) (s : State) : (fbReadEff k off s).but 1180160 = s.but 1180160 := by
  unfold fbReadEff
  repeat' first
  | with_reducible rfl
  | simp (disch := first | exact Or.inr rfl | exact Or.inl rfl | decide) only [↓but_mk, ↓but_ite, ↓but_snd_ite, ↓but_snd_mk, ↓but_snd2_ite, ↓but_snd2_mk, ↓but_cond, ite_self, outOf_live, outOf_next, outOf_ite, ↓setBus_but, ↓pmLockOp_but, ↓pmReleaseOp_but]
  | split <;> try (with_reducible have h := congrArg Prod.snd ‹(_ : _ × State) = (_, _)›; dsimp only at h; subst h)
  | with_reducible refine (each_but (fun _ _ => ?_) _ _).trans ?_
  | with_reducible refine (whenS_but (fun _ => ?_) _ _).trans ?_
  | with_reducible refine (foldl_but (fun _ _ => ?_) _ _).trans ?_
  | with_reducible refine (foldl_but2 (fun _ _ => ?_) _ _).trans ?_
theorem fbReadEff_but {m} (hm : sub 1180160 m = true) (k : Nat) (off : Nat) (s : State) : (fbReadEff k off s).but m = s.but m := but_mono hm (fbReadEff_but' k off s)

theorem fbWrite_but' (k : Nat) (off : Nat) (v : Nat) (s : State) : (fbWrite k off v s).2.but 1180288 = s.but 1180288 := by
  unfold fbWrite
  repeat' first
  | with_reducible rfl
  | simp (disch := first | exact Or.inr rfl | exact Or.inl rfl | decide) only [↓but_mk, ↓but_ite, ↓but_snd_ite, ↓but_snd_mk, ↓but_snd2_ite, ↓but_snd2_mk, ↓but_cond, ite_self, outOf_live, outOf_next, outOf_ite, ↓wok_but, ↓autoRestartOp_but, ↓sleepOp_but, ↓startWake_but, ↓recoverOp_but, ↓txCancelOp_but, ↓txCommitOp_but, ↓setBus_but, ↓releaseId_but, ↓setBuf_but]
  | split <;> try (with_reducible have h := congrArg Prod.snd ‹(_ : _ × State) = (_, _)›; dsimp only at h; subst h)
  | with_reducible refine (each_but (fun _ _ => ?_) _ _).trans ?_
  | with_reducible refine (whenS_but (fun _ => ?_) _ _).trans ?_
  | with_reducible refine (foldl_but (fun _ _ => ?_) _ _).trans ?_
  | with_reducible refine (foldl_but2 (fun _ _ => ?_) _ _).trans ?_
theorem fbWrite_but {m} (hm : sub 1180288 m = true) (k : Nat) (off : Nat) (v : Nat) (s : State) : (fbWrite k off v s).2.but m = s.but m := but_mono hm (fbWrite_but' k off v s)

theorem svReadEff_but' (off : Nat) (s : State) : (svReadEff off s).but 65536 = s.but 65536 := by
  unfold svReadEff
  repeat' first
  | with_reducible rfl
  | simp (disch := first | exact Or.inr rfl | exact Or.inl rfl | decide) only [↓but_mk, ↓but_ite, ↓but_snd_ite, ↓but_snd_mk, ↓but_snd2_ite, ↓but_snd2_mk, ↓but_cond, ite_self, outOf_live, outOf_next, outOf_ite]
  | split <;> try (with_reducible have h := congrArg Prod.snd ‹(_ : _ × State) = (_, _)›; dsimp only at h; subst h)
  | with_reducible refine (each_but (fun _ _ => ?_) _ _).trans ?_
  | with_reducible refine (whenS_but (fun _ => ?_) _ _).trans ?_
  | with_reducible refine (foldl_but (fun _ _ => ?_) _ _).trans ?_
  | with_reducible refine (foldl_but2 (fun _ _ => ?_) _ _).trans ?_
theorem svReadEff_but {m} (hm : sub 65536 m = true) (off : Nat) (s : State) : (svReadEff off s).but m = s.but m := but_mono hm (svReadEff_but' off s)

theorem evWrite_but' (p : Nat) (off : Nat) (v : Nat) (s : State) : (evWrite p off v s).2.but 1049474 = s.but 1049474 := by
  unfold evWrite
  repeat' first
  | with_reducible rfl
  | simp (disch := first | exact Or.inr rfl | exact Or.inl rfl | decide) only [↓but_mk, ↓but_ite, ↓but_snd_ite, ↓but_snd_mk, ↓but_snd2_ite, ↓but_snd2_mk, ↓but_cond, ite_self, outOf_live, outOf_next, outOf_ite, ↓wok_but, ↓wallSetOp_but, ↓wallSlewOp_but, ↓ovrNote_but]
  | split <;> try (with_reducible have h := congrArg Prod.snd ‹(_ : _ × State) = (_, _)›; dsimp only at h; subst h)
  | with_reducible refine (each_but (fun _ _ => ?_) _ _).trans ?_
  | with_reducible refine (whenS_but (fun _ => ?_) _ _).trans ?_
  | with_reducible refine (foldl_but (fun _ _ => ?_) _ _).trans ?_
  | with_reducible refine (foldl_but2 (fun _ _ => ?_) _ _).trans ?_
theorem evWrite_but {m} (hm : sub 1049474 m = true) (p : Nat) (off : Nat) (v : Nat) (s : State) : (evWrite p off v s).2.but m = s.but m := but_mono hm (evWrite_but' p off v s)

theorem scReadEff_but' (off : Nat) (s : State) : (scReadEff off s).but 4096 = s.but 4096 := by
  unfold scReadEff
  repeat' first
  | with_reducible rfl
  | simp (disch := first | exact Or.inr rfl | exact Or.inl rfl | decide) only [↓but_mk, ↓but_ite, ↓but_snd_ite, ↓but_snd_mk, ↓but_snd2_ite, ↓but_snd2_mk, ↓but_cond, ite_self, outOf_live, outOf_next, outOf_ite]
  | split <;> try (with_reducible have h := congrArg Prod.snd ‹(_ : _ × State) = (_, _)›; dsimp only at h; subst h)
  | with_reducible refine (each_but (fun _ _ => ?_) _ _).trans ?_
  | with_reducible refine (whenS_but (fun _ => ?_) _ _).trans ?_
  | with_reducible refine (foldl_but (fun _ _ => ?_) _ _).trans ?_
  | with_reducible refine (foldl_but2 (fun _ _ => ?_) _ _).trans ?_
theorem scReadEff_but {m} (hm : sub 4096 m = true) (off : Nat) (s : State) : (scReadEff off s).but m = s.but m := but_mono hm (scReadEff_but' off s)

theorem scRegWrite_but' (off : Nat) (v : Nat) (s : State) : (scRegWrite off v s).2.but 4098 = s.but 4098 := by
  unfold scRegWrite
  repeat' first
  | with_reducible rfl
  | simp (disch := first | exact Or.inr rfl | exact Or.inl rfl | decide) only [↓but_mk, ↓but_ite, ↓but_snd_ite, ↓but_snd_mk, ↓but_snd2_ite, ↓but_snd2_mk, ↓but_cond, ite_self, outOf_live, outOf_next, outOf_ite, ↓wok_but, ↓ovrNote_but]
  | split <;> try (with_reducible have h := congrArg Prod.snd ‹(_ : _ × State) = (_, _)›; dsimp only at h; subst h)
  | with_reducible refine (each_but (fun _ _ => ?_) _ _).trans ?_
  | with_reducible refine (whenS_but (fun _ => ?_) _ _).trans ?_
  | with_reducible refine (foldl_but (fun _ _ => ?_) _ _).trans ?_
  | with_reducible refine (foldl_but2 (fun _ _ => ?_) _ _).trans ?_
theorem scRegWrite_but {m} (hm : sub 4098 m = true) (off : Nat) (v : Nat) (s : State) : (scRegWrite off v s).2.but m = s.but m := but_mono hm (scRegWrite_but' off v s)

theorem glbReadEff_but' (off : Nat) (s : State) : (glbReadEff off s).but 4 = s.but 4 := by
  unfold glbReadEff
  repeat' first
  | with_reducible rfl
  | simp (disch := first | exact Or.inr rfl | exact Or.inl rfl | decide) only [↓but_mk, ↓but_ite, ↓but_snd_ite, ↓but_snd_mk, ↓but_snd2_ite, ↓but_snd2_mk, ↓but_cond, ite_self, outOf_live, outOf_next, outOf_ite]
  | split <;> try (with_reducible have h := congrArg Prod.snd ‹(_ : _ × State) = (_, _)›; dsimp only at h; subst h)
  | with_reducible refine (each_but (fun _ _ => ?_) _ _).trans ?_
  | with_reducible refine (whenS_but (fun _ => ?_) _ _).trans ?_
  | with_reducible refine (foldl_but (fun _ _ => ?_) _ _).trans ?_
  | with_reducible refine (foldl_but2 (fun _ _ => ?_) _ _).trans ?_
theorem glbReadEff_but {m} (hm : sub 4 m = true) (off : Nat) (s : State) : (glbReadEff off s).but m = s.but m := but_mono hm (glbReadEff_but' off s)

theorem glbWrite_but' (off : Nat) (v : Nat) (s : State) : (glbWrite off v s).2.but 8606447242 = s.but 8606447242 := by
  unfold glbWrite
  repeat' first
  | with_reducible rfl
  | simp (disch := first | exact Or.inr rfl | exact Or.inl rfl | decide) only [↓but_mk, ↓but_ite, ↓but_snd_ite, ↓but_snd_mk, ↓but_snd2_ite, ↓but_snd2_mk, ↓but_cond, ite_self, outOf_live, outOf_next, outOf_ite, ↓wok_but, ↓ctlResetReq_but, ↓hstResetOp_but, ↓freshWord_but, ↓blockResetOp_but]
  | split <;> try (with_reducible have h := congrArg Prod.snd ‹(_ : _ × State) = (_, _)›; dsimp only at h; subst h)
  | with_reducible refine (each_but (fun _ _ => ?_) _ _).trans ?_
  | with_reducible refine (whenS_but (fun _ => ?_) _ _).trans ?_
  | with_reducible refine (foldl_but (fun _ _ => ?_) _ _).trans ?_
  | with_reducible refine (foldl_but2 (fun _ _ => ?_) _ _).trans ?_
theorem glbWrite_but {m} (hm : sub 8606447242 m = true) (off : Nat) (v : Nat) (s : State) : (glbWrite off v s).2.but m = s.but m := but_mono hm (glbWrite_but' off v s)

theorem fecRead_but' (s : State) : (fecRead s).but 8589934592 = s.but 8589934592 := by
  unfold fecRead
  repeat' first
  | with_reducible rfl
  | simp (disch := first | exact Or.inr rfl | exact Or.inl rfl | decide) only [↓but_mk, ↓but_ite, ↓but_snd_ite, ↓but_snd_mk, ↓but_snd2_ite, ↓but_snd2_mk, ↓but_cond, ite_self, outOf_live, outOf_next, outOf_ite]
  | split <;> try (with_reducible have h := congrArg Prod.snd ‹(_ : _ × State) = (_, _)›; dsimp only at h; subst h)
  | with_reducible refine (each_but (fun _ _ => ?_) _ _).trans ?_
  | with_reducible refine (whenS_but (fun _ => ?_) _ _).trans ?_
  | with_reducible refine (foldl_but (fun _ _ => ?_) _ _).trans ?_
  | with_reducible refine (foldl_but2 (fun _ _ => ?_) _ _).trans ?_
theorem fecRead_but {m} (hm : sub 8589934592 m = true) (s : State) : (fecRead s).but m = s.but m := but_mono hm (fecRead_but' s)

theorem hlReadEff_but' (off : Nat) (s : State) : (hlReadEff off s).but 8589936128 = s.but 8589936128 := by
  unfold hlReadEff
  repeat' first
  | with_reducible rfl
  | simp (disch := first | exact Or.inr rfl | exact Or.inl rfl | decide) only [↓but_mk, ↓but_ite, ↓but_snd_ite, ↓but_snd_mk, ↓but_snd2_ite, ↓but_snd2_mk, ↓but_cond, ite_self, outOf_live, outOf_next, outOf_ite, ↓fecRead_but]
  | split <;> try (with_reducible have h := congrArg Prod.snd ‹(_ : _ × State) = (_, _)›; dsimp only at h; subst h)
  | with_reducible refine (each_but (fun _ _ => ?_) _ _).trans ?_
  | with_reducible refine (whenS_but (fun _ => ?_) _ _).trans ?_
  | with_reducible refine (foldl_but (fun _ _ => ?_) _ _).trans ?_
  | with_reducible refine (foldl_but2 (fun _ _ => ?_) _ _).trans ?_
theorem hlReadEff_but {m} (hm : sub 8589936128 m = true) (off : Nat) (s : State) : (hlReadEff off s).but m = s.but m := but_mono hm (hlReadEff_but' off s)

theorem pfWrite_but' (off : Nat) (v : Nat) (s : State) : (pfWrite off v s).2.but 33554432 = s.but 33554432 := by
  unfold pfWrite
  repeat' first
  | with_reducible rfl
  | simp (disch := first | exact Or.inr rfl | exact Or.inl rfl | decide) only [↓but_mk, ↓but_ite, ↓but_snd_ite, ↓but_snd_mk, ↓but_snd2_ite, ↓but_snd2_mk, ↓but_cond, ite_self, outOf_live, outOf_next, outOf_ite, ↓wok_but]
  | split <;> try (with_reducible have h := congrArg Prod.snd ‹(_ : _ × State) = (_, _)›; dsimp only at h; subst h)
  | with_reducible refine (each_but (fun _ _ => ?_) _ _).trans ?_
  | with_reducible refine (whenS_but (fun _ => ?_) _ _).trans ?_
  | with_reducible refine (foldl_but (fun _ _ => ?_) _ _).trans ?_
  | with_reducible refine (foldl_but2 (fun _ _ => ?_) _ _).trans ?_
theorem pfWrite_but {m} (hm : sub 33554432 m = true) (off : Nat) (v : Nat) (s : State) : (pfWrite off v s).2.but m = s.but m := but_mono hm (pfWrite_but' off v s)

theorem cntClearOp_but' (s : State) : (cntClearOp s).but 64 = s.but 64 := by
  unfold cntClearOp
  repeat' first
  | with_reducible rfl
  | simp (disch := first | exact Or.inr rfl | exact Or.inl rfl | decide) only [↓but_mk, ↓but_ite, ↓but_snd_ite, ↓but_snd_mk, ↓but_snd2_ite, ↓but_snd2_mk, ↓but_cond, ite_self, outOf_live, outOf_next, outOf_ite]
  | split <;> try (with_reducible have h := congrArg Prod.snd ‹(_ : _ × State) = (_, _)›; dsimp only at h; subst h)
  | with_reducible refine (each_but (fun _ _ => ?_) _ _).trans ?_
  | with_reducible refine (whenS_but (fun _ => ?_) _ _).trans ?_
  | with_reducible refine (foldl_but (fun _ _ => ?_) _ _).trans ?_
  | with_reducible refine (foldl_but2 (fun _ _ => ?_) _ _).trans ?_
theorem cntClearOp_but {m} (hm : sub 64 m = true) (s : State) : (cntClearOp s).but m = s.but m := but_mono hm (cntClearOp_but' s)

theorem execCntClear_but' (s : State) : (outOf (execCntClear s) s).but 64 = s.but 64 := by
  unfold execCntClear
  repeat' first
  | with_reducible rfl
  | simp (disch := first | exact Or.inr rfl | exact Or.inl rfl | decide) only [↓but_mk, ↓but_ite, ↓but_snd_ite, ↓but_snd_mk, ↓but_snd2_ite, ↓but_snd2_mk, ↓but_cond, ite_self, outOf_live, outOf_next, outOf_ite, ↓cntClearOp_but]
  | split <;> try (with_reducible have h := congrArg Prod.snd ‹(_ : _ × State) = (_, _)›; dsimp only at h; subst h)
  | with_reducible refine (each_but (fun _ _ => ?_) _ _).trans ?_
  | with_reducible refine (whenS_but (fun _ => ?_) _ _).trans ?_
  | with_reducible refine (foldl_but (fun _ _ => ?_) _ _).trans ?_
  | with_reducible refine (foldl_but2 (fun _ _ => ?_) _ _).trans ?_
theorem execCntClear_but {m} (hm : sub 64 m = true) (s : State) : (outOf (execCntClear s) s).but m = s.but m := but_mono hm (execCntClear_but' s)

theorem swWrite_but' (k : Nat) (w : Nat) (v : Nat) (s : State) : (swWrite k w v s).2.but 1065600 = s.but 1065600 := by
  unfold swWrite
  repeat' first
  | with_reducible rfl
  | simp (disch := first | exact Or.inr rfl | exact Or.inl rfl | decide) only [↓but_mk, ↓but_ite, ↓but_snd_ite, ↓but_snd_mk, ↓but_snd2_ite, ↓but_snd2_mk, ↓but_cond, ite_self, outOf_live, outOf_next, outOf_ite, ↓wok_but, ↓swHostTrigger_but, ↓swHostAbort_but, ↓swArmOp_but, ↓setSw_but]
  | split <;> try (with_reducible have h := congrArg Prod.snd ‹(_ : _ × State) = (_, _)›; dsimp only at h; subst h)
  | with_reducible refine (each_but (fun _ _ => ?_) _ _).trans ?_
  | with_reducible refine (whenS_but (fun _ => ?_) _ _).trans ?_
  | with_reducible refine (foldl_but (fun _ _ => ?_) _ _).trans ?_
  | with_reducible refine (foldl_but2 (fun _ _ => ?_) _ _).trans ?_
theorem swWrite_but {m} (hm : sub 1065600 m = true) (k : Nat) (w : Nat) (v : Nat) (s : State) : (swWrite k w v s).2.but m = s.but m := but_mono hm (swWrite_but' k w v s)

theorem trWrite_but' (b : Nat) (w : Nat) (v : Nat) (s : State) : (trWrite b w v s).but 16384 = s.but 16384 := by
  unfold trWrite
  repeat' first
  | with_reducible rfl
  | simp (disch := first | exact Or.inr rfl | exact Or.inl rfl | decide) only [↓but_mk, ↓but_ite, ↓but_snd_ite, ↓but_snd_mk, ↓but_snd2_ite, ↓but_snd2_mk, ↓but_cond, ite_self, outOf_live, outOf_next, outOf_ite, ↓setTr_but, ↓trEnable_but]
  | split <;> try (with_reducible have h := congrArg Prod.snd ‹(_ : _ × State) = (_, _)›; dsimp only at h; subst h)
  | with_reducible refine (each_but (fun _ _ => ?_) _ _).trans ?_
  | with_reducible refine (whenS_but (fun _ => ?_) _ _).trans ?_
  | with_reducible refine (foldl_but (fun _ _ => ?_) _ _).trans ?_
  | with_reducible refine (foldl_but2 (fun _ _ => ?_) _ _).trans ?_
theorem trWrite_but {m} (hm : sub 16384 m = true) (b : Nat) (w : Nat) (v : Nat) (s : State) : (trWrite b w v s).but m = s.but m := but_mono hm (trWrite_but' b w v s)

theorem dgWrite_but' (off : Nat) (v : Nat) (s : State) : (dgWrite off v s).2.but 1065664 = s.but 1065664 := by
  unfold dgWrite
  repeat' first
  | with_reducible rfl
  | simp (disch := first | exact Or.inr rfl | exact Or.inl rfl | decide) only [↓but_mk, ↓but_ite, ↓but_snd_ite, ↓but_snd_mk, ↓but_snd2_ite, ↓but_snd2_mk, ↓but_cond, ite_self, outOf_live, outOf_next, outOf_ite, ↓wok_but, ↓cntClearOp_but, ↓swWrite_but, ↓trWrite_but]
  | split <;> try (with_reducible have h := congrArg Prod.snd ‹(_ : _ × State) = (_, _)›; dsimp only at h; subst h)
  | with_reducible refine (each_but (fun _ _ => ?_) _ _).trans ?_
  | with_reducible refine (whenS_but (fun _ => ?_) _ _).trans ?_
  | with_reducible refine (foldl_but (fun _ _ => ?_) _ _).trans ?_
  | with_reducible refine (foldl_but2 (fun _ _ => ?_) _ _).trans ?_
theorem dgWrite_but {m} (hm : sub 1065664 m = true) (off : Nat) (v : Nat) (s : State) : (dgWrite off v s).2.but m = s.but m := but_mono hm (dgWrite_but' off v s)

theorem regReadEff_but' (a : Nat) (s : State) : (regReadEff a s).but 8596174340 = s.but 8596174340 := by
  unfold regReadEff
  repeat' first
  | with_reducible rfl
  | simp (disch := first | exact Or.inr rfl | exact Or.inl rfl | decide) only [↓but_mk, ↓but_ite, ↓but_snd_ite, ↓but_snd_mk, ↓but_snd2_ite, ↓but_snd2_mk, ↓but_cond, ite_self, outOf_live, outOf_next, outOf_ite, ↓glbReadEff_but, ↓lpReadEff_but, ↓fbReadEff_but, ↓svReadEff_but, ↓scReadEff_but, ↓hlReadEff_but, ↓alReadEff_but, ↓fcReadEff_but]
  | split <;> try (with_reducible have h := congrArg Prod.snd ‹(_ : _ × State) = (_, _)›; dsimp only at h; subst h)
  | with_reducible refine (each_but (fun _ _ => ?_) _ _).trans ?_
  | with_reducible refine (whenS_but (fun _ => ?_) _ _).trans ?_
  | with_reducible refine (foldl_but (fun _ _ => ?_) _ _).trans ?_
  | with_reducible refine (foldl_but2 (fun _ _ => ?_) _ _).trans ?_
theorem regReadEff_but {m} (hm : sub 8596174340 m = true) (a : Nat) (s : State) : (regReadEff a s).but m = s.but m := but_mono hm (regReadEff_but' a s)

theorem regRead_but' (a : Nat) (s : State) : (regRead a s).2.2.but 8596174340 = s.but 8596174340 := by
  unfold regRead
  repeat' first
  | with_reducible rfl
  | simp (disch := first | exact Or.inr rfl | exact Or.inl rfl | decide) only [↓but_mk, ↓but_ite, ↓but_snd_ite, ↓but_snd_mk, ↓but_snd2_ite, ↓but_snd2_mk, ↓but_cond, ite_self, outOf_live, outOf_next, outOf_ite, ↓regReadEff_but]
  | split <;> try (with_reducible have h := congrArg Prod.snd ‹(_ : _ × State) = (_, _)›; dsimp only at h; subst h)
  | with_reducible refine (each_but (fun _ _ => ?_) _ _).trans ?_
  | with_reducible refine (whenS_but (fun _ => ?_) _ _).trans ?_
  | with_reducible refine (foldl_but (fun _ _ => ?_) _ _).trans ?_
  | with_reducible refine (foldl_but2 (fun _ _ => ?_) _ _).trans ?_
theorem regRead_but {m} (hm : sub 8596174340 m = true) (a : Nat) (s : State) : (regRead a s).2.2.but m = s.but m := but_mono hm (regRead_but' a s)

theorem hbmWrite_but' (a : Nat) (v : Nat) (s : State) : (hbmWrite a v s).2.but 16777216 = s.but 16777216 := by
  unfold hbmWrite
  repeat' first
  | with_reducible rfl
  | simp (disch := first | exact Or.inr rfl | exact Or.inl rfl | decide) only [↓but_mk, ↓but_ite, ↓but_snd_ite, ↓but_snd_mk, ↓but_snd2_ite, ↓but_snd2_mk, ↓but_cond, ite_self, outOf_live, outOf_next, outOf_ite, ↓wok_but, ↓hbmPut_but]
  | split <;> try (with_reducible have h := congrArg Prod.snd ‹(_ : _ × State) = (_, _)›; dsimp only at h; subst h)
  | with_reducible refine (each_but (fun _ _ => ?_) _ _).trans ?_
  | with_reducible refine (whenS_but (fun _ => ?_) _ _).trans ?_
  | with_reducible refine (foldl_but (fun _ _ => ?_) _ _).trans ?_
  | with_reducible refine (foldl_but2 (fun _ _ => ?_) _ _).trans ?_
theorem hbmWrite_but {m} (hm : sub 16777216 m = true) (a : Nat) (v : Nat) (s : State) : (hbmWrite a v s).2.but m = s.but m := but_mono hm (hbmWrite_but' a v s)

theorem wrWindow_but' (p : Nat) (a : Nat) (v : Nat) (s : State) : (wrWindow p a v s).2.but 8657041354 = s.but 8657041354 := by
  unfold wrWindow
  repeat' first
  | with_reducible rfl
  | simp (disch := first | exact Or.inr rfl | exact Or.inl rfl | decide) only [↓but_mk, ↓but_ite, ↓but_snd_ite, ↓but_snd_mk, ↓but_snd2_ite, ↓but_snd2_mk, ↓but_cond, ite_self, outOf_live, outOf_next, outOf_ite, ↓glbWrite_but, ↓lpWrite_but, ↓fbWrite_but, ↓evWrite_but, ↓scRegWrite_but, ↓pfWrite_but, ↓dgWrite_but, ↓alWrite_but, ↓fcWrite_but, ↓wok_but, ↓hbmWrite_but]
  | split <;> try (with_reducible have h := congrArg Prod.snd ‹(_ : _ × State) = (_, _)›; dsimp only at h; subst h)
  | with_reducible refine (each_but (fun _ _ => ?_) _ _).trans ?_
  | with_reducible refine (whenS_but (fun _ => ?_) _ _).trans ?_
  | with_reducible refine (foldl_but (fun _ _ => ?_) _ _).trans ?_
  | with_reducible refine (foldl_but2 (fun _ _ => ?_) _ _).trans ?_
theorem wrWindow_but {m} (hm : sub 8657041354 m = true) (p : Nat) (a : Nat) (v : Nat) (s : State) : (wrWindow p a v s).2.but m = s.but m := but_mono hm (wrWindow_but' p a v s)

theorem errWrite_but' (r : Nat) (mask : Nat) (irq : Bool) (v : Nat) (s : State) : (errWrite r mask irq v s).but 3145728 = s.but 3145728 := by
  unfold errWrite
  repeat' first
  | with_reducible rfl
  | simp (disch := first | exact Or.inr rfl | exact Or.inl rfl | decide) only [↓but_mk, ↓but_ite, ↓but_snd_ite, ↓but_snd_mk, ↓but_snd2_ite, ↓but_snd2_mk, ↓but_cond, ite_self, outOf_live, outOf_next, outOf_ite]
  | split <;> try (with_reducible have h := congrArg Prod.snd ‹(_ : _ × State) = (_, _)›; dsimp only at h; subst h)
  | with_reducible refine (each_but (fun _ _ => ?_) _ _).trans ?_
  | with_reducible refine (whenS_but (fun _ => ?_) _ _).trans ?_
  | with_reducible refine (foldl_but (fun _ _ => ?_) _ _).trans ?_
  | with_reducible refine (foldl_but2 (fun _ _ => ?_) _ _).trans ?_
theorem errWrite_but {m} (hm : sub 3145728 m = true) (r : Nat) (mask : Nat) (irq : Bool) (v : Nat) (s : State) : (errWrite r mask irq v s).but m = s.but m := but_mono hm (errWrite_but' r mask irq v s)

theorem ovrChanged_but' (before : Tab Word) (s : State) : (ovrChanged before s).but 8388608 = s.but 8388608 := by
  unfold ovrChanged
  repeat' first
  | with_reducible rfl
  | simp (disch := first | exact Or.inr rfl | exact Or.inl rfl | decide) only [↓but_mk, ↓but_ite, ↓but_snd_ite, ↓but_snd_mk, ↓but_snd2_ite, ↓but_snd2_mk, ↓but_cond, ite_self, outOf_live, outOf_next, outOf_ite, ↓mirrorSend_but]
  | split <;> try (with_reducible have h := congrArg Prod.snd ‹(_ : _ × State) = (_, _)›; dsimp only at h; subst h)
  | with_reducible refine (each_but (fun _ _ => ?_) _ _).trans ?_
  | with_reducible refine (whenS_but (fun _ => ?_) _ _).trans ?_
  | with_reducible refine (foldl_but (fun _ _ => ?_) _ _).trans ?_
  | with_reducible refine (foldl_but2 (fun _ _ => ?_) _ _).trans ?_
theorem ovrChanged_but {m} (hm : sub 8388608 m = true) (before : Tab Word) (s : State) : (ovrChanged before s).but m = s.but m := but_mono hm (ovrChanged_but' before s)

theorem regPut_but' (p : Nat) (a : Nat) (v : Nat) (s : State) : (regPut p a v s).2.but 8657041354 = s.but 8657041354 := by
  unfold regPut
  repeat' first
  | with_reducible rfl
  | simp (disch := first | exact Or.inr rfl | exact Or.inl rfl | decide) only [↓but_mk, ↓but_ite, ↓but_snd_ite, ↓but_snd_mk, ↓but_snd2_ite, ↓but_snd2_mk, ↓but_cond, ite_self, outOf_live, outOf_next, outOf_ite, ↓wok_but, ↓errWrite_but, ↓wrWindow_but]
  | split <;> try (with_reducible have h := congrArg Prod.snd ‹(_ : _ × State) = (_, _)›; dsimp only at h; subst h)
  | with_reducible refine (each_but (fun _ _ => ?_) _ _).trans ?_
  | with_reducible refine (whenS_but (fun _ => ?_) _ _).trans ?_
  | with_reducible refine (foldl_but (fun _ _ => ?_) _ _).trans ?_
  | with_reducible refine (foldl_but2 (fun _ _ => ?_) _ _).trans ?_
theorem regPut_but {m} (hm : sub 8657041354 m = true) (p : Nat) (a : Nat) (v : Nat) (s : State) : (regPut p a v s).2.but m = s.but m := but_mono hm (regPut_but' p a v s)

theorem regWrite_but' (p : Nat) (a : Nat) (v : Nat) (s : State) : (regWrite p a v s).2.but 8657041354 = s.but 8657041354 := by
  unfold regWrite
  repeat' first
  | with_reducible rfl
  | simp (disch := first | exact Or.inr rfl | exact Or.inl rfl | decide) only [↓but_mk, ↓but_ite, ↓but_snd_ite, ↓but_snd_mk, ↓but_snd2_ite, ↓but_snd2_mk, ↓but_cond, ite_self, outOf_live, outOf_next, outOf_ite, ↓regPut_but, ↓ovrChanged_but]
  | split <;> try (with_reducible have h := congrArg Prod.snd ‹(_ : _ × State) = (_, _)›; dsimp only at h; subst h)
  | with_reducible refine (each_but (fun _ _ => ?_) _ _).trans ?_
  | with_reducible refine (whenS_but (fun _ => ?_) _ _).trans ?_
  | with_reducible refine (foldl_but (fun _ _ => ?_) _ _).trans ?_
  | with_reducible refine (foldl_but2 (fun _ _ => ?_) _ _).trans ?_
theorem regWrite_but {m} (hm : sub 8657041354 m = true) (p : Nat) (a : Nat) (v : Nat) (s : State) : (regWrite p a v s).2.but m = s.but m := but_mono hm (regWrite_but' p a v s)

end Sys2Proof.Machine
end

