-- ==== Sys2Proof/Laws/FramePf.lean ====
section
/-! SUPPORT. What each function can change (patterns, firmware and cast-on): it leaves every part of State outside its mask as it was. -/

set_option linter.all false

namespace Sys2Proof.Machine

theorem idsFault_but' (cause : Nat) (s : State) : (idsFault cause s).but 1051264 = s.but 1051264 := by
  unfold idsFault
  repeat' first
  | with_reducible rfl
  | simp (disch := first | exact Or.inr rfl | exact Or.inl rfl | decide) only [↓but_mk, ↓but_ite, ↓but_snd_ite, ↓but_snd_mk, ↓but_snd2_ite, ↓but_snd2_mk, ↓but_cond, ite_self, outOf_live, outOf_next, outOf_ite, ↓emit_but]
  | split <;> try (with_reducible have h := congrArg Prod.snd ‹(_ : _ × State) = (_, _)›; dsimp only at h; subst h)
  | with_reducible refine (each_but (fun _ _ => ?_) _ _).trans ?_
  | with_reducible refine (whenS_but (fun _ => ?_) _ _).trans ?_
  | with_reducible refine (foldl_but (fun _ _ => ?_) _ _).trans ?_
  | with_reducible refine (foldl_but2 (fun _ _ => ?_) _ _).trans ?_
theorem idsFault_but {m} (hm : sub 1051264 m = true) (cause : Nat) (s : State) : (idsFault cause s).but m = s.but m := but_mono hm (idsFault_but' cause s)

theorem idsClear_but' (cause : Nat) (s : State) : (idsClear cause s).but 1051264 = s.but 1051264 := by
  unfold idsClear
  repeat' first
  | with_reducible rfl
  | simp (disch := first | exact Or.inr rfl | exact Or.inl rfl | decide) only [↓but_mk, ↓but_ite, ↓but_snd_ite, ↓but_snd_mk, ↓but_snd2_ite, ↓but_snd2_mk, ↓but_cond, ite_self, outOf_live, outOf_next, outOf_ite, ↓emit_but]
  | split <;> try (with_reducible have h := congrArg Prod.snd ‹(_ : _ × State) = (_, _)›; dsimp only at h; subst h)
  | with_reducible refine (each_but (fun _ _ => ?_) _ _).trans ?_
  | with_reducible refine (whenS_but (fun _ => ?_) _ _).trans ?_
  | with_reducible refine (foldl_but (fun _ _ => ?_) _ _).trans ?_
  | with_reducible refine (foldl_but2 (fun _ _ => ?_) _ _).trans ?_
theorem idsClear_but {m} (hm : sub 1051264 m = true) (cause : Nat) (s : State) : (idsClear cause s).but m = s.but m := but_mono hm (idsClear_but' cause s)

theorem idsReach_but' (s : State) : (idsReach s).but 1051264 = s.but 1051264 := by
  unfold idsReach
  repeat' first
  | with_reducible rfl
  | simp (disch := first | exact Or.inr rfl | exact Or.inl rfl | decide) only [↓but_mk, ↓but_ite, ↓but_snd_ite, ↓but_snd_mk, ↓but_snd2_ite, ↓but_snd2_mk, ↓but_cond, ite_self, outOf_live, outOf_next, outOf_ite, ↓idsFault_but, ↓idsClear_but]
  | split <;> try (with_reducible have h := congrArg Prod.snd ‹(_ : _ × State) = (_, _)›; dsimp only at h; subst h)
  | with_reducible refine (each_but (fun _ _ => ?_) _ _).trans ?_
  | with_reducible refine (whenS_but (fun _ => ?_) _ _).trans ?_
  | with_reducible refine (foldl_but (fun _ _ => ?_) _ _).trans ?_
  | with_reducible refine (foldl_but2 (fun _ _ => ?_) _ _).trans ?_
theorem idsReach_but {m} (hm : sub 1051264 m = true) (s : State) : (idsReach s).but m = s.but m := but_mono hm (idsReach_but' s)

theorem gaugeTake_but' (s : State) : (gaugeTake s).but 1051264 = s.but 1051264 := by
  unfold gaugeTake
  repeat' first
  | with_reducible rfl
  | simp (disch := first | exact Or.inr rfl | exact Or.inl rfl | decide) only [↓but_mk, ↓but_ite, ↓but_snd_ite, ↓but_snd_mk, ↓but_snd2_ite, ↓but_snd2_mk, ↓but_cond, ite_self, outOf_live, outOf_next, outOf_ite, ↓idsClear_but, ↓idsFault_but]
  | split <;> try (with_reducible have h := congrArg Prod.snd ‹(_ : _ × State) = (_, _)›; dsimp only at h; subst h)
  | with_reducible refine (each_but (fun _ _ => ?_) _ _).trans ?_
  | with_reducible refine (whenS_but (fun _ => ?_) _ _).trans ?_
  | with_reducible refine (foldl_but (fun _ _ => ?_) _ _).trans ?_
  | with_reducible refine (foldl_but2 (fun _ _ => ?_) _ _).trans ?_
theorem gaugeTake_but {m} (hm : sub 1051264 m = true) (s : State) : (gaugeTake s).but m = s.but m := but_mono hm (gaugeTake_but' s)

theorem gaugeRead_but' (s : State) : (gaugeRead s).but 1051264 = s.but 1051264 := by
  unfold gaugeRead
  repeat' first
  | with_reducible rfl
  | simp (disch := first | exact Or.inr rfl | exact Or.inl rfl | decide) only [↓but_mk, ↓but_ite, ↓but_snd_ite, ↓but_snd_mk, ↓but_snd2_ite, ↓but_snd2_mk, ↓but_cond, ite_self, outOf_live, outOf_next, outOf_ite, ↓gaugeTake_but, ↓idsReach_but]
  | split <;> try (with_reducible have h := congrArg Prod.snd ‹(_ : _ × State) = (_, _)›; dsimp only at h; subst h)
  | with_reducible refine (each_but (fun _ _ => ?_) _ _).trans ?_
  | with_reducible refine (whenS_but (fun _ => ?_) _ _).trans ?_
  | with_reducible refine (foldl_but (fun _ _ => ?_) _ _).trans ?_
  | with_reducible refine (foldl_but2 (fun _ _ => ?_) _ _).trans ?_
theorem gaugeRead_but {m} (hm : sub 1051264 m = true) (s : State) : (gaugeRead s).but m = s.but m := but_mono hm (gaugeRead_but' s)

theorem idsMeets_but' (dig : Bytes) (s : State) : (idsMeets dig s).but 1051264 = s.but 1051264 := by
  unfold idsMeets
  repeat' first
  | with_reducible rfl
  | simp (disch := first | exact Or.inr rfl | exact Or.inl rfl | decide) only [↓but_mk, ↓but_ite, ↓but_snd_ite, ↓but_snd_mk, ↓but_snd2_ite, ↓but_snd2_mk, ↓but_cond, ite_self, outOf_live, outOf_next, outOf_ite, ↓idsClear_but]
  | split <;> try (with_reducible have h := congrArg Prod.snd ‹(_ : _ × State) = (_, _)›; dsimp only at h; subst h)
  | with_reducible refine (each_but (fun _ _ => ?_) _ _).trans ?_
  | with_reducible refine (whenS_but (fun _ => ?_) _ _).trans ?_
  | with_reducible refine (foldl_but (fun _ _ => ?_) _ _).trans ?_
  | with_reducible refine (foldl_but2 (fun _ _ => ?_) _ _).trans ?_
theorem idsMeets_but {m} (hm : sub 1051264 m = true) (dig : Bytes) (s : State) : (idsMeets dig s).but m = s.but m := but_mono hm (idsMeets_but' dig s)

theorem execIdsWritten_but' (s : State) : (outOf (execIdsWritten s) s).but 1051265 = s.but 1051265 := by
  unfold execIdsWritten
  repeat' first
  | with_reducible rfl
  | simp (disch := first | exact Or.inr rfl | exact Or.inl rfl | decide) only [↓but_mk, ↓but_ite, ↓but_snd_ite, ↓but_snd_mk, ↓but_snd2_ite, ↓but_snd2_mk, ↓but_cond, ite_self, outOf_live, outOf_next, outOf_ite, ↓idsFault_but, ↓idsClear_but, ↓emit_but]
  | split <;> try (with_reducible have h := congrArg Prod.snd ‹(_ : _ × State) = (_, _)›; dsimp only at h; subst h)
  | with_reducible refine (each_but (fun _ _ => ?_) _ _).trans ?_
  | with_reducible refine (whenS_but (fun _ => ?_) _ _).trans ?_
  | with_reducible refine (foldl_but (fun _ _ => ?_) _ _).trans ?_
  | with_reducible refine (foldl_but2 (fun _ _ => ?_) _ _).trans ?_
theorem execIdsWritten_but {m} (hm : sub 1051265 m = true) (s : State) : (outOf (execIdsWritten s) s).but m = s.but m := but_mono hm (execIdsWritten_but' s)

theorem setAnchor_but' (a : Bytes) (cause : Nat) (s : State) : (setAnchor a cause s).but 1051264 = s.but 1051264 := by
  unfold setAnchor
  repeat' first
  | with_reducible rfl
  | simp (disch := first | exact Or.inr rfl | exact Or.inl rfl | decide) only [↓but_mk, ↓but_ite, ↓but_snd_ite, ↓but_snd_mk, ↓but_snd2_ite, ↓but_snd2_mk, ↓but_cond, ite_self, outOf_live, outOf_next, outOf_ite, ↓emit_but]
  | split <;> try (with_reducible have h := congrArg Prod.snd ‹(_ : _ × State) = (_, _)›; dsimp only at h; subst h)
  | with_reducible refine (each_but (fun _ _ => ?_) _ _).trans ?_
  | with_reducible refine (whenS_but (fun _ => ?_) _ _).trans ?_
  | with_reducible refine (foldl_but (fun _ _ => ?_) _ _).trans ?_
  | with_reducible refine (foldl_but2 (fun _ _ => ?_) _ _).trans ?_
theorem setAnchor_but {m} (hm : sub 1051264 m = true) (a : Bytes) (cause : Nat) (s : State) : (setAnchor a cause s).but m = s.but m := but_mono hm (setAnchor_but' a cause s)

theorem takeAnchor_but' (p : Pattern) (s : State) : (takeAnchor p s).but 1051264 = s.but 1051264 := by
  unfold takeAnchor
  repeat' first
  | with_reducible rfl
  | simp (disch := first | exact Or.inr rfl | exact Or.inl rfl | decide) only [↓but_mk, ↓but_ite, ↓but_snd_ite, ↓but_snd_mk, ↓but_snd2_ite, ↓but_snd2_mk, ↓but_cond, ite_self, outOf_live, outOf_next, outOf_ite, ↓setAnchor_but]
  | split <;> try (with_reducible have h := congrArg Prod.snd ‹(_ : _ × State) = (_, _)›; dsimp only at h; subst h)
  | with_reducible refine (each_but (fun _ _ => ?_) _ _).trans ?_
  | with_reducible refine (whenS_but (fun _ => ?_) _ _).trans ?_
  | with_reducible refine (foldl_but (fun _ _ => ?_) _ _).trans ?_
  | with_reducible refine (foldl_but2 (fun _ _ => ?_) _ _).trans ?_
theorem takeAnchor_but {m} (hm : sub 1051264 m = true) (p : Pattern) (s : State) : (takeAnchor p s).but m = s.but m := but_mono hm (takeAnchor_but' p s)

theorem patRefused_but' (chk : Nat) (sec : Nat) (detail : Nat) (s : State) : (patRefused chk sec detail s).but 1051264 = s.but 1051264 := by
  unfold patRefused
  repeat' first
  | with_reducible rfl
  | simp (disch := first | exact Or.inr rfl | exact Or.inl rfl | decide) only [↓but_mk, ↓but_ite, ↓but_snd_ite, ↓but_snd_mk, ↓but_snd2_ite, ↓but_snd2_mk, ↓but_cond, ite_self, outOf_live, outOf_next, outOf_ite, ↓emit_but]
  | split <;> try (with_reducible have h := congrArg Prod.snd ‹(_ : _ × State) = (_, _)›; dsimp only at h; subst h)
  | with_reducible refine (each_but (fun _ _ => ?_) _ _).trans ?_
  | with_reducible refine (whenS_but (fun _ => ?_) _ _).trans ?_
  | with_reducible refine (foldl_but (fun _ _ => ?_) _ _).trans ?_
  | with_reducible refine (foldl_but2 (fun _ _ => ?_) _ _).trans ?_
theorem patRefused_but {m} (hm : sub 1051264 m = true) (chk : Nat) (sec : Nat) (detail : Nat) (s : State) : (patRefused chk sec detail s).but m = s.but m := but_mono hm (patRefused_but' chk sec detail s)

theorem reknitChan_but' (o : Pattern) (n : Pattern) (c : Nat) (s : State) : (reknitChan o n c s).but 1073792 = s.but 1073792 := by
  unfold reknitChan
  repeat' first
  | with_reducible rfl
  | simp (disch := first | exact Or.inr rfl | exact Or.inl rfl | decide) only [↓but_mk, ↓but_ite, ↓but_snd_ite, ↓but_snd_mk, ↓but_snd2_ite, ↓but_snd2_mk, ↓but_cond, ite_self, outOf_live, outOf_next, outOf_ite, ↓swAbortAll_but, ↓setSp_but, ↓setCh_but, ↓initChannel_but]
  | split <;> try (with_reducible have h := congrArg Prod.snd ‹(_ : _ × State) = (_, _)›; dsimp only at h; subst h)
  | with_reducible refine (each_but (fun _ _ => ?_) _ _).trans ?_
  | with_reducible refine (whenS_but (fun _ => ?_) _ _).trans ?_
  | with_reducible refine (foldl_but (fun _ _ => ?_) _ _).trans ?_
  | with_reducible refine (foldl_but2 (fun _ _ => ?_) _ _).trans ?_
theorem reknitChan_but {m} (hm : sub 1073792 m = true) (o : Pattern) (n : Pattern) (c : Nat) (s : State) : (reknitChan o n c s).but m = s.but m := but_mono hm (reknitChan_but' o n c s)

theorem reknitInput_but' (i : Nat) (s : State) : (reknitInput i s).but 8192 = s.but 8192 := by
  unfold reknitInput
  repeat' first
  | with_reducible rfl
  | simp (disch := first | exact Or.inr rfl | exact Or.inl rfl | decide) only [↓but_mk, ↓but_ite, ↓but_snd_ite, ↓but_snd_mk, ↓but_snd2_ite, ↓but_snd2_mk, ↓but_cond, ite_self, outOf_live, outOf_next, outOf_ite, ↓setIn_but]
  | split <;> try (with_reducible have h := congrArg Prod.snd ‹(_ : _ × State) = (_, _)›; dsimp only at h; subst h)
  | with_reducible refine (each_but (fun _ _ => ?_) _ _).trans ?_
  | with_reducible refine (whenS_but (fun _ => ?_) _ _).trans ?_
  | with_reducible refine (foldl_but (fun _ _ => ?_) _ _).trans ?_
  | with_reducible refine (foldl_but2 (fun _ _ => ?_) _ _).trans ?_
theorem reknitInput_but {m} (hm : sub 8192 m = true) (i : Nat) (s : State) : (reknitInput i s).but m = s.but m := but_mono hm (reknitInput_but' i s)

theorem reknitBus_but' (o : Pattern) (n : Pattern) (k : Nat) (s : State) : (reknitBus o n k s).but 1180288 = s.but 1180288 := by
  unfold reknitBus
  repeat' first
  | with_reducible rfl
  | simp (disch := first | exact Or.inr rfl | exact Or.inl rfl | decide) only [↓but_mk, ↓but_ite, ↓but_snd_ite, ↓but_snd_mk, ↓but_snd2_ite, ↓but_snd2_mk, ↓but_cond, ite_self, outOf_live, outOf_next, outOf_ite, ↓txRemove_but, ↓releaseIds_but, ↓setBus_but]
  | split <;> try (with_reducible have h := congrArg Prod.snd ‹(_ : _ × State) = (_, _)›; dsimp only at h; subst h)
  | with_reducible refine (each_but (fun _ _ => ?_) _ _).trans ?_
  | with_reducible refine (whenS_but (fun _ => ?_) _ _).trans ?_
  | with_reducible refine (foldl_but (fun _ _ => ?_) _ _).trans ?_
  | with_reducible refine (foldl_but2 (fun _ _ => ?_) _ _).trans ?_
theorem reknitBus_but {m} (hm : sub 1180288 m = true) (o : Pattern) (n : Pattern) (k : Nat) (s : State) : (reknitBus o n k s).but m = s.but m := but_mono hm (reknitBus_but' o n k s)

theorem reknitPlate_but' (o : Pattern) (n : Pattern) (p : Nat) (s : State) : (reknitPlate o n p s).but 1311360 = s.but 1311360 := by
  unfold reknitPlate
  repeat' first
  | with_reducible rfl
  | simp (disch := first | exact Or.inr rfl | exact Or.inl rfl | decide) only [↓but_mk, ↓but_ite, ↓but_snd_ite, ↓but_snd_mk, ↓but_snd2_ite, ↓but_snd2_mk, ↓but_cond, ite_self, outOf_live, outOf_next, outOf_ite, ↓demote_but, ↓setPlate_but, ↓emit_but]
  | split <;> try (with_reducible have h := congrArg Prod.snd ‹(_ : _ × State) = (_, _)›; dsimp only at h; subst h)
  | with_reducible refine (each_but (fun _ _ => ?_) _ _).trans ?_
  | with_reducible refine (whenS_but (fun _ => ?_) _ _).trans ?_
  | with_reducible refine (foldl_but (fun _ _ => ?_) _ _).trans ?_
  | with_reducible refine (foldl_but2 (fun _ _ => ?_) _ _).trans ?_
theorem reknitPlate_but {m} (hm : sub 1311360 m = true) (o : Pattern) (n : Pattern) (p : Nat) (s : State) : (reknitPlate o n p s).but m = s.but m := but_mono hm (reknitPlate_but' o n p s)

theorem reknitPeer_but' (p : Nat) (s : State) : (reknitPeer p s).but 9441920 = s.but 9441920 := by
  unfold reknitPeer
  repeat' first
  | with_reducible rfl
  | simp (disch := first | exact Or.inr rfl | exact Or.inl rfl | decide) only [↓but_mk, ↓but_ite, ↓but_snd_ite, ↓but_snd_mk, ↓but_snd2_ite, ↓but_snd2_mk, ↓but_cond, ite_self, outOf_live, outOf_next, outOf_ite, ↓settleMsgs_but, ↓dropOwner_but]
  | split <;> try (with_reducible have h := congrArg Prod.snd ‹(_ : _ × State) = (_, _)›; dsimp only at h; subst h)
  | with_reducible refine (each_but (fun _ _ => ?_) _ _).trans ?_
  | with_reducible refine (whenS_but (fun _ => ?_) _ _).trans ?_
  | with_reducible refine (foldl_but (fun _ _ => ?_) _ _).trans ?_
  | with_reducible refine (foldl_but2 (fun _ _ => ?_) _ _).trans ?_
theorem reknitPeer_but {m} (hm : sub 9441920 m = true) (p : Nat) (s : State) : (reknitPeer p s).but m = s.but m := but_mono hm (reknitPeer_but' p s)

theorem reknitRegs_but' (o : Pattern) (n : Pattern) (s : State) : (reknitRegs o n s).but 786432 = s.but 786432 := by
  unfold reknitRegs
  repeat' first
  | with_reducible rfl
  | simp (disch := first | exact Or.inr rfl | exact Or.inl rfl | decide) only [↓but_mk, ↓but_ite, ↓but_snd_ite, ↓but_snd_mk, ↓but_snd2_ite, ↓but_snd2_mk, ↓but_cond, ite_self, outOf_live, outOf_next, outOf_ite]
  | split <;> try (with_reducible have h := congrArg Prod.snd ‹(_ : _ × State) = (_, _)›; dsimp only at h; subst h)
  | with_reducible refine (each_but (fun _ _ => ?_) _ _).trans ?_
  | with_reducible refine (whenS_but (fun _ => ?_) _ _).trans ?_
  | with_reducible refine (foldl_but (fun _ _ => ?_) _ _).trans ?_
  | with_reducible refine (foldl_but2 (fun _ _ => ?_) _ _).trans ?_
theorem reknitRegs_but {m} (hm : sub 786432 m = true) (o : Pattern) (n : Pattern) (s : State) : (reknitRegs o n s).but m = s.but m := but_mono hm (reknitRegs_but' o n s)

theorem reknitBuckets_but' (o : Pattern) (n : Pattern) (s : State) : (reknitBuckets o n s).but 128 = s.but 128 := by
  unfold reknitBuckets
  repeat' first
  | with_reducible rfl
  | simp (disch := first | exact Or.inr rfl | exact Or.inl rfl | decide) only [↓but_mk, ↓but_ite, ↓but_snd_ite, ↓but_snd_mk, ↓but_snd2_ite, ↓but_snd2_mk, ↓but_cond, ite_self, outOf_live, outOf_next, outOf_ite]
  | split <;> try (with_reducible have h := congrArg Prod.snd ‹(_ : _ × State) = (_, _)›; dsimp only at h; subst h)
  | with_reducible refine (each_but (fun _ _ => ?_) _ _).trans ?_
  | with_reducible refine (whenS_but (fun _ => ?_) _ _).trans ?_
  | with_reducible refine (foldl_but (fun _ _ => ?_) _ _).trans ?_
  | with_reducible refine (foldl_but2 (fun _ _ => ?_) _ _).trans ?_
theorem reknitBuckets_but {m} (hm : sub 128 m = true) (o : Pattern) (n : Pattern) (s : State) : (reknitBuckets o n s).but m = s.but m := but_mono hm (reknitBuckets_but' o n s)

theorem applyPattern_but' (n : Pattern) (occasion : Nat) (s : State) : (applyPattern n occasion s).but 10386050 = s.but 10386050 := by
  unfold applyPattern
  repeat' first
  | with_reducible rfl
  | simp (disch := first | exact Or.inr rfl | exact Or.inl rfl | decide) only [↓but_mk, ↓but_ite, ↓but_snd_ite, ↓but_snd_mk, ↓but_snd2_ite, ↓but_snd2_mk, ↓but_cond, ite_self, outOf_live, outOf_next, outOf_ite, ↓reknitPeer_but, ↓reknitBus_but, ↓reknitRegs_but, ↓reknitBuckets_but, ↓reknitChan_but, ↓reknitInput_but, ↓reknitPlate_but, ↓idsMeets_but, ↓gaugeRead_but, ↓dropOverrides_but]
  | split <;> try (with_reducible have h := congrArg Prod.snd ‹(_ : _ × State) = (_, _)›; dsimp only at h; subst h)
  | with_reducible refine (each_but (fun _ _ => ?_) _ _).trans ?_
  | with_reducible refine (whenS_but (fun _ => ?_) _ _).trans ?_
  | with_reducible refine (foldl_but (fun _ _ => ?_) _ _).trans ?_
  | with_reducible refine (foldl_but2 (fun _ _ => ?_) _ _).trans ?_
theorem applyPattern_but {m} (hm : sub 10386050 m = true) (n : Pattern) (occasion : Nat) (s : State) : (applyPattern n occasion s).but m = s.but m := but_mono hm (applyPattern_but' n occasion s)

theorem slotBack_but' (s : State) : (slotBack s).but 2048 = s.but 2048 := by
  unfold slotBack
  repeat' first
  | with_reducible rfl
  | simp (disch := first | exact Or.inr rfl | exact Or.inl rfl | decide) only [↓but_mk, ↓but_ite, ↓but_snd_ite, ↓but_snd_mk, ↓but_snd2_ite, ↓but_snd2_mk, ↓but_cond, ite_self, outOf_live, outOf_next, outOf_ite]
  | split <;> try (with_reducible have h := congrArg Prod.snd ‹(_ : _ × State) = (_, _)›; dsimp only at h; subst h)
  | with_reducible refine (each_but (fun _ _ => ?_) _ _).trans ?_
  | with_reducible refine (whenS_but (fun _ => ?_) _ _).trans ?_
  | with_reducible refine (foldl_but (fun _ _ => ?_) _ _).trans ?_
  | with_reducible refine (foldl_but2 (fun _ _ => ?_) _ _).trans ?_
theorem slotBack_but {m} (hm : sub 2048 m = true) (s : State) : (slotBack s).but m = s.but m := but_mono hm (slotBack_but' s)

theorem slotWrite_but' (k : Nat) (s : State) : (slotWrite k s).but 8589936640 = s.but 8589936640 := by
  unfold slotWrite
  repeat' first
  | with_reducible rfl
  | simp (disch := first | exact Or.inr rfl | exact Or.inl rfl | decide) only [↓but_mk, ↓but_ite, ↓but_snd_ite, ↓but_snd_mk, ↓but_snd2_ite, ↓but_snd2_mk, ↓but_cond, ite_self, outOf_live, outOf_next, outOf_ite]
  | split <;> try (with_reducible have h := congrArg Prod.snd ‹(_ : _ × State) = (_, _)›; dsimp only at h; subst h)
  | with_reducible refine (each_but (fun _ _ => ?_) _ _).trans ?_
  | with_reducible refine (whenS_but (fun _ => ?_) _ _).trans ?_
  | with_reducible refine (foldl_but (fun _ _ => ?_) _ _).trans ?_
  | with_reducible refine (foldl_but2 (fun _ _ => ?_) _ _).trans ?_
theorem slotWrite_but {m} (hm : sub 8589936640 m = true) (k : Nat) (s : State) : (slotWrite k s).but m = s.but m := but_mono hm (slotWrite_but' k s)

theorem slotShift_but' (s : State) : (slotShift s).but 2048 = s.but 2048 := by
  unfold slotShift
  repeat' first
  | with_reducible rfl
  | simp (disch := first | exact Or.inr rfl | exact Or.inl rfl | decide) only [↓but_mk, ↓but_ite, ↓but_snd_ite, ↓but_snd_mk, ↓but_snd2_ite, ↓but_snd2_mk, ↓but_cond, ite_self, outOf_live, outOf_next, outOf_ite]
  | split <;> try (with_reducible have h := congrArg Prod.snd ‹(_ : _ × State) = (_, _)›; dsimp only at h; subst h)
  | with_reducible refine (each_but (fun _ _ => ?_) _ _).trans ?_
  | with_reducible refine (whenS_but (fun _ => ?_) _ _).trans ?_
  | with_reducible refine (foldl_but (fun _ _ => ?_) _ _).trans ?_
  | with_reducible refine (foldl_but2 (fun _ _ => ?_) _ _).trans ?_
theorem slotShift_but {m} (hm : sub 2048 m = true) (s : State) : (slotShift s).but m = s.but m := but_mono hm (slotShift_but' s)

theorem stageFull_but' (addr : Nat) (len : Nat) (s : State) : (stageFull addr len s).2.but 8590985856 = s.but 8590985856 := by
  unfold stageFull
  repeat' first
  | with_reducible rfl
  | simp (disch := first | exact Or.inr rfl | exact Or.inl rfl | decide) only [↓but_mk, ↓but_ite, ↓but_snd_ite, ↓but_snd_mk, ↓but_snd2_ite, ↓but_snd2_mk, ↓but_cond, ite_self, outOf_live, outOf_next, outOf_ite, ↓emit_but, ↓patRefused_but, ↓slotWrite_but]
  | split <;> try (with_reducible have h := congrArg Prod.snd ‹(_ : _ × State) = (_, _)›; dsimp only at h; subst h)
  | with_reducible refine (each_but (fun _ _ => ?_) _ _).trans ?_
  | with_reducible refine (whenS_but (fun _ => ?_) _ _).trans ?_
  | with_reducible refine (foldl_but (fun _ _ => ?_) _ _).trans ?_
  | with_reducible refine (foldl_but2 (fun _ _ => ?_) _ _).trans ?_
theorem stageFull_but {m} (hm : sub 8590985856 m = true) (addr : Nat) (len : Nat) (s : State) : (stageFull addr len s).2.but m = s.but m := but_mono hm (stageFull_but' addr len s)

theorem scheduleReknit_but' (trial : Bool) (addr : Nat) (len : Nat) (s : State) : (scheduleReknit trial addr len s).2.but 1051264 = s.but 1051264 := by
  unfold scheduleReknit
  repeat' first
  | with_reducible rfl
  | simp (disch := first | exact Or.inr rfl | exact Or.inl rfl | decide) only [↓but_mk, ↓but_ite, ↓but_snd_ite, ↓but_snd_mk, ↓but_snd2_ite, ↓but_snd2_mk, ↓but_cond, ite_self, outOf_live, outOf_next, outOf_ite, ↓patRefused_but, ↓emit_but]
  | split <;> try (with_reducible have h := congrArg Prod.snd ‹(_ : _ × State) = (_, _)›; dsimp only at h; subst h)
  | with_reducible refine (each_but (fun _ _ => ?_) _ _).trans ?_
  | with_reducible refine (whenS_but (fun _ => ?_) _ _).trans ?_
  | with_reducible refine (foldl_but (fun _ _ => ?_) _ _).trans ?_
  | with_reducible refine (foldl_but2 (fun _ _ => ?_) _ _).trans ?_
theorem scheduleReknit_but {m} (hm : sub 1051264 m = true) (trial : Bool) (addr : Nat) (len : Nat) (s : State) : (scheduleReknit trial addr len s).2.but m = s.but m := but_mono hm (scheduleReknit_but' trial addr len s)

theorem reknitApply_but' (s : State) : (reknitApply s).but 8600320642 = s.but 8600320642 := by
  unfold reknitApply
  repeat' first
  | with_reducible rfl
  | simp (disch := first | exact Or.inr rfl | exact Or.inl rfl | decide) only [↓but_mk, ↓but_ite, ↓but_snd_ite, ↓but_snd_mk, ↓but_snd2_ite, ↓but_snd2_mk, ↓but_cond, ite_self, outOf_live, outOf_next, outOf_ite, ↓applyPattern_but, ↓emit_but, ↓slotWrite_but, ↓slotShift_but, ↓takeAnchor_but]
  | split <;> try (with_reducible have h := congrArg Prod.snd ‹(_ : _ × State) = (_, _)›; dsimp only at h; subst h)
  | with_reducible refine (each_but (fun _ _ => ?_) _ _).trans ?_
  | with_reducible refine (whenS_but (fun _ => ?_) _ _).trans ?_
  | with_reducible refine (foldl_but (fun _ _ => ?_) _ _).trans ?_
  | with_reducible refine (foldl_but2 (fun _ _ => ?_) _ _).trans ?_
theorem reknitApply_but {m} (hm : sub 8600320642 m = true) (s : State) : (reknitApply s).but m = s.but m := but_mono hm (reknitApply_but' s)

theorem execReknitApplied_but' (s : State) : (outOf (execReknitApplied s) s).but 8600320642 = s.but 8600320642 := by
  unfold execReknitApplied
  repeat' first
  | with_reducible rfl
  | simp (disch := first | exact Or.inr rfl | exact Or.inl rfl | decide) only [↓but_mk, ↓but_ite, ↓but_snd_ite, ↓but_snd_mk, ↓but_snd2_ite, ↓but_snd2_mk, ↓but_cond, ite_self, outOf_live, outOf_next, outOf_ite, ↓reknitApply_but]
  | split <;> try (with_reducible have h := congrArg Prod.snd ‹(_ : _ × State) = (_, _)›; dsimp only at h; subst h)
  | with_reducible refine (each_but (fun _ _ => ?_) _ _).trans ?_
  | with_reducible refine (whenS_but (fun _ => ?_) _ _).trans ?_
  | with_reducible refine (foldl_but (fun _ _ => ?_) _ _).trans ?_
  | with_reducible refine (foldl_but2 (fun _ _ => ?_) _ _).trans ?_
theorem execReknitApplied_but {m} (hm : sub 8600320642 m = true) (s : State) : (outOf (execReknitApplied s) s).but m = s.but m := but_mono hm (execReknitApplied_but' s)

theorem trialAccept_but' (cause : Nat) (s : State) : (trialAccept cause s).but 1051264 = s.but 1051264 := by
  unfold trialAccept
  repeat' first
  | with_reducible rfl
  | simp (disch := first | exact Or.inr rfl | exact Or.inl rfl | decide) only [↓but_mk, ↓but_ite, ↓but_snd_ite, ↓but_snd_mk, ↓but_snd2_ite, ↓but_snd2_mk, ↓but_cond, ite_self, outOf_live, outOf_next, outOf_ite, ↓emit_but, ↓takeAnchor_but]
  | split <;> try (with_reducible have h := congrArg Prod.snd ‹(_ : _ × State) = (_, _)›; dsimp only at h; subst h)
  | with_reducible refine (each_but (fun _ _ => ?_) _ _).trans ?_
  | with_reducible refine (whenS_but (fun _ => ?_) _ _).trans ?_
  | with_reducible refine (foldl_but (fun _ _ => ?_) _ _).trans ?_
  | with_reducible refine (foldl_but2 (fun _ _ => ?_) _ _).trans ?_
theorem trialAccept_but {m} (hm : sub 1051264 m = true) (cause : Nat) (s : State) : (trialAccept cause s).but m = s.but m := but_mono hm (trialAccept_but' cause s)

theorem execTrialAccepted_but' (s : State) : (outOf (execTrialAccepted s) s).but 68160128 = s.but 68160128 := by
  unfold execTrialAccepted
  repeat' first
  | with_reducible rfl
  | simp (disch := first | exact Or.inr rfl | exact Or.inl rfl | decide) only [↓but_mk, ↓but_ite, ↓but_snd_ite, ↓but_snd_mk, ↓but_snd2_ite, ↓but_snd2_mk, ↓but_cond, ite_self, outOf_live, outOf_next, outOf_ite, ↓trialAccept_but, ↓clockTo_but]
  | split <;> try (with_reducible have h := congrArg Prod.snd ‹(_ : _ × State) = (_, _)›; dsimp only at h; subst h)
  | with_reducible refine (each_but (fun _ _ => ?_) _ _).trans ?_
  | with_reducible refine (whenS_but (fun _ => ?_) _ _).trans ?_
  | with_reducible refine (foldl_but (fun _ _ => ?_) _ _).trans ?_
  | with_reducible refine (foldl_but2 (fun _ _ => ?_) _ _).trans ?_
theorem execTrialAccepted_but {m} (hm : sub 68160128 m = true) (s : State) : (outOf (execTrialAccepted s) s).but m = s.but m := but_mono hm (execTrialAccepted_but' s)

theorem trialAcceptKern_but' (a1 : Dgram) (a2 : PeerRec) (a3 : Nat) (a4 : Bytes) (s : State) : (trialAcceptKern a1 a2 a3 a4 s).2.but 8590985856 = s.but 8590985856 := by
  unfold trialAcceptKern
  repeat' first
  | with_reducible rfl
  | simp (disch := first | exact Or.inr rfl | exact Or.inl rfl | decide) only [↓but_mk, ↓but_ite, ↓but_snd_ite, ↓but_snd_mk, ↓but_snd2_ite, ↓but_snd2_mk, ↓but_cond, ite_self, outOf_live, outOf_next, outOf_ite, ↓trialAccept_but, ↓freshWord_but]
  | split <;> try (with_reducible have h := congrArg Prod.snd ‹(_ : _ × State) = (_, _)›; dsimp only at h; subst h)
  | with_reducible refine (each_but (fun _ _ => ?_) _ _).trans ?_
  | with_reducible refine (whenS_but (fun _ => ?_) _ _).trans ?_
  | with_reducible refine (foldl_but (fun _ _ => ?_) _ _).trans ?_
  | with_reducible refine (foldl_but2 (fun _ _ => ?_) _ _).trans ?_
theorem trialAcceptKern_but {m} (hm : sub 8590985856 m = true) (a1 : Dgram) (a2 : PeerRec) (a3 : Nat) (a4 : Bytes) (s : State) : (trialAcceptKern a1 a2 a3 a4 s).2.but m = s.but m := but_mono hm (trialAcceptKern_but' a1 a2 a3 a4 s)

theorem execTrialAccept_but' (d : Dgram) (s : State) : (outOf (execTrialAccept d s) s).but 8599379584 = s.but 8599379584 := by
  unfold execTrialAccept
  repeat' first
  | with_reducible rfl
  | simp (disch := first | exact Or.inr rfl | exact Or.inl rfl | decide) only [↓but_mk, ↓but_ite, ↓but_snd_ite, ↓but_snd_mk, ↓but_snd2_ite, ↓but_snd2_mk, ↓but_cond, ite_self, outOf_live, outOf_next, outOf_ite, ↓trialAcceptKern_but]
  | split <;> try (with_reducible have h := congrArg Prod.snd ‹(_ : _ × State) = (_, _)›; dsimp only at h; subst h)
  | with_reducible refine (each_but (fun _ _ => ?_) _ _).trans ?_
  | with_reducible refine (whenS_but (fun _ => ?_) _ _).trans ?_
  | with_reducible refine (foldl_but (fun _ _ => ?_) _ _).trans ?_
  | with_reducible refine (foldl_but2 (fun _ _ => ?_) _ _).trans ?_
  | with_reducible refine (critical_but (by decide) (fun _ _ _ _ => ?_) ..).trans ?_
theorem execTrialAccept_but {m} (hm : sub 8599379584 m = true) (d : Dgram) (s : State) : (outOf (execTrialAccept d s) s).but m = s.but m := but_mono hm (execTrialAccept_but' d s)

theorem frogBackKern_but' (a1 : Dgram) (a2 : PeerRec) (a3 : Nat) (a4 : Bytes) (s : State) : (frogBackKern a1 a2 a3 a4 s).2.but 2048 = s.but 2048 := by
  unfold frogBackKern
  repeat' first
  | with_reducible rfl
  | simp (disch := first | exact Or.inr rfl | exact Or.inl rfl | decide) only [↓but_mk, ↓but_ite, ↓but_snd_ite, ↓but_snd_mk, ↓but_snd2_ite, ↓but_snd2_mk, ↓but_cond, ite_self, outOf_live, outOf_next, outOf_ite]
  | split <;> try (with_reducible have h := congrArg Prod.snd ‹(_ : _ × State) = (_, _)›; dsimp only at h; subst h)
  | with_reducible refine (each_but (fun _ _ => ?_) _ _).trans ?_
  | with_reducible refine (whenS_but (fun _ => ?_) _ _).trans ?_
  | with_reducible refine (foldl_but (fun _ _ => ?_) _ _).trans ?_
  | with_reducible refine (foldl_but2 (fun _ _ => ?_) _ _).trans ?_
theorem frogBackKern_but {m} (hm : sub 2048 m = true) (a1 : Dgram) (a2 : PeerRec) (a3 : Nat) (a4 : Bytes) (s : State) : (frogBackKern a1 a2 a3 a4 s).2.but m = s.but m := but_mono hm (frogBackKern_but' a1 a2 a3 a4 s)

theorem execFrogBack_but' (d : Dgram) (s : State) : (outOf (execFrogBack d s) s).but 9444992 = s.but 9444992 := by
  unfold execFrogBack
  repeat' first
  | with_reducible rfl
  | simp (disch := first | exact Or.inr rfl | exact Or.inl rfl | decide) only [↓but_mk, ↓but_ite, ↓but_snd_ite, ↓but_snd_mk, ↓but_snd2_ite, ↓but_snd2_mk, ↓but_cond, ite_self, outOf_live, outOf_next, outOf_ite, ↓frogBackKern_but]
  | split <;> try (with_reducible have h := congrArg Prod.snd ‹(_ : _ × State) = (_, _)›; dsimp only at h; subst h)
  | with_reducible refine (each_but (fun _ _ => ?_) _ _).trans ?_
  | with_reducible refine (whenS_but (fun _ => ?_) _ _).trans ?_
  | with_reducible refine (foldl_but (fun _ _ => ?_) _ _).trans ?_
  | with_reducible refine (foldl_but2 (fun _ _ => ?_) _ _).trans ?_
  | with_reducible refine (critical_but (by decide) (fun _ _ _ _ => ?_) ..).trans ?_
theorem execFrogBack_but {m} (hm : sub 9444992 m = true) (d : Dgram) (s : State) : (outOf (execFrogBack d s) s).but m = s.but m := but_mono hm (execFrogBack_but' d s)

theorem frogApply_but' (cause : Nat) (arg : Nat) (l : Pattern) (s : State) : (frogApply cause arg l s).but 10418818 = s.but 10418818 := by
  unfold frogApply
  repeat' first
  | with_reducible rfl
  | simp (disch := first | exact Or.inr rfl | exact Or.inl rfl | decide) only [↓but_mk, ↓but_ite, ↓but_snd_ite, ↓but_snd_mk, ↓but_snd2_ite, ↓but_snd2_mk, ↓but_cond, ite_self, outOf_live, outOf_next, outOf_ite, ↓relockRefused_but, ↓applyPattern_but, ↓emit_but, ↓slotBack_but]
  | split <;> try (with_reducible have h := congrArg Prod.snd ‹(_ : _ × State) = (_, _)›; dsimp only at h; subst h)
  | with_reducible refine (each_but (fun _ _ => ?_) _ _).trans ?_
  | with_reducible refine (whenS_but (fun _ => ?_) _ _).trans ?_
  | with_reducible refine (foldl_but (fun _ _ => ?_) _ _).trans ?_
  | with_reducible refine (foldl_but2 (fun _ _ => ?_) _ _).trans ?_
theorem frogApply_but {m} (hm : sub 10418818 m = true) (cause : Nat) (arg : Nat) (l : Pattern) (s : State) : (frogApply cause arg l s).but m = s.but m := but_mono hm (frogApply_but' cause arg l s)

theorem frogBackOp_but' (s : State) : (frogBackOp s).but 10418818 = s.but 10418818 := by
  unfold frogBackOp
  repeat' first
  | with_reducible rfl
  | simp (disch := first | exact Or.inr rfl | exact Or.inl rfl | decide) only [↓but_mk, ↓but_ite, ↓but_snd_ite, ↓but_snd_mk, ↓but_snd2_ite, ↓but_snd2_mk, ↓but_cond, ite_self, outOf_live, outOf_next, outOf_ite, ↓frogApply_but, ↓patRefused_but]
  | split <;> try (with_reducible have h := congrArg Prod.snd ‹(_ : _ × State) = (_, _)›; dsimp only at h; subst h)
  | with_reducible refine (each_but (fun _ _ => ?_) _ _).trans ?_
  | with_reducible refine (whenS_but (fun _ => ?_) _ _).trans ?_
  | with_reducible refine (foldl_but (fun _ _ => ?_) _ _).trans ?_
  | with_reducible refine (foldl_but2 (fun _ _ => ?_) _ _).trans ?_
theorem frogBackOp_but {m} (hm : sub 10418818 m = true) (s : State) : (frogBackOp s).but m = s.but m := but_mono hm (frogBackOp_but' s)

theorem execFroggedBack_but' (s : State) : (outOf (execFroggedBack s) s).but 10418818 = s.but 10418818 := by
  unfold execFroggedBack
  repeat' first
  | with_reducible rfl
  | simp (disch := first | exact Or.inr rfl | exact Or.inl rfl | decide) only [↓but_mk, ↓but_ite, ↓but_snd_ite, ↓but_snd_mk, ↓but_snd2_ite, ↓but_snd2_mk, ↓but_cond, ite_self, outOf_live, outOf_next, outOf_ite, ↓frogBackOp_but]
  | split <;> try (with_reducible have h := congrArg Prod.snd ‹(_ : _ × State) = (_, _)›; dsimp only at h; subst h)
  | with_reducible refine (each_but (fun _ _ => ?_) _ _).trans ?_
  | with_reducible refine (whenS_but (fun _ => ?_) _ _).trans ?_
  | with_reducible refine (foldl_but (fun _ _ => ?_) _ _).trans ?_
  | with_reducible refine (foldl_but2 (fun _ _ => ?_) _ _).trans ?_
theorem execFroggedBack_but {m} (hm : sub 10418818 m = true) (s : State) : (outOf (execFroggedBack s) s).but m = s.but m := but_mono hm (execFroggedBack_but' s)

theorem setPart_but' (k : Nat) (x : PartSt) (s : State) : (setPart k x s).but 2048 = s.but 2048 := by
  unfold setPart
  repeat' first
  | with_reducible rfl
  | simp (disch := first | exact Or.inr rfl | exact Or.inl rfl | decide) only [↓but_mk, ↓but_ite, ↓but_snd_ite, ↓but_snd_mk, ↓but_snd2_ite, ↓but_snd2_mk, ↓but_cond, ite_self, outOf_live, outOf_next, outOf_ite]
  | split <;> try (with_reducible have h := congrArg Prod.snd ‹(_ : _ × State) = (_, _)›; dsimp only at h; subst h)
  | with_reducible refine (each_but (fun _ _ => ?_) _ _).trans ?_
  | with_reducible refine (whenS_but (fun _ => ?_) _ _).trans ?_
  | with_reducible refine (foldl_but (fun _ _ => ?_) _ _).trans ?_
  | with_reducible refine (foldl_but2 (fun _ _ => ?_) _ _).trans ?_
theorem setPart_but {m} (hm : sub 2048 m = true) (k : Nat) (x : PartSt) (s : State) : (setPart k x s).but m = s.but m := but_mono hm (setPart_but' k x s)

theorem commitRun_but' (d : Dgram) (part : Nat) (held : Bool) (addr : Nat) (len : Nat) (s : State) : (commitRun d part held addr len s).2.but 1051264 = s.but 1051264 := by
  unfold commitRun
  repeat' first
  | with_reducible rfl
  | simp (disch := first | exact Or.inr rfl | exact Or.inl rfl | decide) only [↓but_mk, ↓but_ite, ↓but_snd_ite, ↓but_snd_mk, ↓but_snd2_ite, ↓but_snd2_mk, ↓but_cond, ite_self, outOf_live, outOf_next, outOf_ite, ↓emit_but, ↓setPart_but]
  | split <;> try (with_reducible have h := congrArg Prod.snd ‹(_ : _ × State) = (_, _)›; dsimp only at h; subst h)
  | with_reducible refine (each_but (fun _ _ => ?_) _ _).trans ?_
  | with_reducible refine (whenS_but (fun _ => ?_) _ _).trans ?_
  | with_reducible refine (foldl_but (fun _ _ => ?_) _ _).trans ?_
  | with_reducible refine (foldl_but2 (fun _ _ => ?_) _ _).trans ?_
theorem commitRun_but {m} (hm : sub 1051264 m = true) (d : Dgram) (part : Nat) (held : Bool) (addr : Nat) (len : Nat) (s : State) : (commitRun d part held addr len s).2.but m = s.but m := but_mono hm (commitRun_but' d part held addr len s)

theorem commitKern_but' (d : Dgram) (p : PeerRec) (fl : Nat) (args : Bytes) (s : State) : (commitKern d p fl args s).2.but 1051264 = s.but 1051264 := by
  unfold commitKern
  repeat' first
  | with_reducible rfl
  | simp (disch := first | exact Or.inr rfl | exact Or.inl rfl | decide) only [↓but_mk, ↓but_ite, ↓but_snd_ite, ↓but_snd_mk, ↓but_snd2_ite, ↓but_snd2_mk, ↓but_cond, ite_self, outOf_live, outOf_next, outOf_ite, ↓commitRun_but]
  | split <;> try (with_reducible have h := congrArg Prod.snd ‹(_ : _ × State) = (_, _)›; dsimp only at h; subst h)
  | with_reducible refine (each_but (fun _ _ => ?_) _ _).trans ?_
  | with_reducible refine (whenS_but (fun _ => ?_) _ _).trans ?_
  | with_reducible refine (foldl_but (fun _ _ => ?_) _ _).trans ?_
  | with_reducible refine (foldl_but2 (fun _ _ => ?_) _ _).trans ?_
  | with_reducible refine (signalGate_but (by decide) (fun _ => ?_) ..).trans ?_
theorem commitKern_but {m} (hm : sub 1051264 m = true) (d : Dgram) (p : PeerRec) (fl : Nat) (args : Bytes) (s : State) : (commitKern d p fl args s).2.but m = s.but m := but_mono hm (commitKern_but' d p fl args s)

theorem execFirmwareCommit_but' (d : Dgram) (s : State) : (outOf (execFirmwareCommit d s) s).but 9444992 = s.but 9444992 := by
  unfold execFirmwareCommit
  repeat' first
  | with_reducible rfl
  | simp (disch := first | exact Or.inr rfl | exact Or.inl rfl | decide) only [↓but_mk, ↓but_ite, ↓but_snd_ite, ↓but_snd_mk, ↓but_snd2_ite, ↓but_snd2_mk, ↓but_cond, ite_self, outOf_live, outOf_next, outOf_ite, ↓commitKern_but]
  | split <;> try (with_reducible have h := congrArg Prod.snd ‹(_ : _ × State) = (_, _)›; dsimp only at h; subst h)
  | with_reducible refine (each_but (fun _ _ => ?_) _ _).trans ?_
  | with_reducible refine (whenS_but (fun _ => ?_) _ _).trans ?_
  | with_reducible refine (foldl_but (fun _ _ => ?_) _ _).trans ?_
  | with_reducible refine (foldl_but2 (fun _ _ => ?_) _ _).trans ?_
  | with_reducible refine (critical_but (by decide) (fun _ _ _ _ => ?_) ..).trans ?_
theorem execFirmwareCommit_but {m} (hm : sub 9444992 m = true) (d : Dgram) (s : State) : (outOf (execFirmwareCommit d s) s).but m = s.but m := but_mono hm (execFirmwareCommit_but' d s)

theorem partRestart_but' (k : Nat) (byFilter : Bool) (s : State) : (partRestart k byFilter s).but 8600222346 = s.but 8600222346 := by
  unfold partRestart
  repeat' first
  | with_reducible rfl
  | simp (disch := first | exact Or.inr rfl | exact Or.inl rfl | decide) only [↓but_mk, ↓but_ite, ↓but_snd_ite, ↓but_snd_mk, ↓but_snd2_ite, ↓but_snd2_mk, ↓but_cond, ite_self, outOf_live, outOf_next, outOf_ite, ↓setPart_but, ↓supervisorRestartOp_but, ↓loopRestartFree_but, ↓warmStart_but]
  | split <;> try (with_reducible have h := congrArg Prod.snd ‹(_ : _ × State) = (_, _)›; dsimp only at h; subst h)
  | with_reducible refine (each_but (fun _ _ => ?_) _ _).trans ?_
  | with_reducible refine (whenS_but (fun _ => ?_) _ _).trans ?_
  | with_reducible refine (foldl_but (fun _ _ => ?_) _ _).trans ?_
  | with_reducible refine (foldl_but2 (fun _ _ => ?_) _ _).trans ?_
theorem partRestart_but {m} (hm : sub 8600222346 m = true) (k : Nat) (byFilter : Bool) (s : State) : (partRestart k byFilter s).but m = s.but m := but_mono hm (partRestart_but' k byFilter s)

theorem execFirmwareActivate_but' (s : State) : (outOf (execFirmwareActivate s) s).but 8600223370 = s.but 8600223370 := by
  unfold execFirmwareActivate
  repeat' first
  | with_reducible rfl
  | simp (disch := first | exact Or.inr rfl | exact Or.inl rfl | decide) only [↓but_mk, ↓but_ite, ↓but_snd_ite, ↓but_snd_mk, ↓but_snd2_ite, ↓but_snd2_mk, ↓but_cond, ite_self, outOf_live, outOf_next, outOf_ite, ↓emit_but, ↓setPart_but, ↓partRestart_but, ↓finishCmd_but]
  | split <;> try (with_reducible have h := congrArg Prod.snd ‹(_ : _ × State) = (_, _)›; dsimp only at h; subst h)
  | with_reducible refine (each_but (fun _ _ => ?_) _ _).trans ?_
  | with_reducible refine (whenS_but (fun _ => ?_) _ _).trans ?_
  | with_reducible refine (foldl_but (fun _ _ => ?_) _ _).trans ?_
  | with_reducible refine (foldl_but2 (fun _ _ => ?_) _ _).trans ?_
theorem execFirmwareActivate_but {m} (hm : sub 8600223370 m = true) (s : State) : (outOf (execFirmwareActivate s) s).but m = s.but m := but_mono hm (execFirmwareActivate_but' s)

theorem revertPart_but' (k : Nat) (s : State) : (revertPart k s).but 1051264 = s.but 1051264 := by
  unfold revertPart
  repeat' first
  | with_reducible rfl
  | simp (disch := first | exact Or.inr rfl | exact Or.inl rfl | decide) only [↓but_mk, ↓but_ite, ↓but_snd_ite, ↓but_snd_mk, ↓but_snd2_ite, ↓but_snd2_mk, ↓but_cond, ite_self, outOf_live, outOf_next, outOf_ite, ↓emit_but, ↓setPart_but]
  | split <;> try (with_reducible have h := congrArg Prod.snd ‹(_ : _ × State) = (_, _)›; dsimp only at h; subst h)
  | with_reducible refine (each_but (fun _ _ => ?_) _ _).trans ?_
  | with_reducible refine (whenS_but (fun _ => ?_) _ _).trans ?_
  | with_reducible refine (foldl_but (fun _ _ => ?_) _ _).trans ?_
  | with_reducible refine (foldl_but2 (fun _ _ => ?_) _ _).trans ?_
theorem revertPart_but {m} (hm : sub 1051264 m = true) (k : Nat) (s : State) : (revertPart k s).but m = s.but m := but_mono hm (revertPart_but' k s)

theorem execFirmwareReverted_but' (part : Nat) (s : State) : (outOf (execFirmwareReverted part s) s).but 8667331210 = s.but 8667331210 := by
  unfold execFirmwareReverted
  repeat' first
  | with_reducible rfl
  | simp (disch := first | exact Or.inr rfl | exact Or.inl rfl | decide) only [↓but_mk, ↓but_ite, ↓but_snd_ite, ↓but_snd_mk, ↓but_snd2_ite, ↓but_snd2_mk, ↓but_cond, ite_self, outOf_live, outOf_next, outOf_ite, ↓partRestart_but, ↓revertPart_but, ↓clockTo_but, ↓setPart_but]
  | split <;> try (with_reducible have h := congrArg Prod.snd ‹(_ : _ × State) = (_, _)›; dsimp only at h; subst h)
  | with_reducible refine (each_but (fun _ _ => ?_) _ _).trans ?_
  | with_reducible refine (whenS_but (fun _ => ?_) _ _).trans ?_
  | with_reducible refine (foldl_but (fun _ _ => ?_) _ _).trans ?_
  | with_reducible refine (foldl_but2 (fun _ _ => ?_) _ _).trans ?_
theorem execFirmwareReverted_but {m} (hm : sub 8667331210 m = true) (part : Nat) (s : State) : (outOf (execFirmwareReverted part s) s).but m = s.but m := but_mono hm (execFirmwareReverted_but' part s)

theorem execRollbackFloorRise_but' (part : Nat) (s : State) : (outOf (execRollbackFloorRise part s) s).but 67110912 = s.but 67110912 := by
  unfold execRollbackFloorRise
  repeat' first
  | with_reducible rfl
  | simp (disch := first | exact Or.inr rfl | exact Or.inl rfl | decide) only [↓but_mk, ↓but_ite, ↓but_snd_ite, ↓but_snd_mk, ↓but_snd2_ite, ↓but_snd2_mk, ↓but_cond, ite_self, outOf_live, outOf_next, outOf_ite, ↓setPart_but, ↓clockTo_but]
  | split <;> try (with_reducible have h := congrArg Prod.snd ‹(_ : _ × State) = (_, _)›; dsimp only at h; subst h)
  | with_reducible refine (each_but (fun _ _ => ?_) _ _).trans ?_
  | with_reducible refine (whenS_but (fun _ => ?_) _ _).trans ?_
  | with_reducible refine (foldl_but (fun _ _ => ?_) _ _).trans ?_
  | with_reducible refine (foldl_but2 (fun _ _ => ?_) _ _).trans ?_
theorem execRollbackFloorRise_but {m} (hm : sub 67110912 m = true) (part : Nat) (s : State) : (outOf (execRollbackFloorRise part s) s).but m = s.but m := but_mono hm (execRollbackFloorRise_but' part s)

theorem firewallBlock_but' (k : Nat) (a : Nat) (s : State) : (firewallBlock k a s).but 8600222346 = s.but 8600222346 := by
  unfold firewallBlock
  repeat' first
  | with_reducible rfl
  | simp (disch := first | exact Or.inr rfl | exact Or.inl rfl | decide) only [↓but_mk, ↓but_ite, ↓but_snd_ite, ↓but_snd_mk, ↓but_snd2_ite, ↓but_snd2_mk, ↓but_cond, ite_self, outOf_live, outOf_next, outOf_ite, ↓emit_but, ↓setPart_but, ↓partRestart_but]
  | split <;> try (with_reducible have h := congrArg Prod.snd ‹(_ : _ × State) = (_, _)›; dsimp only at h; subst h)
  | with_reducible refine (each_but (fun _ _ => ?_) _ _).trans ?_
  | with_reducible refine (whenS_but (fun _ => ?_) _ _).trans ?_
  | with_reducible refine (foldl_but (fun _ _ => ?_) _ _).trans ?_
  | with_reducible refine (foldl_but2 (fun _ _ => ?_) _ _).trans ?_
theorem firewallBlock_but {m} (hm : sub 8600222346 m = true) (k : Nat) (a : Nat) (s : State) : (firewallBlock k a s).but m = s.but m := but_mono hm (firewallBlock_but' k a s)

theorem execFirewallBlocked_but' (part : Nat) (addr : Nat) (s : State) : (outOf (execFirewallBlocked part addr s) s).but 8600222346 = s.but 8600222346 := by
  unfold execFirewallBlocked
  repeat' first
  | with_reducible rfl
  | simp (disch := first | exact Or.inr rfl | exact Or.inl rfl | decide) only [↓but_mk, ↓but_ite, ↓but_snd_ite, ↓but_snd_mk, ↓but_snd2_ite, ↓but_snd2_mk, ↓but_cond, ite_self, outOf_live, outOf_next, outOf_ite, ↓firewallBlock_but]
  | split <;> try (with_reducible have h := congrArg Prod.snd ‹(_ : _ × State) = (_, _)›; dsimp only at h; subst h)
  | with_reducible refine (each_but (fun _ _ => ?_) _ _).trans ?_
  | with_reducible refine (whenS_but (fun _ => ?_) _ _).trans ?_
  | with_reducible refine (foldl_but (fun _ _ => ?_) _ _).trans ?_
  | with_reducible refine (foldl_but2 (fun _ _ => ?_) _ _).trans ?_
theorem execFirewallBlocked_but {m} (hm : sub 8600222346 m = true) (part : Nat) (addr : Nat) (s : State) : (outOf (execFirewallBlocked part addr s) s).but m = s.but m := but_mono hm (execFirewallBlocked_but' part addr s)

theorem execRegisterWrite_but' (w : Writer) (addr : Nat) (value : Word) (s : State) : (outOf (execRegisterWrite w addr value s) s).but 8657043402 = s.but 8657043402 := by
  unfold execRegisterWrite
  repeat' first
  | with_reducible rfl
  | simp (disch := first | exact Or.inr rfl | exact Or.inl rfl | decide) only [↓but_mk, ↓but_ite, ↓but_snd_ite, ↓but_snd_mk, ↓but_snd2_ite, ↓but_snd2_mk, ↓but_cond, ite_self, outOf_live, outOf_next, outOf_ite, ↓regWrite_but, ↓firewallBlock_but]
  | split <;> try (with_reducible have h := congrArg Prod.snd ‹(_ : _ × State) = (_, _)›; dsimp only at h; subst h)
  | with_reducible refine (each_but (fun _ _ => ?_) _ _).trans ?_
  | with_reducible refine (whenS_but (fun _ => ?_) _ _).trans ?_
  | with_reducible refine (foldl_but (fun _ _ => ?_) _ _).trans ?_
  | with_reducible refine (foldl_but2 (fun _ _ => ?_) _ _).trans ?_
theorem execRegisterWrite_but {m} (hm : sub 8657043402 m = true) (w : Writer) (addr : Nat) (value : Word) (s : State) : (outOf (execRegisterWrite w addr value s) s).but m = s.but m := but_mono hm (execRegisterWrite_but' w addr value s)

theorem castBank_but' (bad : Bool) (s : State) : (castBank bad s).2.but 2048 = s.but 2048 := by
  unfold castBank
  repeat' first
  | with_reducible rfl
  | simp (disch := first | exact Or.inr rfl | exact Or.inl rfl | decide) only [↓but_mk, ↓but_ite, ↓but_snd_ite, ↓but_snd_mk, ↓but_snd2_ite, ↓but_snd2_mk, ↓but_cond, ite_self, outOf_live, outOf_next, outOf_ite, ↓setPart_but]
  | split <;> try (with_reducible have h := congrArg Prod.snd ‹(_ : _ × State) = (_, _)›; dsimp only at h; subst h)
  | with_reducible refine (each_but (fun _ _ => ?_) _ _).trans ?_
  | with_reducible refine (whenS_but (fun _ => ?_) _ _).trans ?_
  | with_reducible refine (foldl_but (fun _ _ => ?_) _ _).trans ?_
  | with_reducible refine (foldl_but2 (fun _ _ => ?_) _ _).trans ?_
theorem castBank_but {m} (hm : sub 2048 m = true) (bad : Bool) (s : State) : (castBank bad s).2.but m = s.but m := but_mono hm (castBank_but' bad s)

theorem newBoot_but' (s : State) : (newBoot s).but 640 = s.but 640 := by
  unfold newBoot
  repeat' first
  | with_reducible rfl
  | simp (disch := first | exact Or.inr rfl | exact Or.inl rfl | decide) only [↓but_mk, ↓but_ite, ↓but_snd_ite, ↓but_snd_mk, ↓but_snd2_ite, ↓but_snd2_mk, ↓but_cond, ite_self, outOf_live, outOf_next, outOf_ite]
  | split <;> try (with_reducible have h := congrArg Prod.snd ‹(_ : _ × State) = (_, _)›; dsimp only at h; subst h)
  | with_reducible refine (each_but (fun _ _ => ?_) _ _).trans ?_
  | with_reducible refine (whenS_but (fun _ => ?_) _ _).trans ?_
  | with_reducible refine (foldl_but (fun _ _ => ?_) _ _).trans ?_
  | with_reducible refine (foldl_but2 (fun _ _ => ?_) _ _).trans ?_
theorem newBoot_but {m} (hm : sub 640 m = true) (s : State) : (newBoot s).but m = s.but m := but_mono hm (newBoot_but' s)

theorem bootRecords_but' (s : State) : (bootRecords s).but 1049226 = s.but 1049226 := by
  unfold bootRecords
  repeat' first
  | with_reducible rfl
  | simp (disch := first | exact Or.inr rfl | exact Or.inl rfl | decide) only [↓but_mk, ↓but_ite, ↓but_snd_ite, ↓but_snd_mk, ↓but_snd2_ite, ↓but_snd2_mk, ↓but_cond, ite_self, outOf_live, outOf_next, outOf_ite, ↓emit_but, ↓strapFault_but]
  | split <;> try (with_reducible have h := congrArg Prod.snd ‹(_ : _ × State) = (_, _)›; dsimp only at h; subst h)
  | with_reducible refine (each_but (fun _ _ => ?_) _ _).trans ?_
  | with_reducible refine (whenS_but (fun _ => ?_) _ _).trans ?_
  | with_reducible refine (foldl_but (fun _ _ => ?_) _ _).trans ?_
  | with_reducible refine (foldl_but2 (fun _ _ => ?_) _ _).trans ?_
theorem bootRecords_but {m} (hm : sub 1049226 m = true) (s : State) : (bootRecords s).but m = s.but m := but_mono hm (bootRecords_but' s)

theorem repairRows_but' (k : Nat) (s : State) : (repairRows k s).but 1049217 = s.but 1049217 := by
  unfold repairRows
  repeat' first
  | with_reducible rfl
  | simp (disch := first | exact Or.inr rfl | exact Or.inl rfl | decide) only [↓but_mk, ↓but_ite, ↓but_snd_ite, ↓but_snd_mk, ↓but_snd2_ite, ↓but_snd2_mk, ↓but_cond, ite_self, outOf_live, outOf_next, outOf_ite, ↓emit_but]
  | split <;> try (with_reducible have h := congrArg Prod.snd ‹(_ : _ × State) = (_, _)›; dsimp only at h; subst h)
  | with_reducible refine (each_but (fun _ _ => ?_) _ _).trans ?_
  | with_reducible refine (whenS_but (fun _ => ?_) _ _).trans ?_
  | with_reducible refine (foldl_but (fun _ _ => ?_) _ _).trans ?_
  | with_reducible refine (foldl_but2 (fun _ _ => ?_) _ _).trans ?_
theorem repairRows_but {m} (hm : sub 1049217 m = true) (k : Nat) (s : State) : (repairRows k s).but m = s.but m := but_mono hm (repairRows_but' k s)

theorem hbmStart_but' (c : CastInfo) (s : State) : (hbmStart c s).but 18088641 = s.but 18088641 := by
  unfold hbmStart
  repeat' first
  | with_reducible rfl
  | simp (disch := first | exact Or.inr rfl | exact Or.inl rfl | decide) only [↓but_mk, ↓but_ite, ↓but_snd_ite, ↓but_snd_mk, ↓but_snd2_ite, ↓but_snd2_mk, ↓but_cond, ite_self, outOf_live, outOf_next, outOf_ite, ↓holdContainer_but, ↓setReg_but, ↓setErr_but, ↓emit_but, ↓countQuar_but, ↓repairRows_but, ↓reformStacks_but]
  | split <;> try (with_reducible have h := congrArg Prod.snd ‹(_ : _ × State) = (_, _)›; dsimp only at h; subst h)
  | with_reducible refine (each_but (fun _ _ => ?_) _ _).trans ?_
  | with_reducible refine (whenS_but (fun _ => ?_) _ _).trans ?_
  | with_reducible refine (foldl_but (fun _ _ => ?_) _ _).trans ?_
  | with_reducible refine (foldl_but2 (fun _ _ => ?_) _ _).trans ?_
theorem hbmStart_but {m} (hm : sub 18088641 m = true) (c : CastInfo) (s : State) : (hbmStart c s).but m = s.but m := but_mono hm (hbmStart_but' c s)

theorem regionStart_but' (k : Nat) (s : State) : (regionStart k s).but 262144 = s.but 262144 := by
  unfold regionStart
  repeat' first
  | with_reducible rfl
  | simp (disch := first | exact Or.inr rfl | exact Or.inl rfl | decide) only [↓but_mk, ↓but_ite, ↓but_snd_ite, ↓but_snd_mk, ↓but_snd2_ite, ↓but_snd2_mk, ↓but_cond, ite_self, outOf_live, outOf_next, outOf_ite, ↓setReg_but]
  | split <;> try (with_reducible have h := congrArg Prod.snd ‹(_ : _ × State) = (_, _)›; dsimp only at h; subst h)
  | with_reducible refine (each_but (fun _ _ => ?_) _ _).trans ?_
  | with_reducible refine (whenS_but (fun _ => ?_) _ _).trans ?_
  | with_reducible refine (foldl_but (fun _ _ => ?_) _ _).trans ?_
  | with_reducible refine (foldl_but2 (fun _ _ => ?_) _ _).trans ?_
theorem regionStart_but {m} (hm : sub 262144 m = true) (k : Nat) (s : State) : (regionStart k s).but m = s.but m := but_mono hm (regionStart_but' k s)

theorem selfTests_but' (c : CastInfo) (s : State) : (selfTests c s).but 9704128 = s.but 9704128 := by
  unfold selfTests
  repeat' first
  | with_reducible rfl
  | simp (disch := first | exact Or.inr rfl | exact Or.inl rfl | decide) only [↓but_mk, ↓but_ite, ↓but_snd_ite, ↓but_snd_mk, ↓but_snd2_ite, ↓but_snd2_mk, ↓but_cond, ite_self, outOf_live, outOf_next, outOf_ite, ↓regionStart_but, ↓countQuar_but, ↓tileQuarantine_but, ↓regionOffline_but, ↓emit_but]
  | split <;> try (with_reducible have h := congrArg Prod.snd ‹(_ : _ × State) = (_, _)›; dsimp only at h; subst h)
  | with_reducible refine (each_but (fun _ _ => ?_) _ _).trans ?_
  | with_reducible refine (whenS_but (fun _ => ?_) _ _).trans ?_
  | with_reducible refine (foldl_but (fun _ _ => ?_) _ _).trans ?_
  | with_reducible refine (foldl_but2 (fun _ _ => ?_) _ _).trans ?_
theorem selfTests_but {m} (hm : sub 9704128 m = true) (c : CastInfo) (s : State) : (selfTests c s).but m = s.but m := but_mono hm (selfTests_but' c s)

theorem partsStart_but' (bad : List Nat) (s : State) : (partsStart bad s).but 1051264 = s.but 1051264 := by
  unfold partsStart
  repeat' first
  | with_reducible rfl
  | simp (disch := first | exact Or.inr rfl | exact Or.inl rfl | decide) only [↓but_mk, ↓but_ite, ↓but_snd_ite, ↓but_snd_mk, ↓but_snd2_ite, ↓but_snd2_mk, ↓but_cond, ite_self, outOf_live, outOf_next, outOf_ite, ↓revertPart_but, ↓setPart_but]
  | split <;> try (with_reducible have h := congrArg Prod.snd ‹(_ : _ × State) = (_, _)›; dsimp only at h; subst h)
  | with_reducible refine (each_but (fun _ _ => ?_) _ _).trans ?_
  | with_reducible refine (whenS_but (fun _ => ?_) _ _).trans ?_
  | with_reducible refine (foldl_but (fun _ _ => ?_) _ _).trans ?_
  | with_reducible refine (foldl_but2 (fun _ _ => ?_) _ _).trans ?_
theorem partsStart_but {m} (hm : sub 1051264 m = true) (bad : List Nat) (s : State) : (partsStart bad s).but m = s.but m := but_mono hm (partsStart_but' bad s)

theorem idsPlugged_but' (x : Option (Option IdsStore)) (s : State) : (idsPlugged x s).but 1 = s.but 1 := by
  unfold idsPlugged
  repeat' first
  | with_reducible rfl
  | simp (disch := first | exact Or.inr rfl | exact Or.inl rfl | decide) only [↓but_mk, ↓but_ite, ↓but_snd_ite, ↓but_snd_mk, ↓but_snd2_ite, ↓but_snd2_mk, ↓but_cond, ite_self, outOf_live, outOf_next, outOf_ite]
  | split <;> try (with_reducible have h := congrArg Prod.snd ‹(_ : _ × State) = (_, _)›; dsimp only at h; subst h)
  | with_reducible refine (each_but (fun _ _ => ?_) _ _).trans ?_
  | with_reducible refine (whenS_but (fun _ => ?_) _ _).trans ?_
  | with_reducible refine (foldl_but (fun _ _ => ?_) _ _).trans ?_
  | with_reducible refine (foldl_but2 (fun _ _ => ?_) _ _).trans ?_
theorem idsPlugged_but {m} (hm : sub 1 m = true) (x : Option (Option IdsStore)) (s : State) : (idsPlugged x s).but m = s.but m := but_mono hm (idsPlugged_but' x s)

theorem idsStart_but' (s : State) : (idsStart s).but 1051265 = s.but 1051265 := by
  unfold idsStart
  repeat' first
  | with_reducible rfl
  | simp (disch := first | exact Or.inr rfl | exact Or.inl rfl | decide) only [↓but_mk, ↓but_ite, ↓but_snd_ite, ↓but_snd_mk, ↓but_snd2_ite, ↓but_snd2_mk, ↓but_cond, ite_self, outOf_live, outOf_next, outOf_ite, ↓idsReach_but, ↓setAnchor_but]
  | split <;> try (with_reducible have h := congrArg Prod.snd ‹(_ : _ × State) = (_, _)›; dsimp only at h; subst h)
  | with_reducible refine (each_but (fun _ _ => ?_) _ _).trans ?_
  | with_reducible refine (whenS_but (fun _ => ?_) _ _).trans ?_
  | with_reducible refine (foldl_but (fun _ _ => ?_) _ _).trans ?_
  | with_reducible refine (foldl_but2 (fun _ _ => ?_) _ _).trans ?_
theorem idsStart_but {m} (hm : sub 1051265 m = true) (s : State) : (idsStart s).but m = s.but m := but_mono hm (idsStart_but' s)

theorem slotTry_but' (p : Option Pattern) (s : State) : (slotTry p s).2.but 1051264 = s.but 1051264 := by
  unfold slotTry
  repeat' first
  | with_reducible rfl
  | simp (disch := first | exact Or.inr rfl | exact Or.inl rfl | decide) only [↓but_mk, ↓but_ite, ↓but_snd_ite, ↓but_snd_mk, ↓but_snd2_ite, ↓but_snd2_mk, ↓but_cond, ite_self, outOf_live, outOf_next, outOf_ite, ↓patRefused_but]
  | split <;> try (with_reducible have h := congrArg Prod.snd ‹(_ : _ × State) = (_, _)›; dsimp only at h; subst h)
  | with_reducible refine (each_but (fun _ _ => ?_) _ _).trans ?_
  | with_reducible refine (whenS_but (fun _ => ?_) _ _).trans ?_
  | with_reducible refine (foldl_but (fun _ _ => ?_) _ _).trans ?_
  | with_reducible refine (foldl_but2 (fun _ _ => ?_) _ _).trans ?_
theorem slotTry_but {m} (hm : sub 1051264 m = true) (p : Option Pattern) (s : State) : (slotTry p s).2.but m = s.but m := but_mono hm (slotTry_but' p s)

theorem chooseHeld_but' (s : State) : (chooseHeld s).2.but 1051264 = s.but 1051264 := by
  unfold chooseHeld
  repeat' first
  | with_reducible rfl
  | simp (disch := first | exact Or.inr rfl | exact Or.inl rfl | decide) only [↓but_mk, ↓but_ite, ↓but_snd_ite, ↓but_snd_mk, ↓but_snd2_ite, ↓but_snd2_mk, ↓but_cond, ite_self, outOf_live, outOf_next, outOf_ite, ↓slotTry_but]
  | split <;> try (with_reducible have h := congrArg Prod.snd ‹(_ : _ × State) = (_, _)›; dsimp only at h; subst h)
  | with_reducible refine (each_but (fun _ _ => ?_) _ _).trans ?_
  | with_reducible refine (whenS_but (fun _ => ?_) _ _).trans ?_
  | with_reducible refine (foldl_but (fun _ _ => ?_) _ _).trans ?_
  | with_reducible refine (foldl_but2 (fun _ _ => ?_) _ _).trans ?_
theorem chooseHeld_but {m} (hm : sub 1051264 m = true) (s : State) : (chooseHeld s).2.but m = s.but m := but_mono hm (chooseHeld_but' s)

theorem choosePattern_but' (s : State) : (choosePattern s).2.but 1051264 = s.but 1051264 := by
  unfold choosePattern
  repeat' first
  | with_reducible rfl
  | simp (disch := first | exact Or.inr rfl | exact Or.inl rfl | decide) only [↓but_mk, ↓but_ite, ↓but_snd_ite, ↓but_snd_mk, ↓but_snd2_ite, ↓but_snd2_mk, ↓but_cond, ite_self, outOf_live, outOf_next, outOf_ite, ↓slotTry_but, ↓emit_but, ↓chooseHeld_but]
  | split <;> try (with_reducible have h := congrArg Prod.snd ‹(_ : _ × State) = (_, _)›; dsimp only at h; subst h)
  | with_reducible refine (each_but (fun _ _ => ?_) _ _).trans ?_
  | with_reducible refine (whenS_but (fun _ => ?_) _ _).trans ?_
  | with_reducible refine (foldl_but (fun _ _ => ?_) _ _).trans ?_
  | with_reducible refine (foldl_but2 (fun _ _ => ?_) _ _).trans ?_
theorem choosePattern_but {m} (hm : sub 1051264 m = true) (s : State) : (choosePattern s).2.but m = s.but m := but_mono hm (choosePattern_but' s)

theorem svCastOn_but' (p : Pattern) (s : State) : (svCastOn p s).but 98304 = s.but 98304 := by
  unfold svCastOn
  repeat' first
  | with_reducible rfl
  | simp (disch := first | exact Or.inr rfl | exact Or.inl rfl | decide) only [↓but_mk, ↓but_ite, ↓but_snd_ite, ↓but_snd_mk, ↓but_snd2_ite, ↓but_snd2_mk, ↓but_cond, ite_self, outOf_live, outOf_next, outOf_ite, ↓svLoad_but]
  | split <;> try (with_reducible have h := congrArg Prod.snd ‹(_ : _ × State) = (_, _)›; dsimp only at h; subst h)
  | with_reducible refine (each_but (fun _ _ => ?_) _ _).trans ?_
  | with_reducible refine (whenS_but (fun _ => ?_) _ _).trans ?_
  | with_reducible refine (foldl_but (fun _ _ => ?_) _ _).trans ?_
  | with_reducible refine (foldl_but2 (fun _ _ => ?_) _ _).trans ?_
theorem svCastOn_but {m} (hm : sub 98304 m = true) (p : Pattern) (s : State) : (svCastOn p s).but m = s.but m := but_mono hm (svCastOn_but' p s)

theorem platesStart_but' (s : State) : (platesStart s).but 262144 = s.but 262144 := by
  unfold platesStart
  repeat' first
  | with_reducible rfl
  | simp (disch := first | exact Or.inr rfl | exact Or.inl rfl | decide) only [↓but_mk, ↓but_ite, ↓but_snd_ite, ↓but_snd_mk, ↓but_snd2_ite, ↓but_snd2_mk, ↓but_cond, ite_self, outOf_live, outOf_next, outOf_ite, ↓setPlate_but]
  | split <;> try (with_reducible have h := congrArg Prod.snd ‹(_ : _ × State) = (_, _)›; dsimp only at h; subst h)
  | with_reducible refine (each_but (fun _ _ => ?_) _ _).trans ?_
  | with_reducible refine (whenS_but (fun _ => ?_) _ _).trans ?_
  | with_reducible refine (foldl_but (fun _ _ => ?_) _ _).trans ?_
  | with_reducible refine (foldl_but2 (fun _ _ => ?_) _ _).trans ?_
theorem platesStart_but {m} (hm : sub 262144 m = true) (s : State) : (platesStart s).but m = s.but m := but_mono hm (platesStart_but' s)

theorem ctlFailures_but' (c : CastInfo) (s : State) : (ctlFailures c s).but 9597640 = s.but 9597640 := by
  unfold ctlFailures
  repeat' first
  | with_reducible rfl
  | simp (disch := first | exact Or.inr rfl | exact Or.inl rfl | decide) only [↓but_mk, ↓but_ite, ↓but_snd_ite, ↓but_snd_mk, ↓but_snd2_ite, ↓but_snd2_mk, ↓but_cond, ite_self, outOf_live, outOf_next, outOf_ite, ↓engineQuarantine_but, ↓busQuarantine_but]
  | split <;> try (with_reducible have h := congrArg Prod.snd ‹(_ : _ × State) = (_, _)›; dsimp only at h; subst h)
  | with_reducible refine (each_but (fun _ _ => ?_) _ _).trans ?_
  | with_reducible refine (whenS_but (fun _ => ?_) _ _).trans ?_
  | with_reducible refine (foldl_but (fun _ _ => ?_) _ _).trans ?_
  | with_reducible refine (foldl_but2 (fun _ _ => ?_) _ _).trans ?_
theorem ctlFailures_but {m} (hm : sub 9597640 m = true) (c : CastInfo) (s : State) : (ctlFailures c s).but m = s.but m := but_mono hm (ctlFailures_but' c s)

theorem loadPattern_but' (p : Pattern) (slot : Nat) (c : CastInfo) (s : State) : (loadPattern p slot c s).but 9960138 = s.but 9960138 := by
  unfold loadPattern
  repeat' first
  | with_reducible rfl
  | simp (disch := first | exact Or.inr rfl | exact Or.inl rfl | decide) only [↓but_mk, ↓but_ite, ↓but_snd_ite, ↓but_snd_mk, ↓but_snd2_ite, ↓but_snd2_mk, ↓but_cond, ite_self, outOf_live, outOf_next, outOf_ite, ↓platesStart_but, ↓ctlFailures_but, ↓busStart_but, ↓lpLoad_but, ↓svCastOn_but, ↓takeAnchor_but, ↓emit_but, ↓idsFault_but]
  | split <;> try (with_reducible have h := congrArg Prod.snd ‹(_ : _ × State) = (_, _)›; dsimp only at h; subst h)
  | with_reducible refine (each_but (fun _ _ => ?_) _ _).trans ?_
  | with_reducible refine (whenS_but (fun _ => ?_) _ _).trans ?_
  | with_reducible refine (foldl_but (fun _ _ => ?_) _ _).trans ?_
  | with_reducible refine (foldl_but2 (fun _ _ => ?_) _ _).trans ?_
theorem loadPattern_but {m} (hm : sub 9960138 m = true) (p : Pattern) (slot : Nat) (c : CastInfo) (s : State) : (loadPattern p slot c s).but m = s.but m := but_mono hm (loadPattern_but' p slot c s)

theorem retainedModel_but' (before : Option Pattern) (s : State) : (retainedModel before s).but 18088576 = s.but 18088576 := by
  unfold retainedModel
  repeat' first
  | with_reducible rfl
  | simp (disch := first | exact Or.inr rfl | exact Or.inl rfl | decide) only [↓but_mk, ↓but_ite, ↓but_snd_ite, ↓but_snd_mk, ↓but_snd2_ite, ↓but_snd2_mk, ↓but_cond, ite_self, outOf_live, outOf_next, outOf_ite, ↓modelRefused_but, ↓storesLoaded_but, ↓bindPlates_but]
  | split <;> try (with_reducible have h := congrArg Prod.snd ‹(_ : _ × State) = (_, _)›; dsimp only at h; subst h)
  | with_reducible refine (each_but (fun _ _ => ?_) _ _).trans ?_
  | with_reducible refine (whenS_but (fun _ => ?_) _ _).trans ?_
  | with_reducible refine (foldl_but (fun _ _ => ?_) _ _).trans ?_
  | with_reducible refine (foldl_but2 (fun _ _ => ?_) _ _).trans ?_
theorem retainedModel_but {m} (hm : sub 18088576 m = true) (before : Option Pattern) (s : State) : (retainedModel before s).but m = s.but m := but_mono hm (retainedModel_but' before s)

theorem castRecords_but' (s : State) : (castRecords s).but 1049282 = s.but 1049282 := by
  unfold castRecords
  repeat' first
  | with_reducible rfl
  | simp (disch := first | exact Or.inr rfl | exact Or.inl rfl | decide) only [↓but_mk, ↓but_ite, ↓but_snd_ite, ↓but_snd_mk, ↓but_snd2_ite, ↓but_snd2_mk, ↓but_cond, ite_self, outOf_live, outOf_next, outOf_ite, ↓emit_but]
  | split <;> try (with_reducible have h := congrArg Prod.snd ‹(_ : _ × State) = (_, _)›; dsimp only at h; subst h)
  | with_reducible refine (each_but (fun _ _ => ?_) _ _).trans ?_
  | with_reducible refine (whenS_but (fun _ => ?_) _ _).trans ?_
  | with_reducible refine (foldl_but (fun _ _ => ?_) _ _).trans ?_
  | with_reducible refine (foldl_but2 (fun _ _ => ?_) _ _).trans ?_
theorem castRecords_but {m} (hm : sub 1049282 m = true) (s : State) : (castRecords s).but m = s.but m := but_mono hm (castRecords_but' s)

theorem castDone_but' (phase : Nat) (s : State) : (castDone phase s).but 8322548354 = s.but 8322548354 := by
  unfold castDone
  repeat' first
  | with_reducible rfl
  | simp (disch := first | exact Or.inr rfl | exact Or.inl rfl | decide) only [↓but_mk, ↓but_ite, ↓but_snd_ite, ↓but_snd_mk, ↓but_snd2_ite, ↓but_snd2_mk, ↓but_cond, ite_self, outOf_live, outOf_next, outOf_ite, ↓emit_but]
  | split <;> try (with_reducible have h := congrArg Prod.snd ‹(_ : _ × State) = (_, _)›; dsimp only at h; subst h)
  | with_reducible refine (each_but (fun _ _ => ?_) _ _).trans ?_
  | with_reducible refine (whenS_but (fun _ => ?_) _ _).trans ?_
  | with_reducible refine (foldl_but (fun _ _ => ?_) _ _).trans ?_
  | with_reducible refine (foldl_but2 (fun _ _ => ?_) _ _).trans ?_
theorem castDone_but {m} (hm : sub 8322548354 m = true) (phase : Nat) (s : State) : (castDone phase s).but m = s.but m := but_mono hm (castDone_but' phase s)

theorem castSix_but' (before : Option Pattern) (s : State) : (castSix before s).but 16929696466 = s.but 16929696466 := by
  unfold castSix
  repeat' first
  | with_reducible rfl
  | simp (disch := first | exact Or.inr rfl | exact Or.inl rfl | decide) only [↓but_mk, ↓but_ite, ↓but_snd_ite, ↓but_snd_mk, ↓but_snd2_ite, ↓but_snd2_mk, ↓but_cond, ite_self, outOf_live, outOf_next, outOf_ite, ↓castRecords_but, ↓castDone_but, ↓setRole_but, ↓retainedModel_but, ↓svFlushLog_but, ↓setPart_but, ↓updateDegraded_but, ↓warmStart_but]
  | split <;> try (with_reducible have h := congrArg Prod.snd ‹(_ : _ × State) = (_, _)›; dsimp only at h; subst h)
  | with_reducible refine (each_but (fun _ _ => ?_) _ _).trans ?_
  | with_reducible refine (whenS_but (fun _ => ?_) _ _).trans ?_
  | with_reducible refine (foldl_but (fun _ _ => ?_) _ _).trans ?_
  | with_reducible refine (foldl_but2 (fun _ _ => ?_) _ _).trans ?_
theorem castSix_but {m} (hm : sub 16929696466 m = true) (before : Option Pattern) (s : State) : (castSix before s).but m = s.but m := but_mono hm (castSix_but' before s)

theorem castFive_but' (before : Option Pattern) (c : CastInfo) (s : State) : (castFive before c s).but 17005279962 = s.but 17005279962 := by
  unfold castFive
  repeat' first
  | with_reducible rfl
  | simp (disch := first | exact Or.inr rfl | exact Or.inl rfl | decide) only [↓but_mk, ↓but_ite, ↓but_snd_ite, ↓but_snd_mk, ↓but_snd2_ite, ↓but_snd2_mk, ↓but_cond, ite_self, outOf_live, outOf_next, outOf_ite, ↓choosePattern_but, ↓svFlushLog_but, ↓castDone_but, ↓loadPattern_but, ↓castSix_but]
  | split <;> try (with_reducible have h := congrArg Prod.snd ‹(_ : _ × State) = (_, _)›; dsimp only at h; subst h)
  | with_reducible refine (each_but (fun _ _ => ?_) _ _).trans ?_
  | with_reducible refine (whenS_but (fun _ => ?_) _ _).trans ?_
  | with_reducible refine (foldl_but (fun _ _ => ?_) _ _).trans ?_
  | with_reducible refine (foldl_but2 (fun _ _ => ?_) _ _).trans ?_
theorem castFive_but {m} (hm : sub 17005279962 m = true) (before : Option Pattern) (c : CastInfo) (s : State) : (castFive before c s).but m = s.but m := but_mono hm (castFive_but' before c s)

theorem castFour_but' (before : Option Pattern) (c : CastInfo) (s : State) : (castFour before c s).but 17005279963 = s.but 17005279963 := by
  unfold castFour
  repeat' first
  | with_reducible rfl
  | simp (disch := first | exact Or.inr rfl | exact Or.inl rfl | decide) only [↓but_mk, ↓but_ite, ↓but_snd_ite, ↓but_snd_mk, ↓but_snd2_ite, ↓but_snd2_mk, ↓but_cond, ite_self, outOf_live, outOf_next, outOf_ite, ↓gaugeTake_but, ↓idsStart_but, ↓idsPlugged_but, ↓castFive_but]
  | split <;> try (with_reducible have h := congrArg Prod.snd ‹(_ : _ × State) = (_, _)›; dsimp only at h; subst h)
  | with_reducible refine (each_but (fun _ _ => ?_) _ _).trans ?_
  | with_reducible refine (whenS_but (fun _ => ?_) _ _).trans ?_
  | with_reducible refine (foldl_but (fun _ _ => ?_) _ _).trans ?_
  | with_reducible refine (foldl_but2 (fun _ _ => ?_) _ _).trans ?_
theorem castFour_but {m} (hm : sub 17005279963 m = true) (before : Option Pattern) (c : CastInfo) (s : State) : (castFour before c s).but m = s.but m := but_mono hm (castFour_but' before c s)

theorem castThree_but' (before : Option Pattern) (c : CastInfo) (s : State) : (castThree before c s).but 17005279963 = s.but 17005279963 := by
  unfold castThree
  repeat' first
  | with_reducible rfl
  | simp (disch := first | exact Or.inr rfl | exact Or.inl rfl | decide) only [↓but_mk, ↓but_ite, ↓but_snd_ite, ↓but_snd_mk, ↓but_snd2_ite, ↓but_snd2_mk, ↓but_cond, ite_self, outOf_live, outOf_next, outOf_ite, ↓partsStart_but, ↓castFour_but]
  | split <;> try (with_reducible have h := congrArg Prod.snd ‹(_ : _ × State) = (_, _)›; dsimp only at h; subst h)
  | with_reducible refine (each_but (fun _ _ => ?_) _ _).trans ?_
  | with_reducible refine (whenS_but (fun _ => ?_) _ _).trans ?_
  | with_reducible refine (foldl_but (fun _ _ => ?_) _ _).trans ?_
  | with_reducible refine (foldl_but2 (fun _ _ => ?_) _ _).trans ?_
theorem castThree_but {m} (hm : sub 17005279963 m = true) (before : Option Pattern) (c : CastInfo) (s : State) : (castThree before c s).but m = s.but m := but_mono hm (castThree_but' before c s)

theorem castTwo_but' (before : Option Pattern) (failed : Bool) (c : CastInfo) (s : State) : (castTwo before failed c s).but 17005279963 = s.but 17005279963 := by
  unfold castTwo
  repeat' first
  | with_reducible rfl
  | simp (disch := first | exact Or.inr rfl | exact Or.inl rfl | decide) only [↓but_mk, ↓but_ite, ↓but_snd_ite, ↓but_snd_mk, ↓but_snd2_ite, ↓but_snd2_mk, ↓but_cond, ite_self, outOf_live, outOf_next, outOf_ite, ↓bootRecords_but, ↓newBoot_but, ↓revertPart_but, ↓selfTests_but, ↓hbmStart_but, ↓castThree_but]
  | split <;> try (with_reducible have h := congrArg Prod.snd ‹(_ : _ × State) = (_, _)›; dsimp only at h; subst h)
  | with_reducible refine (each_but (fun _ _ => ?_) _ _).trans ?_
  | with_reducible refine (whenS_but (fun _ => ?_) _ _).trans ?_
  | with_reducible refine (foldl_but (fun _ _ => ?_) _ _).trans ?_
  | with_reducible refine (foldl_but2 (fun _ _ => ?_) _ _).trans ?_
theorem castTwo_but {m} (hm : sub 17005279963 m = true) (before : Option Pattern) (failed : Bool) (c : CastInfo) (s : State) : (castTwo before failed c s).but m = s.but m := but_mono hm (castTwo_but' before failed c s)

theorem castOn_but' (c : CastInfo) (s : State) : (castOn c s).but 17005279963 = s.but 17005279963 := by
  unfold castOn
  repeat' first
  | with_reducible rfl
  | simp (disch := first | exact Or.inr rfl | exact Or.inl rfl | decide) only [↓but_mk, ↓but_ite, ↓but_snd_ite, ↓but_snd_mk, ↓but_snd2_ite, ↓but_snd2_mk, ↓but_cond, ite_self, outOf_live, outOf_next, outOf_ite, ↓castBank_but, ↓castTwo_but]
  | split <;> try (with_reducible have h := congrArg Prod.snd ‹(_ : _ × State) = (_, _)›; dsimp only at h; subst h)
  | with_reducible refine (each_but (fun _ _ => ?_) _ _).trans ?_
  | with_reducible refine (whenS_but (fun _ => ?_) _ _).trans ?_
  | with_reducible refine (foldl_but (fun _ _ => ?_) _ _).trans ?_
  | with_reducible refine (foldl_but2 (fun _ _ => ?_) _ _).trans ?_
theorem castOn_but {m} (hm : sub 17005279963 m = true) (c : CastInfo) (s : State) : (castOn c s).but m = s.but m := but_mono hm (castOn_but' c s)

theorem execCastOn_but' (c : CastInfo) (s : State) : (outOf (execCastOn c s) s).but 17005279963 = s.but 17005279963 := by
  unfold execCastOn
  repeat' first
  | with_reducible rfl
  | simp (disch := first | exact Or.inr rfl | exact Or.inl rfl | decide) only [↓but_mk, ↓but_ite, ↓but_snd_ite, ↓but_snd_mk, ↓but_snd2_ite, ↓but_snd2_mk, ↓but_cond, ite_self, outOf_live, outOf_next, outOf_ite, ↓castOn_but]
  | split <;> try (with_reducible have h := congrArg Prod.snd ‹(_ : _ × State) = (_, _)›; dsimp only at h; subst h)
  | with_reducible refine (each_but (fun _ _ => ?_) _ _).trans ?_
  | with_reducible refine (whenS_but (fun _ => ?_) _ _).trans ?_
  | with_reducible refine (foldl_but (fun _ _ => ?_) _ _).trans ?_
  | with_reducible refine (foldl_but2 (fun _ _ => ?_) _ _).trans ?_
theorem execCastOn_but {m} (hm : sub 17005279963 m = true) (c : CastInfo) (s : State) : (outOf (execCastOn c s) s).but m = s.but m := but_mono hm (execCastOn_but' c s)

theorem firstPattern_but' (addr : Nat) (len : Nat) (s : State) : (firstPattern addr len s).2.but 16938171098 = s.but 16938171098 := by
  unfold firstPattern
  repeat' first
  | with_reducible rfl
  | simp (disch := first | exact Or.inr rfl | exact Or.inl rfl | decide) only [↓but_mk, ↓but_ite, ↓but_snd_ite, ↓but_snd_mk, ↓but_snd2_ite, ↓but_snd2_mk, ↓but_cond, ite_self, outOf_live, outOf_next, outOf_ite, ↓patRefused_but, ↓loadPattern_but, ↓slotWrite_but, ↓castSix_but]
  | split <;> try (with_reducible have h := congrArg Prod.snd ‹(_ : _ × State) = (_, _)›; dsimp only at h; subst h)
  | with_reducible refine (each_but (fun _ _ => ?_) _ _).trans ?_
  | with_reducible refine (whenS_but (fun _ => ?_) _ _).trans ?_
  | with_reducible refine (foldl_but (fun _ _ => ?_) _ _).trans ?_
  | with_reducible refine (foldl_but2 (fun _ _ => ?_) _ _).trans ?_
theorem firstPattern_but {m} (hm : sub 16938171098 m = true) (addr : Nat) (len : Nat) (s : State) : (firstPattern addr len s).2.but m = s.but m := but_mono hm (firstPattern_but' addr len s)

theorem reknitRun_but' (flags : Nat) (addr : Nat) (len : Nat) (s : State) : (reknitRun flags addr len s).2.but 16938171098 = s.but 16938171098 := by
  unfold reknitRun
  repeat' first
  | with_reducible rfl
  | simp (disch := first | exact Or.inr rfl | exact Or.inl rfl | decide) only [↓but_mk, ↓but_ite, ↓but_snd_ite, ↓but_snd_mk, ↓but_snd2_ite, ↓but_snd2_mk, ↓but_cond, ite_self, outOf_live, outOf_next, outOf_ite, ↓firstPattern_but, ↓stageFull_but, ↓scheduleReknit_but]
  | split <;> try (with_reducible have h := congrArg Prod.snd ‹(_ : _ × State) = (_, _)›; dsimp only at h; subst h)
  | with_reducible refine (each_but (fun _ _ => ?_) _ _).trans ?_
  | with_reducible refine (whenS_but (fun _ => ?_) _ _).trans ?_
  | with_reducible refine (foldl_but (fun _ _ => ?_) _ _).trans ?_
  | with_reducible refine (foldl_but2 (fun _ _ => ?_) _ _).trans ?_
theorem reknitRun_but {m} (hm : sub 16938171098 m = true) (flags : Nat) (addr : Nat) (len : Nat) (s : State) : (reknitRun flags addr len s).2.but m = s.but m := but_mono hm (reknitRun_but' flags addr len s)

theorem reknitKern_but' (d : Dgram) (p : PeerRec) (fl : Nat) (args : Bytes) (s : State) : (reknitKern d p fl args s).2.but 16938171098 = s.but 16938171098 := by
  unfold reknitKern
  repeat' first
  | with_reducible rfl
  | simp (disch := first | exact Or.inr rfl | exact Or.inl rfl | decide) only [↓but_mk, ↓but_ite, ↓but_snd_ite, ↓but_snd_mk, ↓but_snd2_ite, ↓but_snd2_mk, ↓but_cond, ite_self, outOf_live, outOf_next, outOf_ite, ↓reknitRun_but]
  | split <;> try (with_reducible have h := congrArg Prod.snd ‹(_ : _ × State) = (_, _)›; dsimp only at h; subst h)
  | with_reducible refine (each_but (fun _ _ => ?_) _ _).trans ?_
  | with_reducible refine (whenS_but (fun _ => ?_) _ _).trans ?_
  | with_reducible refine (foldl_but (fun _ _ => ?_) _ _).trans ?_
  | with_reducible refine (foldl_but2 (fun _ _ => ?_) _ _).trans ?_
  | with_reducible refine (signalGate_but (by decide) (fun _ => ?_) ..).trans ?_
theorem reknitKern_but {m} (hm : sub 16938171098 m = true) (d : Dgram) (p : PeerRec) (fl : Nat) (args : Bytes) (s : State) : (reknitKern d p fl args s).2.but m = s.but m := but_mono hm (reknitKern_but' d p fl args s)

theorem reknitCmd_but' (d : Dgram) (s : State) : (reknitCmd d s).but 16938172122 = s.but 16938172122 := by
  unfold reknitCmd
  repeat' first
  | with_reducible rfl
  | simp (disch := first | exact Or.inr rfl | exact Or.inl rfl | decide) only [↓but_mk, ↓but_ite, ↓but_snd_ite, ↓but_snd_mk, ↓but_snd2_ite, ↓but_snd2_mk, ↓but_cond, ite_self, outOf_live, outOf_next, outOf_ite, ↓reknitKern_but]
  | split <;> try (with_reducible have h := congrArg Prod.snd ‹(_ : _ × State) = (_, _)›; dsimp only at h; subst h)
  | with_reducible refine (each_but (fun _ _ => ?_) _ _).trans ?_
  | with_reducible refine (whenS_but (fun _ => ?_) _ _).trans ?_
  | with_reducible refine (foldl_but (fun _ _ => ?_) _ _).trans ?_
  | with_reducible refine (foldl_but2 (fun _ _ => ?_) _ _).trans ?_
  | with_reducible refine (critical_but (by decide) (fun _ _ _ _ => ?_) ..).trans ?_
theorem reknitCmd_but {m} (hm : sub 16938172122 m = true) (d : Dgram) (s : State) : (reknitCmd d s).but m = s.but m := but_mono hm (reknitCmd_but' d s)

theorem execReknit_but' (d : Dgram) (s : State) : (outOf (execReknit d s) s).but 16938172122 = s.but 16938172122 := by
  unfold execReknit
  repeat' first
  | with_reducible rfl
  | simp (disch := first | exact Or.inr rfl | exact Or.inl rfl | decide) only [↓but_mk, ↓but_ite, ↓but_snd_ite, ↓but_snd_mk, ↓but_snd2_ite, ↓but_snd2_mk, ↓but_cond, ite_self, outOf_live, outOf_next, outOf_ite, ↓reknitCmd_but]
  | split <;> try (with_reducible have h := congrArg Prod.snd ‹(_ : _ × State) = (_, _)›; dsimp only at h; subst h)
  | with_reducible refine (each_but (fun _ _ => ?_) _ _).trans ?_
  | with_reducible refine (whenS_but (fun _ => ?_) _ _).trans ?_
  | with_reducible refine (foldl_but (fun _ _ => ?_) _ _).trans ?_
  | with_reducible refine (foldl_but2 (fun _ _ => ?_) _ _).trans ?_
theorem execReknit_but {m} (hm : sub 16938172122 m = true) (d : Dgram) (s : State) : (outOf (execReknit d s) s).but m = s.but m := but_mono hm (execReknit_but' d s)

theorem execReknitFull_but' (d : Dgram) (s : State) : (outOf (execReknitFull d s) s).but 16938172122 = s.but 16938172122 := by
  unfold execReknitFull
  repeat' first
  | with_reducible rfl
  | simp (disch := first | exact Or.inr rfl | exact Or.inl rfl | decide) only [↓but_mk, ↓but_ite, ↓but_snd_ite, ↓but_snd_mk, ↓but_snd2_ite, ↓but_snd2_mk, ↓but_cond, ite_self, outOf_live, outOf_next, outOf_ite, ↓reknitCmd_but]
  | split <;> try (with_reducible have h := congrArg Prod.snd ‹(_ : _ × State) = (_, _)›; dsimp only at h; subst h)
  | with_reducible refine (each_but (fun _ _ => ?_) _ _).trans ?_
  | with_reducible refine (whenS_but (fun _ => ?_) _ _).trans ?_
  | with_reducible refine (foldl_but (fun _ _ => ?_) _ _).trans ?_
  | with_reducible refine (foldl_but2 (fun _ _ => ?_) _ _).trans ?_
theorem execReknitFull_but {m} (hm : sub 16938172122 m = true) (d : Dgram) (s : State) : (outOf (execReknitFull d s) s).but m = s.but m := but_mono hm (execReknitFull_but' d s)

end Sys2Proof.Machine
end

