-- ==== Sys2Proof/Laws/FrameLink.lean ====
section
/-! SUPPORT. What each function can change (host link, mirror, freeze and TAP): it leaves every part of State outside its mask as it was. -/

set_option linter.all false

namespace Sys2Proof.Machine

theorem linkUpOp_but' (rate : Nat) (ifaces : Nat) (s : State) : (linkUpOp rate ifaces s).but 8590983808 = s.but 8590983808 := by
  unfold linkUpOp
  repeat' first
  | with_reducible rfl
  | simp (disch := first | exact Or.inr rfl | exact Or.inl rfl | decide) only [↓but_mk, ↓but_ite, ↓but_snd_ite, ↓but_snd_mk, ↓but_snd2_ite, ↓but_snd2_mk, ↓but_cond, ite_self, outOf_live, outOf_next, outOf_ite, ↓freshWord_but, ↓emit_but]
  | split <;> try (with_reducible have h := congrArg Prod.snd ‹(_ : _ × State) = (_, _)›; dsimp only at h; subst h)
  | with_reducible refine (each_but (fun _ _ => ?_) _ _).trans ?_
  | with_reducible refine (whenS_but (fun _ => ?_) _ _).trans ?_
  | with_reducible refine (foldl_but (fun _ _ => ?_) _ _).trans ?_
  | with_reducible refine (foldl_but2 (fun _ _ => ?_) _ _).trans ?_
theorem linkUpOp_but {m} (hm : sub 8590983808 m = true) (rate : Nat) (ifaces : Nat) (s : State) : (linkUpOp rate ifaces s).but m = s.but m := but_mono hm (linkUpOp_but' rate ifaces s)

theorem execLinkUp_but' (rate : Nat) (ifaces : Nat) (s : State) : (outOf (execLinkUp rate ifaces s) s).but 8590983808 = s.but 8590983808 := by
  unfold execLinkUp
  repeat' first
  | with_reducible rfl
  | simp (disch := first | exact Or.inr rfl | exact Or.inl rfl | decide) only [↓but_mk, ↓but_ite, ↓but_snd_ite, ↓but_snd_mk, ↓but_snd2_ite, ↓but_snd2_mk, ↓but_cond, ite_self, outOf_live, outOf_next, outOf_ite, ↓linkUpOp_but]
  | split <;> try (with_reducible have h := congrArg Prod.snd ‹(_ : _ × State) = (_, _)›; dsimp only at h; subst h)
  | with_reducible refine (each_but (fun _ _ => ?_) _ _).trans ?_
  | with_reducible refine (whenS_but (fun _ => ?_) _ _).trans ?_
  | with_reducible refine (foldl_but (fun _ _ => ?_) _ _).trans ?_
  | with_reducible refine (foldl_but2 (fun _ _ => ?_) _ _).trans ?_
theorem execLinkUp_but {m} (hm : sub 8590983808 m = true) (rate : Nat) (ifaces : Nat) (s : State) : (outOf (execLinkUp rate ifaces s) s).but m = s.but m := but_mono hm (execLinkUp_but' rate ifaces s)

theorem opticAfter_but' (cause : Nat) (s : State) : (opticAfter cause s).but 512 = s.but 512 := by
  unfold opticAfter
  repeat' first
  | with_reducible rfl
  | simp (disch := first | exact Or.inr rfl | exact Or.inl rfl | decide) only [↓but_mk, ↓but_ite, ↓but_snd_ite, ↓but_snd_mk, ↓but_snd2_ite, ↓but_snd2_mk, ↓but_cond, ite_self, outOf_live, outOf_next, outOf_ite]
  | split <;> try (with_reducible have h := congrArg Prod.snd ‹(_ : _ × State) = (_, _)›; dsimp only at h; subst h)
  | with_reducible refine (each_but (fun _ _ => ?_) _ _).trans ?_
  | with_reducible refine (whenS_but (fun _ => ?_) _ _).trans ?_
  | with_reducible refine (foldl_but (fun _ _ => ?_) _ _).trans ?_
  | with_reducible refine (foldl_but2 (fun _ _ => ?_) _ _).trans ?_
theorem opticAfter_but {m} (hm : sub 512 m = true) (cause : Nat) (s : State) : (opticAfter cause s).but m = s.but m := but_mono hm (opticAfter_but' cause s)

theorem linkDownOp_but' (cause : Nat) (corr : Nat) (uncorr : Nat) (s : State) : (linkDownOp cause corr uncorr s).but 1049216 = s.but 1049216 := by
  unfold linkDownOp
  repeat' first
  | with_reducible rfl
  | simp (disch := first | exact Or.inr rfl | exact Or.inl rfl | decide) only [↓but_mk, ↓but_ite, ↓but_snd_ite, ↓but_snd_mk, ↓but_snd2_ite, ↓but_snd2_mk, ↓but_cond, ite_self, outOf_live, outOf_next, outOf_ite, ↓emit_but, ↓opticAfter_but]
  | split <;> try (with_reducible have h := congrArg Prod.snd ‹(_ : _ × State) = (_, _)›; dsimp only at h; subst h)
  | with_reducible refine (each_but (fun _ _ => ?_) _ _).trans ?_
  | with_reducible refine (whenS_but (fun _ => ?_) _ _).trans ?_
  | with_reducible refine (foldl_but (fun _ _ => ?_) _ _).trans ?_
  | with_reducible refine (foldl_but2 (fun _ _ => ?_) _ _).trans ?_
theorem linkDownOp_but {m} (hm : sub 1049216 m = true) (cause : Nat) (corr : Nat) (uncorr : Nat) (s : State) : (linkDownOp cause corr uncorr s).but m = s.but m := but_mono hm (linkDownOp_but' cause corr uncorr s)

theorem execLinkDown_but' (cause : Nat) (corr : Nat) (uncorr : Nat) (s : State) : (outOf (execLinkDown cause corr uncorr s) s).but 1049216 = s.but 1049216 := by
  unfold execLinkDown
  repeat' first
  | with_reducible rfl
  | simp (disch := first | exact Or.inr rfl | exact Or.inl rfl | decide) only [↓but_mk, ↓but_ite, ↓but_snd_ite, ↓but_snd_mk, ↓but_snd2_ite, ↓but_snd2_mk, ↓but_cond, ite_self, outOf_live, outOf_next, outOf_ite, ↓linkDownOp_but]
  | split <;> try (with_reducible have h := congrArg Prod.snd ‹(_ : _ × State) = (_, _)›; dsimp only at h; subst h)
  | with_reducible refine (each_but (fun _ _ => ?_) _ _).trans ?_
  | with_reducible refine (whenS_but (fun _ => ?_) _ _).trans ?_
  | with_reducible refine (foldl_but (fun _ _ => ?_) _ _).trans ?_
  | with_reducible refine (foldl_but2 (fun _ _ => ?_) _ _).trans ?_
theorem execLinkDown_but {m} (hm : sub 1049216 m = true) (cause : Nat) (corr : Nat) (uncorr : Nat) (s : State) : (outOf (execLinkDown cause corr uncorr s) s).but m = s.but m := but_mono hm (execLinkDown_but' cause corr uncorr s)

theorem execLinkRateAttempt_but' (s : State) : (outOf (execLinkRateAttempt s) s).but 67109376 = s.but 67109376 := by
  unfold execLinkRateAttempt
  repeat' first
  | with_reducible rfl
  | simp (disch := first | exact Or.inr rfl | exact Or.inl rfl | decide) only [↓but_mk, ↓but_ite, ↓but_snd_ite, ↓but_snd_mk, ↓but_snd2_ite, ↓but_snd2_mk, ↓but_cond, ite_self, outOf_live, outOf_next, outOf_ite, ↓clockTo_but]
  | split <;> try (with_reducible have h := congrArg Prod.snd ‹(_ : _ × State) = (_, _)›; dsimp only at h; subst h)
  | with_reducible refine (each_but (fun _ _ => ?_) _ _).trans ?_
  | with_reducible refine (whenS_but (fun _ => ?_) _ _).trans ?_
  | with_reducible refine (foldl_but (fun _ _ => ?_) _ _).trans ?_
  | with_reducible refine (foldl_but2 (fun _ _ => ?_) _ _).trans ?_
theorem execLinkRateAttempt_but {m} (hm : sub 67109376 m = true) (s : State) : (outOf (execLinkRateAttempt s) s).but m = s.but m := but_mono hm (execLinkRateAttempt_but' s)

theorem regOne_but' (p : PeerRec) (r : Bytes) (s : State) : (regOne p r s).2.but 8657041358 = s.but 8657041358 := by
  unfold regOne
  repeat' first
  | with_reducible rfl
  | simp (disch := first | exact Or.inr rfl | exact Or.inl rfl | decide) only [↓but_mk, ↓but_ite, ↓but_snd_ite, ↓but_snd_mk, ↓but_snd2_ite, ↓but_snd2_mk, ↓but_cond, ite_self, outOf_live, outOf_next, outOf_ite, ↓regRead_but, ↓regWrite_but]
  | split <;> try (with_reducible have h := congrArg Prod.snd ‹(_ : _ × State) = (_, _)›; dsimp only at h; subst h)
  | with_reducible refine (each_but (fun _ _ => ?_) _ _).trans ?_
  | with_reducible refine (whenS_but (fun _ => ?_) _ _).trans ?_
  | with_reducible refine (foldl_but (fun _ _ => ?_) _ _).trans ?_
  | with_reducible refine (foldl_but2 (fun _ _ => ?_) _ _).trans ?_
theorem regOne_but {m} (hm : sub 8657041358 m = true) (p : PeerRec) (r : Bytes) (s : State) : (regOne p r s).2.but m = s.but m := but_mono hm (regOne_but' p r s)

theorem regAll_but' (p : PeerRec) (a1 : List Bytes) (a2 : State) : (regAll p a1 a2).2.but 8657041358 = a2.but 8657041358 := by
  induction a1 generalizing a2 with
  | nil => rfl
  | cons r t ih =>
    rw [regAll]
    dsimp only
    rw [ih, regOne_but (by decide)]
theorem regAll_but {m} (hm : sub 8657041358 m = true) (p : PeerRec) (a1 : List Bytes) (a2 : State) : (regAll p a1 a2).2.but m = a2.but m := but_mono hm (regAll_but' p a1 a2)

theorem regCmd_but' (d : Dgram) (s : State) : (regCmd d s).but 8657041358 = s.but 8657041358 := by
  unfold regCmd
  repeat' first
  | with_reducible rfl
  | simp (disch := first | exact Or.inr rfl | exact Or.inl rfl | decide) only [↓but_mk, ↓but_ite, ↓but_snd_ite, ↓but_snd_mk, ↓but_snd2_ite, ↓but_snd2_mk, ↓but_cond, ite_self, outOf_live, outOf_next, outOf_ite, ↓answer_but, ↓freshWord_but, ↓regAll_but]
  | split <;> try (with_reducible have h := congrArg Prod.snd ‹(_ : _ × State) = (_, _)›; dsimp only at h; subst h)
  | with_reducible refine (each_but (fun _ _ => ?_) _ _).trans ?_
  | with_reducible refine (whenS_but (fun _ => ?_) _ _).trans ?_
  | with_reducible refine (foldl_but (fun _ _ => ?_) _ _).trans ?_
  | with_reducible refine (foldl_but2 (fun _ _ => ?_) _ _).trans ?_
  | with_reducible refine (withRequest_but (by decide) (fun _ _ => ?_) ..).trans ?_
theorem regCmd_but {m} (hm : sub 8657041358 m = true) (d : Dgram) (s : State) : (regCmd d s).but m = s.but m := but_mono hm (regCmd_but' d s)

theorem execReg_but' (d : Dgram) (s : State) : (outOf (execReg d s) s).but 8657041358 = s.but 8657041358 := by
  unfold execReg
  repeat' first
  | with_reducible rfl
  | simp (disch := first | exact Or.inr rfl | exact Or.inl rfl | decide) only [↓but_mk, ↓but_ite, ↓but_snd_ite, ↓but_snd_mk, ↓but_snd2_ite, ↓but_snd2_mk, ↓but_cond, ite_self, outOf_live, outOf_next, outOf_ite, ↓regCmd_but]
  | split <;> try (with_reducible have h := congrArg Prod.snd ‹(_ : _ × State) = (_, _)›; dsimp only at h; subst h)
  | with_reducible refine (each_but (fun _ _ => ?_) _ _).trans ?_
  | with_reducible refine (whenS_but (fun _ => ?_) _ _).trans ?_
  | with_reducible refine (foldl_but (fun _ _ => ?_) _ _).trans ?_
  | with_reducible refine (foldl_but2 (fun _ _ => ?_) _ _).trans ?_
theorem execReg_but {m} (hm : sub 8657041358 m = true) (d : Dgram) (s : State) : (outOf (execReg d s) s).but m = s.but m := but_mono hm (execReg_but' d s)

theorem bulkPut_but' (a : Nat) (data : Bytes) (s : State) : (bulkPut a data s).but 50331648 = s.but 50331648 := by
  unfold bulkPut
  repeat' first
  | with_reducible rfl
  | simp (disch := first | exact Or.inr rfl | exact Or.inl rfl | decide) only [↓but_mk, ↓but_ite, ↓but_snd_ite, ↓but_snd_mk, ↓but_snd2_ite, ↓but_snd2_mk, ↓but_cond, ite_self, outOf_live, outOf_next, outOf_ite, ↓hbmPut_but]
  | split <;> try (with_reducible have h := congrArg Prod.snd ‹(_ : _ × State) = (_, _)›; dsimp only at h; subst h)
  | with_reducible refine (each_but (fun _ _ => ?_) _ _).trans ?_
  | with_reducible refine (whenS_but (fun _ => ?_) _ _).trans ?_
  | with_reducible refine (foldl_but (fun _ _ => ?_) _ _).trans ?_
  | with_reducible refine (foldl_but2 (fun _ _ => ?_) _ _).trans ?_
theorem bulkPut_but {m} (hm : sub 50331648 m = true) (a : Nat) (data : Bytes) (s : State) : (bulkPut a data s).but m = s.but m := but_mono hm (bulkPut_but' a data s)

theorem bulkWriteOp_but' (d : Dgram) (s : State) : (bulkWriteOp d s).but 59774592 = s.but 59774592 := by
  unfold bulkWriteOp
  repeat' first
  | with_reducible rfl
  | simp (disch := first | exact Or.inr rfl | exact Or.inl rfl | decide) only [↓but_mk, ↓but_ite, ↓but_snd_ite, ↓but_snd_mk, ↓but_snd2_ite, ↓but_snd2_mk, ↓but_cond, ite_self, outOf_live, outOf_next, outOf_ite, ↓accept_but, ↓bulkPut_but]
  | split <;> try (with_reducible have h := congrArg Prod.snd ‹(_ : _ × State) = (_, _)›; dsimp only at h; subst h)
  | with_reducible refine (each_but (fun _ _ => ?_) _ _).trans ?_
  | with_reducible refine (whenS_but (fun _ => ?_) _ _).trans ?_
  | with_reducible refine (foldl_but (fun _ _ => ?_) _ _).trans ?_
  | with_reducible refine (foldl_but2 (fun _ _ => ?_) _ _).trans ?_
theorem bulkWriteOp_but {m} (hm : sub 59774592 m = true) (d : Dgram) (s : State) : (bulkWriteOp d s).but m = s.but m := but_mono hm (bulkWriteOp_but' d s)

theorem execBulkWrite_but' (d : Dgram) (s : State) : (outOf (execBulkWrite d s) s).but 59774592 = s.but 59774592 := by
  unfold execBulkWrite
  repeat' first
  | with_reducible rfl
  | simp (disch := first | exact Or.inr rfl | exact Or.inl rfl | decide) only [↓but_mk, ↓but_ite, ↓but_snd_ite, ↓but_snd_mk, ↓but_snd2_ite, ↓but_snd2_mk, ↓but_cond, ite_self, outOf_live, outOf_next, outOf_ite, ↓bulkWriteOp_but]
  | split <;> try (with_reducible have h := congrArg Prod.snd ‹(_ : _ × State) = (_, _)›; dsimp only at h; subst h)
  | with_reducible refine (each_but (fun _ _ => ?_) _ _).trans ?_
  | with_reducible refine (whenS_but (fun _ => ?_) _ _).trans ?_
  | with_reducible refine (foldl_but (fun _ _ => ?_) _ _).trans ?_
  | with_reducible refine (foldl_but2 (fun _ _ => ?_) _ _).trans ?_
theorem execBulkWrite_but {m} (hm : sub 59774592 m = true) (d : Dgram) (s : State) : (outOf (execBulkWrite d s) s).but m = s.but m := but_mono hm (execBulkWrite_but' d s)

theorem bulkStatusOp_but' (d : Dgram) (s : State) : (bulkStatusOp d s).but 9442944 = s.but 9442944 := by
  unfold bulkStatusOp
  repeat' first
  | with_reducible rfl
  | simp (disch := first | exact Or.inr rfl | exact Or.inl rfl | decide) only [↓but_mk, ↓but_ite, ↓but_snd_ite, ↓but_snd_mk, ↓but_snd2_ite, ↓but_snd2_mk, ↓but_cond, ite_self, outOf_live, outOf_next, outOf_ite, ↓answer_but, ↓xferDenied_but]
  | split <;> try (with_reducible have h := congrArg Prod.snd ‹(_ : _ × State) = (_, _)›; dsimp only at h; subst h)
  | with_reducible refine (each_but (fun _ _ => ?_) _ _).trans ?_
  | with_reducible refine (whenS_but (fun _ => ?_) _ _).trans ?_
  | with_reducible refine (foldl_but (fun _ _ => ?_) _ _).trans ?_
  | with_reducible refine (foldl_but2 (fun _ _ => ?_) _ _).trans ?_
  | with_reducible refine (withRequest_but (by decide) (fun _ _ => ?_) ..).trans ?_
theorem bulkStatusOp_but {m} (hm : sub 9442944 m = true) (d : Dgram) (s : State) : (bulkStatusOp d s).but m = s.but m := but_mono hm (bulkStatusOp_but' d s)

theorem execBulkStatus_but' (d : Dgram) (s : State) : (outOf (execBulkStatus d s) s).but 9442944 = s.but 9442944 := by
  unfold execBulkStatus
  repeat' first
  | with_reducible rfl
  | simp (disch := first | exact Or.inr rfl | exact Or.inl rfl | decide) only [↓but_mk, ↓but_ite, ↓but_snd_ite, ↓but_snd_mk, ↓but_snd2_ite, ↓but_snd2_mk, ↓but_cond, ite_self, outOf_live, outOf_next, outOf_ite, ↓bulkStatusOp_but]
  | split <;> try (with_reducible have h := congrArg Prod.snd ‹(_ : _ × State) = (_, _)›; dsimp only at h; subst h)
  | with_reducible refine (each_but (fun _ _ => ?_) _ _).trans ?_
  | with_reducible refine (whenS_but (fun _ => ?_) _ _).trans ?_
  | with_reducible refine (foldl_but (fun _ _ => ?_) _ _).trans ?_
  | with_reducible refine (foldl_but2 (fun _ _ => ?_) _ _).trans ?_
theorem execBulkStatus_but {m} (hm : sub 9442944 m = true) (d : Dgram) (s : State) : (outOf (execBulkStatus d s) s).but m = s.but m := but_mono hm (execBulkStatus_but' d s)

theorem bulkWords_but' (a1 : Nat) (a2 : Nat) (a3 : State) : (bulkWords a1 a2 a3).2.2.but 8596174340 = a3.but 8596174340 := by
  induction a1 generalizing a2 a3 with
  | zero => rfl
  | succ n ih =>
    rw [bulkWords]
    dsimp only
    rw [ih, regRead_but (by decide)]
theorem bulkWords_but {m} (hm : sub 8596174340 m = true) (a1 : Nat) (a2 : Nat) (a3 : State) : (bulkWords a1 a2 a3).2.2.but m = a3.but m := but_mono hm (bulkWords_but' a1 a2 a3)

theorem bulkFrags_but' (d : Dgram) (a : Nat) (n : Nat) (total : Nat) (a1 : Nat) (a2 : Nat) (a3 : State) : (bulkFrags d a n total a1 a2 a3).2.but 8596174340 = a3.but 8596174340 := by
  induction a1 generalizing a2 a3 with
  | zero => rfl
  | succ k ih =>
    rw [bulkFrags]
    dsimp only
    rw [ih, bulkWords_but (by decide)]
theorem bulkFrags_but {m} (hm : sub 8596174340 m = true) (d : Dgram) (a : Nat) (n : Nat) (total : Nat) (a1 : Nat) (a2 : Nat) (a3 : State) : (bulkFrags d a n total a1 a2 a3).2.but m = a3.but m := but_mono hm (bulkFrags_but' d a n total a1 a2 a3)

theorem bulkReadOp_but' (d : Dgram) (s : State) : (bulkReadOp d s).but 8604563076 = s.but 8604563076 := by
  unfold bulkReadOp
  repeat' first
  | with_reducible rfl
  | simp (disch := first | exact Or.inr rfl | exact Or.inl rfl | decide) only [↓but_mk, ↓but_ite, ↓but_snd_ite, ↓but_snd_mk, ↓but_snd2_ite, ↓but_snd2_mk, ↓but_cond, ite_self, outOf_live, outOf_next, outOf_ite, ↓answer_but, ↓bulkFrags_but, ↓answerWith_but]
  | split <;> try (with_reducible have h := congrArg Prod.snd ‹(_ : _ × State) = (_, _)›; dsimp only at h; subst h)
  | with_reducible refine (each_but (fun _ _ => ?_) _ _).trans ?_
  | with_reducible refine (whenS_but (fun _ => ?_) _ _).trans ?_
  | with_reducible refine (foldl_but (fun _ _ => ?_) _ _).trans ?_
  | with_reducible refine (foldl_but2 (fun _ _ => ?_) _ _).trans ?_
  | with_reducible refine (withRequest_but (by decide) (fun _ _ => ?_) ..).trans ?_
theorem bulkReadOp_but {m} (hm : sub 8604563076 m = true) (d : Dgram) (s : State) : (bulkReadOp d s).but m = s.but m := but_mono hm (bulkReadOp_but' d s)

theorem execBulkRead_but' (d : Dgram) (s : State) : (outOf (execBulkRead d s) s).but 8604563076 = s.but 8604563076 := by
  unfold execBulkRead
  repeat' first
  | with_reducible rfl
  | simp (disch := first | exact Or.inr rfl | exact Or.inl rfl | decide) only [↓but_mk, ↓but_ite, ↓but_snd_ite, ↓but_snd_mk, ↓but_snd2_ite, ↓but_snd2_mk, ↓but_cond, ite_self, outOf_live, outOf_next, outOf_ite, ↓bulkReadOp_but]
  | split <;> try (with_reducible have h := congrArg Prod.snd ‹(_ : _ × State) = (_, _)›; dsimp only at h; subst h)
  | with_reducible refine (each_but (fun _ _ => ?_) _ _).trans ?_
  | with_reducible refine (whenS_but (fun _ => ?_) _ _).trans ?_
  | with_reducible refine (foldl_but (fun _ _ => ?_) _ _).trans ?_
  | with_reducible refine (foldl_but2 (fun _ _ => ?_) _ _).trans ?_
theorem execBulkRead_but {m} (hm : sub 8604563076 m = true) (d : Dgram) (s : State) : (outOf (execBulkRead d s) s).but m = s.but m := but_mono hm (execBulkRead_but' d s)

theorem doorbellRun_but' (p : Nat) (d : Dgram) (s : State) : (doorbellRun p d s).2.2.but 9441920 = s.but 9441920 := by
  unfold doorbellRun
  repeat' first
  | with_reducible rfl
  | simp (disch := first | exact Or.inr rfl | exact Or.inl rfl | decide) only [↓but_mk, ↓but_ite, ↓but_snd_ite, ↓but_snd_mk, ↓but_snd2_ite, ↓but_snd2_mk, ↓but_cond, ite_self, outOf_live, outOf_next, outOf_ite, ↓scApply_but]
  | split <;> try (with_reducible have h := congrArg Prod.snd ‹(_ : _ × State) = (_, _)›; dsimp only at h; subst h)
  | with_reducible refine (each_but (fun _ _ => ?_) _ _).trans ?_
  | with_reducible refine (whenS_but (fun _ => ?_) _ _).trans ?_
  | with_reducible refine (foldl_but (fun _ _ => ?_) _ _).trans ?_
  | with_reducible refine (foldl_but2 (fun _ _ => ?_) _ _).trans ?_
theorem doorbellRun_but {m} (hm : sub 9441920 m = true) (p : Nat) (d : Dgram) (s : State) : (doorbellRun p d s).2.2.but m = s.but m := but_mono hm (doorbellRun_but' p d s)

theorem doorbellOp_but' (d : Dgram) (s : State) : (doorbellOp d s).but 9442944 = s.but 9442944 := by
  unfold doorbellOp
  repeat' first
  | with_reducible rfl
  | simp (disch := first | exact Or.inr rfl | exact Or.inl rfl | decide) only [↓but_mk, ↓but_ite, ↓but_snd_ite, ↓but_snd_mk, ↓but_snd2_ite, ↓but_snd2_mk, ↓but_cond, ite_self, outOf_live, outOf_next, outOf_ite, ↓answer_but, ↓xferDenied_but, ↓doorbellRun_but, ↓settleMsgs_but, ↓forgetXfer_but, ↓sendAck_but]
  | split <;> try (with_reducible have h := congrArg Prod.snd ‹(_ : _ × State) = (_, _)›; dsimp only at h; subst h)
  | with_reducible refine (each_but (fun _ _ => ?_) _ _).trans ?_
  | with_reducible refine (whenS_but (fun _ => ?_) _ _).trans ?_
  | with_reducible refine (foldl_but (fun _ _ => ?_) _ _).trans ?_
  | with_reducible refine (foldl_but2 (fun _ _ => ?_) _ _).trans ?_
  | with_reducible refine (withRequest_but (by decide) (fun _ _ => ?_) ..).trans ?_
theorem doorbellOp_but {m} (hm : sub 9442944 m = true) (d : Dgram) (s : State) : (doorbellOp d s).but m = s.but m := but_mono hm (doorbellOp_but' d s)

theorem execDoorbell_but' (d : Dgram) (s : State) : (outOf (execDoorbell d s) s).but 9442944 = s.but 9442944 := by
  unfold execDoorbell
  repeat' first
  | with_reducible rfl
  | simp (disch := first | exact Or.inr rfl | exact Or.inl rfl | decide) only [↓but_mk, ↓but_ite, ↓but_snd_ite, ↓but_snd_mk, ↓but_snd2_ite, ↓but_snd2_mk, ↓but_cond, ite_self, outOf_live, outOf_next, outOf_ite, ↓doorbellOp_but]
  | split <;> try (with_reducible have h := congrArg Prod.snd ‹(_ : _ × State) = (_, _)›; dsimp only at h; subst h)
  | with_reducible refine (each_but (fun _ _ => ?_) _ _).trans ?_
  | with_reducible refine (whenS_but (fun _ => ?_) _ _).trans ?_
  | with_reducible refine (foldl_but (fun _ _ => ?_) _ _).trans ?_
  | with_reducible refine (foldl_but2 (fun _ _ => ?_) _ _).trans ?_
theorem execDoorbell_but {m} (hm : sub 9442944 m = true) (d : Dgram) (s : State) : (outOf (execDoorbell d s) s).but m = s.but m := but_mono hm (execDoorbell_but' d s)

theorem answerAs_but' (who : Option (PeerRec × Nat)) (d : Dgram) (res : CmdRes) (s : State) : (answerAs who d res s).but 8390144 = s.but 8390144 := by
  unfold answerAs
  repeat' first
  | with_reducible rfl
  | simp (disch := first | exact Or.inr rfl | exact Or.inl rfl | decide) only [↓but_mk, ↓but_ite, ↓but_snd_ite, ↓but_snd_mk, ↓but_snd2_ite, ↓but_snd2_mk, ↓but_cond, ite_self, outOf_live, outOf_next, outOf_ite, ↓tagAnswer_but]
  | split <;> try (with_reducible have h := congrArg Prod.snd ‹(_ : _ × State) = (_, _)›; dsimp only at h; subst h)
  | with_reducible refine (each_but (fun _ _ => ?_) _ _).trans ?_
  | with_reducible refine (whenS_but (fun _ => ?_) _ _).trans ?_
  | with_reducible refine (foldl_but (fun _ _ => ?_) _ _).trans ?_
  | with_reducible refine (foldl_but2 (fun _ _ => ?_) _ _).trans ?_
theorem answerAs_but {m} (hm : sub 8390144 m = true) (who : Option (PeerRec × Nat)) (d : Dgram) (res : CmdRes) (s : State) : (answerAs who d res s).but m = s.but m := but_mono hm (answerAs_but' who d res s)

theorem forgetTook_but' (w : WaitSig) (ok : Bool) (s : State) : (forgetTook w ok s).but 512 = s.but 512 := by
  unfold forgetTook
  repeat' first
  | with_reducible rfl
  | simp (disch := first | exact Or.inr rfl | exact Or.inl rfl | decide) only [↓but_mk, ↓but_ite, ↓but_snd_ite, ↓but_snd_mk, ↓but_snd2_ite, ↓but_snd2_mk, ↓but_cond, ite_self, outOf_live, outOf_next, outOf_ite, ↓forgetXfer_but]
  | split <;> try (with_reducible have h := congrArg Prod.snd ‹(_ : _ × State) = (_, _)›; dsimp only at h; subst h)
  | with_reducible refine (each_but (fun _ _ => ?_) _ _).trans ?_
  | with_reducible refine (whenS_but (fun _ => ?_) _ _).trans ?_
  | with_reducible refine (foldl_but (fun _ _ => ?_) _ _).trans ?_
  | with_reducible refine (foldl_but2 (fun _ _ => ?_) _ _).trans ?_
theorem forgetTook_but {m} (hm : sub 512 m = true) (w : WaitSig) (ok : Bool) (s : State) : (forgetTook w ok s).but m = s.but m := but_mono hm (forgetTook_but' w ok s)

theorem runSignal_but' (w : WaitSig) (s : State) : (runSignal w s).but 16938172122 = s.but 16938172122 := by
  unfold runSignal
  repeat' first
  | with_reducible rfl
  | simp (disch := first | exact Or.inr rfl | exact Or.inl rfl | decide) only [↓but_mk, ↓but_ite, ↓but_snd_ite, ↓but_snd_mk, ↓but_snd2_ite, ↓but_snd2_mk, ↓but_cond, ite_self, outOf_live, outOf_next, outOf_ite, ↓scApply_but, ↓fullEnds_but, ↓deliver_but, ↓forgetTook_but, ↓doorbellRun_but, ↓answer_but, ↓activateRun_but, ↓reknitRun_but, ↓commitRun_but, ↓answerAs_but]
  | split <;> try (with_reducible have h := congrArg Prod.snd ‹(_ : _ × State) = (_, _)›; dsimp only at h; subst h)
  | with_reducible refine (each_but (fun _ _ => ?_) _ _).trans ?_
  | with_reducible refine (whenS_but (fun _ => ?_) _ _).trans ?_
  | with_reducible refine (foldl_but (fun _ _ => ?_) _ _).trans ?_
  | with_reducible refine (foldl_but2 (fun _ _ => ?_) _ _).trans ?_
theorem runSignal_but {m} (hm : sub 16938172122 m = true) (w : WaitSig) (s : State) : (runSignal w s).but m = s.but m := but_mono hm (runSignal_but' w s)

theorem dataComplete_but' (peer : Nat) (xfer : Nat) (s : State) : (dataComplete peer xfer s).but 16938172122 = s.but 16938172122 := by
  unfold dataComplete
  repeat' first
  | with_reducible rfl
  | simp (disch := first | exact Or.inr rfl | exact Or.inl rfl | decide) only [↓but_mk, ↓but_ite, ↓but_snd_ite, ↓but_snd_mk, ↓but_snd2_ite, ↓but_snd2_mk, ↓but_cond, ite_self, outOf_live, outOf_next, outOf_ite, ↓settleMsgs_but, ↓runSignal_but]
  | split <;> try (with_reducible have h := congrArg Prod.snd ‹(_ : _ × State) = (_, _)›; dsimp only at h; subst h)
  | with_reducible refine (each_but (fun _ _ => ?_) _ _).trans ?_
  | with_reducible refine (whenS_but (fun _ => ?_) _ _).trans ?_
  | with_reducible refine (foldl_but (fun _ _ => ?_) _ _).trans ?_
  | with_reducible refine (foldl_but2 (fun _ _ => ?_) _ _).trans ?_
theorem dataComplete_but {m} (hm : sub 16938172122 m = true) (peer : Nat) (xfer : Nat) (s : State) : (dataComplete peer xfer s).but m = s.but m := but_mono hm (dataComplete_but' peer xfer s)

theorem lateSignal_but' (w : WaitSig) (s : State) : (lateSignal w s).but 9442944 = s.but 9442944 := by
  unfold lateSignal
  repeat' first
  | with_reducible rfl
  | simp (disch := first | exact Or.inr rfl | exact Or.inl rfl | decide) only [↓but_mk, ↓but_ite, ↓but_snd_ite, ↓but_snd_mk, ↓but_snd2_ite, ↓but_snd2_mk, ↓but_cond, ite_self, outOf_live, outOf_next, outOf_ite, ↓emit_but, ↓deliver_but, ↓fullEnds_but, ↓answer_but, ↓answerAs_but]
  | split <;> try (with_reducible have h := congrArg Prod.snd ‹(_ : _ × State) = (_, _)›; dsimp only at h; subst h)
  | with_reducible refine (each_but (fun _ _ => ?_) _ _).trans ?_
  | with_reducible refine (whenS_but (fun _ => ?_) _ _).trans ?_
  | with_reducible refine (foldl_but (fun _ _ => ?_) _ _).trans ?_
  | with_reducible refine (foldl_but2 (fun _ _ => ?_) _ _).trans ?_
theorem lateSignal_but {m} (hm : sub 9442944 m = true) (w : WaitSig) (s : State) : (lateSignal w s).but m = s.but m := but_mono hm (lateSignal_but' w s)

theorem dataLateOp_but' (peer : Nat) (xfer : Nat) (s : State) : (dataLateOp peer xfer s).but 9442944 = s.but 9442944 := by
  unfold dataLateOp
  repeat' first
  | with_reducible rfl
  | simp (disch := first | exact Or.inr rfl | exact Or.inl rfl | decide) only [↓but_mk, ↓but_ite, ↓but_snd_ite, ↓but_snd_mk, ↓but_snd2_ite, ↓but_snd2_mk, ↓but_cond, ite_self, outOf_live, outOf_next, outOf_ite, ↓settleMsgs_but, ↓lateSignal_but]
  | split <;> try (with_reducible have h := congrArg Prod.snd ‹(_ : _ × State) = (_, _)›; dsimp only at h; subst h)
  | with_reducible refine (each_but (fun _ _ => ?_) _ _).trans ?_
  | with_reducible refine (whenS_but (fun _ => ?_) _ _).trans ?_
  | with_reducible refine (foldl_but (fun _ _ => ?_) _ _).trans ?_
  | with_reducible refine (foldl_but2 (fun _ _ => ?_) _ _).trans ?_
theorem dataLateOp_but {m} (hm : sub 9442944 m = true) (peer : Nat) (xfer : Nat) (s : State) : (dataLateOp peer xfer s).but m = s.but m := but_mono hm (dataLateOp_but' peer xfer s)

theorem execTransferForgotten_but' (peer : Nat) (xfer : Nat) (s : State) : (outOf (execTransferForgotten peer xfer s) s).but 67109376 = s.but 67109376 := by
  unfold execTransferForgotten
  repeat' first
  | with_reducible rfl
  | simp (disch := first | exact Or.inr rfl | exact Or.inl rfl | decide) only [↓but_mk, ↓but_ite, ↓but_snd_ite, ↓but_snd_mk, ↓but_snd2_ite, ↓but_snd2_mk, ↓but_cond, ite_self, outOf_live, outOf_next, outOf_ite, ↓forgetXfer_but, ↓clockTo_but]
  | split <;> try (with_reducible have h := congrArg Prod.snd ‹(_ : _ × State) = (_, _)›; dsimp only at h; subst h)
  | with_reducible refine (each_but (fun _ _ => ?_) _ _).trans ?_
  | with_reducible refine (whenS_but (fun _ => ?_) _ _).trans ?_
  | with_reducible refine (foldl_but (fun _ _ => ?_) _ _).trans ?_
  | with_reducible refine (foldl_but2 (fun _ _ => ?_) _ _).trans ?_
theorem execTransferForgotten_but {m} (hm : sub 67109376 m = true) (peer : Nat) (xfer : Nat) (s : State) : (outOf (execTransferForgotten peer xfer s) s).but m = s.but m := but_mono hm (execTransferForgotten_but' peer xfer s)

theorem notifyPeer_but' (p : Nat) (s : State) : (notifyPeer p s).but 8389120 = s.but 8389120 := by
  unfold notifyPeer
  repeat' first
  | with_reducible rfl
  | simp (disch := first | exact Or.inr rfl | exact Or.inl rfl | decide) only [↓but_mk, ↓but_ite, ↓but_snd_ite, ↓but_snd_mk, ↓but_snd2_ite, ↓but_snd2_mk, ↓but_cond, ite_self, outOf_live, outOf_next, outOf_ite, ↓request_but]
  | split <;> try (with_reducible have h := congrArg Prod.snd ‹(_ : _ × State) = (_, _)›; dsimp only at h; subst h)
  | with_reducible refine (each_but (fun _ _ => ?_) _ _).trans ?_
  | with_reducible refine (whenS_but (fun _ => ?_) _ _).trans ?_
  | with_reducible refine (foldl_but (fun _ _ => ?_) _ _).trans ?_
  | with_reducible refine (foldl_but2 (fun _ _ => ?_) _ _).trans ?_
theorem notifyPeer_but {m} (hm : sub 8389120 m = true) (p : Nat) (s : State) : (notifyPeer p s).but m = s.but m := but_mono hm (notifyPeer_but' p s)

theorem execNotify_but' (s : State) : (outOf (execNotify s) s).but 75497984 = s.but 75497984 := by
  unfold execNotify
  repeat' first
  | with_reducible rfl
  | simp (disch := first | exact Or.inr rfl | exact Or.inl rfl | decide) only [↓but_mk, ↓but_ite, ↓but_snd_ite, ↓but_snd_mk, ↓but_snd2_ite, ↓but_snd2_mk, ↓but_cond, ite_self, outOf_live, outOf_next, outOf_ite, ↓notifyPeer_but, ↓clockTo_but]
  | split <;> try (with_reducible have h := congrArg Prod.snd ‹(_ : _ × State) = (_, _)›; dsimp only at h; subst h)
  | with_reducible refine (each_but (fun _ _ => ?_) _ _).trans ?_
  | with_reducible refine (whenS_but (fun _ => ?_) _ _).trans ?_
  | with_reducible refine (foldl_but (fun _ _ => ?_) _ _).trans ?_
  | with_reducible refine (foldl_but2 (fun _ _ => ?_) _ _).trans ?_
theorem execNotify_but {m} (hm : sub 75497984 m = true) (s : State) : (outOf (execNotify s) s).but m = s.but m := but_mono hm (execNotify_but' s)

theorem retransmitOp_but' (peer : Nat) (xid : Nat) (s : State) : (retransmitOp peer xid s).but 76550784 = s.but 76550784 := by
  unfold retransmitOp
  repeat' first
  | with_reducible rfl
  | simp (disch := first | exact Or.inr rfl | exact Or.inl rfl | decide) only [↓but_mk, ↓but_ite, ↓but_snd_ite, ↓but_snd_mk, ↓but_snd2_ite, ↓but_snd2_mk, ↓but_cond, ite_self, outOf_live, outOf_next, outOf_ite, ↓clockTo_but, ↓sendDgram_but, ↓flushNotify_but, ↓emit_but]
  | split <;> try (with_reducible have h := congrArg Prod.snd ‹(_ : _ × State) = (_, _)›; dsimp only at h; subst h)
  | with_reducible refine (each_but (fun _ _ => ?_) _ _).trans ?_
  | with_reducible refine (whenS_but (fun _ => ?_) _ _).trans ?_
  | with_reducible refine (foldl_but (fun _ _ => ?_) _ _).trans ?_
  | with_reducible refine (foldl_but2 (fun _ _ => ?_) _ _).trans ?_
theorem retransmitOp_but {m} (hm : sub 76550784 m = true) (peer : Nat) (xid : Nat) (s : State) : (retransmitOp peer xid s).but m = s.but m := but_mono hm (retransmitOp_but' peer xid s)

theorem execRetransmit_but' (peer : Nat) (xid : Nat) (s : State) : (outOf (execRetransmit peer xid s) s).but 76550784 = s.but 76550784 := by
  unfold execRetransmit
  repeat' first
  | with_reducible rfl
  | simp (disch := first | exact Or.inr rfl | exact Or.inl rfl | decide) only [↓but_mk, ↓but_ite, ↓but_snd_ite, ↓but_snd_mk, ↓but_snd2_ite, ↓but_snd2_mk, ↓but_cond, ite_self, outOf_live, outOf_next, outOf_ite, ↓retransmitOp_but]
  | split <;> try (with_reducible have h := congrArg Prod.snd ‹(_ : _ × State) = (_, _)›; dsimp only at h; subst h)
  | with_reducible refine (each_but (fun _ _ => ?_) _ _).trans ?_
  | with_reducible refine (whenS_but (fun _ => ?_) _ _).trans ?_
  | with_reducible refine (foldl_but (fun _ _ => ?_) _ _).trans ?_
  | with_reducible refine (foldl_but2 (fun _ _ => ?_) _ _).trans ?_
theorem execRetransmit_but {m} (hm : sub 76550784 m = true) (peer : Nat) (xid : Nat) (s : State) : (outOf (execRetransmit peer xid s) s).but m = s.but m := but_mono hm (execRetransmit_but' peer xid s)

theorem ackOp_but' (d : Dgram) (s : State) : (ackOp d s).but 9442944 = s.but 9442944 := by
  unfold ackOp
  repeat' first
  | with_reducible rfl
  | simp (disch := first | exact Or.inr rfl | exact Or.inl rfl | decide) only [↓but_mk, ↓but_ite, ↓but_snd_ite, ↓but_snd_mk, ↓but_snd2_ite, ↓but_snd2_mk, ↓but_cond, ite_self, outOf_live, outOf_next, outOf_ite, ↓accept_but, ↓flushNotify_but]
  | split <;> try (with_reducible have h := congrArg Prod.snd ‹(_ : _ × State) = (_, _)›; dsimp only at h; subst h)
  | with_reducible refine (each_but (fun _ _ => ?_) _ _).trans ?_
  | with_reducible refine (whenS_but (fun _ => ?_) _ _).trans ?_
  | with_reducible refine (foldl_but (fun _ _ => ?_) _ _).trans ?_
  | with_reducible refine (foldl_but2 (fun _ _ => ?_) _ _).trans ?_
theorem ackOp_but {m} (hm : sub 9442944 m = true) (d : Dgram) (s : State) : (ackOp d s).but m = s.but m := but_mono hm (ackOp_but' d s)

theorem execAck_but' (d : Dgram) (s : State) : (outOf (execAck d s) s).but 9442944 = s.but 9442944 := by
  unfold execAck
  repeat' first
  | with_reducible rfl
  | simp (disch := first | exact Or.inr rfl | exact Or.inl rfl | decide) only [↓but_mk, ↓but_ite, ↓but_snd_ite, ↓but_snd_mk, ↓but_snd2_ite, ↓but_snd2_mk, ↓but_cond, ite_self, outOf_live, outOf_next, outOf_ite, ↓ackOp_but]
  | split <;> try (with_reducible have h := congrArg Prod.snd ‹(_ : _ × State) = (_, _)›; dsimp only at h; subst h)
  | with_reducible refine (each_but (fun _ _ => ?_) _ _).trans ?_
  | with_reducible refine (whenS_but (fun _ => ?_) _ _).trans ?_
  | with_reducible refine (foldl_but (fun _ _ => ?_) _ _).trans ?_
  | with_reducible refine (foldl_but2 (fun _ _ => ?_) _ _).trans ?_
theorem execAck_but {m} (hm : sub 9442944 m = true) (d : Dgram) (s : State) : (outOf (execAck d s) s).but m = s.but m := but_mono hm (execAck_but' d s)

theorem attestCmd_but' (d : Dgram) (s : State) : (attestCmd d s).but 9442944 = s.but 9442944 := by
  unfold attestCmd
  repeat' first
  | with_reducible rfl
  | simp (disch := first | exact Or.inr rfl | exact Or.inl rfl | decide) only [↓but_mk, ↓but_ite, ↓but_snd_ite, ↓but_snd_mk, ↓but_snd2_ite, ↓but_snd2_mk, ↓but_cond, ite_self, outOf_live, outOf_next, outOf_ite, ↓answer_but, ↓emit_but, ↓answerWith_but]
  | split <;> try (with_reducible have h := congrArg Prod.snd ‹(_ : _ × State) = (_, _)›; dsimp only at h; subst h)
  | with_reducible refine (each_but (fun _ _ => ?_) _ _).trans ?_
  | with_reducible refine (whenS_but (fun _ => ?_) _ _).trans ?_
  | with_reducible refine (foldl_but (fun _ _ => ?_) _ _).trans ?_
  | with_reducible refine (foldl_but2 (fun _ _ => ?_) _ _).trans ?_
  | with_reducible refine (withRequest_but (by decide) (fun _ _ => ?_) ..).trans ?_
theorem attestCmd_but {m} (hm : sub 9442944 m = true) (d : Dgram) (s : State) : (attestCmd d s).but m = s.but m := but_mono hm (attestCmd_but' d s)

theorem execAttestReport_but' (d : Dgram) (s : State) : (outOf (execAttestReport d s) s).but 9442944 = s.but 9442944 := by
  unfold execAttestReport
  repeat' first
  | with_reducible rfl
  | simp (disch := first | exact Or.inr rfl | exact Or.inl rfl | decide) only [↓but_mk, ↓but_ite, ↓but_snd_ite, ↓but_snd_mk, ↓but_snd2_ite, ↓but_snd2_mk, ↓but_cond, ite_self, outOf_live, outOf_next, outOf_ite, ↓attestCmd_but]
  | split <;> try (with_reducible have h := congrArg Prod.snd ‹(_ : _ × State) = (_, _)›; dsimp only at h; subst h)
  | with_reducible refine (each_but (fun _ _ => ?_) _ _).trans ?_
  | with_reducible refine (whenS_but (fun _ => ?_) _ _).trans ?_
  | with_reducible refine (foldl_but (fun _ _ => ?_) _ _).trans ?_
  | with_reducible refine (foldl_but2 (fun _ _ => ?_) _ _).trans ?_
theorem execAttestReport_but {m} (hm : sub 9442944 m = true) (d : Dgram) (s : State) : (outOf (execAttestReport d s) s).but m = s.but m := but_mono hm (execAttestReport_but' d s)

theorem execAttestChain_but' (d : Dgram) (s : State) : (outOf (execAttestChain d s) s).but 9442944 = s.but 9442944 := by
  unfold execAttestChain
  repeat' first
  | with_reducible rfl
  | simp (disch := first | exact Or.inr rfl | exact Or.inl rfl | decide) only [↓but_mk, ↓but_ite, ↓but_snd_ite, ↓but_snd_mk, ↓but_snd2_ite, ↓but_snd2_mk, ↓but_cond, ite_self, outOf_live, outOf_next, outOf_ite, ↓attestCmd_but]
  | split <;> try (with_reducible have h := congrArg Prod.snd ‹(_ : _ × State) = (_, _)›; dsimp only at h; subst h)
  | with_reducible refine (each_but (fun _ _ => ?_) _ _).trans ?_
  | with_reducible refine (whenS_but (fun _ => ?_) _ _).trans ?_
  | with_reducible refine (foldl_but (fun _ _ => ?_) _ _).trans ?_
  | with_reducible refine (foldl_but2 (fun _ _ => ?_) _ _).trans ?_
theorem execAttestChain_but {m} (hm : sub 9442944 m = true) (d : Dgram) (s : State) : (outOf (execAttestChain d s) s).but m = s.but m := but_mono hm (execAttestChain_but' d s)

theorem keySetKern_but' (d : Dgram) (p : PeerRec) (a1 : Nat) (args : Bytes) (s : State) : (keySetKern d p a1 args s).2.but 1050240 = s.but 1050240 := by
  unfold keySetKern
  repeat' first
  | with_reducible rfl
  | simp (disch := first | exact Or.inr rfl | exact Or.inl rfl | decide) only [↓but_mk, ↓but_ite, ↓but_snd_ite, ↓but_snd_mk, ↓but_snd2_ite, ↓but_snd2_mk, ↓but_cond, ite_self, outOf_live, outOf_next, outOf_ite, ↓emit_but]
  | split <;> try (with_reducible have h := congrArg Prod.snd ‹(_ : _ × State) = (_, _)›; dsimp only at h; subst h)
  | with_reducible refine (each_but (fun _ _ => ?_) _ _).trans ?_
  | with_reducible refine (whenS_but (fun _ => ?_) _ _).trans ?_
  | with_reducible refine (foldl_but (fun _ _ => ?_) _ _).trans ?_
  | with_reducible refine (foldl_but2 (fun _ _ => ?_) _ _).trans ?_
theorem keySetKern_but {m} (hm : sub 1050240 m = true) (d : Dgram) (p : PeerRec) (a1 : Nat) (args : Bytes) (s : State) : (keySetKern d p a1 args s).2.but m = s.but m := but_mono hm (keySetKern_but' d p a1 args s)

theorem execKeySet_but' (d : Dgram) (s : State) : (outOf (execKeySet d s) s).but 9442944 = s.but 9442944 := by
  unfold execKeySet
  repeat' first
  | with_reducible rfl
  | simp (disch := first | exact Or.inr rfl | exact Or.inl rfl | decide) only [↓but_mk, ↓but_ite, ↓but_snd_ite, ↓but_snd_mk, ↓but_snd2_ite, ↓but_snd2_mk, ↓but_cond, ite_self, outOf_live, outOf_next, outOf_ite, ↓keySetKern_but]
  | split <;> try (with_reducible have h := congrArg Prod.snd ‹(_ : _ × State) = (_, _)›; dsimp only at h; subst h)
  | with_reducible refine (each_but (fun _ _ => ?_) _ _).trans ?_
  | with_reducible refine (whenS_but (fun _ => ?_) _ _).trans ?_
  | with_reducible refine (foldl_but (fun _ _ => ?_) _ _).trans ?_
  | with_reducible refine (foldl_but2 (fun _ _ => ?_) _ _).trans ?_
  | with_reducible refine (critical_but (by decide) (fun _ _ _ _ => ?_) ..).trans ?_
theorem execKeySet_but {m} (hm : sub 9442944 m = true) (d : Dgram) (s : State) : (outOf (execKeySet d s) s).but m = s.but m := but_mono hm (execKeySet_but' d s)

theorem snapsComplete_but' (s : State) : (snapsComplete s).but 48 = s.but 48 := by
  unfold snapsComplete
  repeat' first
  | with_reducible rfl
  | simp (disch := first | exact Or.inr rfl | exact Or.inl rfl | decide) only [↓but_mk, ↓but_ite, ↓but_snd_ite, ↓but_snd_mk, ↓but_snd2_ite, ↓but_snd2_mk, ↓but_cond, ite_self, outOf_live, outOf_next, outOf_ite]
  | split <;> try (with_reducible have h := congrArg Prod.snd ‹(_ : _ × State) = (_, _)›; dsimp only at h; subst h)
  | with_reducible refine (each_but (fun _ _ => ?_) _ _).trans ?_
  | with_reducible refine (whenS_but (fun _ => ?_) _ _).trans ?_
  | with_reducible refine (foldl_but (fun _ _ => ?_) _ _).trans ?_
  | with_reducible refine (foldl_but2 (fun _ _ => ?_) _ _).trans ?_
theorem snapsComplete_but {m} (hm : sub 48 m = true) (s : State) : (snapsComplete s).but m = s.but m := but_mono hm (snapsComplete_but' s)

theorem mirSnaps_but' (d : Dgram) (body : Bytes) (s : State) : (mirSnaps d body s).but 48 = s.but 48 := by
  unfold mirSnaps
  repeat' first
  | with_reducible rfl
  | simp (disch := first | exact Or.inr rfl | exact Or.inl rfl | decide) only [↓but_mk, ↓but_ite, ↓but_snd_ite, ↓but_snd_mk, ↓but_snd2_ite, ↓but_snd2_mk, ↓but_cond, ite_self, outOf_live, outOf_next, outOf_ite, ↓snapsComplete_but]
  | split <;> try (with_reducible have h := congrArg Prod.snd ‹(_ : _ × State) = (_, _)›; dsimp only at h; subst h)
  | with_reducible refine (each_but (fun _ _ => ?_) _ _).trans ?_
  | with_reducible refine (whenS_but (fun _ => ?_) _ _).trans ?_
  | with_reducible refine (foldl_but (fun _ _ => ?_) _ _).trans ?_
  | with_reducible refine (foldl_but2 (fun _ _ => ?_) _ _).trans ?_
theorem mirSnaps_but {m} (hm : sub 48 m = true) (d : Dgram) (body : Bytes) (s : State) : (mirSnaps d body s).but m = s.but m := but_mono hm (mirSnaps_but' d body s)

theorem mirEst_but' (d : Dgram) (body : Bytes) (s : State) : (mirEst d body s).but 48 = s.but 48 := by
  unfold mirEst
  repeat' first
  | with_reducible rfl
  | simp (disch := first | exact Or.inr rfl | exact Or.inl rfl | decide) only [↓but_mk, ↓but_ite, ↓but_snd_ite, ↓but_snd_mk, ↓but_snd2_ite, ↓but_snd2_mk, ↓but_cond, ite_self, outOf_live, outOf_next, outOf_ite, ↓snapsComplete_but]
  | split <;> try (with_reducible have h := congrArg Prod.snd ‹(_ : _ × State) = (_, _)›; dsimp only at h; subst h)
  | with_reducible refine (each_but (fun _ _ => ?_) _ _).trans ?_
  | with_reducible refine (whenS_but (fun _ => ?_) _ _).trans ?_
  | with_reducible refine (foldl_but (fun _ _ => ?_) _ _).trans ?_
  | with_reducible refine (foldl_but2 (fun _ _ => ?_) _ _).trans ?_
theorem mirEst_but {m} (hm : sub 48 m = true) (d : Dgram) (body : Bytes) (s : State) : (mirEst d body s).but m = s.but m := but_mono hm (mirEst_but' d body s)

theorem mirLeases_but' (d : Dgram) (body : Bytes) (s : State) : (mirLeases d body s).but 48 = s.but 48 := by
  unfold mirLeases
  repeat' first
  | with_reducible rfl
  | simp (disch := first | exact Or.inr rfl | exact Or.inl rfl | decide) only [↓but_mk, ↓but_ite, ↓but_snd_ite, ↓but_snd_mk, ↓but_snd2_ite, ↓but_snd2_mk, ↓but_cond, ite_self, outOf_live, outOf_next, outOf_ite]
  | split <;> try (with_reducible have h := congrArg Prod.snd ‹(_ : _ × State) = (_, _)›; dsimp only at h; subst h)
  | with_reducible refine (each_but (fun _ _ => ?_) _ _).trans ?_
  | with_reducible refine (whenS_but (fun _ => ?_) _ _).trans ?_
  | with_reducible refine (foldl_but (fun _ _ => ?_) _ _).trans ?_
  | with_reducible refine (foldl_but2 (fun _ _ => ?_) _ _).trans ?_
theorem mirLeases_but {m} (hm : sub 48 m = true) (d : Dgram) (body : Bytes) (s : State) : (mirLeases d body s).but m = s.but m := but_mono hm (mirLeases_but' d body s)

theorem mirOverride_but' (b : Bytes) (s : State) : (mirOverride b s).but 8657041354 = s.but 8657041354 := by
  unfold mirOverride
  repeat' first
  | with_reducible rfl
  | simp (disch := first | exact Or.inr rfl | exact Or.inl rfl | decide) only [↓but_mk, ↓but_ite, ↓but_snd_ite, ↓but_snd_mk, ↓but_snd2_ite, ↓but_snd2_mk, ↓but_cond, ite_self, outOf_live, outOf_next, outOf_ite, ↓regPut_but]
  | split <;> try (with_reducible have h := congrArg Prod.snd ‹(_ : _ × State) = (_, _)›; dsimp only at h; subst h)
  | with_reducible refine (each_but (fun _ _ => ?_) _ _).trans ?_
  | with_reducible refine (whenS_but (fun _ => ?_) _ _).trans ?_
  | with_reducible refine (foldl_but (fun _ _ => ?_) _ _).trans ?_
  | with_reducible refine (foldl_but2 (fun _ _ => ?_) _ _).trans ?_
theorem mirOverride_but {m} (hm : sub 8657041354 m = true) (b : Bytes) (s : State) : (mirOverride b s).but m = s.but m := but_mono hm (mirOverride_but' b s)

theorem mirAdapter_but' (b : Bytes) (s : State) : (mirAdapter b s).but 32 = s.but 32 := by
  unfold mirAdapter
  repeat' first
  | with_reducible rfl
  | simp (disch := first | exact Or.inr rfl | exact Or.inl rfl | decide) only [↓but_mk, ↓but_ite, ↓but_snd_ite, ↓but_snd_mk, ↓but_snd2_ite, ↓but_snd2_mk, ↓but_cond, ite_self, outOf_live, outOf_next, outOf_ite]
  | split <;> try (with_reducible have h := congrArg Prod.snd ‹(_ : _ × State) = (_, _)›; dsimp only at h; subst h)
  | with_reducible refine (each_but (fun _ _ => ?_) _ _).trans ?_
  | with_reducible refine (whenS_but (fun _ => ?_) _ _).trans ?_
  | with_reducible refine (foldl_but (fun _ _ => ?_) _ _).trans ?_
  | with_reducible refine (foldl_but2 (fun _ _ => ?_) _ _).trans ?_
theorem mirAdapter_but {m} (hm : sub 32 m = true) (b : Bytes) (s : State) : (mirAdapter b s).but m = s.but m := but_mono hm (mirAdapter_but' b s)

theorem takeRound_but' (n : Nat) (s : State) : (takeRound n s).but 1342177296 = s.but 1342177296 := by
  unfold takeRound
  repeat' first
  | with_reducible rfl
  | simp (disch := first | exact Or.inr rfl | exact Or.inl rfl | decide) only [↓but_mk, ↓but_ite, ↓but_snd_ite, ↓but_snd_mk, ↓but_snd2_ite, ↓but_snd2_mk, ↓but_cond, ite_self, outOf_live, outOf_next, outOf_ite]
  | split <;> try (with_reducible have h := congrArg Prod.snd ‹(_ : _ × State) = (_, _)›; dsimp only at h; subst h)
  | with_reducible refine (each_but (fun _ _ => ?_) _ _).trans ?_
  | with_reducible refine (whenS_but (fun _ => ?_) _ _).trans ?_
  | with_reducible refine (foldl_but (fun _ _ => ?_) _ _).trans ?_
  | with_reducible refine (foldl_but2 (fun _ _ => ?_) _ _).trans ?_
theorem takeRound_but {m} (hm : sub 1342177296 m = true) (n : Nat) (s : State) : (takeRound n s).but m = s.but m := but_mono hm (takeRound_but' n s)

theorem mirStatus_but' (body : Bytes) (s : State) : (mirStatus body s).but 1342179376 = s.but 1342179376 := by
  unfold mirStatus
  repeat' first
  | with_reducible rfl
  | simp (disch := first | exact Or.inr rfl | exact Or.inl rfl | decide) only [↓but_mk, ↓but_ite, ↓but_snd_ite, ↓but_snd_mk, ↓but_snd2_ite, ↓but_snd2_mk, ↓but_cond, ite_self, outOf_live, outOf_next, outOf_ite, ↓takeRound_but]
  | split <;> try (with_reducible have h := congrArg Prod.snd ‹(_ : _ × State) = (_, _)›; dsimp only at h; subst h)
  | with_reducible refine (each_but (fun _ _ => ?_) _ _).trans ?_
  | with_reducible refine (whenS_but (fun _ => ?_) _ _).trans ?_
  | with_reducible refine (foldl_but (fun _ _ => ?_) _ _).trans ?_
  | with_reducible refine (foldl_but2 (fun _ _ => ?_) _ _).trans ?_
theorem mirStatus_but {m} (hm : sub 1342179376 m = true) (body : Bytes) (s : State) : (mirStatus body s).but m = s.but m := but_mono hm (mirStatus_but' body s)

theorem mirRelock_but' (body : Bytes) (s : State) : (mirRelock body s).but 32 = s.but 32 := by
  unfold mirRelock
  repeat' first
  | with_reducible rfl
  | simp (disch := first | exact Or.inr rfl | exact Or.inl rfl | decide) only [↓but_mk, ↓but_ite, ↓but_snd_ite, ↓but_snd_mk, ↓but_snd2_ite, ↓but_snd2_mk, ↓but_cond, ite_self, outOf_live, outOf_next, outOf_ite]
  | split <;> try (with_reducible have h := congrArg Prod.snd ‹(_ : _ × State) = (_, _)›; dsimp only at h; subst h)
  | with_reducible refine (each_but (fun _ _ => ?_) _ _).trans ?_
  | with_reducible refine (whenS_but (fun _ => ?_) _ _).trans ?_
  | with_reducible refine (foldl_but (fun _ _ => ?_) _ _).trans ?_
  | with_reducible refine (foldl_but2 (fun _ _ => ?_) _ _).trans ?_
theorem mirRelock_but {m} (hm : sub 32 m = true) (body : Bytes) (s : State) : (mirRelock body s).but m = s.but m := but_mono hm (mirRelock_but' body s)

theorem mirrorTake_but' (t : Nat) (d : Dgram) (body : Bytes) (s : State) : (mirrorTake t d body s).but 9999220730 = s.but 9999220730 := by
  unfold mirrorTake
  repeat' first
  | with_reducible rfl
  | simp (disch := first | exact Or.inr rfl | exact Or.inl rfl | decide) only [↓but_mk, ↓but_ite, ↓but_snd_ite, ↓but_snd_mk, ↓but_snd2_ite, ↓but_snd2_mk, ↓but_cond, ite_self, outOf_live, outOf_next, outOf_ite, ↓mirStatus_but, ↓mirRelock_but, ↓mirAdapter_but, ↓mirSnaps_but, ↓mirEst_but, ↓mirLeases_but, ↓mirOverride_but]
  | split <;> try (with_reducible have h := congrArg Prod.snd ‹(_ : _ × State) = (_, _)›; dsimp only at h; subst h)
  | with_reducible refine (each_but (fun _ _ => ?_) _ _).trans ?_
  | with_reducible refine (whenS_but (fun _ => ?_) _ _).trans ?_
  | with_reducible refine (foldl_but (fun _ _ => ?_) _ _).trans ?_
  | with_reducible refine (foldl_but2 (fun _ _ => ?_) _ _).trans ?_
theorem mirrorTake_but {m} (hm : sub 9999220730 m = true) (t : Nat) (d : Dgram) (body : Bytes) (s : State) : (mirrorTake t d body s).but m = s.but m := but_mono hm (mirrorTake_but' t d body s)

theorem mirrorReceive_but' (d : Dgram) (s : State) : (mirrorReceive d s).but 9999220730 = s.but 9999220730 := by
  unfold mirrorReceive
  repeat' first
  | with_reducible rfl
  | simp (disch := first | exact Or.inr rfl | exact Or.inl rfl | decide) only [↓but_mk, ↓but_ite, ↓but_snd_ite, ↓but_snd_mk, ↓but_snd2_ite, ↓but_snd2_mk, ↓but_cond, ite_self, outOf_live, outOf_next, outOf_ite, ↓accept_but, ↓mirrorTake_but]
  | split <;> try (with_reducible have h := congrArg Prod.snd ‹(_ : _ × State) = (_, _)›; dsimp only at h; subst h)
  | with_reducible refine (each_but (fun _ _ => ?_) _ _).trans ?_
  | with_reducible refine (whenS_but (fun _ => ?_) _ _).trans ?_
  | with_reducible refine (foldl_but (fun _ _ => ?_) _ _).trans ?_
  | with_reducible refine (foldl_but2 (fun _ _ => ?_) _ _).trans ?_
theorem mirrorReceive_but {m} (hm : sub 9999220730 m = true) (d : Dgram) (s : State) : (mirrorReceive d s).but m = s.but m := but_mono hm (mirrorReceive_but' d s)

theorem execMirrorReceive_but' (d : Dgram) (s : State) : (outOf (execMirrorReceive d s) s).but 9999220730 = s.but 9999220730 := by
  unfold execMirrorReceive
  repeat' first
  | with_reducible rfl
  | simp (disch := first | exact Or.inr rfl | exact Or.inl rfl | decide) only [↓but_mk, ↓but_ite, ↓but_snd_ite, ↓but_snd_mk, ↓but_snd2_ite, ↓but_snd2_mk, ↓but_cond, ite_self, outOf_live, outOf_next, outOf_ite, ↓mirrorReceive_but]
  | split <;> try (with_reducible have h := congrArg Prod.snd ‹(_ : _ × State) = (_, _)›; dsimp only at h; subst h)
  | with_reducible refine (each_but (fun _ _ => ?_) _ _).trans ?_
  | with_reducible refine (whenS_but (fun _ => ?_) _ _).trans ?_
  | with_reducible refine (foldl_but (fun _ _ => ?_) _ _).trans ?_
  | with_reducible refine (foldl_but2 (fun _ _ => ?_) _ _).trans ?_
theorem execMirrorReceive_but {m} (hm : sub 9999220730 m = true) (d : Dgram) (s : State) : (outOf (execMirrorReceive d s) s).but m = s.but m := but_mono hm (execMirrorReceive_but' d s)

theorem freezeRequest_but' (source : Nat) (held : Bool) (s : State) : (freezeRequest source held s).2.but 1049288 = s.but 1049288 := by
  unfold freezeRequest
  repeat' first
  | with_reducible rfl
  | simp (disch := first | exact Or.inr rfl | exact Or.inl rfl | decide) only [↓but_mk, ↓but_ite, ↓but_snd_ite, ↓but_snd_mk, ↓but_snd2_ite, ↓but_snd2_mk, ↓but_cond, ite_self, outOf_live, outOf_next, outOf_ite, ↓freezeRefused_but, ↓emit_but, ↓requestHandover_but]
  | split <;> try (with_reducible have h := congrArg Prod.snd ‹(_ : _ × State) = (_, _)›; dsimp only at h; subst h)
  | with_reducible refine (each_but (fun _ _ => ?_) _ _).trans ?_
  | with_reducible refine (whenS_but (fun _ => ?_) _ _).trans ?_
  | with_reducible refine (foldl_but (fun _ _ => ?_) _ _).trans ?_
  | with_reducible refine (foldl_but2 (fun _ _ => ?_) _ _).trans ?_
theorem freezeRequest_but {m} (hm : sub 1049288 m = true) (source : Nat) (held : Bool) (s : State) : (freezeRequest source held s).2.but m = s.but m := but_mono hm (freezeRequest_but' source held s)

theorem freezeKern_but' (d : Dgram) (a1 : PeerRec) (fl : Nat) (a2 : Bytes) (s : State) : (freezeKern d a1 fl a2 s).2.but 1049288 = s.but 1049288 := by
  unfold freezeKern
  repeat' first
  | with_reducible rfl
  | simp (disch := first | exact Or.inr rfl | exact Or.inl rfl | decide) only [↓but_mk, ↓but_ite, ↓but_snd_ite, ↓but_snd_mk, ↓but_snd2_ite, ↓but_snd2_mk, ↓but_cond, ite_self, outOf_live, outOf_next, outOf_ite, ↓freezeRequest_but]
  | split <;> try (with_reducible have h := congrArg Prod.snd ‹(_ : _ × State) = (_, _)›; dsimp only at h; subst h)
  | with_reducible refine (each_but (fun _ _ => ?_) _ _).trans ?_
  | with_reducible refine (whenS_but (fun _ => ?_) _ _).trans ?_
  | with_reducible refine (foldl_but (fun _ _ => ?_) _ _).trans ?_
  | with_reducible refine (foldl_but2 (fun _ _ => ?_) _ _).trans ?_
theorem freezeKern_but {m} (hm : sub 1049288 m = true) (d : Dgram) (a1 : PeerRec) (fl : Nat) (a2 : Bytes) (s : State) : (freezeKern d a1 fl a2 s).2.but m = s.but m := but_mono hm (freezeKern_but' d a1 fl a2 s)

theorem execFreeze_but' (d : Dgram) (s : State) : (outOf (execFreeze d s) s).but 9443016 = s.but 9443016 := by
  unfold execFreeze
  repeat' first
  | with_reducible rfl
  | simp (disch := first | exact Or.inr rfl | exact Or.inl rfl | decide) only [↓but_mk, ↓but_ite, ↓but_snd_ite, ↓but_snd_mk, ↓but_snd2_ite, ↓but_snd2_mk, ↓but_cond, ite_self, outOf_live, outOf_next, outOf_ite, ↓freezeKern_but]
  | split <;> try (with_reducible have h := congrArg Prod.snd ‹(_ : _ × State) = (_, _)›; dsimp only at h; subst h)
  | with_reducible refine (each_but (fun _ _ => ?_) _ _).trans ?_
  | with_reducible refine (whenS_but (fun _ => ?_) _ _).trans ?_
  | with_reducible refine (foldl_but (fun _ _ => ?_) _ _).trans ?_
  | with_reducible refine (foldl_but2 (fun _ _ => ?_) _ _).trans ?_
  | with_reducible refine (critical_but (by decide) (fun _ _ _ _ => ?_) ..).trans ?_
theorem execFreeze_but {m} (hm : sub 9443016 m = true) (d : Dgram) (s : State) : (outOf (execFreeze d s) s).but m = s.but m := but_mono hm (execFreeze_but' d s)

theorem freezeNFall_but' (lowNs : Nat) (s : State) : (freezeNFall lowNs s).but 1049288 = s.but 1049288 := by
  unfold freezeNFall
  repeat' first
  | with_reducible rfl
  | simp (disch := first | exact Or.inr rfl | exact Or.inl rfl | decide) only [↓but_mk, ↓but_ite, ↓but_snd_ite, ↓but_snd_mk, ↓but_snd2_ite, ↓but_snd2_mk, ↓but_cond, ite_self, outOf_live, outOf_next, outOf_ite, ↓freezeRequest_but]
  | split <;> try (with_reducible have h := congrArg Prod.snd ‹(_ : _ × State) = (_, _)›; dsimp only at h; subst h)
  | with_reducible refine (each_but (fun _ _ => ?_) _ _).trans ?_
  | with_reducible refine (whenS_but (fun _ => ?_) _ _).trans ?_
  | with_reducible refine (foldl_but (fun _ _ => ?_) _ _).trans ?_
  | with_reducible refine (foldl_but2 (fun _ _ => ?_) _ _).trans ?_
theorem freezeNFall_but {m} (hm : sub 1049288 m = true) (lowNs : Nat) (s : State) : (freezeNFall lowNs s).but m = s.but m := but_mono hm (freezeNFall_but' lowNs s)

theorem execFreezeNFall_but' (lowNs : Nat) (s : State) : (outOf (execFreezeNFall lowNs s) s).but 1049288 = s.but 1049288 := by
  unfold execFreezeNFall
  repeat' first
  | with_reducible rfl
  | simp (disch := first | exact Or.inr rfl | exact Or.inl rfl | decide) only [↓but_mk, ↓but_ite, ↓but_snd_ite, ↓but_snd_mk, ↓but_snd2_ite, ↓but_snd2_mk, ↓but_cond, ite_self, outOf_live, outOf_next, outOf_ite, ↓freezeNFall_but]
  | split <;> try (with_reducible have h := congrArg Prod.snd ‹(_ : _ × State) = (_, _)›; dsimp only at h; subst h)
  | with_reducible refine (each_but (fun _ _ => ?_) _ _).trans ?_
  | with_reducible refine (whenS_but (fun _ => ?_) _ _).trans ?_
  | with_reducible refine (foldl_but (fun _ _ => ?_) _ _).trans ?_
  | with_reducible refine (foldl_but2 (fun _ _ => ?_) _ _).trans ?_
theorem execFreezeNFall_but {m} (hm : sub 1049288 m = true) (lowNs : Nat) (s : State) : (outOf (execFreezeNFall lowNs s) s).but m = s.but m := but_mono hm (execFreezeNFall_but' lowNs s)

theorem thawCmd_but' (s : State) : (thawCmd s).2.but 9438920 = s.but 9438920 := by
  unfold thawCmd
  repeat' first
  | with_reducible rfl
  | simp (disch := first | exact Or.inr rfl | exact Or.inl rfl | decide) only [↓but_mk, ↓but_ite, ↓but_snd_ite, ↓but_snd_mk, ↓but_snd2_ite, ↓but_snd2_mk, ↓but_cond, ite_self, outOf_live, outOf_next, outOf_ite, ↓freezeRefused_but, ↓cancelHandover_but, ↓finishCmd_but]
  | split <;> try (with_reducible have h := congrArg Prod.snd ‹(_ : _ × State) = (_, _)›; dsimp only at h; subst h)
  | with_reducible refine (each_but (fun _ _ => ?_) _ _).trans ?_
  | with_reducible refine (whenS_but (fun _ => ?_) _ _).trans ?_
  | with_reducible refine (foldl_but (fun _ _ => ?_) _ _).trans ?_
  | with_reducible refine (foldl_but2 (fun _ _ => ?_) _ _).trans ?_
theorem thawCmd_but {m} (hm : sub 9438920 m = true) (s : State) : (thawCmd s).2.but m = s.but m := but_mono hm (thawCmd_but' s)

theorem thawKern_but' (a1 : Dgram) (a2 : PeerRec) (a3 : Nat) (a4 : Bytes) (s : State) : (thawKern a1 a2 a3 a4 s).2.but 9438920 = s.but 9438920 := by
  unfold thawKern
  repeat' first
  | with_reducible rfl
  | simp (disch := first | exact Or.inr rfl | exact Or.inl rfl | decide) only [↓but_mk, ↓but_ite, ↓but_snd_ite, ↓but_snd_mk, ↓but_snd2_ite, ↓but_snd2_mk, ↓but_cond, ite_self, outOf_live, outOf_next, outOf_ite, ↓thawCmd_but]
  | split <;> try (with_reducible have h := congrArg Prod.snd ‹(_ : _ × State) = (_, _)›; dsimp only at h; subst h)
  | with_reducible refine (each_but (fun _ _ => ?_) _ _).trans ?_
  | with_reducible refine (whenS_but (fun _ => ?_) _ _).trans ?_
  | with_reducible refine (foldl_but (fun _ _ => ?_) _ _).trans ?_
  | with_reducible refine (foldl_but2 (fun _ _ => ?_) _ _).trans ?_
theorem thawKern_but {m} (hm : sub 9438920 m = true) (a1 : Dgram) (a2 : PeerRec) (a3 : Nat) (a4 : Bytes) (s : State) : (thawKern a1 a2 a3 a4 s).2.but m = s.but m := but_mono hm (thawKern_but' a1 a2 a3 a4 s)

theorem execThaw_but' (d : Dgram) (s : State) : (outOf (execThaw d s) s).but 9443016 = s.but 9443016 := by
  unfold execThaw
  repeat' first
  | with_reducible rfl
  | simp (disch := first | exact Or.inr rfl | exact Or.inl rfl | decide) only [↓but_mk, ↓but_ite, ↓but_snd_ite, ↓but_snd_mk, ↓but_snd2_ite, ↓but_snd2_mk, ↓but_cond, ite_self, outOf_live, outOf_next, outOf_ite, ↓thawKern_but]
  | split <;> try (with_reducible have h := congrArg Prod.snd ‹(_ : _ × State) = (_, _)›; dsimp only at h; subst h)
  | with_reducible refine (each_but (fun _ _ => ?_) _ _).trans ?_
  | with_reducible refine (whenS_but (fun _ => ?_) _ _).trans ?_
  | with_reducible refine (foldl_but (fun _ _ => ?_) _ _).trans ?_
  | with_reducible refine (foldl_but2 (fun _ _ => ?_) _ _).trans ?_
  | with_reducible refine (critical_but (by decide) (fun _ _ _ _ => ?_) ..).trans ?_
theorem execThaw_but {m} (hm : sub 9443016 m = true) (d : Dgram) (s : State) : (outOf (execThaw d s) s).but m = s.but m := but_mono hm (execThaw_but' d s)

theorem freezeOp_but' (s : State) : (freezeOp s).but 9465546 = s.but 9465546 := by
  unfold freezeOp
  repeat' first
  | with_reducible rfl
  | simp (disch := first | exact Or.inr rfl | exact Or.inl rfl | decide) only [↓but_mk, ↓but_ite, ↓but_snd_ite, ↓but_snd_mk, ↓but_snd2_ite, ↓but_snd2_mk, ↓but_cond, ite_self, outOf_live, outOf_next, outOf_ite, ↓finishCmd_but, ↓swAbortAll_but, ↓emit_but]
  | split <;> try (with_reducible have h := congrArg Prod.snd ‹(_ : _ × State) = (_, _)›; dsimp only at h; subst h)
  | with_reducible refine (each_but (fun _ _ => ?_) _ _).trans ?_
  | with_reducible refine (whenS_but (fun _ => ?_) _ _).trans ?_
  | with_reducible refine (foldl_but (fun _ _ => ?_) _ _).trans ?_
  | with_reducible refine (foldl_but2 (fun _ _ => ?_) _ _).trans ?_
theorem freezeOp_but {m} (hm : sub 9465546 m = true) (s : State) : (freezeOp s).but m = s.but m := but_mono hm (freezeOp_but' s)

theorem execFreezePoint_but' (s : State) : (outOf (execFreezePoint s) s).but 76574410 = s.but 76574410 := by
  unfold execFreezePoint
  repeat' first
  | with_reducible rfl
  | simp (disch := first | exact Or.inr rfl | exact Or.inl rfl | decide) only [↓but_mk, ↓but_ite, ↓but_snd_ite, ↓but_snd_mk, ↓but_snd2_ite, ↓but_snd2_mk, ↓but_cond, ite_self, outOf_live, outOf_next, outOf_ite, ↓clockTo_but, ↓freezeOp_but]
  | split <;> try (with_reducible have h := congrArg Prod.snd ‹(_ : _ × State) = (_, _)›; dsimp only at h; subst h)
  | with_reducible refine (each_but (fun _ _ => ?_) _ _).trans ?_
  | with_reducible refine (whenS_but (fun _ => ?_) _ _).trans ?_
  | with_reducible refine (foldl_but (fun _ _ => ?_) _ _).trans ?_
  | with_reducible refine (foldl_but2 (fun _ _ => ?_) _ _).trans ?_
theorem execFreezePoint_but {m} (hm : sub 76574410 m = true) (s : State) : (outOf (execFreezePoint s) s).but m = s.but m := but_mono hm (execFreezePoint_but' s)

theorem critKern_but' (code : Nat) (d : Dgram) (a1 : PeerRec) (a2 : Nat) (a3 : Bytes) (a4 : State) : (critKern code d a1 a2 a3 a4).2.but 16938696410 = a4.but 16938696410 := by
  unfold critKern
  repeat' first
  | with_reducible rfl
  | simp (disch := first | exact Or.inr rfl | exact Or.inl rfl | decide) only [↓but_mk, ↓but_ite, ↓but_snd_ite, ↓but_snd_mk, ↓but_snd2_ite, ↓but_snd2_mk, ↓but_cond, ite_self, outOf_live, outOf_next, outOf_ite, ↓activateKern_but, ↓reknitKern_but, ↓frogBackKern_but, ↓trialAcceptKern_but, ↓commitKern_but, ↓roleSwapKern_but, ↓freezeKern_but, ↓thawKern_but, ↓resetKern_but, ↓selvedgeResetKern_but, ↓isolateKern_but, ↓isolateReleaseKern_but, ↓relockKern_but, ↓swatchStartKern_but, ↓keySetKern_but]
  | split <;> try (with_reducible have h := congrArg Prod.snd ‹(_ : _ × State) = (_, _)›; dsimp only at h; subst h)
  | with_reducible refine (each_but (fun _ _ => ?_) _ _).trans ?_
  | with_reducible refine (whenS_but (fun _ => ?_) _ _).trans ?_
  | with_reducible refine (foldl_but (fun _ _ => ?_) _ _).trans ?_
  | with_reducible refine (foldl_but2 (fun _ _ => ?_) _ _).trans ?_
theorem critKern_but {m} (hm : sub 16938696410 m = true) (code : Nat) (d : Dgram) (a1 : PeerRec) (a2 : Nat) (a3 : Bytes) (a4 : State) : (critKern code d a1 a2 a3 a4).2.but m = a4.but m := but_mono hm (critKern_but' code d a1 a2 a3 a4)

theorem runBehindOne_but' (w : WaitSig) (s : State) : (runBehindOne w s).but 16978542334 = s.but 16978542334 := by
  have hw : ∀ (x : HlSt) (u : State), State.but 16978542334 { u with hl := x } = u.but 16978542334 := by
    intro x u; simp (disch := first | exact Or.inr rfl | exact Or.inl rfl) only [↓but_mk]
  unfold runBehindOne
  extract_lets u
  split
  · exact hw ..
  · extract_lets code t
    refine (resetAsked_but (by decide) ..).trans ((hw ..).trans ?_)
    exact (critExec_but (by decide) (fun _ _ _ _ => critKern_but (by decide) ..) ..).trans (hw ..)
theorem runBehindOne_but {m} (hm : sub 16978542334 m = true) (w : WaitSig) (s : State) : (runBehindOne w s).but m = s.but m := but_mono hm (runBehindOne_but' w s)

theorem runBehind_but' (a1 : Nat) (a2 : State) : (runBehind a1 a2).but 16978542334 = a2.but 16978542334 := by
  induction a1 generalizing a2 with
  | zero => rfl
  | succ n ih =>
    rw [runBehind]
    split
    · split
      · rw [ih, runBehindOne_but (by decide)]
      · rfl
    · rfl
theorem runBehind_but {m} (hm : sub 16978542334 m = true) (a1 : Nat) (a2 : State) : (runBehind a1 a2).but m = a2.but m := but_mono hm (runBehind_but' a1 a2)

theorem drainWaits_but' (s : State) : (drainWaits s).but 16978542334 = s.but 16978542334 := by
  unfold drainWaits
  repeat' first
  | with_reducible rfl
  | simp (disch := first | exact Or.inr rfl | exact Or.inl rfl | decide) only [↓but_mk, ↓but_ite, ↓but_snd_ite, ↓but_snd_mk, ↓but_snd2_ite, ↓but_snd2_mk, ↓but_cond, ite_self, outOf_live, outOf_next, outOf_ite, ↓runBehind_but]
  | split <;> try (with_reducible have h := congrArg Prod.snd ‹(_ : _ × State) = (_, _)›; dsimp only at h; subst h)
  | with_reducible refine (each_but (fun _ _ => ?_) _ _).trans ?_
  | with_reducible refine (whenS_but (fun _ => ?_) _ _).trans ?_
  | with_reducible refine (foldl_but (fun _ _ => ?_) _ _).trans ?_
  | with_reducible refine (foldl_but2 (fun _ _ => ?_) _ _).trans ?_
theorem drainWaits_but {m} (hm : sub 16978542334 m = true) (s : State) : (drainWaits s).but m = s.but m := but_mono hm (drainWaits_but' s)

theorem execDataBoundComplete_but' (peer : Nat) (xfer : Nat) (s : State) : (outOf (execDataBoundComplete peer xfer s) s).but 16978542334 = s.but 16978542334 := by
  unfold execDataBoundComplete
  repeat' first
  | with_reducible rfl
  | simp (disch := first | exact Or.inr rfl | exact Or.inl rfl | decide) only [↓but_mk, ↓but_ite, ↓but_snd_ite, ↓but_snd_mk, ↓but_snd2_ite, ↓but_snd2_mk, ↓but_cond, ite_self, outOf_live, outOf_next, outOf_ite, ↓drainWaits_but, ↓dataComplete_but]
  | split <;> try (with_reducible have h := congrArg Prod.snd ‹(_ : _ × State) = (_, _)›; dsimp only at h; subst h)
  | with_reducible refine (each_but (fun _ _ => ?_) _ _).trans ?_
  | with_reducible refine (whenS_but (fun _ => ?_) _ _).trans ?_
  | with_reducible refine (foldl_but (fun _ _ => ?_) _ _).trans ?_
  | with_reducible refine (foldl_but2 (fun _ _ => ?_) _ _).trans ?_
theorem execDataBoundComplete_but {m} (hm : sub 16978542334 m = true) (peer : Nat) (xfer : Nat) (s : State) : (outOf (execDataBoundComplete peer xfer s) s).but m = s.but m := but_mono hm (execDataBoundComplete_but' peer xfer s)

theorem execDataLate_but' (peer : Nat) (xfer : Nat) (s : State) : (outOf (execDataLate peer xfer s) s).but 16978542334 = s.but 16978542334 := by
  unfold execDataLate
  repeat' first
  | with_reducible rfl
  | simp (disch := first | exact Or.inr rfl | exact Or.inl rfl | decide) only [↓but_mk, ↓but_ite, ↓but_snd_ite, ↓but_snd_mk, ↓but_snd2_ite, ↓but_snd2_mk, ↓but_cond, ite_self, outOf_live, outOf_next, outOf_ite, ↓drainWaits_but, ↓dataLateOp_but]
  | split <;> try (with_reducible have h := congrArg Prod.snd ‹(_ : _ × State) = (_, _)›; dsimp only at h; subst h)
  | with_reducible refine (each_but (fun _ _ => ?_) _ _).trans ?_
  | with_reducible refine (whenS_but (fun _ => ?_) _ _).trans ?_
  | with_reducible refine (foldl_but (fun _ _ => ?_) _ _).trans ?_
  | with_reducible refine (foldl_but2 (fun _ _ => ?_) _ _).trans ?_
theorem execDataLate_but {m} (hm : sub 16978542334 m = true) (peer : Nat) (xfer : Nat) (s : State) : (outOf (execDataLate peer xfer s) s).but m = s.but m := but_mono hm (execDataLate_but' peer xfer s)

theorem expiredTakes_but' (s : State) : (expiredTakes s).but 76550784 = s.but 76550784 := by
  unfold expiredTakes
  repeat' first
  | with_reducible rfl
  | simp (disch := first | exact Or.inr rfl | exact Or.inl rfl | decide) only [↓but_mk, ↓but_ite, ↓but_snd_ite, ↓but_snd_mk, ↓but_snd2_ite, ↓but_snd2_mk, ↓but_cond, ite_self, outOf_live, outOf_next, outOf_ite, ↓takeTimeout_but]
  | split <;> try (with_reducible have h := congrArg Prod.snd ‹(_ : _ × State) = (_, _)›; dsimp only at h; subst h)
  | with_reducible refine (each_but (fun _ _ => ?_) _ _).trans ?_
  | with_reducible refine (whenS_but (fun _ => ?_) _ _).trans ?_
  | with_reducible refine (foldl_but (fun _ _ => ?_) _ _).trans ?_
  | with_reducible refine (foldl_but2 (fun _ _ => ?_) _ _).trans ?_
theorem expiredTakes_but {m} (hm : sub 76550784 m = true) (s : State) : (expiredTakes s).but m = s.but m := but_mono hm (expiredTakes_but' s)

theorem shiftTakes_but' (ns : Nat) (s : State) : (shiftTakes ns s).but 4096 = s.but 4096 := by
  unfold shiftTakes
  repeat' first
  | with_reducible rfl
  | simp (disch := first | exact Or.inr rfl | exact Or.inl rfl | decide) only [↓but_mk, ↓but_ite, ↓but_snd_ite, ↓but_snd_mk, ↓but_snd2_ite, ↓but_snd2_mk, ↓but_cond, ite_self, outOf_live, outOf_next, outOf_ite]
  | split <;> try (with_reducible have h := congrArg Prod.snd ‹(_ : _ × State) = (_, _)›; dsimp only at h; subst h)
  | with_reducible refine (each_but (fun _ _ => ?_) _ _).trans ?_
  | with_reducible refine (whenS_but (fun _ => ?_) _ _).trans ?_
  | with_reducible refine (foldl_but (fun _ _ => ?_) _ _).trans ?_
  | with_reducible refine (foldl_but2 (fun _ _ => ?_) _ _).trans ?_
theorem shiftTakes_but {m} (hm : sub 4096 m = true) (ns : Nat) (s : State) : (shiftTakes ns s).but m = s.but m := but_mono hm (shiftTakes_but' ns s)

theorem expiredSignals_but' (ns : Nat) (s : State) : (expiredSignals ns s).but 9442944 = s.but 9442944 := by
  unfold expiredSignals
  repeat' first
  | with_reducible rfl
  | simp (disch := first | exact Or.inr rfl | exact Or.inl rfl | decide) only [↓but_mk, ↓but_ite, ↓but_snd_ite, ↓but_snd_mk, ↓but_snd2_ite, ↓but_snd2_mk, ↓but_cond, ite_self, outOf_live, outOf_next, outOf_ite, ↓settleMsgs_but, ↓lateSignal_but]
  | split <;> try (with_reducible have h := congrArg Prod.snd ‹(_ : _ × State) = (_, _)›; dsimp only at h; subst h)
  | with_reducible refine (each_but (fun _ _ => ?_) _ _).trans ?_
  | with_reducible refine (whenS_but (fun _ => ?_) _ _).trans ?_
  | with_reducible refine (foldl_but (fun _ _ => ?_) _ _).trans ?_
  | with_reducible refine (foldl_but2 (fun _ _ => ?_) _ _).trans ?_
theorem expiredSignals_but {m} (hm : sub 9442944 m = true) (ns : Nat) (s : State) : (expiredSignals ns s).but m = s.but m := but_mono hm (expiredSignals_but' ns s)

theorem ringGap_but' (ns : Nat) (s : State) : (ringGap ns s).but 16777216 = s.but 16777216 := by
  unfold ringGap
  repeat' first
  | with_reducible rfl
  | simp (disch := first | exact Or.inr rfl | exact Or.inl rfl | decide) only [↓but_mk, ↓but_ite, ↓but_snd_ite, ↓but_snd_mk, ↓but_snd2_ite, ↓but_snd2_mk, ↓but_cond, ite_self, outOf_live, outOf_next, outOf_ite, ↓ringOpen_but]
  | split <;> try (with_reducible have h := congrArg Prod.snd ‹(_ : _ × State) = (_, _)›; dsimp only at h; subst h)
  | with_reducible refine (each_but (fun _ _ => ?_) _ _).trans ?_
  | with_reducible refine (whenS_but (fun _ => ?_) _ _).trans ?_
  | with_reducible refine (foldl_but (fun _ _ => ?_) _ _).trans ?_
  | with_reducible refine (foldl_but2 (fun _ _ => ?_) _ _).trans ?_
theorem ringGap_but {m} (hm : sub 16777216 m = true) (ns : Nat) (s : State) : (ringGap ns s).but m = s.but m := but_mono hm (ringGap_but' ns s)

theorem resume_but' (ns : Nat) (s : State) : (resume ns s).but 4831838810 = s.but 4831838810 := by
  unfold resume
  repeat' first
  | with_reducible rfl
  | simp (disch := first | exact Or.inr rfl | exact Or.inl rfl | decide) only [↓but_mk, ↓but_ite, ↓but_snd_ite, ↓but_snd_mk, ↓but_snd2_ite, ↓but_snd2_mk, ↓but_cond, ite_self, outOf_live, outOf_next, outOf_ite]
  | split <;> try (with_reducible have h := congrArg Prod.snd ‹(_ : _ × State) = (_, _)›; dsimp only at h; subst h)
  | with_reducible refine (each_but (fun _ _ => ?_) _ _).trans ?_
  | with_reducible refine (whenS_but (fun _ => ?_) _ _).trans ?_
  | with_reducible refine (foldl_but (fun _ _ => ?_) _ _).trans ?_
  | with_reducible refine (foldl_but2 (fun _ _ => ?_) _ _).trans ?_
theorem resume_but {m} (hm : sub 4831838810 m = true) (ns : Nat) (s : State) : (resume ns s).but m = s.but m := but_mono hm (resume_but' ns s)

theorem thawOp_but' (source : Nat) (s : State) : (thawOp source s).but 17045651198 = s.but 17045651198 := by
  unfold thawOp
  repeat' first
  | with_reducible rfl
  | simp (disch := first | exact Or.inr rfl | exact Or.inl rfl | decide) only [↓but_mk, ↓but_ite, ↓but_snd_ite, ↓but_snd_mk, ↓but_snd2_ite, ↓but_snd2_mk, ↓but_cond, ite_self, outOf_live, outOf_next, outOf_ite, ↓resume_but, ↓releaseOutputs_but, ↓clockTo_but, ↓setRole_but, ↓drainWaits_but, ↓expiredSignals_but, ↓shiftTakes_but, ↓expiredTakes_but, ↓ringGap_but, ↓updateDegraded_but, ↓warmStart_but, ↓svFlushLog_but, ↓emit_but]
  | split <;> try (with_reducible have h := congrArg Prod.snd ‹(_ : _ × State) = (_, _)›; dsimp only at h; subst h)
  | with_reducible refine (each_but (fun _ _ => ?_) _ _).trans ?_
  | with_reducible refine (whenS_but (fun _ => ?_) _ _).trans ?_
  | with_reducible refine (foldl_but (fun _ _ => ?_) _ _).trans ?_
  | with_reducible refine (foldl_but2 (fun _ _ => ?_) _ _).trans ?_
theorem thawOp_but {m} (hm : sub 17045651198 m = true) (source : Nat) (s : State) : (thawOp source s).but m = s.but m := but_mono hm (thawOp_but' source s)

theorem thawRequest_but' (source : Nat) (s : State) : (thawRequest source s).but 17045651198 = s.but 17045651198 := by
  unfold thawRequest
  repeat' first
  | with_reducible rfl
  | simp (disch := first | exact Or.inr rfl | exact Or.inl rfl | decide) only [↓but_mk, ↓but_ite, ↓but_snd_ite, ↓but_snd_mk, ↓but_snd2_ite, ↓but_snd2_mk, ↓but_cond, ite_self, outOf_live, outOf_next, outOf_ite, ↓thawOp_but]
  | split <;> try (with_reducible have h := congrArg Prod.snd ‹(_ : _ × State) = (_, _)›; dsimp only at h; subst h)
  | with_reducible refine (each_but (fun _ _ => ?_) _ _).trans ?_
  | with_reducible refine (whenS_but (fun _ => ?_) _ _).trans ?_
  | with_reducible refine (foldl_but (fun _ _ => ?_) _ _).trans ?_
  | with_reducible refine (foldl_but2 (fun _ _ => ?_) _ _).trans ?_
theorem thawRequest_but {m} (hm : sub 17045651198 m = true) (source : Nat) (s : State) : (thawRequest source s).but m = s.but m := but_mono hm (thawRequest_but' source s)

theorem freezeNRise_but' (s : State) : (freezeNRise s).but 17045651198 = s.but 17045651198 := by
  unfold freezeNRise
  repeat' first
  | with_reducible rfl
  | simp (disch := first | exact Or.inr rfl | exact Or.inl rfl | decide) only [↓but_mk, ↓but_ite, ↓but_snd_ite, ↓but_snd_mk, ↓but_snd2_ite, ↓but_snd2_mk, ↓but_cond, ite_self, outOf_live, outOf_next, outOf_ite, ↓thawRequest_but]
  | split <;> try (with_reducible have h := congrArg Prod.snd ‹(_ : _ × State) = (_, _)›; dsimp only at h; subst h)
  | with_reducible refine (each_but (fun _ _ => ?_) _ _).trans ?_
  | with_reducible refine (whenS_but (fun _ => ?_) _ _).trans ?_
  | with_reducible refine (foldl_but (fun _ _ => ?_) _ _).trans ?_
  | with_reducible refine (foldl_but2 (fun _ _ => ?_) _ _).trans ?_
theorem freezeNRise_but {m} (hm : sub 17045651198 m = true) (s : State) : (freezeNRise s).but m = s.but m := but_mono hm (freezeNRise_but' s)

theorem execFreezeNRise_but' (s : State) : (outOf (execFreezeNRise s) s).but 17045651198 = s.but 17045651198 := by
  unfold execFreezeNRise
  repeat' first
  | with_reducible rfl
  | simp (disch := first | exact Or.inr rfl | exact Or.inl rfl | decide) only [↓but_mk, ↓but_ite, ↓but_snd_ite, ↓but_snd_mk, ↓but_snd2_ite, ↓but_snd2_mk, ↓but_cond, ite_self, outOf_live, outOf_next, outOf_ite, ↓freezeNRise_but]
  | split <;> try (with_reducible have h := congrArg Prod.snd ‹(_ : _ × State) = (_, _)›; dsimp only at h; subst h)
  | with_reducible refine (each_but (fun _ _ => ?_) _ _).trans ?_
  | with_reducible refine (whenS_but (fun _ => ?_) _ _).trans ?_
  | with_reducible refine (foldl_but (fun _ _ => ?_) _ _).trans ?_
  | with_reducible refine (foldl_but2 (fun _ _ => ?_) _ _).trans ?_
theorem execFreezeNRise_but {m} (hm : sub 17045651198 m = true) (s : State) : (outOf (execFreezeNRise s) s).but m = s.but m := but_mono hm (execFreezeNRise_but' s)

theorem tapOut_but' (code : Nat) (v : Nat) (s : State) : (tapOut code v s).but 64 = s.but 64 := by
  unfold tapOut
  repeat' first
  | with_reducible rfl
  | simp (disch := first | exact Or.inr rfl | exact Or.inl rfl | decide) only [↓but_mk, ↓but_ite, ↓but_snd_ite, ↓but_snd_mk, ↓but_snd2_ite, ↓but_snd2_mk, ↓but_cond, ite_self, outOf_live, outOf_next, outOf_ite]
  | split <;> try (with_reducible have h := congrArg Prod.snd ‹(_ : _ × State) = (_, _)›; dsimp only at h; subst h)
  | with_reducible refine (each_but (fun _ _ => ?_) _ _).trans ?_
  | with_reducible refine (whenS_but (fun _ => ?_) _ _).trans ?_
  | with_reducible refine (foldl_but (fun _ _ => ?_) _ _).trans ?_
  | with_reducible refine (foldl_but2 (fun _ _ => ?_) _ _).trans ?_
theorem tapOut_but {m} (hm : sub 64 m = true) (code : Nat) (v : Nat) (s : State) : (tapOut code v s).but m = s.but m := but_mono hm (tapOut_but' code v s)

theorem execTapThaw_but' (s : State) : (outOf (execTapThaw s) s).but 17045651198 = s.but 17045651198 := by
  unfold execTapThaw
  repeat' first
  | with_reducible rfl
  | simp (disch := first | exact Or.inr rfl | exact Or.inl rfl | decide) only [↓but_mk, ↓but_ite, ↓but_snd_ite, ↓but_snd_mk, ↓but_snd2_ite, ↓but_snd2_mk, ↓but_cond, ite_self, outOf_live, outOf_next, outOf_ite, ↓thawRequest_but, ↓tapOut_but]
  | split <;> try (with_reducible have h := congrArg Prod.snd ‹(_ : _ × State) = (_, _)›; dsimp only at h; subst h)
  | with_reducible refine (each_but (fun _ _ => ?_) _ _).trans ?_
  | with_reducible refine (whenS_but (fun _ => ?_) _ _).trans ?_
  | with_reducible refine (foldl_but (fun _ _ => ?_) _ _).trans ?_
  | with_reducible refine (foldl_but2 (fun _ _ => ?_) _ _).trans ?_
theorem execTapThaw_but {m} (hm : sub 17045651198 m = true) (s : State) : (outOf (execTapThaw s) s).but m = s.but m := but_mono hm (execTapThaw_but' s)

theorem execIdcode_but' (s : State) : (outOf (execIdcode s) s).but 64 = s.but 64 := by
  unfold execIdcode
  repeat' first
  | with_reducible rfl
  | simp (disch := first | exact Or.inr rfl | exact Or.inl rfl | decide) only [↓but_mk, ↓but_ite, ↓but_snd_ite, ↓but_snd_mk, ↓but_snd2_ite, ↓but_snd2_mk, ↓but_cond, ite_self, outOf_live, outOf_next, outOf_ite, ↓tapOut_but]
  | split <;> try (with_reducible have h := congrArg Prod.snd ‹(_ : _ × State) = (_, _)›; dsimp only at h; subst h)
  | with_reducible refine (each_but (fun _ _ => ?_) _ _).trans ?_
  | with_reducible refine (whenS_but (fun _ => ?_) _ _).trans ?_
  | with_reducible refine (foldl_but (fun _ _ => ?_) _ _).trans ?_
  | with_reducible refine (foldl_but2 (fun _ _ => ?_) _ _).trans ?_
theorem execIdcode_but {m} (hm : sub 64 m = true) (s : State) : (outOf (execIdcode s) s).but m = s.but m := but_mono hm (execIdcode_but' s)

theorem execFrzStatus_but' (s : State) : (outOf (execFrzStatus s) s).but 64 = s.but 64 := by
  unfold execFrzStatus
  repeat' first
  | with_reducible rfl
  | simp (disch := first | exact Or.inr rfl | exact Or.inl rfl | decide) only [↓but_mk, ↓but_ite, ↓but_snd_ite, ↓but_snd_mk, ↓but_snd2_ite, ↓but_snd2_mk, ↓but_cond, ite_self, outOf_live, outOf_next, outOf_ite, ↓tapOut_but]
  | split <;> try (with_reducible have h := congrArg Prod.snd ‹(_ : _ × State) = (_, _)›; dsimp only at h; subst h)
  | with_reducible refine (each_but (fun _ _ => ?_) _ _).trans ?_
  | with_reducible refine (whenS_but (fun _ => ?_) _ _).trans ?_
  | with_reducible refine (foldl_but (fun _ _ => ?_) _ _).trans ?_
  | with_reducible refine (foldl_but2 (fun _ _ => ?_) _ _).trans ?_
theorem execFrzStatus_but {m} (hm : sub 64 m = true) (s : State) : (outOf (execFrzStatus s) s).but m = s.but m := but_mono hm (execFrzStatus_but' s)

theorem scanSel_but' (dr : Nat) (s : State) : (scanSel dr s).but 64 = s.but 64 := by
  unfold scanSel
  repeat' first
  | with_reducible rfl
  | simp (disch := first | exact Or.inr rfl | exact Or.inl rfl | decide) only [↓but_mk, ↓but_ite, ↓but_snd_ite, ↓but_snd_mk, ↓but_snd2_ite, ↓but_snd2_mk, ↓but_cond, ite_self, outOf_live, outOf_next, outOf_ite, ↓tapOut_but]
  | split <;> try (with_reducible have h := congrArg Prod.snd ‹(_ : _ × State) = (_, _)›; dsimp only at h; subst h)
  | with_reducible refine (each_but (fun _ _ => ?_) _ _).trans ?_
  | with_reducible refine (whenS_but (fun _ => ?_) _ _).trans ?_
  | with_reducible refine (foldl_but (fun _ _ => ?_) _ _).trans ?_
  | with_reducible refine (foldl_but2 (fun _ _ => ?_) _ _).trans ?_
theorem scanSel_but {m} (hm : sub 64 m = true) (dr : Nat) (s : State) : (scanSel dr s).but m = s.but m := but_mono hm (scanSel_but' dr s)

theorem execScanSel_but' (dr : BitVec 64) (s : State) : (outOf (execScanSel dr s) s).but 64 = s.but 64 := by
  unfold execScanSel
  repeat' first
  | with_reducible rfl
  | simp (disch := first | exact Or.inr rfl | exact Or.inl rfl | decide) only [↓but_mk, ↓but_ite, ↓but_snd_ite, ↓but_snd_mk, ↓but_snd2_ite, ↓but_snd2_mk, ↓but_cond, ite_self, outOf_live, outOf_next, outOf_ite, ↓scanSel_but]
  | split <;> try (with_reducible have h := congrArg Prod.snd ‹(_ : _ × State) = (_, _)›; dsimp only at h; subst h)
  | with_reducible refine (each_but (fun _ _ => ?_) _ _).trans ?_
  | with_reducible refine (whenS_but (fun _ => ?_) _ _).trans ?_
  | with_reducible refine (foldl_but (fun _ _ => ?_) _ _).trans ?_
  | with_reducible refine (foldl_but2 (fun _ _ => ?_) _ _).trans ?_
theorem execScanSel_but {m} (hm : sub 64 m = true) (dr : BitVec 64) (s : State) : (outOf (execScanSel dr s) s).but m = s.but m := but_mono hm (execScanSel_but' dr s)

theorem scanData_but' (s : State) : (scanData s).but 64 = s.but 64 := by
  unfold scanData
  repeat' first
  | with_reducible rfl
  | simp (disch := first | exact Or.inr rfl | exact Or.inl rfl | decide) only [↓but_mk, ↓but_ite, ↓but_snd_ite, ↓but_snd_mk, ↓but_snd2_ite, ↓but_snd2_mk, ↓but_cond, ite_self, outOf_live, outOf_next, outOf_ite, ↓tapOut_but]
  | split <;> try (with_reducible have h := congrArg Prod.snd ‹(_ : _ × State) = (_, _)›; dsimp only at h; subst h)
  | with_reducible refine (each_but (fun _ _ => ?_) _ _).trans ?_
  | with_reducible refine (whenS_but (fun _ => ?_) _ _).trans ?_
  | with_reducible refine (foldl_but (fun _ _ => ?_) _ _).trans ?_
  | with_reducible refine (foldl_but2 (fun _ _ => ?_) _ _).trans ?_
theorem scanData_but {m} (hm : sub 64 m = true) (s : State) : (scanData s).but m = s.but m := but_mono hm (scanData_but' s)

theorem execScanData_but' (s : State) : (outOf (execScanData s) s).but 64 = s.but 64 := by
  unfold execScanData
  repeat' first
  | with_reducible rfl
  | simp (disch := first | exact Or.inr rfl | exact Or.inl rfl | decide) only [↓but_mk, ↓but_ite, ↓but_snd_ite, ↓but_snd_mk, ↓but_snd2_ite, ↓but_snd2_mk, ↓but_cond, ite_self, outOf_live, outOf_next, outOf_ite, ↓scanData_but]
  | split <;> try (with_reducible have h := congrArg Prod.snd ‹(_ : _ × State) = (_, _)›; dsimp only at h; subst h)
  | with_reducible refine (each_but (fun _ _ => ?_) _ _).trans ?_
  | with_reducible refine (whenS_but (fun _ => ?_) _ _).trans ?_
  | with_reducible refine (foldl_but (fun _ _ => ?_) _ _).trans ?_
  | with_reducible refine (foldl_but2 (fun _ _ => ?_) _ _).trans ?_
theorem execScanData_but {m} (hm : sub 64 m = true) (s : State) : (outOf (execScanData s) s).but m = s.but m := but_mono hm (execScanData_but' s)

theorem execScanCrc_but' (s : State) : (outOf (execScanCrc s) s).but 64 = s.but 64 := by
  unfold execScanCrc
  repeat' first
  | with_reducible rfl
  | simp (disch := first | exact Or.inr rfl | exact Or.inl rfl | decide) only [↓but_mk, ↓but_ite, ↓but_snd_ite, ↓but_snd_mk, ↓but_snd2_ite, ↓but_snd2_mk, ↓but_cond, ite_self, outOf_live, outOf_next, outOf_ite, ↓tapOut_but]
  | split <;> try (with_reducible have h := congrArg Prod.snd ‹(_ : _ × State) = (_, _)›; dsimp only at h; subst h)
  | with_reducible refine (each_but (fun _ _ => ?_) _ _).trans ?_
  | with_reducible refine (whenS_but (fun _ => ?_) _ _).trans ?_
  | with_reducible refine (foldl_but (fun _ _ => ?_) _ _).trans ?_
  | with_reducible refine (foldl_but2 (fun _ _ => ?_) _ _).trans ?_
theorem execScanCrc_but {m} (hm : sub 64 m = true) (s : State) : (outOf (execScanCrc s) s).but m = s.but m := but_mono hm (execScanCrc_but' s)

theorem execBypass_but' (scan : Nat × Bool) (s : State) : (outOf (execBypass scan s) s).but 64 = s.but 64 := by
  unfold execBypass
  repeat' first
  | with_reducible rfl
  | simp (disch := first | exact Or.inr rfl | exact Or.inl rfl | decide) only [↓but_mk, ↓but_ite, ↓but_snd_ite, ↓but_snd_mk, ↓but_snd2_ite, ↓but_snd2_mk, ↓but_cond, ite_self, outOf_live, outOf_next, outOf_ite, ↓tapOut_but]
  | split <;> try (with_reducible have h := congrArg Prod.snd ‹(_ : _ × State) = (_, _)›; dsimp only at h; subst h)
  | with_reducible refine (each_but (fun _ _ => ?_) _ _).trans ?_
  | with_reducible refine (whenS_but (fun _ => ?_) _ _).trans ?_
  | with_reducible refine (foldl_but (fun _ _ => ?_) _ _).trans ?_
  | with_reducible refine (foldl_but2 (fun _ _ => ?_) _ _).trans ?_
theorem execBypass_but {m} (hm : sub 64 m = true) (scan : Nat × Bool) (s : State) : (outOf (execBypass scan s) s).but m = s.but m := but_mono hm (execBypass_but' scan s)

theorem execTrstN_but' (s : State) : (outOf (execTrstN s) s).but 64 = s.but 64 := by
  unfold execTrstN
  repeat' first
  | with_reducible rfl
  | simp (disch := first | exact Or.inr rfl | exact Or.inl rfl | decide) only [↓but_mk, ↓but_ite, ↓but_snd_ite, ↓but_snd_mk, ↓but_snd2_ite, ↓but_snd2_mk, ↓but_cond, ite_self, outOf_live, outOf_next, outOf_ite]
  | split <;> try (with_reducible have h := congrArg Prod.snd ‹(_ : _ × State) = (_, _)›; dsimp only at h; subst h)
  | with_reducible refine (each_but (fun _ _ => ?_) _ _).trans ?_
  | with_reducible refine (whenS_but (fun _ => ?_) _ _).trans ?_
  | with_reducible refine (foldl_but (fun _ _ => ?_) _ _).trans ?_
  | with_reducible refine (foldl_but2 (fun _ _ => ?_) _ _).trans ?_
theorem execTrstN_but {m} (hm : sub 64 m = true) (s : State) : (outOf (execTrstN s) s).but m = s.but m := but_mono hm (execTrstN_but' s)

end Sys2Proof.Machine
end

