-- ==== Sys2Proof/Laws/Critical.lean ====
section
/-! SUPPORT. A critical command whose keyed check passes (R324 to R329): what runs, on which state, and how it is closed. -/

set_option Elab.async false
set_option linter.all false

namespace Sys2Proof.Machine

/-- The state on which a critical command runs: the counter is spent, the mark kept, the ACK sent. -/
def critRuns (d : Dgram) (p : PeerRec) (u : State) : State :=
  let c := unLe (tagCounter d)
  let x := { ctrSt u p.index with floor := c, mark := if (ctrSt u p.index).mark ≤ c then c + 65536 else (ctrSt u p.index).mark, lastCmd := some d, lastResp := [] }
  sendAck d { u with ks.ctrs := tset u.ks.ctrs p.index x }

/-- A CRITICAL message that passes every check of R325 runs its command and closes with the command's result. -/
theorem critical_taken {code nargs flags : Nat} {d : Dgram} {s u : State} {p : PeerRec} {r : Nat} (h : CritTaken code nargs flags d s p r u)
    (k : PeerRec → Nat → Bytes → State → CmdRes × State) :
    critical code nargs flags d s k =
      critClose p (keyOf u r) code (unLe (tagCounter d)) d (k p (critFlags d) (critArgs d) (critRuns d p u)).1
        (k p (critFlags d) (critArgs d) (critRuns d p u)).2 := by
  obtain ⟨h1, h2, h3, h4, h5, h6, h7, h8, h9, h10, h11, hb, h12, h13⟩ := h
  have e9 : (tagOf (keyOf u r) d (tagBody d) (tagCounter d) strHXP1 != tagBytes d) = false := by rw [h9]; exact bne_self_eq_false _
  have e7 : (slice d.payload 8 8 != u.hw.target) = false := by rw [h7]; exact bne_self_eq_false _
  have e11 : ¬((ctrSt u p.index).mark ≤ unLe (tagCounter d) && u.pwr.dip) = true := by
    intro e
    simp only [Bool.and_eq_true, decide_eq_true_eq] at e
    rw [h11 e.1] at e
    exact absurd e.2 (by decide)
  have e12 : ¬((critArgs d).length != nargs || critFlags d / (flags + 1) != 0) = true := by simp [h12, h13]
  have e3 : ¬(critDenied (critRuns d p u) code) = true := by
    have : critDenied (critRuns d p u) code = critDenied u code := by unfold critRuns critDenied sendAck; rfl
    rw [this, h3]
    decide
  unfold critical
  rw [h1]
  dsimp only
  rw [if_neg (by simp [h2]), if_neg (by simp [h4]), if_pos h5, h6]
  unfold critKeyed
  dsimp only
  rw [if_neg (by simp [e7]), if_neg (by simp [h8, e9]), if_pos h10, if_neg e11]
  have eb : ¬(critBlocked (critRuns d p u)) = true := by
    have : critBlocked (critRuns d p u) = critBlocked u := by unfold critRuns critBlocked sendAck; rfl
    rw [this, hb]
    decide
  unfold critSpend
  refine (if_neg eb).trans ?_
  unfold critExec
  exact (if_neg e12).trans (if_neg e3)

/-- Taking a request in touches the records, the host link, the count of bad tags, the stitch counters of a peer's old session and the answers. -/
theorem critTaken_but {code nargs flags : Nat} {d : Dgram} {s u : State} {p : PeerRec} {r : Nat} (h : CritTaken code nargs flags d s p r u) :
    u.but (partMask [.ev, .hl, .ks, .sc, .errs, .outbox]) = s.but (partMask [.ev, .hl, .ks, .sc, .errs, .outbox]) := by
  have := takeRequest_but' 0x30 none d s
  rw [h.1] at this
  exact this

/-- The state on which a critical command runs differs from that before by the same parts and the key store. -/
theorem critRuns_but {code nargs flags : Nat} {d : Dgram} {s u : State} {p : PeerRec} {r : Nat} (h : CritTaken code nargs flags d s p r u) :
    (critRuns d p u).but (partMask [.ev, .hl, .ks, .sc, .errs, .outbox]) = s.but (partMask [.ev, .hl, .ks, .sc, .errs, .outbox]) := by
  refine Eq.trans ?_ (but_mono (by decide) (critTaken_but h))
  unfold critRuns
  refine (sendAck_but (by decide) _ _).trans ?_
  exact but_mk _ u _ _ _ _ _ _ _ _ _ _ _ _ _ _ _ _ _ _ _ _ _ _ _ _ _ _ _ _ _ _ _ _ _ _ (Or.inl rfl) (Or.inl rfl) (Or.inl rfl) (Or.inl rfl) (Or.inl rfl)
    (Or.inl rfl) (Or.inl rfl) (Or.inl rfl) (Or.inl rfl) (Or.inl rfl) (Or.inr (by decide)) (Or.inl rfl) (Or.inl rfl) (Or.inl rfl) (Or.inl rfl) (Or.inl rfl) (Or.inl rfl)
    (Or.inl rfl) (Or.inl rfl) (Or.inl rfl) (Or.inl rfl) (Or.inl rfl) (Or.inl rfl) (Or.inl rfl) (Or.inl rfl) (Or.inl rfl) (Or.inl rfl) (Or.inl rfl) (Or.inl rfl)
    (Or.inl rfl) (Or.inl rfl) (Or.inl rfl) (Or.inl rfl) (Or.inl rfl)

end Sys2Proof.Machine
end

