-- ==== Sys2Proof/Laws/Memory.lean ====
section
/-! SUPPORT. The byte memories: every operation keeps the canonical form, and what is read after a write. -/

set_option Elab.async false
set_option linter.all false

namespace Sys2Proof.Machine

/-- Every address of `m` lies above `a`. -/
def Above (a : Nat) (m : List Host.Cell) : Prop := ∀ c ∈ m, a < c.1

theorem wf_cons {c : Host.Cell} {m : List Host.Cell} :
    Memory.wf (c :: m) = true ↔ (c.2 ≠ Memory.unlisted ∧ Above c.1 m ∧ Memory.wf m = true) := by
  induction m generalizing c with
  | nil => simp [Memory.wf, Above]
  | cons d t ih =>
    simp only [Memory.wf, Bool.and_eq_true, bne_iff_ne, ne_eq, decide_eq_true_eq, and_assoc]
    constructor
    · rintro ⟨h1, h2, h3⟩
      refine ⟨h1, ?_, h3⟩
      intro x hx
      rcases List.mem_cons.1 hx with rfl | hx
      · exact h2
      · exact Nat.lt_trans h2 ((ih.1 h3).2.1 x hx)
    · rintro ⟨h1, h2, h3⟩
      exact ⟨h1, h2 d (List.mem_cons_self ..), h3⟩

/-- A sublist by a test keeps the form. -/
theorem filter_wf (p : Host.Cell → Bool) {m : List Host.Cell} (h : Memory.wf m = true) : Memory.wf (m.filter p) = true := by
  induction m with
  | nil => rfl
  | cons c t ih =>
    obtain ⟨h1, h2, h3⟩ := wf_cons.1 h
    by_cases hp : p c = true
    · rw [List.filter_cons_of_pos hp]
      exact wf_cons.2 ⟨h1, fun x hx => h2 x (List.mem_filter.1 hx).1, ih h3⟩
    · rw [List.filter_cons_of_neg hp]
      exact ih h3

theorem memIns_above {m : List Host.Cell} {a b : Nat} {v : BitVec 8} (h : Above b m) (hab : b < a) : Above b (memIns m a v) := by
  induction m with
  | nil =>
    intro c hc
    simp only [memIns, List.mem_singleton] at hc
    rw [hc]; exact hab
  | cons d t ih =>
    have hd := h d (List.mem_cons_self ..)
    have ht : Above b t := fun x hx => h x (List.mem_cons_of_mem _ hx)
    unfold memIns
    split
    · intro c hc
      rcases List.mem_cons.1 hc with rfl | hc
      · exact hab
      · exact ht c hc
    · split
      · intro c hc
        rcases List.mem_cons.1 hc with rfl | hc
        · exact hab
        · exact h c hc
      · intro c hc
        rcases List.mem_cons.1 hc with rfl | hc
        · exact hd
        · exact ih ht c hc

/-- Inserting a listed value keeps the form. -/
theorem memIns_wf {m : List Host.Cell} {a : Nat} {v : BitVec 8} (hv : v ≠ Memory.unlisted) (h : Memory.wf m = true) :
    Memory.wf (memIns m a v) = true := by
  induction m with
  | nil => exact wf_cons.2 ⟨hv, fun x hx => absurd hx (by simp), rfl⟩
  | cons d t ih =>
    obtain ⟨h1, h2, h3⟩ := wf_cons.1 h
    unfold memIns
    split
    · next e => exact wf_cons.2 ⟨hv, by rw [e]; exact h2, h3⟩
    · split
      · next lt =>
        refine wf_cons.2 ⟨hv, ?_, h⟩
        intro x hx
        rcases List.mem_cons.1 hx with rfl | hx
        · exact lt
        · exact Nat.lt_trans lt (h2 x hx)
      · next ne nlt =>
        have hlt : d.1 < a := Nat.lt_of_le_of_ne (Nat.le_of_not_lt nlt) (fun e => ne e.symm)
        exact wf_cons.2 ⟨h1, memIns_above h2 hlt, ih h3⟩

/-- Writing a byte keeps the form. -/
theorem memWr_wf {m : List Host.Cell} (a : Nat) (v : BitVec 8) (h : Memory.wf m = true) : Memory.wf (memWr m a v) = true := by
  unfold memWr
  split
  · exact filter_wf _ h
  · next hv => exact memIns_wf hv h

/-- Writing a string keeps the form. -/
theorem memWrN_wf {m : List Host.Cell} (a : Nat) (bs : Bytes) (h : Memory.wf m = true) : Memory.wf (memWrN m a bs) = true := by
  induction bs generalizing m a with
  | nil => exact h
  | cons b t ih => exact ih (a + 1) (memWr_wf a b h)

/-- Clearing a range keeps the form. -/
theorem memClear_wf {m : List Host.Cell} (lo hi : Nat) (h : Memory.wf m = true) : Memory.wf (memClear m lo hi) = true := filter_wf _ h

/-- An address that lies below every entry reads as unlisted. -/
theorem memRd_above {m : List Host.Cell} {a : Nat} (h : Above a m) : memRd m a = Memory.unlisted := by
  induction m with
  | nil => rfl
  | cons d t ih =>
    have hd := h d (List.mem_cons_self ..)
    unfold memRd
    rw [if_neg (by omega)]
    exact ih (fun x hx => h x (List.mem_cons_of_mem _ hx))

theorem memRd_memIns {m : List Host.Cell} (h : Memory.wf m = true) (a b : Nat) (v : BitVec 8) :
    memRd (memIns m a v) b = if b = a then v else memRd m b := by
  induction m with
  | nil =>
    simp only [memIns, memRd]
    by_cases e : a = b
    · subst e; simp
    · rw [if_neg e, if_neg (fun h => e h.symm)]
  | cons d t ih =>
    obtain ⟨h1, h2, h3⟩ := wf_cons.1 h
    unfold memIns
    split
    · next e =>
      subst e
      simp only [memRd]
      by_cases e : d.1 = b
      · rw [if_pos e, if_pos e.symm]
      · rw [if_neg e, if_neg (fun h => e h.symm), if_neg e]
    · split
      · next ne lt =>
        simp only [memRd]
        by_cases e : a = b
        · rw [if_pos e, if_pos e.symm]
        · have e' : ¬ b = a := fun h => e h.symm
          simp only [if_neg e, if_neg e']
      · next ne nlt =>
        simp only [memRd]
        by_cases e : d.1 = b
        · rw [if_pos e, if_neg (fun h => ne (h.symm.trans e.symm)), if_pos e]
        · rw [if_neg e, ih h3]
          split
          · rfl
          · rfl

theorem memRd_filter_ne (m : List Host.Cell) (a b : Nat) (h : b ≠ a) : memRd (m.filter (fun c => c.1 != a)) b = memRd m b := by
  induction m with
  | nil => rfl
  | cons d t ih =>
    by_cases e : d.1 = a
    · rw [List.filter_cons_of_neg (by simp [e]), ih]
      conv => rhs; unfold memRd
      rw [if_neg (by rw [e]; exact fun h' => h h'.symm)]
    · rw [List.filter_cons_of_pos (by simp [e])]
      simp only [memRd]
      split
      · rfl
      · exact ih

theorem memRd_filter_eq (m : List Host.Cell) (a : Nat) : memRd (m.filter (fun c => c.1 != a)) a = Memory.unlisted := by
  induction m with
  | nil => rfl
  | cons d t ih =>
    by_cases e : d.1 = a
    · rw [List.filter_cons_of_neg (by simp [e]), ih]
    · rw [List.filter_cons_of_pos (by simp [e])]
      unfold memRd
      rw [if_neg e, ih]

/-- A byte read after a byte is written: the written one at its address, the old one elsewhere. -/
theorem memRd_memWr {m : List Host.Cell} (h : Memory.wf m = true) (a b : Nat) (v : BitVec 8) :
    memRd (memWr m a v) b = if b = a then v else memRd m b := by
  unfold memWr
  split
  · next hv =>
    split
    · next e => rw [e, memRd_filter_eq, hv]
    · next e => exact memRd_filter_ne m a b e
  · exact memRd_memIns h a b v

/-- A byte outside a written string reads as before. -/
theorem memRd_memWrN_out {m : List Host.Cell} (h : Memory.wf m = true) (a b : Nat) (bs : Bytes) (hb : b < a ∨ a + bs.length ≤ b) :
    memRd (memWrN m a bs) b = memRd m b := by
  induction bs generalizing m a with
  | nil => rfl
  | cons v t ih =>
    simp only [memWrN, List.length_cons] at *
    rw [ih (memWr_wf a v h) (a + 1) (by omega), memRd_memWr h, if_neg (by omega)]

/-- A byte inside a written string reads as written. -/
theorem memRd_memWrN_in {m : List Host.Cell} (h : Memory.wf m = true) (a i : Nat) (bs : Bytes) (hi : i < bs.length) :
    memRd (memWrN m a bs) (a + i) = bs[i] := by
  induction bs generalizing m a i with
  | nil => exact absurd hi (by simp)
  | cons v t ih =>
    cases i with
    | zero =>
      simp only [memWrN, Nat.add_zero, List.getElem_cons_zero]
      rw [memRd_memWrN_out (memWr_wf a v h) (a + 1) a t (by omega), memRd_memWr h, if_pos rfl]
    | succ i =>
      simp only [memWrN, List.getElem_cons_succ]
      have := ih (memWr_wf a v h) (a + 1) i (by simpa using hi)
      rw [show a + (i + 1) = a + 1 + i by omega]
      exact this

/-- The memories right after reset have the form. -/
theorem reset_memories_empty : State.reset.mem = [] ∧ State.reset.stage = [] := ⟨rfl, rfl⟩

end Sys2Proof.Machine
end

