-- ==== Sys2Proof/Laws/Record.lean ====
section
/-! SUPPORT. What writing a record can change: of the recorder, its stores, numbers, buckets and drop counts; of the host link, the error bits to be notified. -/

set_option Elab.async false
set_option linter.all false

namespace Sys2Proof.Machine

/-- Two recorders agree on all that a record does not touch. -/
def EvKept (a b : EvSt) : Prop :=
  b.bootFirst = a.bootFirst ∧ b.hbmOk = a.hbmOk ∧ b.hbmCap = a.hbmCap ∧ b.pst = a.pst ∧ b.dropAt = a.dropAt ∧ b.pstPage = a.pstPage ∧ b.pstReady = a.pstReady ∧
  b.pageBuf = a.pageBuf ∧ b.quar = a.quar ∧ b.cursors = a.cursors ∧ b.curStage = a.curStage ∧ b.resumeAt = a.resumeAt ∧ b.expMin = a.expMin ∧ b.expRound = a.expRound

theorem EvKept.refl (a : EvSt) : EvKept a a := ⟨rfl, rfl, rfl, rfl, rfl, rfl, rfl, rfl, rfl, rfl, rfl, rfl, rfl, rfl⟩

theorem EvKept.trans {a b c : EvSt} (h : EvKept a b) (k : EvKept b c) : EvKept a c := by
  unfold EvKept at *
  obtain ⟨h1, h2, h3, h4, h5, h6, h7, h8, h9, h10, h11, h12, h13, h14⟩ := h
  obtain ⟨k1, k2, k3, k4, k5, k6, k7, k8, k9, k10, k11, k12, k13, k14⟩ := k
  exact ⟨k1.trans h1, k2.trans h2, k3.trans h3, k4.trans h4, k5.trans h5, k6.trans h6, k7.trans h7, k8.trans h8, k9.trans h9, k10.trans h10, k11.trans h11, k12.trans h12,
    k13.trans h13, k14.trans h14⟩

theorem setErr_ev' (a b : Nat) (s : State) : (setErr a b s).ev = s.ev := eq_ev (setErr_but' a b s)

theorem putRing_kept (r : EvRec) (s : State) : EvKept s.ev (putRing r s).ev := by
  unfold putRing countDrop; split <;> exact EvKept.refl _

theorem putHbm_kept (r : EvRec) (s : State) : EvKept s.ev (putHbm r s).ev := by
  unfold putHbm countDrop
  split
  · split <;> exact EvKept.refl _
  · exact EvKept.refl _

/-- The last part of `putStaging`, after the deferral was noted. -/
theorem putStaging_tail_kept (r : EvRec) (s : State) :
    EvKept s.ev (if s.ev.staging.length < 256 then { s with ev.staging := s.ev.staging ++ [r] }
      else
        match s.ev.staging.find? (fun q => q.sev ≤ r.sev) with
        | some q => { (countDrop 2 q.sev s) with ev.staging := s.ev.staging.filter (fun x => x.seq != q.seq) ++ [r] }
        | none => countDrop 2 r.sev s : State).ev := by
  unfold countDrop
  split
  · exact EvKept.refl _
  · split <;> exact EvKept.refl _

theorem putStaging_kept (r : EvRec) (s : State) : EvKept s.ev (putStaging r s).ev := by
  unfold putStaging
  split
  · exact EvKept.refl _
  · refine EvKept.trans (b := (if s.pwr.dip then setErr 0x04000008 3 { s with ev.pstDefer := true } else s).ev) ?_ (putStaging_tail_kept r _)
    split
    · rw [setErr_ev']; exact EvKept.refl _
    · exact EvKept.refl _

/-- Setting an error bit leaves the recorder. -/
theorem whenErr_ev (c : Bool) (code : Nat) (s : State) : (whenS c (setErrOf code) s).ev = s.ev := by
  unfold whenS
  split
  · exact eq_ev (setErrOf_but' _ _)
  · rfl

theorem storeRec_kept (r : EvRec) (s : State) : EvKept s.ev (storeRec r s).ev := by
  unfold storeRec
  refine EvKept.trans (EvKept.trans (EvKept.trans ?_ (putRing_kept _ _)) (putHbm_kept _ _)) (putStaging_kept _ _)
  rw [whenErr_ev]
  exact EvKept.refl _

theorem takeToken_kept (code : Nat) (s : State) : EvKept s.ev (takeToken code s).2.ev := by
  unfold takeToken
  dsimp only
  split
  · exact EvKept.refl _
  · split <;> exact EvKept.refl _

theorem passRec_kept (r : EvRec) (s : State) : EvKept s.ev (passRec r s).ev := by
  unfold passRec
  split
  · exact EvKept.refl _
  · split
    · exact storeRec_kept _ _
    · have h := takeToken_kept r.code s
      split
      · next e => rw [e] at h; exact h.trans (storeRec_kept _ _)
      · next e => rw [e] at h; exact h

theorem emitRec_kept (r : EvRec) (s : State) : EvKept s.ev (emitRec r s).ev := by
  have h : ∀ u : State, u.ev = s.ev → ∀ q : EvRec, EvKept s.ev (if u.ev.quar then (if u.ev.held.length < 64 then { u with ev.held := u.ev.held ++ [q] } else countDrop 0 q.sev u) else passRec q u).ev := by
    intro u e q
    unfold countDrop
    rw [← e]
    split
    · split <;> exact EvKept.refl _
    · exact passRec_kept _ _
  exact h _ (whenErr_ev ..) _

/-- Writing a record keeps the persistent store, the cursors, the page buffer and the export's pace. -/
theorem emit_kept (code source : Nat) (args : List Word) (s : State) (clear : Bool) : EvKept s.ev (emit code source args s clear).ev := emitRec_kept _ _

/-- Two host links agree on all but the error bits to be notified. -/
def HlKept (a b : HlSt) : Prop := b = { a with newErr := b.newErr }

theorem HlKept.trans {a b c : HlSt} (h : HlKept a b) (k : HlKept b c) : HlKept a c := by
  unfold HlKept at *
  rw [k, h]

theorem HlKept.of_eq {a b : HlSt} (h : b = a) : HlKept a b := by subst h; rfl

theorem setErr_hlKept (a b : Nat) (s : State) : HlKept s.hl (setErr a b s).hl := by
  unfold setErr; split <;> rfl

theorem setErrOf_hlKept (code : Nat) (s : State) : HlKept s.hl (setErrOf code s).hl := by
  unfold setErrOf; split
  · exact setErr_hlKept _ _ _
  · rfl

theorem whenErr_hlKept (c : Bool) (code : Nat) (s : State) : HlKept s.hl (whenS c (setErrOf code) s).hl := by
  unfold whenS
  split
  · exact setErrOf_hlKept _ _
  · rfl

/-- The last part of `putStaging` leaves the host link. -/
theorem putStaging_tail_hl (r : EvRec) (u : State) : (if u.ev.staging.length < 256 then { u with ev.staging := u.ev.staging ++ [r] }
      else
        match u.ev.staging.find? (fun q => q.sev ≤ r.sev) with
        | some q => { (countDrop 2 q.sev u) with ev.staging := u.ev.staging.filter (fun x => x.seq != q.seq) ++ [r] }
        | none => countDrop 2 r.sev u : State).hl = u.hl := by
  unfold countDrop
  split
  · rfl
  · split <;> rfl

theorem putStaging_hlKept (r : EvRec) (s : State) : HlKept s.hl (putStaging r s).hl := by
  unfold putStaging
  split
  · rfl
  · refine HlKept.trans (b := (if s.pwr.dip then setErr 0x04000008 3 { s with ev.pstDefer := true } else s).hl) ?_ (HlKept.of_eq (putStaging_tail_hl r _))
    split
    · exact setErr_hlKept _ _ _
    · rfl

theorem storeRec_hlKept (r : EvRec) (s : State) : HlKept s.hl (storeRec r s).hl := by
  unfold storeRec
  refine HlKept.trans ?_ (putStaging_hlKept _ _)
  rw [eq_hl (putHbm_but' _ _), eq_hl (putRing_but' _ _)]
  exact whenErr_hlKept _ _ _

theorem passRec_hlKept (r : EvRec) (s : State) : HlKept s.hl (passRec r s).hl := by
  unfold passRec
  split
  · rfl
  · split
    · exact storeRec_hlKept _ _
    · have h := HlKept.of_eq (eq_hl (takeToken_but' r.code s))
      split
      · next e => rw [e] at h; exact h.trans (storeRec_hlKept _ _)
      · next e => rw [e] at h; exact h

/-- Writing a record changes nothing of the host link but the error bits to be notified. -/
theorem emit_hlKept (code source : Nat) (args : List Word) (s : State) (clear : Bool) : HlKept s.hl (emit code source args s clear).hl := by
  have h : ∀ (u : State) (q : EvRec), HlKept u.hl (if u.ev.quar then (if u.ev.held.length < 64 then { u with ev.held := u.ev.held ++ [q] } else countDrop 0 q.sev u) else passRec q u).hl := by
    intro u q
    unfold countDrop
    split
    · split <;> rfl
    · exact passRec_hlKept _ _
  exact HlKept.trans (whenErr_hlKept ..) (h _ _)

@[simp] theorem emit_ev_bootFirst (code source : Nat) (args : List Word) (s : State) (clear : Bool) : (emit code source args s clear).ev.bootFirst = s.ev.bootFirst := (emit_kept code source args s clear).1
@[simp] theorem emit_ev_hbmOk (code source : Nat) (args : List Word) (s : State) (clear : Bool) : (emit code source args s clear).ev.hbmOk = s.ev.hbmOk := (emit_kept code source args s clear).2.1
@[simp] theorem emit_ev_hbmCap (code source : Nat) (args : List Word) (s : State) (clear : Bool) : (emit code source args s clear).ev.hbmCap = s.ev.hbmCap := (emit_kept code source args s clear).2.2.1
@[simp] theorem emit_ev_pst (code source : Nat) (args : List Word) (s : State) (clear : Bool) : (emit code source args s clear).ev.pst = s.ev.pst := (emit_kept code source args s clear).2.2.2.1
@[simp] theorem emit_ev_dropAt (code source : Nat) (args : List Word) (s : State) (clear : Bool) : (emit code source args s clear).ev.dropAt = s.ev.dropAt := (emit_kept code source args s clear).2.2.2.2.1
@[simp] theorem emit_ev_pstPage (code source : Nat) (args : List Word) (s : State) (clear : Bool) : (emit code source args s clear).ev.pstPage = s.ev.pstPage := (emit_kept code source args s clear).2.2.2.2.2.1
@[simp] theorem emit_ev_pstReady (code source : Nat) (args : List Word) (s : State) (clear : Bool) : (emit code source args s clear).ev.pstReady = s.ev.pstReady := (emit_kept code source args s clear).2.2.2.2.2.2.1
@[simp] theorem emit_ev_pageBuf (code source : Nat) (args : List Word) (s : State) (clear : Bool) : (emit code source args s clear).ev.pageBuf = s.ev.pageBuf := (emit_kept code source args s clear).2.2.2.2.2.2.2.1
@[simp] theorem emit_ev_quar (code source : Nat) (args : List Word) (s : State) (clear : Bool) : (emit code source args s clear).ev.quar = s.ev.quar := (emit_kept code source args s clear).2.2.2.2.2.2.2.2.1
@[simp] theorem emit_ev_cursors (code source : Nat) (args : List Word) (s : State) (clear : Bool) : (emit code source args s clear).ev.cursors = s.ev.cursors := (emit_kept code source args s clear).2.2.2.2.2.2.2.2.2.1
@[simp] theorem emit_ev_curStage (code source : Nat) (args : List Word) (s : State) (clear : Bool) : (emit code source args s clear).ev.curStage = s.ev.curStage := (emit_kept code source args s clear).2.2.2.2.2.2.2.2.2.2.1
@[simp] theorem emit_ev_resumeAt (code source : Nat) (args : List Word) (s : State) (clear : Bool) : (emit code source args s clear).ev.resumeAt = s.ev.resumeAt := (emit_kept code source args s clear).2.2.2.2.2.2.2.2.2.2.2.1
@[simp] theorem emit_ev_expMin (code source : Nat) (args : List Word) (s : State) (clear : Bool) : (emit code source args s clear).ev.expMin = s.ev.expMin := (emit_kept code source args s clear).2.2.2.2.2.2.2.2.2.2.2.2.1
@[simp] theorem emit_ev_expRound (code source : Nat) (args : List Word) (s : State) (clear : Bool) : (emit code source args s clear).ev.expRound = s.ev.expRound := (emit_kept code source args s clear).2.2.2.2.2.2.2.2.2.2.2.2.2
@[simp] theorem emit_hl_linkUp (code source : Nat) (args : List Word) (s : State) (clear : Bool) : (emit code source args s clear).hl.linkUp = s.hl.linkUp := by rw [emit_hlKept code source args s clear]
@[simp] theorem emit_hl_rate (code source : Nat) (args : List Word) (s : State) (clear : Bool) : (emit code source args s clear).hl.rate = s.hl.rate := by rw [emit_hlKept code source args s clear]
@[simp] theorem emit_hl_tryRate (code source : Nat) (args : List Word) (s : State) (clear : Bool) : (emit code source args s clear).hl.tryRate = s.hl.tryRate := by rw [emit_hlKept code source args s clear]
@[simp] theorem emit_hl_tryAt (code source : Nat) (args : List Word) (s : State) (clear : Bool) : (emit code source args s clear).hl.tryAt = s.hl.tryAt := by rw [emit_hlKept code source args s clear]
@[simp] theorem emit_hl_fecLock (code source : Nat) (args : List Word) (s : State) (clear : Bool) : (emit code source args s clear).hl.fecLock = s.hl.fecLock := by rw [emit_hlKept code source args s clear]
@[simp] theorem emit_hl_optic (code source : Nat) (args : List Word) (s : State) (clear : Bool) : (emit code source args s clear).hl.optic = s.hl.optic := by rw [emit_hlKept code source args s clear]
@[simp] theorem emit_hl_opticTemp (code source : Nat) (args : List Word) (s : State) (clear : Bool) : (emit code source args s clear).hl.opticTemp = s.hl.opticTemp := by rw [emit_hlKept code source args s clear]
@[simp] theorem emit_hl_ifaces (code source : Nat) (args : List Word) (s : State) (clear : Bool) : (emit code source args s clear).hl.ifaces = s.hl.ifaces := by rw [emit_hlKept code source args s clear]
@[simp] theorem emit_hl_upSince (code source : Nat) (args : List Word) (s : State) (clear : Bool) : (emit code source args s clear).hl.upSince = s.hl.upSince := by rw [emit_hlKept code source args s clear]
@[simp] theorem emit_hl_fecCorr (code source : Nat) (args : List Word) (s : State) (clear : Bool) : (emit code source args s clear).hl.fecCorr = s.hl.fecCorr := by rw [emit_hlKept code source args s clear]
@[simp] theorem emit_hl_fecUncorr (code source : Nat) (args : List Word) (s : State) (clear : Bool) : (emit code source args s clear).hl.fecUncorr = s.hl.fecUncorr := by rw [emit_hlKept code source args s clear]
@[simp] theorem emit_hl_dropRej (code source : Nat) (args : List Word) (s : State) (clear : Bool) : (emit code source args s clear).hl.dropRej = s.hl.dropRej := by rw [emit_hlKept code source args s clear]
@[simp] theorem emit_hl_dropCrc (code source : Nat) (args : List Word) (s : State) (clear : Bool) : (emit code source args s clear).hl.dropCrc = s.hl.dropCrc := by rw [emit_hlKept code source args s clear]
@[simp] theorem emit_hl_latMax (code source : Nat) (args : List Word) (s : State) (clear : Bool) : (emit code source args s clear).hl.latMax = s.hl.latMax := by rw [emit_hlKept code source args s clear]
@[simp] theorem emit_hl_latLast (code source : Nat) (args : List Word) (s : State) (clear : Bool) : (emit code source args s clear).hl.latLast = s.hl.latLast := by rw [emit_hlKept code source args s clear]
@[simp] theorem emit_hl_telDone (code source : Nat) (args : List Word) (s : State) (clear : Bool) : (emit code source args s clear).hl.telDone = s.hl.telDone := by rw [emit_hlKept code source args s clear]
@[simp] theorem emit_hl_telBad (code source : Nat) (args : List Word) (s : State) (clear : Bool) : (emit code source args s clear).hl.telBad = s.hl.telBad := by rw [emit_hlKept code source args s clear]
@[simp] theorem emit_hl_session (code source : Nat) (args : List Word) (s : State) (clear : Bool) : (emit code source args s clear).hl.session = s.hl.session := by rw [emit_hlKept code source args s clear]
@[simp] theorem emit_hl_nextXid (code source : Nat) (args : List Word) (s : State) (clear : Bool) : (emit code source args s clear).hl.nextXid = s.hl.nextXid := by rw [emit_hlKept code source args s clear]
@[simp] theorem emit_hl_seen (code source : Nat) (args : List Word) (s : State) (clear : Bool) : (emit code source args s clear).hl.seen = s.hl.seen := by rw [emit_hlKept code source args s clear]
@[simp] theorem emit_hl_sessions (code source : Nat) (args : List Word) (s : State) (clear : Bool) : (emit code source args s clear).hl.sessions = s.hl.sessions := by rw [emit_hlKept code source args s clear]
@[simp] theorem emit_hl_xfers (code source : Nat) (args : List Word) (s : State) (clear : Bool) : (emit code source args s clear).hl.xfers = s.hl.xfers := by rw [emit_hlKept code source args s clear]
@[simp] theorem emit_hl_waits (code source : Nat) (args : List Word) (s : State) (clear : Bool) : (emit code source args s clear).hl.waits = s.hl.waits := by rw [emit_hlKept code source args s clear]
@[simp] theorem emit_hl_reqs (code source : Nat) (args : List Word) (s : State) (clear : Bool) : (emit code source args s clear).hl.reqs = s.hl.reqs := by rw [emit_hlKept code source args s clear]
@[simp] theorem emit_hl_sentErr (code source : Nat) (args : List Word) (s : State) (clear : Bool) : (emit code source args s clear).hl.sentErr = s.hl.sentErr := by rw [emit_hlKept code source args s clear]
@[simp] theorem emit_hl_bundles (code source : Nat) (args : List Word) (s : State) (clear : Bool) : (emit code source args s clear).hl.bundles = s.hl.bundles := by rw [emit_hlKept code source args s clear]
@[simp] theorem emit_hl_telDone1 (code source : Nat) (args : List Word) (s : State) (clear : Bool) : (emit code source args s clear).hl.telDone1 = s.hl.telDone1 := by rw [emit_hlKept code source args s clear]

end Sys2Proof.Machine
end

