-- ==== Sys2Proof/Laws/Tables.lean ====
section
/-! SUPPORT. The sparse table and the fold over a list. -/

set_option Elab.async false
set_option linter.all false

namespace Sys2Proof.Machine

/-- A key reads as it was set. -/
@[simp] theorem tget_tset_eq {α : Type} (t : Tab α) (k : Nat) (v : α) : tget (tset t k v) k = some v := by
  induction t with
  | nil => simp [tset, tget]
  | cons e t ih =>
    obtain ⟨k', v'⟩ := e
    simp only [tset]
    split
    · simp [tget]
    · split
      · simp [tget]
      · next h1 _ => simp only [tget, if_neg (Ne.symm h1), ih]

/-- Another key reads as before. -/
theorem tget_tset_ne {α : Type} (t : Tab α) (k j : Nat) (v : α) (h : j ≠ k) : tget (tset t k v) j = tget t j := by
  induction t with
  | nil => simp [tset, tget, Ne.symm h]
  | cons e t ih =>
    obtain ⟨k', v'⟩ := e
    simp only [tset]
    split
    · next e => subst e; simp [tget, Ne.symm h]
    · split
      · simp [tget, Ne.symm h]
      · simp only [tget, ih]

/-- A removed key is absent. -/
@[simp] theorem tget_tdel_eq {α : Type} (t : Tab α) (k : Nat) : tget (tdel t k) k = none := by
  induction t with
  | nil => rfl
  | cons e t ih =>
    obtain ⟨k', v'⟩ := e
    simp only [tdel, List.filter] at *
    split
    · next h => simp only [tget, ih]; rw [if_neg (by simpa using h)]
    · exact ih

/-- Removing another key leaves a key. -/
theorem tget_tdel_ne {α : Type} (t : Tab α) (k j : Nat) (h : j ≠ k) : tget (tdel t k) j = tget t j := by
  induction t with
  | nil => rfl
  | cons e t ih =>
    obtain ⟨k', v'⟩ := e
    simp only [tdel, List.filter] at *
    split
    · simp only [tget, ih]
    · next hk =>
      have : k' = k := by simpa using hk
      simp only [tget, ih, this, if_neg (Ne.symm h)]

@[simp] theorem tgetD_tset_eq {α : Type} (t : Tab α) (k : Nat) (v d : α) : tgetD (tset t k v) k d = v := by
  simp [tgetD]

theorem tgetD_tset_ne {α : Type} (t : Tab α) (k j : Nat) (v d : α) (h : j ≠ k) : tgetD (tset t k v) j d = tgetD t j d := by
  simp [tgetD, tget_tset_ne _ _ _ _ h]

/-- Mapping the values of a table maps what is read. -/
theorem tget_tmap {α β : Type} (t : Tab α) (f : α → β) (k : Nat) : tget (tmap t f) k = (tget t k).map f := by
  induction t with
  | nil => rfl
  | cons e t ih =>
    simp only [tmap, List.map_cons, tget] at *
    split
    · rfl
    · exact ih

theorem tgetD_tmap {α : Type} (t : Tab α) (f : α → α) (k : Nat) (d : α) (h : f d = d) : tgetD (tmap t f) k d = f (tgetD t k d) := by
  simp only [tgetD, tget_tmap]
  cases tget t k <;> simp [h]

/-- A property that every single transformer keeps, a fold keeps. -/
theorem each_keeps {α : Type} (p : State → Prop) (f : α → State → State) (h : ∀ a s, p s → p (f a s)) (l : List α) (s : State) (hs : p s) :
    p (each l f s) := by
  unfold each
  induction l generalizing s with
  | nil => exact hs
  | cons a t ih => exact ih (f a s) (h a s hs)

@[simp] theorem each_nil {α : Type} (f : α → State → State) (s : State) : each [] f s = s := rfl

@[simp] theorem each_cons {α : Type} (a : α) (l : List α) (f : α → State → State) (s : State) : each (a :: l) f s = each l f (f a s) := rfl

end Sys2Proof.Machine
end

