-- ==== Sys2Proof/Laws/State.lean ====
section
/-! SUPPORT. One law for each field of State under each elementary update: what it was, or the new value. -/

set_option Elab.async false
set_option linter.all false

namespace Sys2Proof.Machine

@[simp] theorem clockTo_hw (t : Nat) (s : State) : (clockTo t s).hw = s.hw := rfl
@[simp] theorem clockTo_glb (t : Nat) (s : State) : (clockTo t s).glb = s.glb := rfl
@[simp] theorem clockTo_pwr (t : Nat) (s : State) : (clockTo t s).pwr = s.pwr := rfl
@[simp] theorem clockTo_red (t : Nat) (s : State) : (clockTo t s).red = s.red := rfl
@[simp] theorem clockTo_link (t : Nat) (s : State) : (clockTo t s).link = s.link := rfl
@[simp] theorem clockTo_mir (t : Nat) (s : State) : (clockTo t s).mir = s.mir := rfl
@[simp] theorem clockTo_dg (t : Nat) (s : State) : (clockTo t s).dg = s.dg := rfl
@[simp] theorem clockTo_ev (t : Nat) (s : State) : (clockTo t s).ev = s.ev := rfl
@[simp] theorem clockTo_wall (t : Nat) (s : State) : (clockTo t s).wall = s.wall := rfl
@[simp] theorem clockTo_hl (t : Nat) (s : State) : (clockTo t s).hl = s.hl := rfl
@[simp] theorem clockTo_ks (t : Nat) (s : State) : (clockTo t s).ks = s.ks := rfl
@[simp] theorem clockTo_pf (t : Nat) (s : State) : (clockTo t s).pf = s.pf := rfl
@[simp] theorem clockTo_sc (t : Nat) (s : State) : (clockTo t s).sc = s.sc := rfl
@[simp] theorem clockTo_lp (t : Nat) (s : State) : (clockTo t s).lp = s.lp := rfl
@[simp] theorem clockTo_swt (t : Nat) (s : State) : (clockTo t s).swt = s.swt := rfl
@[simp] theorem clockTo_sv (t : Nat) (s : State) : (clockTo t s).sv = s.sv := rfl
@[simp] theorem clockTo_svf (t : Nat) (s : State) : (clockTo t s).svf = s.svf := rfl
@[simp] theorem clockTo_fb (t : Nat) (s : State) : (clockTo t s).fb = s.fb := rfl
@[simp] theorem clockTo_fc (t : Nat) (s : State) : (clockTo t s).fc = s.fc := rfl
@[simp] theorem clockTo_al (t : Nat) (s : State) : (clockTo t s).al = s.al := rfl
@[simp] theorem clockTo_errs (t : Nat) (s : State) : (clockTo t s).errs = s.errs := rfl
@[simp] theorem clockTo_irqs (t : Nat) (s : State) : (clockTo t s).irqs = s.irqs := rfl
@[simp] theorem clockTo_latches (t : Nat) (s : State) : (clockTo t s).latches = s.latches := rfl
@[simp] theorem clockTo_outbox (t : Nat) (s : State) : (clockTo t s).outbox = s.outbox := rfl
@[simp] theorem clockTo_mem (t : Nat) (s : State) : (clockTo t s).mem = s.mem := rfl
@[simp] theorem clockTo_stage (t : Nat) (s : State) : (clockTo t s).stage = s.stage := rfl
@[simp] theorem clockTo_upBase (t : Nat) (s : State) : (clockTo t s).upBase = s.upBase := rfl
@[simp] theorem clockTo_tick (t : Nat) (s : State) : (clockTo t s).tick = s.tick := rfl
@[simp] theorem clockTo_tickAt (t : Nat) (s : State) : (clockTo t s).tickAt = s.tickAt := rfl
@[simp] theorem clockTo_round (t : Nat) (s : State) : (clockTo t s).round = s.round := rfl
@[simp] theorem clockTo_began (t : Nat) (s : State) : (clockTo t s).began = s.began := rfl
@[simp] theorem clockTo_t0At (t : Nat) (s : State) : (clockTo t s).t0At = s.t0At := rfl
@[simp] theorem clockTo_freeCtr (t : Nat) (s : State) : (clockTo t s).freeCtr = s.freeCtr := rfl
@[simp] theorem clockTo_pending (t : Nat) (s : State) : (clockTo t s).pending = s.pending := rfl
@[simp] theorem clockTo_clock (t : Nat) (s : State) : (clockTo t s).clock = max s.clock t := rfl

@[simp] theorem sendDgram_hw (d : Dgram) (s : State) : (sendDgram d s).hw = s.hw := rfl
@[simp] theorem sendDgram_glb (d : Dgram) (s : State) : (sendDgram d s).glb = s.glb := rfl
@[simp] theorem sendDgram_pwr (d : Dgram) (s : State) : (sendDgram d s).pwr = s.pwr := rfl
@[simp] theorem sendDgram_red (d : Dgram) (s : State) : (sendDgram d s).red = s.red := rfl
@[simp] theorem sendDgram_link (d : Dgram) (s : State) : (sendDgram d s).link = s.link := rfl
@[simp] theorem sendDgram_mir (d : Dgram) (s : State) : (sendDgram d s).mir = s.mir := rfl
@[simp] theorem sendDgram_dg (d : Dgram) (s : State) : (sendDgram d s).dg = s.dg := rfl
@[simp] theorem sendDgram_ev (d : Dgram) (s : State) : (sendDgram d s).ev = s.ev := rfl
@[simp] theorem sendDgram_wall (d : Dgram) (s : State) : (sendDgram d s).wall = s.wall := rfl
@[simp] theorem sendDgram_hl (d : Dgram) (s : State) : (sendDgram d s).hl = s.hl := rfl
@[simp] theorem sendDgram_ks (d : Dgram) (s : State) : (sendDgram d s).ks = s.ks := rfl
@[simp] theorem sendDgram_pf (d : Dgram) (s : State) : (sendDgram d s).pf = s.pf := rfl
@[simp] theorem sendDgram_sc (d : Dgram) (s : State) : (sendDgram d s).sc = s.sc := rfl
@[simp] theorem sendDgram_lp (d : Dgram) (s : State) : (sendDgram d s).lp = s.lp := rfl
@[simp] theorem sendDgram_swt (d : Dgram) (s : State) : (sendDgram d s).swt = s.swt := rfl
@[simp] theorem sendDgram_sv (d : Dgram) (s : State) : (sendDgram d s).sv = s.sv := rfl
@[simp] theorem sendDgram_svf (d : Dgram) (s : State) : (sendDgram d s).svf = s.svf := rfl
@[simp] theorem sendDgram_fb (d : Dgram) (s : State) : (sendDgram d s).fb = s.fb := rfl
@[simp] theorem sendDgram_fc (d : Dgram) (s : State) : (sendDgram d s).fc = s.fc := rfl
@[simp] theorem sendDgram_al (d : Dgram) (s : State) : (sendDgram d s).al = s.al := rfl
@[simp] theorem sendDgram_errs (d : Dgram) (s : State) : (sendDgram d s).errs = s.errs := rfl
@[simp] theorem sendDgram_irqs (d : Dgram) (s : State) : (sendDgram d s).irqs = s.irqs := rfl
@[simp] theorem sendDgram_latches (d : Dgram) (s : State) : (sendDgram d s).latches = s.latches := rfl
@[simp] theorem sendDgram_mem (d : Dgram) (s : State) : (sendDgram d s).mem = s.mem := rfl
@[simp] theorem sendDgram_stage (d : Dgram) (s : State) : (sendDgram d s).stage = s.stage := rfl
@[simp] theorem sendDgram_clock (d : Dgram) (s : State) : (sendDgram d s).clock = s.clock := rfl
@[simp] theorem sendDgram_upBase (d : Dgram) (s : State) : (sendDgram d s).upBase = s.upBase := rfl
@[simp] theorem sendDgram_tick (d : Dgram) (s : State) : (sendDgram d s).tick = s.tick := rfl
@[simp] theorem sendDgram_tickAt (d : Dgram) (s : State) : (sendDgram d s).tickAt = s.tickAt := rfl
@[simp] theorem sendDgram_round (d : Dgram) (s : State) : (sendDgram d s).round = s.round := rfl
@[simp] theorem sendDgram_began (d : Dgram) (s : State) : (sendDgram d s).began = s.began := rfl
@[simp] theorem sendDgram_t0At (d : Dgram) (s : State) : (sendDgram d s).t0At = s.t0At := rfl
@[simp] theorem sendDgram_freeCtr (d : Dgram) (s : State) : (sendDgram d s).freeCtr = s.freeCtr := rfl
@[simp] theorem sendDgram_pending (d : Dgram) (s : State) : (sendDgram d s).pending = s.pending := rfl
@[simp] theorem sendDgram_outbox (d : Dgram) (s : State) : (sendDgram d s).outbox = s.outbox ++ [d] := rfl

@[simp] theorem setCtr_hw (c : Nat) (x : ScCtr) (s : State) : (setCtr c x s).hw = s.hw := rfl
@[simp] theorem setCtr_glb (c : Nat) (x : ScCtr) (s : State) : (setCtr c x s).glb = s.glb := rfl
@[simp] theorem setCtr_pwr (c : Nat) (x : ScCtr) (s : State) : (setCtr c x s).pwr = s.pwr := rfl
@[simp] theorem setCtr_red (c : Nat) (x : ScCtr) (s : State) : (setCtr c x s).red = s.red := rfl
@[simp] theorem setCtr_link (c : Nat) (x : ScCtr) (s : State) : (setCtr c x s).link = s.link := rfl
@[simp] theorem setCtr_mir (c : Nat) (x : ScCtr) (s : State) : (setCtr c x s).mir = s.mir := rfl
@[simp] theorem setCtr_dg (c : Nat) (x : ScCtr) (s : State) : (setCtr c x s).dg = s.dg := rfl
@[simp] theorem setCtr_ev (c : Nat) (x : ScCtr) (s : State) : (setCtr c x s).ev = s.ev := rfl
@[simp] theorem setCtr_wall (c : Nat) (x : ScCtr) (s : State) : (setCtr c x s).wall = s.wall := rfl
@[simp] theorem setCtr_hl (c : Nat) (x : ScCtr) (s : State) : (setCtr c x s).hl = s.hl := rfl
@[simp] theorem setCtr_ks (c : Nat) (x : ScCtr) (s : State) : (setCtr c x s).ks = s.ks := rfl
@[simp] theorem setCtr_pf (c : Nat) (x : ScCtr) (s : State) : (setCtr c x s).pf = s.pf := rfl
@[simp] theorem setCtr_lp (c : Nat) (x : ScCtr) (s : State) : (setCtr c x s).lp = s.lp := rfl
@[simp] theorem setCtr_swt (c : Nat) (x : ScCtr) (s : State) : (setCtr c x s).swt = s.swt := rfl
@[simp] theorem setCtr_sv (c : Nat) (x : ScCtr) (s : State) : (setCtr c x s).sv = s.sv := rfl
@[simp] theorem setCtr_svf (c : Nat) (x : ScCtr) (s : State) : (setCtr c x s).svf = s.svf := rfl
@[simp] theorem setCtr_fb (c : Nat) (x : ScCtr) (s : State) : (setCtr c x s).fb = s.fb := rfl
@[simp] theorem setCtr_fc (c : Nat) (x : ScCtr) (s : State) : (setCtr c x s).fc = s.fc := rfl
@[simp] theorem setCtr_al (c : Nat) (x : ScCtr) (s : State) : (setCtr c x s).al = s.al := rfl
@[simp] theorem setCtr_errs (c : Nat) (x : ScCtr) (s : State) : (setCtr c x s).errs = s.errs := rfl
@[simp] theorem setCtr_irqs (c : Nat) (x : ScCtr) (s : State) : (setCtr c x s).irqs = s.irqs := rfl
@[simp] theorem setCtr_latches (c : Nat) (x : ScCtr) (s : State) : (setCtr c x s).latches = s.latches := rfl
@[simp] theorem setCtr_outbox (c : Nat) (x : ScCtr) (s : State) : (setCtr c x s).outbox = s.outbox := rfl
@[simp] theorem setCtr_mem (c : Nat) (x : ScCtr) (s : State) : (setCtr c x s).mem = s.mem := rfl
@[simp] theorem setCtr_stage (c : Nat) (x : ScCtr) (s : State) : (setCtr c x s).stage = s.stage := rfl
@[simp] theorem setCtr_clock (c : Nat) (x : ScCtr) (s : State) : (setCtr c x s).clock = s.clock := rfl
@[simp] theorem setCtr_upBase (c : Nat) (x : ScCtr) (s : State) : (setCtr c x s).upBase = s.upBase := rfl
@[simp] theorem setCtr_tick (c : Nat) (x : ScCtr) (s : State) : (setCtr c x s).tick = s.tick := rfl
@[simp] theorem setCtr_tickAt (c : Nat) (x : ScCtr) (s : State) : (setCtr c x s).tickAt = s.tickAt := rfl
@[simp] theorem setCtr_round (c : Nat) (x : ScCtr) (s : State) : (setCtr c x s).round = s.round := rfl
@[simp] theorem setCtr_began (c : Nat) (x : ScCtr) (s : State) : (setCtr c x s).began = s.began := rfl
@[simp] theorem setCtr_t0At (c : Nat) (x : ScCtr) (s : State) : (setCtr c x s).t0At = s.t0At := rfl
@[simp] theorem setCtr_freeCtr (c : Nat) (x : ScCtr) (s : State) : (setCtr c x s).freeCtr = s.freeCtr := rfl
@[simp] theorem setCtr_pending (c : Nat) (x : ScCtr) (s : State) : (setCtr c x s).pending = s.pending := rfl

@[simp] theorem setIn_hw (i : Nat) (x : InputSt) (s : State) : (setIn i x s).hw = s.hw := rfl
@[simp] theorem setIn_glb (i : Nat) (x : InputSt) (s : State) : (setIn i x s).glb = s.glb := rfl
@[simp] theorem setIn_pwr (i : Nat) (x : InputSt) (s : State) : (setIn i x s).pwr = s.pwr := rfl
@[simp] theorem setIn_red (i : Nat) (x : InputSt) (s : State) : (setIn i x s).red = s.red := rfl
@[simp] theorem setIn_link (i : Nat) (x : InputSt) (s : State) : (setIn i x s).link = s.link := rfl
@[simp] theorem setIn_mir (i : Nat) (x : InputSt) (s : State) : (setIn i x s).mir = s.mir := rfl
@[simp] theorem setIn_dg (i : Nat) (x : InputSt) (s : State) : (setIn i x s).dg = s.dg := rfl
@[simp] theorem setIn_ev (i : Nat) (x : InputSt) (s : State) : (setIn i x s).ev = s.ev := rfl
@[simp] theorem setIn_wall (i : Nat) (x : InputSt) (s : State) : (setIn i x s).wall = s.wall := rfl
@[simp] theorem setIn_hl (i : Nat) (x : InputSt) (s : State) : (setIn i x s).hl = s.hl := rfl
@[simp] theorem setIn_ks (i : Nat) (x : InputSt) (s : State) : (setIn i x s).ks = s.ks := rfl
@[simp] theorem setIn_pf (i : Nat) (x : InputSt) (s : State) : (setIn i x s).pf = s.pf := rfl
@[simp] theorem setIn_sc (i : Nat) (x : InputSt) (s : State) : (setIn i x s).sc = s.sc := rfl
@[simp] theorem setIn_swt (i : Nat) (x : InputSt) (s : State) : (setIn i x s).swt = s.swt := rfl
@[simp] theorem setIn_sv (i : Nat) (x : InputSt) (s : State) : (setIn i x s).sv = s.sv := rfl
@[simp] theorem setIn_svf (i : Nat) (x : InputSt) (s : State) : (setIn i x s).svf = s.svf := rfl
@[simp] theorem setIn_fb (i : Nat) (x : InputSt) (s : State) : (setIn i x s).fb = s.fb := rfl
@[simp] theorem setIn_fc (i : Nat) (x : InputSt) (s : State) : (setIn i x s).fc = s.fc := rfl
@[simp] theorem setIn_al (i : Nat) (x : InputSt) (s : State) : (setIn i x s).al = s.al := rfl
@[simp] theorem setIn_errs (i : Nat) (x : InputSt) (s : State) : (setIn i x s).errs = s.errs := rfl
@[simp] theorem setIn_irqs (i : Nat) (x : InputSt) (s : State) : (setIn i x s).irqs = s.irqs := rfl
@[simp] theorem setIn_latches (i : Nat) (x : InputSt) (s : State) : (setIn i x s).latches = s.latches := rfl
@[simp] theorem setIn_outbox (i : Nat) (x : InputSt) (s : State) : (setIn i x s).outbox = s.outbox := rfl
@[simp] theorem setIn_mem (i : Nat) (x : InputSt) (s : State) : (setIn i x s).mem = s.mem := rfl
@[simp] theorem setIn_stage (i : Nat) (x : InputSt) (s : State) : (setIn i x s).stage = s.stage := rfl
@[simp] theorem setIn_clock (i : Nat) (x : InputSt) (s : State) : (setIn i x s).clock = s.clock := rfl
@[simp] theorem setIn_upBase (i : Nat) (x : InputSt) (s : State) : (setIn i x s).upBase = s.upBase := rfl
@[simp] theorem setIn_tick (i : Nat) (x : InputSt) (s : State) : (setIn i x s).tick = s.tick := rfl
@[simp] theorem setIn_tickAt (i : Nat) (x : InputSt) (s : State) : (setIn i x s).tickAt = s.tickAt := rfl
@[simp] theorem setIn_round (i : Nat) (x : InputSt) (s : State) : (setIn i x s).round = s.round := rfl
@[simp] theorem setIn_began (i : Nat) (x : InputSt) (s : State) : (setIn i x s).began = s.began := rfl
@[simp] theorem setIn_t0At (i : Nat) (x : InputSt) (s : State) : (setIn i x s).t0At = s.t0At := rfl
@[simp] theorem setIn_freeCtr (i : Nat) (x : InputSt) (s : State) : (setIn i x s).freeCtr = s.freeCtr := rfl
@[simp] theorem setIn_pending (i : Nat) (x : InputSt) (s : State) : (setIn i x s).pending = s.pending := rfl

@[simp] theorem setSw_hw (k : Nat) (x : SwSt) (s : State) : (setSw k x s).hw = s.hw := rfl
@[simp] theorem setSw_glb (k : Nat) (x : SwSt) (s : State) : (setSw k x s).glb = s.glb := rfl
@[simp] theorem setSw_pwr (k : Nat) (x : SwSt) (s : State) : (setSw k x s).pwr = s.pwr := rfl
@[simp] theorem setSw_red (k : Nat) (x : SwSt) (s : State) : (setSw k x s).red = s.red := rfl
@[simp] theorem setSw_link (k : Nat) (x : SwSt) (s : State) : (setSw k x s).link = s.link := rfl
@[simp] theorem setSw_mir (k : Nat) (x : SwSt) (s : State) : (setSw k x s).mir = s.mir := rfl
@[simp] theorem setSw_dg (k : Nat) (x : SwSt) (s : State) : (setSw k x s).dg = s.dg := rfl
@[simp] theorem setSw_ev (k : Nat) (x : SwSt) (s : State) : (setSw k x s).ev = s.ev := rfl
@[simp] theorem setSw_wall (k : Nat) (x : SwSt) (s : State) : (setSw k x s).wall = s.wall := rfl
@[simp] theorem setSw_hl (k : Nat) (x : SwSt) (s : State) : (setSw k x s).hl = s.hl := rfl
@[simp] theorem setSw_ks (k : Nat) (x : SwSt) (s : State) : (setSw k x s).ks = s.ks := rfl
@[simp] theorem setSw_pf (k : Nat) (x : SwSt) (s : State) : (setSw k x s).pf = s.pf := rfl
@[simp] theorem setSw_sc (k : Nat) (x : SwSt) (s : State) : (setSw k x s).sc = s.sc := rfl
@[simp] theorem setSw_lp (k : Nat) (x : SwSt) (s : State) : (setSw k x s).lp = s.lp := rfl
@[simp] theorem setSw_sv (k : Nat) (x : SwSt) (s : State) : (setSw k x s).sv = s.sv := rfl
@[simp] theorem setSw_svf (k : Nat) (x : SwSt) (s : State) : (setSw k x s).svf = s.svf := rfl
@[simp] theorem setSw_fb (k : Nat) (x : SwSt) (s : State) : (setSw k x s).fb = s.fb := rfl
@[simp] theorem setSw_fc (k : Nat) (x : SwSt) (s : State) : (setSw k x s).fc = s.fc := rfl
@[simp] theorem setSw_al (k : Nat) (x : SwSt) (s : State) : (setSw k x s).al = s.al := rfl
@[simp] theorem setSw_errs (k : Nat) (x : SwSt) (s : State) : (setSw k x s).errs = s.errs := rfl
@[simp] theorem setSw_irqs (k : Nat) (x : SwSt) (s : State) : (setSw k x s).irqs = s.irqs := rfl
@[simp] theorem setSw_latches (k : Nat) (x : SwSt) (s : State) : (setSw k x s).latches = s.latches := rfl
@[simp] theorem setSw_outbox (k : Nat) (x : SwSt) (s : State) : (setSw k x s).outbox = s.outbox := rfl
@[simp] theorem setSw_mem (k : Nat) (x : SwSt) (s : State) : (setSw k x s).mem = s.mem := rfl
@[simp] theorem setSw_stage (k : Nat) (x : SwSt) (s : State) : (setSw k x s).stage = s.stage := rfl
@[simp] theorem setSw_clock (k : Nat) (x : SwSt) (s : State) : (setSw k x s).clock = s.clock := rfl
@[simp] theorem setSw_upBase (k : Nat) (x : SwSt) (s : State) : (setSw k x s).upBase = s.upBase := rfl
@[simp] theorem setSw_tick (k : Nat) (x : SwSt) (s : State) : (setSw k x s).tick = s.tick := rfl
@[simp] theorem setSw_tickAt (k : Nat) (x : SwSt) (s : State) : (setSw k x s).tickAt = s.tickAt := rfl
@[simp] theorem setSw_round (k : Nat) (x : SwSt) (s : State) : (setSw k x s).round = s.round := rfl
@[simp] theorem setSw_began (k : Nat) (x : SwSt) (s : State) : (setSw k x s).began = s.began := rfl
@[simp] theorem setSw_t0At (k : Nat) (x : SwSt) (s : State) : (setSw k x s).t0At = s.t0At := rfl
@[simp] theorem setSw_freeCtr (k : Nat) (x : SwSt) (s : State) : (setSw k x s).freeCtr = s.freeCtr := rfl
@[simp] theorem setSw_pending (k : Nat) (x : SwSt) (s : State) : (setSw k x s).pending = s.pending := rfl

@[simp] theorem setCh_hw (c : Nat) (x : ChanSt) (s : State) : (setCh c x s).hw = s.hw := rfl
@[simp] theorem setCh_glb (c : Nat) (x : ChanSt) (s : State) : (setCh c x s).glb = s.glb := rfl
@[simp] theorem setCh_pwr (c : Nat) (x : ChanSt) (s : State) : (setCh c x s).pwr = s.pwr := rfl
@[simp] theorem setCh_red (c : Nat) (x : ChanSt) (s : State) : (setCh c x s).red = s.red := rfl
@[simp] theorem setCh_link (c : Nat) (x : ChanSt) (s : State) : (setCh c x s).link = s.link := rfl
@[simp] theorem setCh_mir (c : Nat) (x : ChanSt) (s : State) : (setCh c x s).mir = s.mir := rfl
@[simp] theorem setCh_dg (c : Nat) (x : ChanSt) (s : State) : (setCh c x s).dg = s.dg := rfl
@[simp] theorem setCh_ev (c : Nat) (x : ChanSt) (s : State) : (setCh c x s).ev = s.ev := rfl
@[simp] theorem setCh_wall (c : Nat) (x : ChanSt) (s : State) : (setCh c x s).wall = s.wall := rfl
@[simp] theorem setCh_hl (c : Nat) (x : ChanSt) (s : State) : (setCh c x s).hl = s.hl := rfl
@[simp] theorem setCh_ks (c : Nat) (x : ChanSt) (s : State) : (setCh c x s).ks = s.ks := rfl
@[simp] theorem setCh_pf (c : Nat) (x : ChanSt) (s : State) : (setCh c x s).pf = s.pf := rfl
@[simp] theorem setCh_sc (c : Nat) (x : ChanSt) (s : State) : (setCh c x s).sc = s.sc := rfl
@[simp] theorem setCh_swt (c : Nat) (x : ChanSt) (s : State) : (setCh c x s).swt = s.swt := rfl
@[simp] theorem setCh_sv (c : Nat) (x : ChanSt) (s : State) : (setCh c x s).sv = s.sv := rfl
@[simp] theorem setCh_svf (c : Nat) (x : ChanSt) (s : State) : (setCh c x s).svf = s.svf := rfl
@[simp] theorem setCh_fb (c : Nat) (x : ChanSt) (s : State) : (setCh c x s).fb = s.fb := rfl
@[simp] theorem setCh_fc (c : Nat) (x : ChanSt) (s : State) : (setCh c x s).fc = s.fc := rfl
@[simp] theorem setCh_al (c : Nat) (x : ChanSt) (s : State) : (setCh c x s).al = s.al := rfl
@[simp] theorem setCh_errs (c : Nat) (x : ChanSt) (s : State) : (setCh c x s).errs = s.errs := rfl
@[simp] theorem setCh_irqs (c : Nat) (x : ChanSt) (s : State) : (setCh c x s).irqs = s.irqs := rfl
@[simp] theorem setCh_latches (c : Nat) (x : ChanSt) (s : State) : (setCh c x s).latches = s.latches := rfl
@[simp] theorem setCh_outbox (c : Nat) (x : ChanSt) (s : State) : (setCh c x s).outbox = s.outbox := rfl
@[simp] theorem setCh_mem (c : Nat) (x : ChanSt) (s : State) : (setCh c x s).mem = s.mem := rfl
@[simp] theorem setCh_stage (c : Nat) (x : ChanSt) (s : State) : (setCh c x s).stage = s.stage := rfl
@[simp] theorem setCh_clock (c : Nat) (x : ChanSt) (s : State) : (setCh c x s).clock = s.clock := rfl
@[simp] theorem setCh_upBase (c : Nat) (x : ChanSt) (s : State) : (setCh c x s).upBase = s.upBase := rfl
@[simp] theorem setCh_tick (c : Nat) (x : ChanSt) (s : State) : (setCh c x s).tick = s.tick := rfl
@[simp] theorem setCh_tickAt (c : Nat) (x : ChanSt) (s : State) : (setCh c x s).tickAt = s.tickAt := rfl
@[simp] theorem setCh_round (c : Nat) (x : ChanSt) (s : State) : (setCh c x s).round = s.round := rfl
@[simp] theorem setCh_began (c : Nat) (x : ChanSt) (s : State) : (setCh c x s).began = s.began := rfl
@[simp] theorem setCh_t0At (c : Nat) (x : ChanSt) (s : State) : (setCh c x s).t0At = s.t0At := rfl
@[simp] theorem setCh_freeCtr (c : Nat) (x : ChanSt) (s : State) : (setCh c x s).freeCtr = s.freeCtr := rfl
@[simp] theorem setCh_pending (c : Nat) (x : ChanSt) (s : State) : (setCh c x s).pending = s.pending := rfl

@[simp] theorem setSp_hw (c : Nat) (x : ChanSp) (s : State) : (setSp c x s).hw = s.hw := rfl
@[simp] theorem setSp_glb (c : Nat) (x : ChanSp) (s : State) : (setSp c x s).glb = s.glb := rfl
@[simp] theorem setSp_pwr (c : Nat) (x : ChanSp) (s : State) : (setSp c x s).pwr = s.pwr := rfl
@[simp] theorem setSp_red (c : Nat) (x : ChanSp) (s : State) : (setSp c x s).red = s.red := rfl
@[simp] theorem setSp_link (c : Nat) (x : ChanSp) (s : State) : (setSp c x s).link = s.link := rfl
@[simp] theorem setSp_mir (c : Nat) (x : ChanSp) (s : State) : (setSp c x s).mir = s.mir := rfl
@[simp] theorem setSp_dg (c : Nat) (x : ChanSp) (s : State) : (setSp c x s).dg = s.dg := rfl
@[simp] theorem setSp_ev (c : Nat) (x : ChanSp) (s : State) : (setSp c x s).ev = s.ev := rfl
@[simp] theorem setSp_wall (c : Nat) (x : ChanSp) (s : State) : (setSp c x s).wall = s.wall := rfl
@[simp] theorem setSp_hl (c : Nat) (x : ChanSp) (s : State) : (setSp c x s).hl = s.hl := rfl
@[simp] theorem setSp_ks (c : Nat) (x : ChanSp) (s : State) : (setSp c x s).ks = s.ks := rfl
@[simp] theorem setSp_pf (c : Nat) (x : ChanSp) (s : State) : (setSp c x s).pf = s.pf := rfl
@[simp] theorem setSp_sc (c : Nat) (x : ChanSp) (s : State) : (setSp c x s).sc = s.sc := rfl
@[simp] theorem setSp_swt (c : Nat) (x : ChanSp) (s : State) : (setSp c x s).swt = s.swt := rfl
@[simp] theorem setSp_sv (c : Nat) (x : ChanSp) (s : State) : (setSp c x s).sv = s.sv := rfl
@[simp] theorem setSp_svf (c : Nat) (x : ChanSp) (s : State) : (setSp c x s).svf = s.svf := rfl
@[simp] theorem setSp_fb (c : Nat) (x : ChanSp) (s : State) : (setSp c x s).fb = s.fb := rfl
@[simp] theorem setSp_fc (c : Nat) (x : ChanSp) (s : State) : (setSp c x s).fc = s.fc := rfl
@[simp] theorem setSp_al (c : Nat) (x : ChanSp) (s : State) : (setSp c x s).al = s.al := rfl
@[simp] theorem setSp_errs (c : Nat) (x : ChanSp) (s : State) : (setSp c x s).errs = s.errs := rfl
@[simp] theorem setSp_irqs (c : Nat) (x : ChanSp) (s : State) : (setSp c x s).irqs = s.irqs := rfl
@[simp] theorem setSp_latches (c : Nat) (x : ChanSp) (s : State) : (setSp c x s).latches = s.latches := rfl
@[simp] theorem setSp_outbox (c : Nat) (x : ChanSp) (s : State) : (setSp c x s).outbox = s.outbox := rfl
@[simp] theorem setSp_mem (c : Nat) (x : ChanSp) (s : State) : (setSp c x s).mem = s.mem := rfl
@[simp] theorem setSp_stage (c : Nat) (x : ChanSp) (s : State) : (setSp c x s).stage = s.stage := rfl
@[simp] theorem setSp_clock (c : Nat) (x : ChanSp) (s : State) : (setSp c x s).clock = s.clock := rfl
@[simp] theorem setSp_upBase (c : Nat) (x : ChanSp) (s : State) : (setSp c x s).upBase = s.upBase := rfl
@[simp] theorem setSp_tick (c : Nat) (x : ChanSp) (s : State) : (setSp c x s).tick = s.tick := rfl
@[simp] theorem setSp_tickAt (c : Nat) (x : ChanSp) (s : State) : (setSp c x s).tickAt = s.tickAt := rfl
@[simp] theorem setSp_round (c : Nat) (x : ChanSp) (s : State) : (setSp c x s).round = s.round := rfl
@[simp] theorem setSp_began (c : Nat) (x : ChanSp) (s : State) : (setSp c x s).began = s.began := rfl
@[simp] theorem setSp_t0At (c : Nat) (x : ChanSp) (s : State) : (setSp c x s).t0At = s.t0At := rfl
@[simp] theorem setSp_freeCtr (c : Nat) (x : ChanSp) (s : State) : (setSp c x s).freeCtr = s.freeCtr := rfl
@[simp] theorem setSp_pending (c : Nat) (x : ChanSp) (s : State) : (setSp c x s).pending = s.pending := rfl

@[simp] theorem setTr_hw (b : Nat) (x : TrSt) (s : State) : (setTr b x s).hw = s.hw := rfl
@[simp] theorem setTr_glb (b : Nat) (x : TrSt) (s : State) : (setTr b x s).glb = s.glb := rfl
@[simp] theorem setTr_pwr (b : Nat) (x : TrSt) (s : State) : (setTr b x s).pwr = s.pwr := rfl
@[simp] theorem setTr_red (b : Nat) (x : TrSt) (s : State) : (setTr b x s).red = s.red := rfl
@[simp] theorem setTr_link (b : Nat) (x : TrSt) (s : State) : (setTr b x s).link = s.link := rfl
@[simp] theorem setTr_mir (b : Nat) (x : TrSt) (s : State) : (setTr b x s).mir = s.mir := rfl
@[simp] theorem setTr_dg (b : Nat) (x : TrSt) (s : State) : (setTr b x s).dg = s.dg := rfl
@[simp] theorem setTr_ev (b : Nat) (x : TrSt) (s : State) : (setTr b x s).ev = s.ev := rfl
@[simp] theorem setTr_wall (b : Nat) (x : TrSt) (s : State) : (setTr b x s).wall = s.wall := rfl
@[simp] theorem setTr_hl (b : Nat) (x : TrSt) (s : State) : (setTr b x s).hl = s.hl := rfl
@[simp] theorem setTr_ks (b : Nat) (x : TrSt) (s : State) : (setTr b x s).ks = s.ks := rfl
@[simp] theorem setTr_pf (b : Nat) (x : TrSt) (s : State) : (setTr b x s).pf = s.pf := rfl
@[simp] theorem setTr_sc (b : Nat) (x : TrSt) (s : State) : (setTr b x s).sc = s.sc := rfl
@[simp] theorem setTr_lp (b : Nat) (x : TrSt) (s : State) : (setTr b x s).lp = s.lp := rfl
@[simp] theorem setTr_sv (b : Nat) (x : TrSt) (s : State) : (setTr b x s).sv = s.sv := rfl
@[simp] theorem setTr_svf (b : Nat) (x : TrSt) (s : State) : (setTr b x s).svf = s.svf := rfl
@[simp] theorem setTr_fb (b : Nat) (x : TrSt) (s : State) : (setTr b x s).fb = s.fb := rfl
@[simp] theorem setTr_fc (b : Nat) (x : TrSt) (s : State) : (setTr b x s).fc = s.fc := rfl
@[simp] theorem setTr_al (b : Nat) (x : TrSt) (s : State) : (setTr b x s).al = s.al := rfl
@[simp] theorem setTr_errs (b : Nat) (x : TrSt) (s : State) : (setTr b x s).errs = s.errs := rfl
@[simp] theorem setTr_irqs (b : Nat) (x : TrSt) (s : State) : (setTr b x s).irqs = s.irqs := rfl
@[simp] theorem setTr_latches (b : Nat) (x : TrSt) (s : State) : (setTr b x s).latches = s.latches := rfl
@[simp] theorem setTr_outbox (b : Nat) (x : TrSt) (s : State) : (setTr b x s).outbox = s.outbox := rfl
@[simp] theorem setTr_mem (b : Nat) (x : TrSt) (s : State) : (setTr b x s).mem = s.mem := rfl
@[simp] theorem setTr_stage (b : Nat) (x : TrSt) (s : State) : (setTr b x s).stage = s.stage := rfl
@[simp] theorem setTr_clock (b : Nat) (x : TrSt) (s : State) : (setTr b x s).clock = s.clock := rfl
@[simp] theorem setTr_upBase (b : Nat) (x : TrSt) (s : State) : (setTr b x s).upBase = s.upBase := rfl
@[simp] theorem setTr_tick (b : Nat) (x : TrSt) (s : State) : (setTr b x s).tick = s.tick := rfl
@[simp] theorem setTr_tickAt (b : Nat) (x : TrSt) (s : State) : (setTr b x s).tickAt = s.tickAt := rfl
@[simp] theorem setTr_round (b : Nat) (x : TrSt) (s : State) : (setTr b x s).round = s.round := rfl
@[simp] theorem setTr_began (b : Nat) (x : TrSt) (s : State) : (setTr b x s).began = s.began := rfl
@[simp] theorem setTr_t0At (b : Nat) (x : TrSt) (s : State) : (setTr b x s).t0At = s.t0At := rfl
@[simp] theorem setTr_freeCtr (b : Nat) (x : TrSt) (s : State) : (setTr b x s).freeCtr = s.freeCtr := rfl
@[simp] theorem setTr_pending (b : Nat) (x : TrSt) (s : State) : (setTr b x s).pending = s.pending := rfl

@[simp] theorem setBus_hw (k : Nat) (x : BusSt) (s : State) : (setBus k x s).hw = s.hw := rfl
@[simp] theorem setBus_glb (k : Nat) (x : BusSt) (s : State) : (setBus k x s).glb = s.glb := rfl
@[simp] theorem setBus_pwr (k : Nat) (x : BusSt) (s : State) : (setBus k x s).pwr = s.pwr := rfl
@[simp] theorem setBus_red (k : Nat) (x : BusSt) (s : State) : (setBus k x s).red = s.red := rfl
@[simp] theorem setBus_link (k : Nat) (x : BusSt) (s : State) : (setBus k x s).link = s.link := rfl
@[simp] theorem setBus_mir (k : Nat) (x : BusSt) (s : State) : (setBus k x s).mir = s.mir := rfl
@[simp] theorem setBus_dg (k : Nat) (x : BusSt) (s : State) : (setBus k x s).dg = s.dg := rfl
@[simp] theorem setBus_ev (k : Nat) (x : BusSt) (s : State) : (setBus k x s).ev = s.ev := rfl
@[simp] theorem setBus_wall (k : Nat) (x : BusSt) (s : State) : (setBus k x s).wall = s.wall := rfl
@[simp] theorem setBus_hl (k : Nat) (x : BusSt) (s : State) : (setBus k x s).hl = s.hl := rfl
@[simp] theorem setBus_ks (k : Nat) (x : BusSt) (s : State) : (setBus k x s).ks = s.ks := rfl
@[simp] theorem setBus_pf (k : Nat) (x : BusSt) (s : State) : (setBus k x s).pf = s.pf := rfl
@[simp] theorem setBus_sc (k : Nat) (x : BusSt) (s : State) : (setBus k x s).sc = s.sc := rfl
@[simp] theorem setBus_lp (k : Nat) (x : BusSt) (s : State) : (setBus k x s).lp = s.lp := rfl
@[simp] theorem setBus_swt (k : Nat) (x : BusSt) (s : State) : (setBus k x s).swt = s.swt := rfl
@[simp] theorem setBus_sv (k : Nat) (x : BusSt) (s : State) : (setBus k x s).sv = s.sv := rfl
@[simp] theorem setBus_svf (k : Nat) (x : BusSt) (s : State) : (setBus k x s).svf = s.svf := rfl
@[simp] theorem setBus_fc (k : Nat) (x : BusSt) (s : State) : (setBus k x s).fc = s.fc := rfl
@[simp] theorem setBus_al (k : Nat) (x : BusSt) (s : State) : (setBus k x s).al = s.al := rfl
@[simp] theorem setBus_errs (k : Nat) (x : BusSt) (s : State) : (setBus k x s).errs = s.errs := rfl
@[simp] theorem setBus_irqs (k : Nat) (x : BusSt) (s : State) : (setBus k x s).irqs = s.irqs := rfl
@[simp] theorem setBus_latches (k : Nat) (x : BusSt) (s : State) : (setBus k x s).latches = s.latches := rfl
@[simp] theorem setBus_outbox (k : Nat) (x : BusSt) (s : State) : (setBus k x s).outbox = s.outbox := rfl
@[simp] theorem setBus_mem (k : Nat) (x : BusSt) (s : State) : (setBus k x s).mem = s.mem := rfl
@[simp] theorem setBus_stage (k : Nat) (x : BusSt) (s : State) : (setBus k x s).stage = s.stage := rfl
@[simp] theorem setBus_clock (k : Nat) (x : BusSt) (s : State) : (setBus k x s).clock = s.clock := rfl
@[simp] theorem setBus_upBase (k : Nat) (x : BusSt) (s : State) : (setBus k x s).upBase = s.upBase := rfl
@[simp] theorem setBus_tick (k : Nat) (x : BusSt) (s : State) : (setBus k x s).tick = s.tick := rfl
@[simp] theorem setBus_tickAt (k : Nat) (x : BusSt) (s : State) : (setBus k x s).tickAt = s.tickAt := rfl
@[simp] theorem setBus_round (k : Nat) (x : BusSt) (s : State) : (setBus k x s).round = s.round := rfl
@[simp] theorem setBus_began (k : Nat) (x : BusSt) (s : State) : (setBus k x s).began = s.began := rfl
@[simp] theorem setBus_t0At (k : Nat) (x : BusSt) (s : State) : (setBus k x s).t0At = s.t0At := rfl
@[simp] theorem setBus_freeCtr (k : Nat) (x : BusSt) (s : State) : (setBus k x s).freeCtr = s.freeCtr := rfl
@[simp] theorem setBus_pending (k : Nat) (x : BusSt) (s : State) : (setBus k x s).pending = s.pending := rfl

@[simp] theorem setBuf_hw (k : Nat) (x : BusBuf) (s : State) : (setBuf k x s).hw = s.hw := rfl
@[simp] theorem setBuf_glb (k : Nat) (x : BusBuf) (s : State) : (setBuf k x s).glb = s.glb := rfl
@[simp] theorem setBuf_pwr (k : Nat) (x : BusBuf) (s : State) : (setBuf k x s).pwr = s.pwr := rfl
@[simp] theorem setBuf_red (k : Nat) (x : BusBuf) (s : State) : (setBuf k x s).red = s.red := rfl
@[simp] theorem setBuf_link (k : Nat) (x : BusBuf) (s : State) : (setBuf k x s).link = s.link := rfl
@[simp] theorem setBuf_mir (k : Nat) (x : BusBuf) (s : State) : (setBuf k x s).mir = s.mir := rfl
@[simp] theorem setBuf_dg (k : Nat) (x : BusBuf) (s : State) : (setBuf k x s).dg = s.dg := rfl
@[simp] theorem setBuf_ev (k : Nat) (x : BusBuf) (s : State) : (setBuf k x s).ev = s.ev := rfl
@[simp] theorem setBuf_wall (k : Nat) (x : BusBuf) (s : State) : (setBuf k x s).wall = s.wall := rfl
@[simp] theorem setBuf_hl (k : Nat) (x : BusBuf) (s : State) : (setBuf k x s).hl = s.hl := rfl
@[simp] theorem setBuf_ks (k : Nat) (x : BusBuf) (s : State) : (setBuf k x s).ks = s.ks := rfl
@[simp] theorem setBuf_pf (k : Nat) (x : BusBuf) (s : State) : (setBuf k x s).pf = s.pf := rfl
@[simp] theorem setBuf_sc (k : Nat) (x : BusBuf) (s : State) : (setBuf k x s).sc = s.sc := rfl
@[simp] theorem setBuf_lp (k : Nat) (x : BusBuf) (s : State) : (setBuf k x s).lp = s.lp := rfl
@[simp] theorem setBuf_swt (k : Nat) (x : BusBuf) (s : State) : (setBuf k x s).swt = s.swt := rfl
@[simp] theorem setBuf_sv (k : Nat) (x : BusBuf) (s : State) : (setBuf k x s).sv = s.sv := rfl
@[simp] theorem setBuf_svf (k : Nat) (x : BusBuf) (s : State) : (setBuf k x s).svf = s.svf := rfl
@[simp] theorem setBuf_fc (k : Nat) (x : BusBuf) (s : State) : (setBuf k x s).fc = s.fc := rfl
@[simp] theorem setBuf_al (k : Nat) (x : BusBuf) (s : State) : (setBuf k x s).al = s.al := rfl
@[simp] theorem setBuf_errs (k : Nat) (x : BusBuf) (s : State) : (setBuf k x s).errs = s.errs := rfl
@[simp] theorem setBuf_irqs (k : Nat) (x : BusBuf) (s : State) : (setBuf k x s).irqs = s.irqs := rfl
@[simp] theorem setBuf_latches (k : Nat) (x : BusBuf) (s : State) : (setBuf k x s).latches = s.latches := rfl
@[simp] theorem setBuf_outbox (k : Nat) (x : BusBuf) (s : State) : (setBuf k x s).outbox = s.outbox := rfl
@[simp] theorem setBuf_mem (k : Nat) (x : BusBuf) (s : State) : (setBuf k x s).mem = s.mem := rfl
@[simp] theorem setBuf_stage (k : Nat) (x : BusBuf) (s : State) : (setBuf k x s).stage = s.stage := rfl
@[simp] theorem setBuf_clock (k : Nat) (x : BusBuf) (s : State) : (setBuf k x s).clock = s.clock := rfl
@[simp] theorem setBuf_upBase (k : Nat) (x : BusBuf) (s : State) : (setBuf k x s).upBase = s.upBase := rfl
@[simp] theorem setBuf_tick (k : Nat) (x : BusBuf) (s : State) : (setBuf k x s).tick = s.tick := rfl
@[simp] theorem setBuf_tickAt (k : Nat) (x : BusBuf) (s : State) : (setBuf k x s).tickAt = s.tickAt := rfl
@[simp] theorem setBuf_round (k : Nat) (x : BusBuf) (s : State) : (setBuf k x s).round = s.round := rfl
@[simp] theorem setBuf_began (k : Nat) (x : BusBuf) (s : State) : (setBuf k x s).began = s.began := rfl
@[simp] theorem setBuf_t0At (k : Nat) (x : BusBuf) (s : State) : (setBuf k x s).t0At = s.t0At := rfl
@[simp] theorem setBuf_freeCtr (k : Nat) (x : BusBuf) (s : State) : (setBuf k x s).freeCtr = s.freeCtr := rfl
@[simp] theorem setBuf_pending (k : Nat) (x : BusBuf) (s : State) : (setBuf k x s).pending = s.pending := rfl

@[simp] theorem setCmp_hw (k : Nat) (x : CmpSt) (s : State) : (setCmp k x s).hw = s.hw := rfl
@[simp] theorem setCmp_glb (k : Nat) (x : CmpSt) (s : State) : (setCmp k x s).glb = s.glb := rfl
@[simp] theorem setCmp_pwr (k : Nat) (x : CmpSt) (s : State) : (setCmp k x s).pwr = s.pwr := rfl
@[simp] theorem setCmp_red (k : Nat) (x : CmpSt) (s : State) : (setCmp k x s).red = s.red := rfl
@[simp] theorem setCmp_link (k : Nat) (x : CmpSt) (s : State) : (setCmp k x s).link = s.link := rfl
@[simp] theorem setCmp_mir (k : Nat) (x : CmpSt) (s : State) : (setCmp k x s).mir = s.mir := rfl
@[simp] theorem setCmp_dg (k : Nat) (x : CmpSt) (s : State) : (setCmp k x s).dg = s.dg := rfl
@[simp] theorem setCmp_ev (k : Nat) (x : CmpSt) (s : State) : (setCmp k x s).ev = s.ev := rfl
@[simp] theorem setCmp_wall (k : Nat) (x : CmpSt) (s : State) : (setCmp k x s).wall = s.wall := rfl
@[simp] theorem setCmp_hl (k : Nat) (x : CmpSt) (s : State) : (setCmp k x s).hl = s.hl := rfl
@[simp] theorem setCmp_ks (k : Nat) (x : CmpSt) (s : State) : (setCmp k x s).ks = s.ks := rfl
@[simp] theorem setCmp_pf (k : Nat) (x : CmpSt) (s : State) : (setCmp k x s).pf = s.pf := rfl
@[simp] theorem setCmp_sc (k : Nat) (x : CmpSt) (s : State) : (setCmp k x s).sc = s.sc := rfl
@[simp] theorem setCmp_lp (k : Nat) (x : CmpSt) (s : State) : (setCmp k x s).lp = s.lp := rfl
@[simp] theorem setCmp_swt (k : Nat) (x : CmpSt) (s : State) : (setCmp k x s).swt = s.swt := rfl
@[simp] theorem setCmp_svf (k : Nat) (x : CmpSt) (s : State) : (setCmp k x s).svf = s.svf := rfl
@[simp] theorem setCmp_fb (k : Nat) (x : CmpSt) (s : State) : (setCmp k x s).fb = s.fb := rfl
@[simp] theorem setCmp_fc (k : Nat) (x : CmpSt) (s : State) : (setCmp k x s).fc = s.fc := rfl
@[simp] theorem setCmp_al (k : Nat) (x : CmpSt) (s : State) : (setCmp k x s).al = s.al := rfl
@[simp] theorem setCmp_errs (k : Nat) (x : CmpSt) (s : State) : (setCmp k x s).errs = s.errs := rfl
@[simp] theorem setCmp_irqs (k : Nat) (x : CmpSt) (s : State) : (setCmp k x s).irqs = s.irqs := rfl
@[simp] theorem setCmp_latches (k : Nat) (x : CmpSt) (s : State) : (setCmp k x s).latches = s.latches := rfl
@[simp] theorem setCmp_outbox (k : Nat) (x : CmpSt) (s : State) : (setCmp k x s).outbox = s.outbox := rfl
@[simp] theorem setCmp_mem (k : Nat) (x : CmpSt) (s : State) : (setCmp k x s).mem = s.mem := rfl
@[simp] theorem setCmp_stage (k : Nat) (x : CmpSt) (s : State) : (setCmp k x s).stage = s.stage := rfl
@[simp] theorem setCmp_clock (k : Nat) (x : CmpSt) (s : State) : (setCmp k x s).clock = s.clock := rfl
@[simp] theorem setCmp_upBase (k : Nat) (x : CmpSt) (s : State) : (setCmp k x s).upBase = s.upBase := rfl
@[simp] theorem setCmp_tick (k : Nat) (x : CmpSt) (s : State) : (setCmp k x s).tick = s.tick := rfl
@[simp] theorem setCmp_tickAt (k : Nat) (x : CmpSt) (s : State) : (setCmp k x s).tickAt = s.tickAt := rfl
@[simp] theorem setCmp_round (k : Nat) (x : CmpSt) (s : State) : (setCmp k x s).round = s.round := rfl
@[simp] theorem setCmp_began (k : Nat) (x : CmpSt) (s : State) : (setCmp k x s).began = s.began := rfl
@[simp] theorem setCmp_t0At (k : Nat) (x : CmpSt) (s : State) : (setCmp k x s).t0At = s.t0At := rfl
@[simp] theorem setCmp_freeCtr (k : Nat) (x : CmpSt) (s : State) : (setCmp k x s).freeCtr = s.freeCtr := rfl
@[simp] theorem setCmp_pending (k : Nat) (x : CmpSt) (s : State) : (setCmp k x s).pending = s.pending := rfl

@[simp] theorem setRow_hw (r : Nat) (x : RowSt) (s : State) : (setRow r x s).hw = s.hw := rfl
@[simp] theorem setRow_glb (r : Nat) (x : RowSt) (s : State) : (setRow r x s).glb = s.glb := rfl
@[simp] theorem setRow_pwr (r : Nat) (x : RowSt) (s : State) : (setRow r x s).pwr = s.pwr := rfl
@[simp] theorem setRow_red (r : Nat) (x : RowSt) (s : State) : (setRow r x s).red = s.red := rfl
@[simp] theorem setRow_link (r : Nat) (x : RowSt) (s : State) : (setRow r x s).link = s.link := rfl
@[simp] theorem setRow_mir (r : Nat) (x : RowSt) (s : State) : (setRow r x s).mir = s.mir := rfl
@[simp] theorem setRow_dg (r : Nat) (x : RowSt) (s : State) : (setRow r x s).dg = s.dg := rfl
@[simp] theorem setRow_ev (r : Nat) (x : RowSt) (s : State) : (setRow r x s).ev = s.ev := rfl
@[simp] theorem setRow_wall (r : Nat) (x : RowSt) (s : State) : (setRow r x s).wall = s.wall := rfl
@[simp] theorem setRow_hl (r : Nat) (x : RowSt) (s : State) : (setRow r x s).hl = s.hl := rfl
@[simp] theorem setRow_ks (r : Nat) (x : RowSt) (s : State) : (setRow r x s).ks = s.ks := rfl
@[simp] theorem setRow_pf (r : Nat) (x : RowSt) (s : State) : (setRow r x s).pf = s.pf := rfl
@[simp] theorem setRow_sc (r : Nat) (x : RowSt) (s : State) : (setRow r x s).sc = s.sc := rfl
@[simp] theorem setRow_lp (r : Nat) (x : RowSt) (s : State) : (setRow r x s).lp = s.lp := rfl
@[simp] theorem setRow_swt (r : Nat) (x : RowSt) (s : State) : (setRow r x s).swt = s.swt := rfl
@[simp] theorem setRow_svf (r : Nat) (x : RowSt) (s : State) : (setRow r x s).svf = s.svf := rfl
@[simp] theorem setRow_fb (r : Nat) (x : RowSt) (s : State) : (setRow r x s).fb = s.fb := rfl
@[simp] theorem setRow_fc (r : Nat) (x : RowSt) (s : State) : (setRow r x s).fc = s.fc := rfl
@[simp] theorem setRow_al (r : Nat) (x : RowSt) (s : State) : (setRow r x s).al = s.al := rfl
@[simp] theorem setRow_errs (r : Nat) (x : RowSt) (s : State) : (setRow r x s).errs = s.errs := rfl
@[simp] theorem setRow_irqs (r : Nat) (x : RowSt) (s : State) : (setRow r x s).irqs = s.irqs := rfl
@[simp] theorem setRow_latches (r : Nat) (x : RowSt) (s : State) : (setRow r x s).latches = s.latches := rfl
@[simp] theorem setRow_outbox (r : Nat) (x : RowSt) (s : State) : (setRow r x s).outbox = s.outbox := rfl
@[simp] theorem setRow_mem (r : Nat) (x : RowSt) (s : State) : (setRow r x s).mem = s.mem := rfl
@[simp] theorem setRow_stage (r : Nat) (x : RowSt) (s : State) : (setRow r x s).stage = s.stage := rfl
@[simp] theorem setRow_clock (r : Nat) (x : RowSt) (s : State) : (setRow r x s).clock = s.clock := rfl
@[simp] theorem setRow_upBase (r : Nat) (x : RowSt) (s : State) : (setRow r x s).upBase = s.upBase := rfl
@[simp] theorem setRow_tick (r : Nat) (x : RowSt) (s : State) : (setRow r x s).tick = s.tick := rfl
@[simp] theorem setRow_tickAt (r : Nat) (x : RowSt) (s : State) : (setRow r x s).tickAt = s.tickAt := rfl
@[simp] theorem setRow_round (r : Nat) (x : RowSt) (s : State) : (setRow r x s).round = s.round := rfl
@[simp] theorem setRow_began (r : Nat) (x : RowSt) (s : State) : (setRow r x s).began = s.began := rfl
@[simp] theorem setRow_t0At (r : Nat) (x : RowSt) (s : State) : (setRow r x s).t0At = s.t0At := rfl
@[simp] theorem setRow_freeCtr (r : Nat) (x : RowSt) (s : State) : (setRow r x s).freeCtr = s.freeCtr := rfl
@[simp] theorem setRow_pending (r : Nat) (x : RowSt) (s : State) : (setRow r x s).pending = s.pending := rfl

@[simp] theorem setReg_hw (k : Nat) (x : RegionSt) (s : State) : (setReg k x s).hw = s.hw := rfl
@[simp] theorem setReg_glb (k : Nat) (x : RegionSt) (s : State) : (setReg k x s).glb = s.glb := rfl
@[simp] theorem setReg_pwr (k : Nat) (x : RegionSt) (s : State) : (setReg k x s).pwr = s.pwr := rfl
@[simp] theorem setReg_red (k : Nat) (x : RegionSt) (s : State) : (setReg k x s).red = s.red := rfl
@[simp] theorem setReg_link (k : Nat) (x : RegionSt) (s : State) : (setReg k x s).link = s.link := rfl
@[simp] theorem setReg_mir (k : Nat) (x : RegionSt) (s : State) : (setReg k x s).mir = s.mir := rfl
@[simp] theorem setReg_dg (k : Nat) (x : RegionSt) (s : State) : (setReg k x s).dg = s.dg := rfl
@[simp] theorem setReg_ev (k : Nat) (x : RegionSt) (s : State) : (setReg k x s).ev = s.ev := rfl
@[simp] theorem setReg_wall (k : Nat) (x : RegionSt) (s : State) : (setReg k x s).wall = s.wall := rfl
@[simp] theorem setReg_hl (k : Nat) (x : RegionSt) (s : State) : (setReg k x s).hl = s.hl := rfl
@[simp] theorem setReg_ks (k : Nat) (x : RegionSt) (s : State) : (setReg k x s).ks = s.ks := rfl
@[simp] theorem setReg_pf (k : Nat) (x : RegionSt) (s : State) : (setReg k x s).pf = s.pf := rfl
@[simp] theorem setReg_sc (k : Nat) (x : RegionSt) (s : State) : (setReg k x s).sc = s.sc := rfl
@[simp] theorem setReg_lp (k : Nat) (x : RegionSt) (s : State) : (setReg k x s).lp = s.lp := rfl
@[simp] theorem setReg_swt (k : Nat) (x : RegionSt) (s : State) : (setReg k x s).swt = s.swt := rfl
@[simp] theorem setReg_sv (k : Nat) (x : RegionSt) (s : State) : (setReg k x s).sv = s.sv := rfl
@[simp] theorem setReg_svf (k : Nat) (x : RegionSt) (s : State) : (setReg k x s).svf = s.svf := rfl
@[simp] theorem setReg_fb (k : Nat) (x : RegionSt) (s : State) : (setReg k x s).fb = s.fb := rfl
@[simp] theorem setReg_al (k : Nat) (x : RegionSt) (s : State) : (setReg k x s).al = s.al := rfl
@[simp] theorem setReg_errs (k : Nat) (x : RegionSt) (s : State) : (setReg k x s).errs = s.errs := rfl
@[simp] theorem setReg_irqs (k : Nat) (x : RegionSt) (s : State) : (setReg k x s).irqs = s.irqs := rfl
@[simp] theorem setReg_latches (k : Nat) (x : RegionSt) (s : State) : (setReg k x s).latches = s.latches := rfl
@[simp] theorem setReg_outbox (k : Nat) (x : RegionSt) (s : State) : (setReg k x s).outbox = s.outbox := rfl
@[simp] theorem setReg_mem (k : Nat) (x : RegionSt) (s : State) : (setReg k x s).mem = s.mem := rfl
@[simp] theorem setReg_stage (k : Nat) (x : RegionSt) (s : State) : (setReg k x s).stage = s.stage := rfl
@[simp] theorem setReg_clock (k : Nat) (x : RegionSt) (s : State) : (setReg k x s).clock = s.clock := rfl
@[simp] theorem setReg_upBase (k : Nat) (x : RegionSt) (s : State) : (setReg k x s).upBase = s.upBase := rfl
@[simp] theorem setReg_tick (k : Nat) (x : RegionSt) (s : State) : (setReg k x s).tick = s.tick := rfl
@[simp] theorem setReg_tickAt (k : Nat) (x : RegionSt) (s : State) : (setReg k x s).tickAt = s.tickAt := rfl
@[simp] theorem setReg_round (k : Nat) (x : RegionSt) (s : State) : (setReg k x s).round = s.round := rfl
@[simp] theorem setReg_began (k : Nat) (x : RegionSt) (s : State) : (setReg k x s).began = s.began := rfl
@[simp] theorem setReg_t0At (k : Nat) (x : RegionSt) (s : State) : (setReg k x s).t0At = s.t0At := rfl
@[simp] theorem setReg_freeCtr (k : Nat) (x : RegionSt) (s : State) : (setReg k x s).freeCtr = s.freeCtr := rfl
@[simp] theorem setReg_pending (k : Nat) (x : RegionSt) (s : State) : (setReg k x s).pending = s.pending := rfl

@[simp] theorem setPlate_hw (p : Nat) (x : PlateRun) (s : State) : (setPlate p x s).hw = s.hw := rfl
@[simp] theorem setPlate_glb (p : Nat) (x : PlateRun) (s : State) : (setPlate p x s).glb = s.glb := rfl
@[simp] theorem setPlate_pwr (p : Nat) (x : PlateRun) (s : State) : (setPlate p x s).pwr = s.pwr := rfl
@[simp] theorem setPlate_red (p : Nat) (x : PlateRun) (s : State) : (setPlate p x s).red = s.red := rfl
@[simp] theorem setPlate_link (p : Nat) (x : PlateRun) (s : State) : (setPlate p x s).link = s.link := rfl
@[simp] theorem setPlate_mir (p : Nat) (x : PlateRun) (s : State) : (setPlate p x s).mir = s.mir := rfl
@[simp] theorem setPlate_dg (p : Nat) (x : PlateRun) (s : State) : (setPlate p x s).dg = s.dg := rfl
@[simp] theorem setPlate_ev (p : Nat) (x : PlateRun) (s : State) : (setPlate p x s).ev = s.ev := rfl
@[simp] theorem setPlate_wall (p : Nat) (x : PlateRun) (s : State) : (setPlate p x s).wall = s.wall := rfl
@[simp] theorem setPlate_hl (p : Nat) (x : PlateRun) (s : State) : (setPlate p x s).hl = s.hl := rfl
@[simp] theorem setPlate_ks (p : Nat) (x : PlateRun) (s : State) : (setPlate p x s).ks = s.ks := rfl
@[simp] theorem setPlate_pf (p : Nat) (x : PlateRun) (s : State) : (setPlate p x s).pf = s.pf := rfl
@[simp] theorem setPlate_sc (p : Nat) (x : PlateRun) (s : State) : (setPlate p x s).sc = s.sc := rfl
@[simp] theorem setPlate_lp (p : Nat) (x : PlateRun) (s : State) : (setPlate p x s).lp = s.lp := rfl
@[simp] theorem setPlate_swt (p : Nat) (x : PlateRun) (s : State) : (setPlate p x s).swt = s.swt := rfl
@[simp] theorem setPlate_sv (p : Nat) (x : PlateRun) (s : State) : (setPlate p x s).sv = s.sv := rfl
@[simp] theorem setPlate_svf (p : Nat) (x : PlateRun) (s : State) : (setPlate p x s).svf = s.svf := rfl
@[simp] theorem setPlate_fb (p : Nat) (x : PlateRun) (s : State) : (setPlate p x s).fb = s.fb := rfl
@[simp] theorem setPlate_al (p : Nat) (x : PlateRun) (s : State) : (setPlate p x s).al = s.al := rfl
@[simp] theorem setPlate_errs (p : Nat) (x : PlateRun) (s : State) : (setPlate p x s).errs = s.errs := rfl
@[simp] theorem setPlate_irqs (p : Nat) (x : PlateRun) (s : State) : (setPlate p x s).irqs = s.irqs := rfl
@[simp] theorem setPlate_latches (p : Nat) (x : PlateRun) (s : State) : (setPlate p x s).latches = s.latches := rfl
@[simp] theorem setPlate_outbox (p : Nat) (x : PlateRun) (s : State) : (setPlate p x s).outbox = s.outbox := rfl
@[simp] theorem setPlate_mem (p : Nat) (x : PlateRun) (s : State) : (setPlate p x s).mem = s.mem := rfl
@[simp] theorem setPlate_stage (p : Nat) (x : PlateRun) (s : State) : (setPlate p x s).stage = s.stage := rfl
@[simp] theorem setPlate_clock (p : Nat) (x : PlateRun) (s : State) : (setPlate p x s).clock = s.clock := rfl
@[simp] theorem setPlate_upBase (p : Nat) (x : PlateRun) (s : State) : (setPlate p x s).upBase = s.upBase := rfl
@[simp] theorem setPlate_tick (p : Nat) (x : PlateRun) (s : State) : (setPlate p x s).tick = s.tick := rfl
@[simp] theorem setPlate_tickAt (p : Nat) (x : PlateRun) (s : State) : (setPlate p x s).tickAt = s.tickAt := rfl
@[simp] theorem setPlate_round (p : Nat) (x : PlateRun) (s : State) : (setPlate p x s).round = s.round := rfl
@[simp] theorem setPlate_began (p : Nat) (x : PlateRun) (s : State) : (setPlate p x s).began = s.began := rfl
@[simp] theorem setPlate_t0At (p : Nat) (x : PlateRun) (s : State) : (setPlate p x s).t0At = s.t0At := rfl
@[simp] theorem setPlate_freeCtr (p : Nat) (x : PlateRun) (s : State) : (setPlate p x s).freeCtr = s.freeCtr := rfl
@[simp] theorem setPlate_pending (p : Nat) (x : PlateRun) (s : State) : (setPlate p x s).pending = s.pending := rfl

@[simp] theorem setLs_hw (p : Nat) (x : PlateLs) (s : State) : (setLs p x s).hw = s.hw := rfl
@[simp] theorem setLs_glb (p : Nat) (x : PlateLs) (s : State) : (setLs p x s).glb = s.glb := rfl
@[simp] theorem setLs_pwr (p : Nat) (x : PlateLs) (s : State) : (setLs p x s).pwr = s.pwr := rfl
@[simp] theorem setLs_red (p : Nat) (x : PlateLs) (s : State) : (setLs p x s).red = s.red := rfl
@[simp] theorem setLs_link (p : Nat) (x : PlateLs) (s : State) : (setLs p x s).link = s.link := rfl
@[simp] theorem setLs_mir (p : Nat) (x : PlateLs) (s : State) : (setLs p x s).mir = s.mir := rfl
@[simp] theorem setLs_dg (p : Nat) (x : PlateLs) (s : State) : (setLs p x s).dg = s.dg := rfl
@[simp] theorem setLs_ev (p : Nat) (x : PlateLs) (s : State) : (setLs p x s).ev = s.ev := rfl
@[simp] theorem setLs_wall (p : Nat) (x : PlateLs) (s : State) : (setLs p x s).wall = s.wall := rfl
@[simp] theorem setLs_hl (p : Nat) (x : PlateLs) (s : State) : (setLs p x s).hl = s.hl := rfl
@[simp] theorem setLs_ks (p : Nat) (x : PlateLs) (s : State) : (setLs p x s).ks = s.ks := rfl
@[simp] theorem setLs_pf (p : Nat) (x : PlateLs) (s : State) : (setLs p x s).pf = s.pf := rfl
@[simp] theorem setLs_sc (p : Nat) (x : PlateLs) (s : State) : (setLs p x s).sc = s.sc := rfl
@[simp] theorem setLs_lp (p : Nat) (x : PlateLs) (s : State) : (setLs p x s).lp = s.lp := rfl
@[simp] theorem setLs_swt (p : Nat) (x : PlateLs) (s : State) : (setLs p x s).swt = s.swt := rfl
@[simp] theorem setLs_sv (p : Nat) (x : PlateLs) (s : State) : (setLs p x s).sv = s.sv := rfl
@[simp] theorem setLs_svf (p : Nat) (x : PlateLs) (s : State) : (setLs p x s).svf = s.svf := rfl
@[simp] theorem setLs_fb (p : Nat) (x : PlateLs) (s : State) : (setLs p x s).fb = s.fb := rfl
@[simp] theorem setLs_fc (p : Nat) (x : PlateLs) (s : State) : (setLs p x s).fc = s.fc := rfl
@[simp] theorem setLs_errs (p : Nat) (x : PlateLs) (s : State) : (setLs p x s).errs = s.errs := rfl
@[simp] theorem setLs_irqs (p : Nat) (x : PlateLs) (s : State) : (setLs p x s).irqs = s.irqs := rfl
@[simp] theorem setLs_latches (p : Nat) (x : PlateLs) (s : State) : (setLs p x s).latches = s.latches := rfl
@[simp] theorem setLs_outbox (p : Nat) (x : PlateLs) (s : State) : (setLs p x s).outbox = s.outbox := rfl
@[simp] theorem setLs_mem (p : Nat) (x : PlateLs) (s : State) : (setLs p x s).mem = s.mem := rfl
@[simp] theorem setLs_stage (p : Nat) (x : PlateLs) (s : State) : (setLs p x s).stage = s.stage := rfl
@[simp] theorem setLs_clock (p : Nat) (x : PlateLs) (s : State) : (setLs p x s).clock = s.clock := rfl
@[simp] theorem setLs_upBase (p : Nat) (x : PlateLs) (s : State) : (setLs p x s).upBase = s.upBase := rfl
@[simp] theorem setLs_tick (p : Nat) (x : PlateLs) (s : State) : (setLs p x s).tick = s.tick := rfl
@[simp] theorem setLs_tickAt (p : Nat) (x : PlateLs) (s : State) : (setLs p x s).tickAt = s.tickAt := rfl
@[simp] theorem setLs_round (p : Nat) (x : PlateLs) (s : State) : (setLs p x s).round = s.round := rfl
@[simp] theorem setLs_began (p : Nat) (x : PlateLs) (s : State) : (setLs p x s).began = s.began := rfl
@[simp] theorem setLs_t0At (p : Nat) (x : PlateLs) (s : State) : (setLs p x s).t0At = s.t0At := rfl
@[simp] theorem setLs_freeCtr (p : Nat) (x : PlateLs) (s : State) : (setLs p x s).freeCtr = s.freeCtr := rfl
@[simp] theorem setLs_pending (p : Nat) (x : PlateLs) (s : State) : (setLs p x s).pending = s.pending := rfl

@[simp] theorem setPart_hw (k : Nat) (x : PartSt) (s : State) : (setPart k x s).hw = s.hw := rfl
@[simp] theorem setPart_glb (k : Nat) (x : PartSt) (s : State) : (setPart k x s).glb = s.glb := rfl
@[simp] theorem setPart_pwr (k : Nat) (x : PartSt) (s : State) : (setPart k x s).pwr = s.pwr := rfl
@[simp] theorem setPart_red (k : Nat) (x : PartSt) (s : State) : (setPart k x s).red = s.red := rfl
@[simp] theorem setPart_link (k : Nat) (x : PartSt) (s : State) : (setPart k x s).link = s.link := rfl
@[simp] theorem setPart_mir (k : Nat) (x : PartSt) (s : State) : (setPart k x s).mir = s.mir := rfl
@[simp] theorem setPart_dg (k : Nat) (x : PartSt) (s : State) : (setPart k x s).dg = s.dg := rfl
@[simp] theorem setPart_ev (k : Nat) (x : PartSt) (s : State) : (setPart k x s).ev = s.ev := rfl
@[simp] theorem setPart_wall (k : Nat) (x : PartSt) (s : State) : (setPart k x s).wall = s.wall := rfl
@[simp] theorem setPart_hl (k : Nat) (x : PartSt) (s : State) : (setPart k x s).hl = s.hl := rfl
@[simp] theorem setPart_ks (k : Nat) (x : PartSt) (s : State) : (setPart k x s).ks = s.ks := rfl
@[simp] theorem setPart_sc (k : Nat) (x : PartSt) (s : State) : (setPart k x s).sc = s.sc := rfl
@[simp] theorem setPart_lp (k : Nat) (x : PartSt) (s : State) : (setPart k x s).lp = s.lp := rfl
@[simp] theorem setPart_swt (k : Nat) (x : PartSt) (s : State) : (setPart k x s).swt = s.swt := rfl
@[simp] theorem setPart_sv (k : Nat) (x : PartSt) (s : State) : (setPart k x s).sv = s.sv := rfl
@[simp] theorem setPart_svf (k : Nat) (x : PartSt) (s : State) : (setPart k x s).svf = s.svf := rfl
@[simp] theorem setPart_fb (k : Nat) (x : PartSt) (s : State) : (setPart k x s).fb = s.fb := rfl
@[simp] theorem setPart_fc (k : Nat) (x : PartSt) (s : State) : (setPart k x s).fc = s.fc := rfl
@[simp] theorem setPart_al (k : Nat) (x : PartSt) (s : State) : (setPart k x s).al = s.al := rfl
@[simp] theorem setPart_errs (k : Nat) (x : PartSt) (s : State) : (setPart k x s).errs = s.errs := rfl
@[simp] theorem setPart_irqs (k : Nat) (x : PartSt) (s : State) : (setPart k x s).irqs = s.irqs := rfl
@[simp] theorem setPart_latches (k : Nat) (x : PartSt) (s : State) : (setPart k x s).latches = s.latches := rfl
@[simp] theorem setPart_outbox (k : Nat) (x : PartSt) (s : State) : (setPart k x s).outbox = s.outbox := rfl
@[simp] theorem setPart_mem (k : Nat) (x : PartSt) (s : State) : (setPart k x s).mem = s.mem := rfl
@[simp] theorem setPart_stage (k : Nat) (x : PartSt) (s : State) : (setPart k x s).stage = s.stage := rfl
@[simp] theorem setPart_clock (k : Nat) (x : PartSt) (s : State) : (setPart k x s).clock = s.clock := rfl
@[simp] theorem setPart_upBase (k : Nat) (x : PartSt) (s : State) : (setPart k x s).upBase = s.upBase := rfl
@[simp] theorem setPart_tick (k : Nat) (x : PartSt) (s : State) : (setPart k x s).tick = s.tick := rfl
@[simp] theorem setPart_tickAt (k : Nat) (x : PartSt) (s : State) : (setPart k x s).tickAt = s.tickAt := rfl
@[simp] theorem setPart_round (k : Nat) (x : PartSt) (s : State) : (setPart k x s).round = s.round := rfl
@[simp] theorem setPart_began (k : Nat) (x : PartSt) (s : State) : (setPart k x s).began = s.began := rfl
@[simp] theorem setPart_t0At (k : Nat) (x : PartSt) (s : State) : (setPart k x s).t0At = s.t0At := rfl
@[simp] theorem setPart_freeCtr (k : Nat) (x : PartSt) (s : State) : (setPart k x s).freeCtr = s.freeCtr := rfl
@[simp] theorem setPart_pending (k : Nat) (x : PartSt) (s : State) : (setPart k x s).pending = s.pending := rfl

@[simp] theorem tapOut_hw (ir : Nat) (v : Nat) (s : State) : (tapOut ir v s).hw = s.hw := rfl
@[simp] theorem tapOut_glb (ir : Nat) (v : Nat) (s : State) : (tapOut ir v s).glb = s.glb := rfl
@[simp] theorem tapOut_pwr (ir : Nat) (v : Nat) (s : State) : (tapOut ir v s).pwr = s.pwr := rfl
@[simp] theorem tapOut_red (ir : Nat) (v : Nat) (s : State) : (tapOut ir v s).red = s.red := rfl
@[simp] theorem tapOut_link (ir : Nat) (v : Nat) (s : State) : (tapOut ir v s).link = s.link := rfl
@[simp] theorem tapOut_mir (ir : Nat) (v : Nat) (s : State) : (tapOut ir v s).mir = s.mir := rfl
@[simp] theorem tapOut_ev (ir : Nat) (v : Nat) (s : State) : (tapOut ir v s).ev = s.ev := rfl
@[simp] theorem tapOut_wall (ir : Nat) (v : Nat) (s : State) : (tapOut ir v s).wall = s.wall := rfl
@[simp] theorem tapOut_hl (ir : Nat) (v : Nat) (s : State) : (tapOut ir v s).hl = s.hl := rfl
@[simp] theorem tapOut_ks (ir : Nat) (v : Nat) (s : State) : (tapOut ir v s).ks = s.ks := rfl
@[simp] theorem tapOut_pf (ir : Nat) (v : Nat) (s : State) : (tapOut ir v s).pf = s.pf := rfl
@[simp] theorem tapOut_sc (ir : Nat) (v : Nat) (s : State) : (tapOut ir v s).sc = s.sc := rfl
@[simp] theorem tapOut_lp (ir : Nat) (v : Nat) (s : State) : (tapOut ir v s).lp = s.lp := rfl
@[simp] theorem tapOut_swt (ir : Nat) (v : Nat) (s : State) : (tapOut ir v s).swt = s.swt := rfl
@[simp] theorem tapOut_sv (ir : Nat) (v : Nat) (s : State) : (tapOut ir v s).sv = s.sv := rfl
@[simp] theorem tapOut_svf (ir : Nat) (v : Nat) (s : State) : (tapOut ir v s).svf = s.svf := rfl
@[simp] theorem tapOut_fb (ir : Nat) (v : Nat) (s : State) : (tapOut ir v s).fb = s.fb := rfl
@[simp] theorem tapOut_fc (ir : Nat) (v : Nat) (s : State) : (tapOut ir v s).fc = s.fc := rfl
@[simp] theorem tapOut_al (ir : Nat) (v : Nat) (s : State) : (tapOut ir v s).al = s.al := rfl
@[simp] theorem tapOut_errs (ir : Nat) (v : Nat) (s : State) : (tapOut ir v s).errs = s.errs := rfl
@[simp] theorem tapOut_irqs (ir : Nat) (v : Nat) (s : State) : (tapOut ir v s).irqs = s.irqs := rfl
@[simp] theorem tapOut_latches (ir : Nat) (v : Nat) (s : State) : (tapOut ir v s).latches = s.latches := rfl
@[simp] theorem tapOut_outbox (ir : Nat) (v : Nat) (s : State) : (tapOut ir v s).outbox = s.outbox := rfl
@[simp] theorem tapOut_mem (ir : Nat) (v : Nat) (s : State) : (tapOut ir v s).mem = s.mem := rfl
@[simp] theorem tapOut_stage (ir : Nat) (v : Nat) (s : State) : (tapOut ir v s).stage = s.stage := rfl
@[simp] theorem tapOut_clock (ir : Nat) (v : Nat) (s : State) : (tapOut ir v s).clock = s.clock := rfl
@[simp] theorem tapOut_upBase (ir : Nat) (v : Nat) (s : State) : (tapOut ir v s).upBase = s.upBase := rfl
@[simp] theorem tapOut_tick (ir : Nat) (v : Nat) (s : State) : (tapOut ir v s).tick = s.tick := rfl
@[simp] theorem tapOut_tickAt (ir : Nat) (v : Nat) (s : State) : (tapOut ir v s).tickAt = s.tickAt := rfl
@[simp] theorem tapOut_round (ir : Nat) (v : Nat) (s : State) : (tapOut ir v s).round = s.round := rfl
@[simp] theorem tapOut_began (ir : Nat) (v : Nat) (s : State) : (tapOut ir v s).began = s.began := rfl
@[simp] theorem tapOut_t0At (ir : Nat) (v : Nat) (s : State) : (tapOut ir v s).t0At = s.t0At := rfl
@[simp] theorem tapOut_freeCtr (ir : Nat) (v : Nat) (s : State) : (tapOut ir v s).freeCtr = s.freeCtr := rfl
@[simp] theorem tapOut_pending (ir : Nat) (v : Nat) (s : State) : (tapOut ir v s).pending = s.pending := rfl

@[simp] theorem freshWord_hw (s : State) : (freshWord s).2.hw = s.hw := rfl
@[simp] theorem freshWord_glb (s : State) : (freshWord s).2.glb = s.glb := rfl
@[simp] theorem freshWord_pwr (s : State) : (freshWord s).2.pwr = s.pwr := rfl
@[simp] theorem freshWord_red (s : State) : (freshWord s).2.red = s.red := rfl
@[simp] theorem freshWord_link (s : State) : (freshWord s).2.link = s.link := rfl
@[simp] theorem freshWord_mir (s : State) : (freshWord s).2.mir = s.mir := rfl
@[simp] theorem freshWord_dg (s : State) : (freshWord s).2.dg = s.dg := rfl
@[simp] theorem freshWord_ev (s : State) : (freshWord s).2.ev = s.ev := rfl
@[simp] theorem freshWord_wall (s : State) : (freshWord s).2.wall = s.wall := rfl
@[simp] theorem freshWord_hl (s : State) : (freshWord s).2.hl = s.hl := rfl
@[simp] theorem freshWord_ks (s : State) : (freshWord s).2.ks = s.ks := rfl
@[simp] theorem freshWord_pf (s : State) : (freshWord s).2.pf = s.pf := rfl
@[simp] theorem freshWord_sc (s : State) : (freshWord s).2.sc = s.sc := rfl
@[simp] theorem freshWord_lp (s : State) : (freshWord s).2.lp = s.lp := rfl
@[simp] theorem freshWord_swt (s : State) : (freshWord s).2.swt = s.swt := rfl
@[simp] theorem freshWord_sv (s : State) : (freshWord s).2.sv = s.sv := rfl
@[simp] theorem freshWord_svf (s : State) : (freshWord s).2.svf = s.svf := rfl
@[simp] theorem freshWord_fb (s : State) : (freshWord s).2.fb = s.fb := rfl
@[simp] theorem freshWord_fc (s : State) : (freshWord s).2.fc = s.fc := rfl
@[simp] theorem freshWord_al (s : State) : (freshWord s).2.al = s.al := rfl
@[simp] theorem freshWord_errs (s : State) : (freshWord s).2.errs = s.errs := rfl
@[simp] theorem freshWord_irqs (s : State) : (freshWord s).2.irqs = s.irqs := rfl
@[simp] theorem freshWord_latches (s : State) : (freshWord s).2.latches = s.latches := rfl
@[simp] theorem freshWord_outbox (s : State) : (freshWord s).2.outbox = s.outbox := rfl
@[simp] theorem freshWord_mem (s : State) : (freshWord s).2.mem = s.mem := rfl
@[simp] theorem freshWord_stage (s : State) : (freshWord s).2.stage = s.stage := rfl
@[simp] theorem freshWord_clock (s : State) : (freshWord s).2.clock = s.clock := rfl
@[simp] theorem freshWord_upBase (s : State) : (freshWord s).2.upBase = s.upBase := rfl
@[simp] theorem freshWord_tick (s : State) : (freshWord s).2.tick = s.tick := rfl
@[simp] theorem freshWord_tickAt (s : State) : (freshWord s).2.tickAt = s.tickAt := rfl
@[simp] theorem freshWord_round (s : State) : (freshWord s).2.round = s.round := rfl
@[simp] theorem freshWord_began (s : State) : (freshWord s).2.began = s.began := rfl
@[simp] theorem freshWord_t0At (s : State) : (freshWord s).2.t0At = s.t0At := rfl
@[simp] theorem freshWord_pending (s : State) : (freshWord s).2.pending = s.pending := rfl
@[simp] theorem freshWord_freeCtr (s : State) : (freshWord s).2.freeCtr = s.freeCtr + 1 := rfl

@[simp] theorem setErr_hw (a : Nat) (b : Nat) (s : State) : (setErr a b s).hw = s.hw := eq_hw (setErr_but' a b s)
@[simp] theorem setErr_glb (a : Nat) (b : Nat) (s : State) : (setErr a b s).glb = s.glb := eq_glb (setErr_but' a b s)
@[simp] theorem setErr_pwr (a : Nat) (b : Nat) (s : State) : (setErr a b s).pwr = s.pwr := eq_pwr (setErr_but' a b s)
@[simp] theorem setErr_red (a : Nat) (b : Nat) (s : State) : (setErr a b s).red = s.red := eq_red (setErr_but' a b s)
@[simp] theorem setErr_link (a : Nat) (b : Nat) (s : State) : (setErr a b s).link = s.link := eq_link (setErr_but' a b s)
@[simp] theorem setErr_mir (a : Nat) (b : Nat) (s : State) : (setErr a b s).mir = s.mir := eq_mir (setErr_but' a b s)
@[simp] theorem setErr_dg (a : Nat) (b : Nat) (s : State) : (setErr a b s).dg = s.dg := eq_dg (setErr_but' a b s)
@[simp] theorem setErr_ev (a : Nat) (b : Nat) (s : State) : (setErr a b s).ev = s.ev := eq_ev (setErr_but' a b s)
@[simp] theorem setErr_wall (a : Nat) (b : Nat) (s : State) : (setErr a b s).wall = s.wall := eq_wall (setErr_but' a b s)
@[simp] theorem setErr_ks (a : Nat) (b : Nat) (s : State) : (setErr a b s).ks = s.ks := eq_ks (setErr_but' a b s)
@[simp] theorem setErr_pf (a : Nat) (b : Nat) (s : State) : (setErr a b s).pf = s.pf := eq_pf (setErr_but' a b s)
@[simp] theorem setErr_sc (a : Nat) (b : Nat) (s : State) : (setErr a b s).sc = s.sc := eq_sc (setErr_but' a b s)
@[simp] theorem setErr_lp (a : Nat) (b : Nat) (s : State) : (setErr a b s).lp = s.lp := eq_lp (setErr_but' a b s)
@[simp] theorem setErr_swt (a : Nat) (b : Nat) (s : State) : (setErr a b s).swt = s.swt := eq_swt (setErr_but' a b s)
@[simp] theorem setErr_sv (a : Nat) (b : Nat) (s : State) : (setErr a b s).sv = s.sv := eq_sv (setErr_but' a b s)
@[simp] theorem setErr_svf (a : Nat) (b : Nat) (s : State) : (setErr a b s).svf = s.svf := eq_svf (setErr_but' a b s)
@[simp] theorem setErr_fb (a : Nat) (b : Nat) (s : State) : (setErr a b s).fb = s.fb := eq_fb (setErr_but' a b s)
@[simp] theorem setErr_fc (a : Nat) (b : Nat) (s : State) : (setErr a b s).fc = s.fc := eq_fc (setErr_but' a b s)
@[simp] theorem setErr_al (a : Nat) (b : Nat) (s : State) : (setErr a b s).al = s.al := eq_al (setErr_but' a b s)
@[simp] theorem setErr_irqs (a : Nat) (b : Nat) (s : State) : (setErr a b s).irqs = s.irqs := eq_irqs (setErr_but' a b s)
@[simp] theorem setErr_latches (a : Nat) (b : Nat) (s : State) : (setErr a b s).latches = s.latches := eq_latches (setErr_but' a b s)
@[simp] theorem setErr_outbox (a : Nat) (b : Nat) (s : State) : (setErr a b s).outbox = s.outbox := eq_outbox (setErr_but' a b s)
@[simp] theorem setErr_mem (a : Nat) (b : Nat) (s : State) : (setErr a b s).mem = s.mem := eq_mem (setErr_but' a b s)
@[simp] theorem setErr_stage (a : Nat) (b : Nat) (s : State) : (setErr a b s).stage = s.stage := eq_stage (setErr_but' a b s)
@[simp] theorem setErr_clock (a : Nat) (b : Nat) (s : State) : (setErr a b s).clock = s.clock := eq_clock (setErr_but' a b s)
@[simp] theorem setErr_upBase (a : Nat) (b : Nat) (s : State) : (setErr a b s).upBase = s.upBase := eq_upBase (setErr_but' a b s)
@[simp] theorem setErr_tick (a : Nat) (b : Nat) (s : State) : (setErr a b s).tick = s.tick := eq_tick (setErr_but' a b s)
@[simp] theorem setErr_tickAt (a : Nat) (b : Nat) (s : State) : (setErr a b s).tickAt = s.tickAt := eq_tickAt (setErr_but' a b s)
@[simp] theorem setErr_round (a : Nat) (b : Nat) (s : State) : (setErr a b s).round = s.round := eq_round (setErr_but' a b s)
@[simp] theorem setErr_began (a : Nat) (b : Nat) (s : State) : (setErr a b s).began = s.began := eq_began (setErr_but' a b s)
@[simp] theorem setErr_t0At (a : Nat) (b : Nat) (s : State) : (setErr a b s).t0At = s.t0At := eq_t0At (setErr_but' a b s)
@[simp] theorem setErr_freeCtr (a : Nat) (b : Nat) (s : State) : (setErr a b s).freeCtr = s.freeCtr := eq_freeCtr (setErr_but' a b s)
@[simp] theorem setErr_pending (a : Nat) (b : Nat) (s : State) : (setErr a b s).pending = s.pending := eq_pending (setErr_but' a b s)

@[simp] theorem emit_hw (code : Nat) (source : Nat) (args : List Word) (s : State) (clear : Bool) : (emit code source args s clear).hw = s.hw := eq_hw (emit_but' code source args s clear)
@[simp] theorem emit_glb (code : Nat) (source : Nat) (args : List Word) (s : State) (clear : Bool) : (emit code source args s clear).glb = s.glb := eq_glb (emit_but' code source args s clear)
@[simp] theorem emit_pwr (code : Nat) (source : Nat) (args : List Word) (s : State) (clear : Bool) : (emit code source args s clear).pwr = s.pwr := eq_pwr (emit_but' code source args s clear)
@[simp] theorem emit_red (code : Nat) (source : Nat) (args : List Word) (s : State) (clear : Bool) : (emit code source args s clear).red = s.red := eq_red (emit_but' code source args s clear)
@[simp] theorem emit_link (code : Nat) (source : Nat) (args : List Word) (s : State) (clear : Bool) : (emit code source args s clear).link = s.link := eq_link (emit_but' code source args s clear)
@[simp] theorem emit_mir (code : Nat) (source : Nat) (args : List Word) (s : State) (clear : Bool) : (emit code source args s clear).mir = s.mir := eq_mir (emit_but' code source args s clear)
@[simp] theorem emit_dg (code : Nat) (source : Nat) (args : List Word) (s : State) (clear : Bool) : (emit code source args s clear).dg = s.dg := eq_dg (emit_but' code source args s clear)
@[simp] theorem emit_wall (code : Nat) (source : Nat) (args : List Word) (s : State) (clear : Bool) : (emit code source args s clear).wall = s.wall := eq_wall (emit_but' code source args s clear)
@[simp] theorem emit_ks (code : Nat) (source : Nat) (args : List Word) (s : State) (clear : Bool) : (emit code source args s clear).ks = s.ks := eq_ks (emit_but' code source args s clear)
@[simp] theorem emit_pf (code : Nat) (source : Nat) (args : List Word) (s : State) (clear : Bool) : (emit code source args s clear).pf = s.pf := eq_pf (emit_but' code source args s clear)
@[simp] theorem emit_sc (code : Nat) (source : Nat) (args : List Word) (s : State) (clear : Bool) : (emit code source args s clear).sc = s.sc := eq_sc (emit_but' code source args s clear)
@[simp] theorem emit_lp (code : Nat) (source : Nat) (args : List Word) (s : State) (clear : Bool) : (emit code source args s clear).lp = s.lp := eq_lp (emit_but' code source args s clear)
@[simp] theorem emit_swt (code : Nat) (source : Nat) (args : List Word) (s : State) (clear : Bool) : (emit code source args s clear).swt = s.swt := eq_swt (emit_but' code source args s clear)
@[simp] theorem emit_sv (code : Nat) (source : Nat) (args : List Word) (s : State) (clear : Bool) : (emit code source args s clear).sv = s.sv := eq_sv (emit_but' code source args s clear)
@[simp] theorem emit_svf (code : Nat) (source : Nat) (args : List Word) (s : State) (clear : Bool) : (emit code source args s clear).svf = s.svf := eq_svf (emit_but' code source args s clear)
@[simp] theorem emit_fb (code : Nat) (source : Nat) (args : List Word) (s : State) (clear : Bool) : (emit code source args s clear).fb = s.fb := eq_fb (emit_but' code source args s clear)
@[simp] theorem emit_fc (code : Nat) (source : Nat) (args : List Word) (s : State) (clear : Bool) : (emit code source args s clear).fc = s.fc := eq_fc (emit_but' code source args s clear)
@[simp] theorem emit_al (code : Nat) (source : Nat) (args : List Word) (s : State) (clear : Bool) : (emit code source args s clear).al = s.al := eq_al (emit_but' code source args s clear)
@[simp] theorem emit_irqs (code : Nat) (source : Nat) (args : List Word) (s : State) (clear : Bool) : (emit code source args s clear).irqs = s.irqs := eq_irqs (emit_but' code source args s clear)
@[simp] theorem emit_latches (code : Nat) (source : Nat) (args : List Word) (s : State) (clear : Bool) : (emit code source args s clear).latches = s.latches := eq_latches (emit_but' code source args s clear)
@[simp] theorem emit_outbox (code : Nat) (source : Nat) (args : List Word) (s : State) (clear : Bool) : (emit code source args s clear).outbox = s.outbox := eq_outbox (emit_but' code source args s clear)
@[simp] theorem emit_mem (code : Nat) (source : Nat) (args : List Word) (s : State) (clear : Bool) : (emit code source args s clear).mem = s.mem := eq_mem (emit_but' code source args s clear)
@[simp] theorem emit_stage (code : Nat) (source : Nat) (args : List Word) (s : State) (clear : Bool) : (emit code source args s clear).stage = s.stage := eq_stage (emit_but' code source args s clear)
@[simp] theorem emit_clock (code : Nat) (source : Nat) (args : List Word) (s : State) (clear : Bool) : (emit code source args s clear).clock = s.clock := eq_clock (emit_but' code source args s clear)
@[simp] theorem emit_upBase (code : Nat) (source : Nat) (args : List Word) (s : State) (clear : Bool) : (emit code source args s clear).upBase = s.upBase := eq_upBase (emit_but' code source args s clear)
@[simp] theorem emit_tick (code : Nat) (source : Nat) (args : List Word) (s : State) (clear : Bool) : (emit code source args s clear).tick = s.tick := eq_tick (emit_but' code source args s clear)
@[simp] theorem emit_tickAt (code : Nat) (source : Nat) (args : List Word) (s : State) (clear : Bool) : (emit code source args s clear).tickAt = s.tickAt := eq_tickAt (emit_but' code source args s clear)
@[simp] theorem emit_round (code : Nat) (source : Nat) (args : List Word) (s : State) (clear : Bool) : (emit code source args s clear).round = s.round := eq_round (emit_but' code source args s clear)
@[simp] theorem emit_began (code : Nat) (source : Nat) (args : List Word) (s : State) (clear : Bool) : (emit code source args s clear).began = s.began := eq_began (emit_but' code source args s clear)
@[simp] theorem emit_t0At (code : Nat) (source : Nat) (args : List Word) (s : State) (clear : Bool) : (emit code source args s clear).t0At = s.t0At := eq_t0At (emit_but' code source args s clear)
@[simp] theorem emit_freeCtr (code : Nat) (source : Nat) (args : List Word) (s : State) (clear : Bool) : (emit code source args s clear).freeCtr = s.freeCtr := eq_freeCtr (emit_but' code source args s clear)
@[simp] theorem emit_pending (code : Nat) (source : Nat) (args : List Word) (s : State) (clear : Bool) : (emit code source args s clear).pending = s.pending := eq_pending (emit_but' code source args s clear)

@[simp] theorem emitRec_hw (r : EvRec) (s : State) : (emitRec r s).hw = s.hw := eq_hw (emitRec_but' r s)
@[simp] theorem emitRec_glb (r : EvRec) (s : State) : (emitRec r s).glb = s.glb := eq_glb (emitRec_but' r s)
@[simp] theorem emitRec_pwr (r : EvRec) (s : State) : (emitRec r s).pwr = s.pwr := eq_pwr (emitRec_but' r s)
@[simp] theorem emitRec_red (r : EvRec) (s : State) : (emitRec r s).red = s.red := eq_red (emitRec_but' r s)
@[simp] theorem emitRec_link (r : EvRec) (s : State) : (emitRec r s).link = s.link := eq_link (emitRec_but' r s)
@[simp] theorem emitRec_mir (r : EvRec) (s : State) : (emitRec r s).mir = s.mir := eq_mir (emitRec_but' r s)
@[simp] theorem emitRec_dg (r : EvRec) (s : State) : (emitRec r s).dg = s.dg := eq_dg (emitRec_but' r s)
@[simp] theorem emitRec_wall (r : EvRec) (s : State) : (emitRec r s).wall = s.wall := eq_wall (emitRec_but' r s)
@[simp] theorem emitRec_ks (r : EvRec) (s : State) : (emitRec r s).ks = s.ks := eq_ks (emitRec_but' r s)
@[simp] theorem emitRec_pf (r : EvRec) (s : State) : (emitRec r s).pf = s.pf := eq_pf (emitRec_but' r s)
@[simp] theorem emitRec_sc (r : EvRec) (s : State) : (emitRec r s).sc = s.sc := eq_sc (emitRec_but' r s)
@[simp] theorem emitRec_lp (r : EvRec) (s : State) : (emitRec r s).lp = s.lp := eq_lp (emitRec_but' r s)
@[simp] theorem emitRec_swt (r : EvRec) (s : State) : (emitRec r s).swt = s.swt := eq_swt (emitRec_but' r s)
@[simp] theorem emitRec_sv (r : EvRec) (s : State) : (emitRec r s).sv = s.sv := eq_sv (emitRec_but' r s)
@[simp] theorem emitRec_svf (r : EvRec) (s : State) : (emitRec r s).svf = s.svf := eq_svf (emitRec_but' r s)
@[simp] theorem emitRec_fb (r : EvRec) (s : State) : (emitRec r s).fb = s.fb := eq_fb (emitRec_but' r s)
@[simp] theorem emitRec_fc (r : EvRec) (s : State) : (emitRec r s).fc = s.fc := eq_fc (emitRec_but' r s)
@[simp] theorem emitRec_al (r : EvRec) (s : State) : (emitRec r s).al = s.al := eq_al (emitRec_but' r s)
@[simp] theorem emitRec_irqs (r : EvRec) (s : State) : (emitRec r s).irqs = s.irqs := eq_irqs (emitRec_but' r s)
@[simp] theorem emitRec_latches (r : EvRec) (s : State) : (emitRec r s).latches = s.latches := eq_latches (emitRec_but' r s)
@[simp] theorem emitRec_outbox (r : EvRec) (s : State) : (emitRec r s).outbox = s.outbox := eq_outbox (emitRec_but' r s)
@[simp] theorem emitRec_mem (r : EvRec) (s : State) : (emitRec r s).mem = s.mem := eq_mem (emitRec_but' r s)
@[simp] theorem emitRec_stage (r : EvRec) (s : State) : (emitRec r s).stage = s.stage := eq_stage (emitRec_but' r s)
@[simp] theorem emitRec_clock (r : EvRec) (s : State) : (emitRec r s).clock = s.clock := eq_clock (emitRec_but' r s)
@[simp] theorem emitRec_upBase (r : EvRec) (s : State) : (emitRec r s).upBase = s.upBase := eq_upBase (emitRec_but' r s)
@[simp] theorem emitRec_tick (r : EvRec) (s : State) : (emitRec r s).tick = s.tick := eq_tick (emitRec_but' r s)
@[simp] theorem emitRec_tickAt (r : EvRec) (s : State) : (emitRec r s).tickAt = s.tickAt := eq_tickAt (emitRec_but' r s)
@[simp] theorem emitRec_round (r : EvRec) (s : State) : (emitRec r s).round = s.round := eq_round (emitRec_but' r s)
@[simp] theorem emitRec_began (r : EvRec) (s : State) : (emitRec r s).began = s.began := eq_began (emitRec_but' r s)
@[simp] theorem emitRec_t0At (r : EvRec) (s : State) : (emitRec r s).t0At = s.t0At := eq_t0At (emitRec_but' r s)
@[simp] theorem emitRec_freeCtr (r : EvRec) (s : State) : (emitRec r s).freeCtr = s.freeCtr := eq_freeCtr (emitRec_but' r s)
@[simp] theorem emitRec_pending (r : EvRec) (s : State) : (emitRec r s).pending = s.pending := eq_pending (emitRec_but' r s)

@[simp] theorem pat_clockTo (t : Nat) (s : State) : pat (clockTo t s) = pat s := rfl
@[simp] theorem running_clockTo (t : Nat) (s : State) : running (clockTo t s) = running s := rfl
@[simp] theorem drives_clockTo (t : Nat) (s : State) : drives (clockTo t s) = drives s := rfl
@[simp] theorem pat_emit (c u : Nat) (a : List Word) (s : State) (k : Bool) : pat (emit c u a s k) = pat s := by simp [pat]
@[simp] theorem running_emit (c u : Nat) (a : List Word) (s : State) (k : Bool) : running (emit c u a s k) = running s := by simp [running]
@[simp] theorem drives_emit (c u : Nat) (a : List Word) (s : State) (k : Bool) : drives (emit c u a s k) = drives s := by simp [drives]

@[simp] theorem inSt_setIn_eq (i : Nat) (x : InputSt) (s : State) : inSt (setIn i x s) i = x := by simp [inSt, setIn]
theorem inSt_setIn_ne (i j : Nat) (x : InputSt) (s : State) (h : j ≠ i) : inSt (setIn i x s) j = inSt s j := by simp [inSt, setIn, tgetD_tset_ne _ _ _ _ _ h]
@[simp] theorem chSt_setCh_eq (c : Nat) (x : ChanSt) (s : State) : chSt (setCh c x s) c = x := by simp [chSt, setCh]
theorem chSt_setCh_ne (c j : Nat) (x : ChanSt) (s : State) (h : j ≠ c) : chSt (setCh c x s) j = chSt s j := by simp [chSt, setCh, tgetD_tset_ne _ _ _ _ _ h]
@[simp] theorem swSt_setSw_eq (k : Nat) (x : SwSt) (s : State) : swSt (setSw k x s) k = x := by simp [swSt, setSw]
theorem swSt_setSw_ne (k j : Nat) (x : SwSt) (s : State) (h : j ≠ k) : swSt (setSw k x s) j = swSt s j := by simp [swSt, setSw, tgetD_tset_ne _ _ _ _ _ h]
@[simp] theorem trSt_setTr_eq (b : Nat) (x : TrSt) (s : State) : trSt (setTr b x s) b = x := by simp [trSt, setTr]
theorem trSt_setTr_ne (b j : Nat) (x : TrSt) (s : State) (h : j ≠ b) : trSt (setTr b x s) j = trSt s j := by simp [trSt, setTr, tgetD_tset_ne _ _ _ _ _ h]
@[simp] theorem busSt_setBus_eq (k : Nat) (x : BusSt) (s : State) : busSt (setBus k x s) k = x := by simp [busSt, setBus]
theorem busSt_setBus_ne (k j : Nat) (x : BusSt) (s : State) (h : j ≠ k) : busSt (setBus k x s) j = busSt s j := by simp [busSt, setBus, tgetD_tset_ne _ _ _ _ _ h]
@[simp] theorem busBuf_setBuf_eq (k : Nat) (x : BusBuf) (s : State) : busBuf (setBuf k x s) k = x := by simp [busBuf, setBuf]
theorem busBuf_setBuf_ne (k j : Nat) (x : BusBuf) (s : State) (h : j ≠ k) : busBuf (setBuf k x s) j = busBuf s j := by simp [busBuf, setBuf, tgetD_tset_ne _ _ _ _ _ h]
@[simp] theorem busSt_setBuf (k j : Nat) (x : BusBuf) (s : State) : busSt (setBuf k x s) j = busSt s j := rfl
@[simp] theorem busBuf_setBus (k j : Nat) (x : BusSt) (s : State) : busBuf (setBus k x s) j = busBuf s j := rfl
@[simp] theorem cmpSt_setCmp_eq (k : Nat) (x : CmpSt) (s : State) : cmpSt (setCmp k x s) k = x := by simp [cmpSt, setCmp]
theorem cmpSt_setCmp_ne (k j : Nat) (x : CmpSt) (s : State) (h : j ≠ k) : cmpSt (setCmp k x s) j = cmpSt s j := by simp [cmpSt, setCmp, tgetD_tset_ne _ _ _ _ _ h]
@[simp] theorem rowSt_setRow_eq (r : Nat) (x : RowSt) (s : State) : rowSt (setRow r x s) r = x := by simp [rowSt, setRow]
theorem rowSt_setRow_ne (r j : Nat) (x : RowSt) (s : State) (h : j ≠ r) : rowSt (setRow r x s) j = rowSt s j := by simp [rowSt, setRow, tgetD_tset_ne _ _ _ _ _ h]
@[simp] theorem ctr_setCtr_eq (c : Nat) (x : ScCtr) (s : State) : ctr (setCtr c x s) c = x := by simp [ctr, setCtr]
theorem ctr_setCtr_ne (c j : Nat) (x : ScCtr) (s : State) (h : j ≠ c) : ctr (setCtr c x s) j = ctr s j := by simp [ctr, setCtr, tgetD_tset_ne _ _ _ _ _ h]
@[simp] theorem plateRun_setPlate_eq (p : Nat) (x : PlateRun) (s : State) : plateRun (setPlate p x s) p = x := by simp [plateRun, setPlate]
theorem plateRun_setPlate_ne (p j : Nat) (x : PlateRun) (s : State) (h : j ≠ p) : plateRun (setPlate p x s) j = plateRun s j := by simp [plateRun, setPlate, tgetD_tset_ne _ _ _ _ _ h]
@[simp] theorem regSt_setReg_eq (k : Nat) (x : RegionSt) (s : State) : regSt (setReg k x s) k = x := by simp [regSt, setReg]
theorem regSt_setReg_ne (k j : Nat) (x : RegionSt) (s : State) (h : j ≠ k) : regSt (setReg k x s) j = regSt s j := by simp [regSt, setReg, tgetD_tset_ne _ _ _ _ _ h]
@[simp] theorem plateLs_setLs_eq (p : Nat) (x : PlateLs) (s : State) : plateLs (setLs p x s) p = x := by simp [plateLs, setLs]
theorem plateLs_setLs_ne (p j : Nat) (x : PlateLs) (s : State) (h : j ≠ p) : plateLs (setLs p x s) j = plateLs s j := by simp [plateLs, setLs, tgetD_tset_ne _ _ _ _ _ h]

end Sys2Proof.Machine
end

