-- ==== Sys2Proof/Laws/Taken.lean ====
section
/-! SUPPORT. A request that nothing stands in the way of is taken in (R303, R305, R309, R310); tags are 16 bytes; a CRITICAL message with its own tag passes the keyed check (R324, R325). -/

set_option Elab.async false
set_option linter.all false

namespace Sys2Proof.Machine

theorem le_length (n k : Nat) : (le n k).length = k := by
  induction k generalizing n with
  | zero => rfl
  | succ k ih => simp [le, ih]

theorem keccakRound_length (a : List (BitVec 64)) (rc : BitVec 64) : (keccakRound a rc).length = 25 := by
  unfold keccakRound
  have h : (keccakChi (keccakRhoPi (keccakTheta a))).length = 25 := by simp [keccakChi]
  split
  · next e => rw [e] at h; simp at h
  · next e => rw [e] at h; simpa using h

theorem keccakFold_length (l : List (BitVec 64)) (a : List (BitVec 64)) (h : a.length = 25) : (l.foldl keccakRound a).length = 25 := by
  induction l generalizing a with
  | nil => exact h
  | cons x t ih => exact ih _ (keccakRound_length a x)

theorem keccakF_length (a : List (BitVec 64)) (h : a.length = 25) : (keccakF a).length = 25 := keccakFold_length _ _ h

theorem absorb_length (n : Nat) (a : List (BitVec 64)) (bs : Bytes) (h : a.length = 25) : (absorb n a bs).length = 25 := by
  induction n generalizing a bs with
  | zero => exact h
  | succ n ih => exact ih _ _ (keccakF_length _ (by simp))

theorem squeeze_length (a : List (BitVec 64)) (h : a.length = 25) : (squeeze a).length = 136 := by
  unfold squeeze
  rw [List.length_flatten, List.map_map]
  have : (List.length ∘ fun l : BitVec 64 => le l.toNat 8) = fun _ => 8 := by
    funext l
    simp [le_length]
  rw [this]
  simp [h, List.map_const']

theorem sponge_length (dom : BitVec 8) (bs : Bytes) (n : Nat) (h : n ≤ 136) : (sponge dom bs n).length = n := by
  unfold sponge
  rw [List.length_take, squeeze_length _ (absorb_length _ _ _ (by simp))]
  omega

theorem tagOf_length (k : Bytes) (d : Dgram) (body counter c : Bytes) : (tagOf k d body counter c).length = 16 := sponge_length _ _ _ (by decide)

/-- The state once a peer's first request has been taken in. -/
def takenIn (p : Nat) (d : Dgram) (s : State) : State :=
  { s with
    hl.sessions := tset s.hl.sessions p d.session
    hl.seen := tset (tset s.hl.seen p []) p [{ session := d.session, xid := d.xid, at_ := s.clock }] }

/-- A sealed datagram from a peer that has sent nothing yet is accepted. -/
theorem accept_fresh {typ : Nat} {d : Dgram} {s : State} {p : PeerRec} (h1 : engineSilent s = false) (h2 : senderOf s d = some p)
    (h3 : d.crc = hxpCrc d) (h4 : d.ver = 1) (h5 : d.length = d.payload.length) (h6 : d.length ≤ 8920) (h7 : d.typ = typ)
    (h8 : tget s.hl.sessions p.index = none) (h9 : frameOk s d = true) (h10 : d.trailer = []) (h11 : knownTyp typ = true)
    (h12 : (bitOf d.flags 2 && typ != 0x30) = false) :
    accept typ d s = (some p, { s with hl.sessions := tset s.hl.sessions p.index d.session }) := by
  unfold accept
  rw [if_neg (by simp [h1, h9]), h2]
  dsimp only
  have e : (d.ver != 1 || d.length != d.payload.length + d.trailer.length || decide (8920 < d.length) || d.typ != typ || !knownTyp d.typ ||
      (bitOf d.flags 2 && d.typ != 0x30 && d.trailer.length != 24)) = false := by
    rw [h4, h7, h10, h11, h12, h5]
    simp only [List.length_nil, Nat.add_zero, bne_self_eq_false, Bool.false_or, Bool.or_false, Bool.false_and, Bool.not_true]
    exact decide_eq_false (by omega)
  have e0 : (d.crc != hxpCrc d) = false := by rw [← h3]; exact bne_self_eq_false _
  have e1 : tagGood s p d = true := by unfold tagGood; rw [h10]; rfl
  rw [if_neg (by rw [e0]; decide), if_neg (by rw [e]; decide), if_neg (by rw [e1]; decide)]
  simp [noteSession, h8]

/-- A sealed class 1 request from a peer that has sent nothing yet is taken in. -/
theorem takeRequest_fresh {typ : Nat} {right : Option Nat} {d : Dgram} {s : State} {p : PeerRec} (h1 : engineSilent s = false)
    (h2 : senderOf s d = some p) (h3 : d.crc = hxpCrc d) (h4 : d.ver = 1) (h5 : d.length = d.payload.length) (h6 : d.length ≤ 8920)
    (h7 : d.typ = typ) (h8 : tget s.hl.sessions p.index = none) (h9 : tgetD s.hl.seen p.index [] = [])
    (h10 : outstanding { s with hl.seen := tset s.hl.seen p.index [] } < 64) (h11 : s.glb.role ≠ .safe) (h12 : ∀ r, right = some r → hasRight p r = true)
    (h13 : frameOk s d = true) (h14 : d.trailer = []) (h15 : knownTyp typ = true) (h16 : (bitOf d.flags 2 && typ != 0x30) = false) :
    takeRequest typ right d s = (some p, takenIn p.index d s) := by
  have e1 : takeIn p.index d { s with hl.sessions := tset s.hl.sessions p.index d.session } = (true, takenIn p.index d s) := by
    have e0 : freshSeen s.clock [] = [] := by
      unfold freshSeen
      rw [List.filter_nil]
      exact List.drop_nil
    unfold takeIn
    dsimp only
    rw [h9, e0, List.find?_nil]
    dsimp only
    exact if_neg (Nat.not_le.mpr h10)
  unfold takeRequest
  rw [accept_fresh h1 h2 h3 h4 h5 h6 h7 h8 h13 h14 h15 h16]
  dsimp only
  rw [e1]
  dsimp only
  rw [if_neg (by simp [takenIn, h11])]
  cases right with
  | none => rfl
  | some r => simp [h12 r rfl]

/-- A critical payload up to its trailer (R327). -/
def critBody (code flags : Nat) (target args : Bytes) : Bytes := le code 2 ++ le flags 2 ++ le 0 4 ++ target ++ args

/-- A CRITICAL message with its tag under a key (R306, R324, R327). -/
def critMsg (src dst : Nat) (key : Bytes) (code flags ctr : Nat) (target args : Bytes) : Dgram :=
  let b := critBody code flags target args
  let d : Dgram := { src := src, dst := dst, typ := 0x30, flags := 6, session := 1, length := b.length + 24, xid := 5 }
  let d := { d with payload := b ++ le ctr 8 ++ tagOf key d b (le ctr 8) strHXP1 }
  { d with crc := hxpCrc d }

theorem slice_mid (a b c : Bytes) (o n : Nat) (ho : a.length = o) (hn : b.length = n) : slice (a ++ b ++ c) o n = b := by
  subst ho hn
  simp [slice]

theorem critMsg_length (src dst : Nat) (key : Bytes) (code flags ctr : Nat) (target args : Bytes) :
    (critMsg src dst key code flags ctr target args).payload.length = (critBody code flags target args).length + 24 := by
  simp [critMsg, le_length, tagOf_length]

theorem critMsg_crc (src dst : Nat) (key : Bytes) (code flags ctr : Nat) (target args : Bytes) :
    (critMsg src dst key code flags ctr target args).crc = hxpCrc (critMsg src dst key code flags ctr target args) := rfl

theorem critMsg_body (src dst : Nat) (key : Bytes) (code flags ctr : Nat) (target args : Bytes) :
    tagBody (critMsg src dst key code flags ctr target args) = critBody code flags target args := by
  unfold tagBody
  rw [critMsg_length]
  simp [critMsg]

theorem critMsg_counter (src dst : Nat) (key : Bytes) (code flags ctr : Nat) (target args : Bytes) :
    tagCounter (critMsg src dst key code flags ctr target args) = le ctr 8 := by
  unfold tagCounter
  rw [critMsg_length]
  exact slice_mid _ _ _ _ _ (by simp) (le_length _ _)

theorem critMsg_tag (src dst : Nat) (key : Bytes) (code flags ctr : Nat) (target args : Bytes) :
    tagBytes (critMsg src dst key code flags ctr target args) =
      tagOf key (critMsg src dst key code flags ctr target args) (critBody code flags target args) (le ctr 8) strHXP1 := by
  unfold tagBytes
  rw [critMsg_length]
  have := slice_mid (critBody code flags target args ++ le ctr 8)
    (tagOf key (critMsg src dst key code flags ctr target args) (critBody code flags target args) (le ctr 8) strHXP1) []
    ((critBody code flags target args).length + 8) 16 (by simp [le_length]) (tagOf_length _ _ _ _ _)
  rw [List.append_nil] at this
  exact this

theorem critMsg_front (src dst : Nat) (key : Bytes) (code flags ctr : Nat) (target args : Bytes) (o n : Nat)
    (h : o + n ≤ (critBody code flags target args).length) :
    slice (critMsg src dst key code flags ctr target args).payload o n = slice (critBody code flags target args) o n := by
  unfold slice critMsg
  simp only [List.append_assoc]
  rw [List.drop_append_of_le_length (by omega), List.take_append_of_le_length (by simp; omega)]

/-- With a pattern, the peer a datagram comes from is decided by its addresses and port (R303). -/
theorem senderOf_addresses {s : State} {d e : Dgram} (h : awaiting s = false) (h1 : d.src = e.src) (h2 : d.dst = e.dst) (h3 : d.port = e.port) :
    senderOf s d = senderOf s e := by
  unfold senderOf
  rw [h, h1, h2, h3]
  rfl

/-- A tagged CRITICAL message to a module that has a key for its sender and has heard nothing from it yet passes the keyed check. -/
theorem critMsg_taken {code nargs flags fl ctr src dst : Nat} {key target args : Bytes} {s : State} {p : PeerRec} {r : Nat}
    (h1 : engineSilent s = false) (h2 : senderOf s { src := src, dst := dst, typ := 0x30, flags := 6, session := 1, xid := 5 } = some p)
    (h3 : tget s.hl.sessions p.index = none) (h4 : tgetD s.hl.seen p.index [] = []) (h5 : outstanding { s with hl.seen := tset s.hl.seen p.index [] } < 64)
    (h6 : s.glb.role ≠ .safe) (h7 : s.ks.quar = false) (h8 : critDenied s code = false) (h9 : hasRight p 5 = true) (h10 : peerKey s p = some r)
    (h11 : target = s.hw.target) (h12 : keyOf s r = key) (h13 : key.isEmpty = false) (h14 : (ctrSt s p.index).floor < ctr) (h15 : ctr < 2 ^ 64)
    (h16 : s.pwr.dip = false) (h17 : args.length = nargs) (h18 : nargs ≤ 256) (h19 : fl / (flags + 1) = 0) (h20 : code < 65536) (h21 : fl < 65536)
    (h22 : target.length = 8) (h23 : awaiting s = false) (h24 : critBlocked s = false) :
    let d := critMsg src dst key code fl ctr target args
    CritTaken code nargs flags d s p r (takenIn p.index d s) ∧ critArgs d = args ∧ critFlags d = fl ∧ unLe (tagCounter d) = ctr := by
  have hb : (critBody code fl target args).length = 16 + nargs := by simp [critBody, le_length, h22, h17]; omega
  have hl := critMsg_length src dst key code fl ctr target args
  have hle : ∀ n k, n < 256 ^ k → unLe (le n k) = n := by
    intro n k
    induction k generalizing n with
    | zero => intro h; simp [le, unLe] at h ⊢; omega
    | succ k ih =>
      intro h
      have := ih (n / 256) (by rw [Nat.pow_succ] at h; omega)
      simp only [le, unLe, this, BitVec.toNat_ofNat]
      omega
  have e0 : fld (critMsg src dst key code fl ctr target args).payload 0 2 = code := by
    unfold fld
    rw [critMsg_front _ _ _ _ _ _ _ _ _ _ (by omega)]
    have := slice_mid [] (le code 2) (le fl 2 ++ le 0 4 ++ target ++ args) 0 2 rfl (le_length _ _)
    simp only [List.nil_append] at this
    simp only [critBody, List.append_assoc] at this ⊢
    rw [this, hle _ _ (by omega)]
  have e1 : critFlags (critMsg src dst key code fl ctr target args) = fl := by
    unfold critFlags fld
    rw [critMsg_front _ _ _ _ _ _ _ _ _ _ (by omega)]
    have := slice_mid (le code 2) (le fl 2) (le 0 4 ++ target ++ args) 2 2 (le_length _ _) (le_length _ _)
    simp only [critBody, List.append_assoc] at this ⊢
    rw [this, hle _ _ (by omega)]
  have e2 : zeroAt (critMsg src dst key code fl ctr target args).payload 4 4 = true := by
    unfold zeroAt
    rw [critMsg_front _ _ _ _ _ _ _ _ _ _ (by omega)]
    have := slice_mid (le code 2 ++ le fl 2) (le 0 4) (target ++ args) 4 4 (by simp [le_length]) (le_length _ _)
    simp only [critBody, List.append_assoc] at this ⊢
    rw [this]
    rfl
  have e3 : slice (critMsg src dst key code fl ctr target args).payload 8 8 = target := by
    rw [critMsg_front _ _ _ _ _ _ _ _ _ _ (by omega)]
    have := slice_mid (le code 2 ++ le fl 2 ++ le 0 4) target args 8 8 (by simp [le_length]) h22
    simp only [critBody, List.append_assoc] at this ⊢
    exact this
  have e4 : critArgs (critMsg src dst key code fl ctr target args) = args := by
    unfold critArgs
    rw [critMsg_body]
    unfold critBody
    rw [List.drop_append_of_le_length (by simp [le_length, h22])]
    simp [le_length, h22]
  have e5 : unLe (tagCounter (critMsg src dst key code fl ctr target args)) = ctr := by rw [critMsg_counter, hle _ _ (by omega)]
  have hk : ∀ q, keyOf (takenIn p.index (critMsg src dst key code fl ctr target args) s) q = keyOf s q := fun _ => rfl
  have hc : ∀ q, ctrSt (takenIn p.index (critMsg src dst key code fl ctr target args) s) q = ctrSt s q := fun _ => rfl
  have hs : senderOf s (critMsg src dst key code fl ctr target args) = some p := by
    rw [← h2]
    exact senderOf_addresses h23 rfl rfl rfl
  refine ⟨⟨?_, h7, h8, ?_, h9, h10, ?_, ?_, ?_, ?_, fun _ => h16, h24, ?_, ?_⟩, e4, e1, e5⟩
  · exact takeRequest_fresh h1 hs rfl rfl (by rw [hl]; rfl) (by show (critBody code fl target args).length + 24 ≤ 8920; omega) rfl h3 h4 h5 h6 (by simp) rfl rfl (by decide) (by simp)
  · unfold critLayout critCode
    rw [e0, e2, hl]
    have : bitOf (critMsg src dst key code fl ctr target args).flags 2 = true := by show bitOf 6 2 = true; decide
    simp [this]
    omega
  · rw [e3]; exact h11
  · rw [hk, h12]; exact h13
  · rw [hk, h12, critMsg_tag, critMsg_body, critMsg_counter]
  · rw [hc, e5]; exact h14
  · rw [e4]; exact h17
  · rw [e1]; exact h19

end Sys2Proof.Machine
end

