-- ==== Sys2Proof/Machine/Pins.lean ====
section
/-! DEFINITION. What the module shows at its faceplate and at its pins (R208, R212, R243, R244, R434, R442): functions of the state, which no command reads back. -/

namespace Sys2Proof.Machine

/-- Colours of the faceplate indicators (R434). -/
inductive Colour where
  | green
  | amber
  | red
  deriving DecidableEq, Repr

/-- What an indicator shows: nothing, a steady colour, or a colour flashing at a rate in Hz. -/
inductive Lamp where
  | off
  | steady (c : Colour)
  | flashing (c : Colour) (hz : Nat)
  deriving DecidableEq, Repr

/-- A module that has completed cast-on without a pattern (R379). -/
def awaitsPattern (s : State) : Bool := s.glb.phase == 7

/-- VSAFE is present: above the power-on threshold of R407, be it low (R409). -/
def vsafeOn (s : State) : Bool := s.pwr.vsafeOk || decide (830 ≤ s.pwr.vsafe)

/-- The ROLE indicator (R434): off during a power-on reset. -/
def roleLamp (s : State) : Lamp :=
  if !vsafeOn s then .off
  else match s.glb.role with
  | .active => .steady .green
  | .alone => .steady .green
  | .standby => .flashing .green 1
  | .safe => .flashing .amber 4
  | .held => .steady .amber
  | .none => if awaitsPattern s then .flashing .amber 4 else .steady .amber

/-- The ALARM indicator (R434): driven from VSAFE, lit while the coil is released. -/
def alarmLamp (s : State) : Lamp := if vsafeOn s && alarmReleased s then .steady .red else .off

/-- The LINK indicator (R434); a freeze takes the link down (R456). -/
def linkLamp (s : State) : Lamp :=
  if !s.hl.linkUp || s.glb.life == .frozen then .off else if s.hl.rate = 2 then .steady .green else .flashing .green 1

/-- The chain-pair transmitter runs: in every role but SAFE, and not while frozen (R235, R239, R442, R456). -/
def chainDriven (s : State) : Bool := vsafeOn s && running s && s.glb.role != .none && s.glb.role != .safe

/-- CLAIM_N is pulled low: while one of the module's pulses lasts (R243, R244). -/
def claimPulled (s : State) : Bool := pullsNow s

/-- ECAP_N is pulled low: by the selvedge only, and never without VSAFE (R442, R445). -/
def ecapPulled (s : State) : Bool := s.pwr.vsafeOk && ecapOut s

/-- AOUT, PWM and DIO commands reach their pins only while the output enables are set; a frozen module has cleared them (R442, R456). -/
def outputsEnabled (s : State) : Bool := s.red.driving && running s

/-- What an analogue output shows: high impedance without VFIELD, released (0 mA, or 0 V through 100 kΩ), or driven in its mode of R439 with a 16-bit code. -/
inductive Analog where
  | highZ
  | released
  | driven (mode code : Nat)
  deriving DecidableEq, Repr

/-- The upper limit of an AOUT mode (R439): 24 mA, 10.5 V. -/
def aoutTop (mode : Nat) : F32 := if mode = 1 then fofNat 24 else f32k 105 10

/-- The 16-bit code of an AOUT (R439): the command limited to the mode's range and rounded to one of 65 536 equal steps of it (DESIGN CHOICE: no rule gives the code's scale). -/
def aoutCode (mode : Nat) (y : F32) : Nat := (clampI 0 65535 (froundI 65535 (fdiv (fmul y (fofNat 65535)) (aoutTop mode)))).toNat

/-- Output AOUT `i` at its pin (R441, R442): a pin without an enabled record is released. -/
def aoutPin (s : State) (i : Nat) : Analog :=
  if s.pwr.vfield = 0 && !s.pwr.vfieldOk then .highZ
  else
    match ioRec s 3 i, tget s.lp.aout i with
    | some io, some y => if outputsEnabled s && !svReleases s then .driven io.mode (aoutCode io.mode y) else .released
    | _, _ => .released

/-- Output PWM `i` at its pin (R439, R442): the steps of 25 ns for which it sources VFIELD in each period, and those of the period; open otherwise. -/
def pwmPin (s : State) (i : Nat) : Option (Nat × Nat) :=
  match ioRec s 5 i, tget s.lp.pwm i with
  | some io, some y =>
    let n := io.param * 2000
    if outputsEnabled s && !svReleases s then some ((clampI 0 n (froundI n (fmul y (fofNat n)))).toNat, n) else none
  | _, _ => none

/-- Level of DIO output `d` at its pin (R212, R442): the selvedge stage, powered from VSAFE, drives an action's value in every role; otherwise it passes the loop layer's command of an output, or is open. -/
def dioPin (s : State) (d : Nat) : Option Bool :=
  if !vsafeOn s then none
  else
    match dioHeld s d with
    | some v => some v
    | none =>
      match ioRec s 7 d with
      | some io => if io.mode == 2 && outputsEnabled s && !svReleases s then some (Config.dioCommand s.tick d) else none
      | none => none

/-- The sampled level of DIO pin `d` (R439): after the backplane OR with what the partner or the field drives, the readback that R201 uses. -/
def dioSample (s : State) (d : Nat) (other : Bool) : Bool := (dioPin s d).getD false || other

/-- Excitation of AIN `i` in µA (R439, R442): as its enabled record, or a supply-temperature comparator of the latches where no record names it, selects; the ROM set's are Pt100 (R230). -/
def ainExcited (s : State) (i : Nat) : Nat :=
  if !vsafeOn s then 0
  else
    match ioRec s 1 i with
    | some io => if io.mode = 3 then 1000 else if io.mode = 4 then 100 else 0
    | none => if ([0, 1] : List Nat).any (fun k => (cmpRec s k).enable && (cmpRec s k).input == i) then 1000 else 0

/-- Rope circuit `z` is excited (R204, R442). -/
def leakExcited (s : State) (z : Nat) : Bool := vsafeOn s && (ropeRec s z).enable

/-- What a field-bus pin pair shows (R264, R442): passive without VSAFE, recessive where the controller may put nothing on the bus, else what frames, acknowledgements and error frames make of it. -/
inductive BusPin where
  | passive
  | recessive
  | bus
  deriving DecidableEq, Repr

/-- The pins of field bus `k`. -/
def fbPin (s : State) (k : Nat) : BusPin :=
  if !vsafeOn s then .passive
  else if running s && ((busSt s k).st == bsNormal || (busSt s k).st == bsRestricted) then .bus
  else .recessive

/-- AUX3V3 is on with VSAFE (R442). -/
def auxOn (s : State) : Bool := vsafeOn s

end Sys2Proof.Machine
end

