-- ==== Sys2Proof/WellFormed.lean ====
section
/-! DEFINITION. Which commands name things that the module has: bus, channel, slot and row numbers, register words, and datagram fields that fit their header places (R305). A command that fails these is no stimulus of the chip; `exec` is total on it all the same. -/

namespace Sys2Proof

/-- The header fields of a datagram fit their places, and the payload its limit (R305). -/
def Dgram.wf (d : Dgram) : Bool :=
  decide (d.src < 2 ^ 128) && decide (d.dst < 2 ^ 128) && decide (d.port < 65536) && decide (d.sport < 65536) && decide (d.ver < 256) && decide (d.typ < 256) &&
    decide (d.flags < 256) && decide (d.session < 65536) && decide (d.length < 65536) && decide (d.xid < 2 ^ 32) && decide (d.frag < 65536) &&
    decide (d.frags < 65536) && decide (d.round < 2 ^ 64) && decide (d.status < 2 ^ 32) && decide (d.crc < 2 ^ 32) && decide (d.payload.length ≤ 8920) && d.trailer.isEmpty &&
    (match d.vlan with
     | some (v, p) => decide (v < 4096) && decide (p < 8)
     | none => true)

/-- A frame's identifier and length fit its format (R262). -/
def BusFrame.wf (f : BusFrame) : Bool :=
  decide (f.fmt ≤ 2) && decide (f.id < if f.xtd then 2 ^ 29 else 2 ^ 11) && decide (f.data.length ≤ if f.fmt = 0 then 8 else if f.fmt = 1 then 64 else 2048)

/-- A stitch-counter operation's fields fit their places; a local party exists (R323, R334). -/
def ScCall.wf (c : ScCall) : Bool :=
  decide (c.records < 2 ^ 16) && decide (c.sport < 2 ^ 16) && (c.tag.all (fun t => decide (t.1.length = 8))) &&
  decide (c.counter < 65536) && decide (c.n < 2 ^ 32) && decide (c.flags < 256) && decide (c.xfer < 2 ^ 32) && decide (c.len < 2 ^ 32) &&
    (match c.party with
     | .tile i => decide (i < 144)
     | .engine i => decide (i < 8)
     | .supervisor => decide (1 ≤ c.limitUs) && decide (c.limitUs ≤ 1000000)
     | .peer i => decide (i < 64))

/-- A unit address of R352. -/
def unitWf (kind index : Nat) : Bool := decide (kind < 15) && decide (index < 4096)

/-- A command names things that exist. -/
def Instr.wf : Instr → Bool
  | .modelActivate d | .telemetryFragment d | .selvedgeReset d | .isolate d | .isolateRelease d | .selvedgeRelock d | .mirrorReceive d | .reg d | .bulkWrite d
  | .bulkStatus d | .bulkRead d | .doorbell d | .ack d | .attestReport d | .attestChain d | .roleSwap d | .reknit d | .reknitFull d | .trialAccept d | .frogBack d
  | .firmwareCommit d | .keySet d | .swatchStart d | .reset d | .supervisorRestart d | .freeze d | .thaw d => d.wf
  | .heartbeatReceive bus f | .referenceMessage bus f _ | .busWake bus _ f => decide (bus < 16) && f.wf
  | .frameReceive bus f => decide (bus < 16) && f.1.wf && decide (f.2 ≤ 6)
  | .post c | .take c | .try_ c | .dec c | .read c | .set c | .scRelease c => c.wf
  | .pmLock bus i | .pmRelease bus i | .pmLockTimeout bus i => decide (bus < 16) && decide (i < 8)
  | .txAttemptEnd bus _ _ _ | .idConflict bus _ _ | .txCommit bus _ | .txCancel bus _ _ | .idReleased bus _ _ | .busOff bus _ | .recover bus | .busRecovered bus
  | .autoRestart bus | .autoDwellEnd bus | .ttSyncLost bus | .sleep bus | .idleSleep bus | .busSleep bus | .wake bus | .busCtrlQuarantined bus _ => decide (bus < 16)
  | .txMessageMark m => decide (m < 256)
  | .followingError ch | .swap ch | .bankSwapped ch | .tripReset ch => decide (ch < 256)
  | .inputRangeTimeout i | .inputStale i | .frozenWindowEnd i | .inputRecovered i => decide (i < 65536)
  | .sensorDisagree g | .sensorDisagreeClear g => decide (g < 65536)
  | .outputFault m | .foreignDrive m => decide (m < 65536)
  | .engineQuarantined e _ => decide (e < 8)
  | .swatchArm k | .swatchAbort k | .swatchTrigger k | .swatchDone k => decide (k < 4)
  | .traceEnable b | .traceStopped b => decide (b < 8)
  | .cellParityError kind index _ _ _ | .blockCrcMismatch kind index _ => unitWf kind index
  | .blockReset kind index _ => unitWf kind index
  | .hbmUe addr => decide (addr < 2 ^ 40)
  | .stackLost k _ | .regionOffline k _ | .regionReset k | .adaptationSlice k _ _ => decide (k < 6)
  | .regionRestored k failed => decide (k < 6) && failed.all (· ≤ 152)
  | .forceDemoted p | .plateRelease p => decide (p < 4096)
  | .conditionPresent (.cmp k _) | .comparatorUnknown k _ | .comparatorClears k _ | .svInputUnknownClear k _ => decide (k < 16)
  | .conditionPresent (.row r) | .rowHolding r _ | .rowDelayExpiry r _ | .rowClearHold r => decide (r < 64)
  | .ropeStateChange z _ => decide (z < 16)
  | .dpArmed k | .dpDisarmed k => decide (k < 8)
  | .selvedgeFrameRepeat kind => decide (1 ≤ kind) && decide (kind ≤ 3)
  | .localiserTrigger h => decide (h.1 < 16)
  | .hbPathLost p | .hbPathRestored p => p == 1 || p == 2
  | .claimIssued r => decide (1 ≤ r) && decide (r ≤ 4)
  | .dualActiveAbort t _ => t == 1 || t == 2
  | .qualificationLost c => decide (1 ≤ c) && decide (c ≤ 7)
  | .bypass scan => decide (scan.1 < 256)
  | .linkUp rate _ => rate == 1 || rate == 2
  | .linkDown cause _ _ => decide (1 ≤ cause) && decide (cause ≤ 3)
  | .dataBoundComplete p x | .dataLate p x | .transferForgotten p x | .retransmit p x => decide (p < 64) && decide (x < 2 ^ 32)
  | .eventExport p => decide (p < 64)
  | .firmwareReverted k | .rollbackFloorRise k | .firewallBlocked k _ => decide (1 ≤ k) && decide (k ≤ 5)
  | .loopRestart c => decide (1 ≤ c)
  | .bundleIncomplete rack _ => decide (rack < 32)
  | .clockFault c => c == 1 || c == 2
  | .thermalShed stage _ => stage == 1 || stage == 2
  | .pstPageLoad p => decide (p < 1024)
  | .registerWrite _ a _ => decide (a < 2 ^ 40) && a % 4 == 0
  | .roundBoundary | .ingestClose _ | .forecastStart | .residualGuard _ | .allocator _ _ | .capacityShortClear _ _ | .policyConflict _ _ _ | .leaseOut
  | .leaseKeeperIssue | .leaseKeeperLimit | .mirrorSweep | .warmHoldEnd | .loopTick _ | .tileRemap | .modelFitTrialEnd _ _ | .advisoryLapse _ | .drefStale
  | .massBalanceSecond | .leakLocated _ | .relockDeadline | .svSectionSwitched | .chainWordSend | .chainWordReceive _ | .heartbeatSend | .claimPulse _
  | .releasePulse _ | .claimHeldOff _ | .claimTimeout | .claimLineFault _ | .takeover | .takeoverWatchEnd | .standbyQualified | .handoverFailed
  | .startupListenEnd | .mirrorLost _ | .linkRateAttempt | .notify | .reknitApplied | .trialAccepted | .froggedBack | .idsWritten | .firmwareActivate
  | .scTakeTimeout _ _ | .scBlockQuarantined | .eventsDropped | .persistentProgram | .wallSet _ | .wallSlew _ | .wallSlewed | .powerOnReset _ | .brownOutReset
  | .resetN _ | .castOn _ | .ctlReset | .hstReset | .supplyDip _ | .dipShed | .supplyDipEnd _ _ | .vsafeLow _ | .vsafeRecover _ | .vfieldLow _ _
  | .vfieldOverload _ _ | .vmainHigh _ _ | .referenceLoss | .oscTolerance _ _ | .watchdogExpiry | .thermalShedExit _ | .selfCoolantHigh _ _
  | .fabricFault _ _ _ | .coreLockstep _ | .freezeNFall _ | .freezePoint | .freezeNRise | .tapThaw | .idcode | .frzStatus | .scanSel _ | .scanData | .scanCrc
  | .cntClear | .claimWithdrawn | .claimLineFaultClear | .trstN => true

end Sys2Proof
end

