-- ==== Sys2Proof/Tests/Slice0.lean ====
section
/-! SUPPORT. Tests: ill-formed commands that the checks refuse, single commands on small states with results taken from the spec, and for every statement with hypotheses a state that meets them. -/

set_option Elab.async false
set_option linter.all false
set_option maxRecDepth 8192

namespace Sys2Proof.Tests

open Sys2Proof Sys2Proof.Machine

/-! ### Small states -/

/-- A small pattern: two inputs in a vote group, one loop channel with its output map, a self-plate and an accelerator plate, two buses, one host peer with every right. -/
def pat0 : Pattern :=
  { inputs := [{ input := 0, source := 1, rangeHi := 0x7FFF, frozenRaw := true, recoverTime := 10 }, { input := 1, source := 1, frozenRef := true, refInput := 0, refDelta := 5, frozenDelta := 5 }]
    groups := [{ group := 0, members := [0, 1], disBand := 100 }]
    maps := [{ num := 0, target := 1, readback := 1, rbTime := 50 }]
    chans := [{ ch := 0, enable := true, pv := 0, outMap := 0, feAction := 1, period := 1 }, { ch := 1, enable := true, pv := 1 }]
    plates := [{ plate := 0, selfPlate := true, fcEnable := true }, { plate := 1, rack := 3, rated := 100, fcEnable := true, adaptEnable := true }]
    alloc := { racks := [{ budget := 1000, margin := 0 }] }
    red := { partner := 2, hbIds := [0x10, 0x11, 0x12, 0x13] }
    fb := {
      buses := [{ enable := true, autoRecover := true, sleepOk := true, idleSleep := 100, auto := true, cands := [(0, 0), (1, 0)] },
        { enable := true, tt := true, sleepOk := true, large := true, firstFilter := 0, filterCount := 2, wakeId := 0x7F0 }]
      filters := [{ id := 0x100, mask := 0x7FF, fmts := 1, dest := 1, index := 4, cap := 1 }, { id := 0x200, mask := 0x7FF, fmts := 1, dest := 1, index := 5, cap := 0 }]
      txMsgs := [{ msg := 7, bus := 0, owner := 2, idA := 0x300, idB := 0x301, len := 8, pr := 10, ph := 3 }] }
    peers := { unicast := 0xAA, telGroup := 0xBB, peers := [{ index := 0, kind := 0, rack := 3, rights := 0xFFFF, keyRef := 0, addr := 0xA0 }, { index := 2, kind := 1, rights := 0xFFFF, keyRef := 0xFFFF, addr := 0xA2 }],
               keys := [{ ref := 0, kind := 1 }] } }

/-- A running module in HELD under `pat0`. -/
def held : State := { glb := { life := .up, role := .held, phase := 6 }, pf := { st := 1, force := pat0, current := some pat0 } }

/-- The same module in another role; it drives where that role does. -/
def inRole (r : Role) : State := { held with glb := { held.glb with role := r }, red := { held.red with driving := r == .active || r == .alone } }

/-- A module that drives: ACTIVE. -/
def act : State := inRole .active


/-! ### Witnesses: chapter 05 and 06 -/

/-- A driving module with the pin of input 0 enabled and its loop layer running. -/
def tickState : State := { act with lp := { st := 2 }, pf := { st := 1, force := { pat0 with io := [{ kind := 1, index := 0, enable := true }] } } }

/-- loop_tick_completes: a tick in SAFE and with the layer off; a tick of a driving module with a conversion of an input whose pin is enabled and a due channel, after which the map has a value that drives it. -/
theorem witness_loop_tick :
    (running act = true ∧ running (inRole .safe) = true ∧ (inRole .safe).glb.role = .safe ∧ act.lp.st = 0) ∧
    (running tickState = true ∧ tickState.glb.role ≠ .safe ∧ tickState.lp.st ≠ 0 ∧ drives tickState = true ∧ (inputRec tickState 0).isSome = true ∧
     (ioRec tickState (pinOf 0).1 (pinOf 0).2).isSome = true ∧ (dueChans tickState).map (·.ch) = [0, 1] ∧ (pat tickState).maps.length = 1 ∧
     (match exec (.loopTick [{ input := 0, raw := 0x40800000#32, code := 7 }]) tickState with | .next t => (maxL (mapDrivers t 0)).isSome | _ => false) = true) := by decide +kernel

def inState (x : InputSt) : State := { held with clock := 200000000000, lp := { inputs := [(1, x)] } }

def in0State (x : InputSt) : State := { held with clock := 10000000000, lp := { inputs := [(0, x)] } }

/-- inputs_become_unknown_and_recover: range, open and not; stale, open and not; the raw test at its limit of 10 s; the reference test that holds, at an input that is known and at one that is not, and that fails at its limit; recovery. -/
theorem witness_inputs :
    ((inputRec (inState { rangeSince := some 7 }) 1).isSome ∧ (inSt (inState { rangeSince := some 7 }) 1).rangeSince = some 7 ∧ (inSt (inState { rangeSince := some 7 }) 1).unknown = false) ∧
    (inSt (inState { rangeSince := some 7, isOpen := true }) 1).isOpen = true ∧ (inSt (inState { isOpen := true }) 1).isOpen = true ∧ (inSt held 0).isOpen = false ∧ (inSt held 0).rangeSince = none ∧
    ((inputRec held 0).map (staleNs held) = some 1000000 ∧ (inSt held 0).unknown = false ∧ running held = true) ∧
    (let s := in0State { conv := true, rawSince := 0 }
     (inputRec s 0).map (fun r => (r.frozenRaw, decide (r.frozenTime * 100000000 ≤ s.clock - (inSt s 0).rawSince))) = some (true, true) ∧ (inSt s 0).unknown = false ∧ (inSt s 0).conv = true) ∧
    (let s := inState { wAny := true, rAny := true, rHi := 6, wHi := 4 }
     (inputRec s 1).map (fun r => (r.frozenRaw, r.frozenRef, decide (r.refDelta < (inSt s 1).rHi - (inSt s 1).rLo), decide ((inSt s 1).wHi - (inSt s 1).wLo < r.frozenDelta))) = some (false, true, true, true)) ∧
    (inSt (inState { wAny := true, rAny := true, rHi := 6, wHi := 4, unknown := true }) 1).unknown = true ∧
    (let s := inState { wAny := true, rAny := true, rHi := 5, wHi := 5 }
     (inputRec s 1).map (fun r => (r.frozenRaw, decide (r.refDelta < (inSt s 1).rHi - (inSt s 1).rLo))) = some (false, false)) ∧
    (let s := inState { unknown := true, recSince := some 9 }
     (inputRec s 1).isSome ∧ (inSt s 1).recSince = some 9 ∧ (inSt s 1).unknown = true ∧ running s = true) := by decide +kernel

def grpState (x : GroupSt) : State :=
  { held with lp := { groups := [(0, x)], inputs := [(0, { conv := true, code := 10 }), (1, { conv := true, code := 300 })] } }

/-- vote_group_disagreement_begins_and_ends: two GOOD members that differ. -/
theorem witness_vote_group :
    (let s := grpState { disSince := some 5 }
     running s = true ∧ (groupRec s 0).map (pairVals s) = some [10, 300] ∧ (grpSt s 0).disSince = some 5 ∧ (grpSt s 0).episode = false) ∧
    (let s := grpState { agreeSince := some 5, episode := true }
     running s = true ∧ (groupRec s 0).map (pairVals s) = some [10, 300] ∧ (grpSt s 0).agreeSince = some 5 ∧ (grpSt s 0).episode = true) := by decide +kernel

/-- A driving module with channel states and one bank for each. -/
def chState (bankA bankBw : List Nat) (x0 x1 : ChanSt) : State :=
  { act with round := 4, lp := { st := 2, chans := [(0, x0), (1, x1)], sps := [(0, { bankA := bankA, bankBw := bankBw }), (1, { bankA := bankA, bankBw := bankBw })] } }

/-- channels_trip_outputs_fault_banks_swap: a due following error on a channel that trips and on one that only records it, a readback below the command, a swap to a valid and to an invalid bank (bands: B1_ON below B1_OFF), and a swap that is due. -/
theorem witness_channels :
    (let s := chState [0, 0, 0, 0, 0, 0, 8, 0] [] { fe := 8 } { fe := 9 }
     running s = true ∧ drives s = true ∧ (chanRec s 0).map (·.feAction) = some 1 ∧ (chanRec s 1).map (·.feAction) = some 0 ∧
     (chSt s 0).tripped = false ∧ feDue (bankOf s 0) (chSt s 0) = true ∧ (chSt s 1).tripped = false ∧ feDue (bankOf s 1) (chSt s 1) = true) ∧
    (let s := chState [] [] { tripped := true } {}
     running s = true ∧ (chSt s 0).tripped = true ∧ drives s = true ∧ (chanRec s 0).isSome = true) ∧
    (let s := { chState [] [] { tripped := true } {} with pf := { st := 1, force := { pat0 with maps := [] } } }
     (chSt s 0).tripped = true ∧ drives s = true ∧ (chanRec s 0).map (fun r => (mapRec s r.outMap).isNone) = some true ∧ tget s.mir.snaps 0 = none ∧ drives { s with glb := { s.glb with role := .held } } = false) ∧
    (let s := { act with lp := { maps := [(0, { lowSince := some 3 })] } }
     running s = true ∧ (mapRec s 0).isSome ∧ (mapSt s 0).lowSince = some 3 ∧ (mapSt s 0).lowDone = false) ∧
    (let s := chState [] [2, 0, 0, 0x00010001, 0x7FFF0000, 0, 0, 0] {} {}
     running s = true ∧ (chanRec s 0).isSome = true ∧ (chSt s 0).swapPend = false ∧ bankCheck (bankOff s 0) = none) ∧
    (let s := chState [] [0x00020001, 0, 0, 0x00010001, 0x7FFF0000, 0, 0, 0] {} {}
     running s = true ∧ (chanRec s 0).isSome = true ∧ (chSt s 0).swapPend = false ∧ bankCheck (bankOff s 0) ≠ none) ∧
    (let s := chState [] [] { swapPend := true, swapAt := 4 } {}
     running s = true ∧ (chSt s 0).swapPend = true ∧ (chSt s 0).swapAt = s.round ∧ s.swt.sw = []) := by decide +kernel

/-- loop_restart_and_engine_quarantine: HELD, and ACTIVE without a handover and with one under way; the layer off and on; a healthy engine with a channel and one without; a channel that finds no place, at an ACTIVE module without a handover. -/
theorem witness_loop_restart :
    running held = true ∧ held.glb.role ≠ .active ∧ running act = true ∧ act.glb.role = .active ∧ act.red.ho = none ∧ held.lp.st = 0 ∧
    (let s := { act with red := { act.red with ho := some { cause := 5 } } }
     s.glb.role = .active ∧ s.red.ho ≠ none ∧ handoverAsked 3 (0 + 1) s = false) ∧ { held with lp := { st := 2 } }.lp.st ≠ 0 ∧ (pat held).chans.any (fun r => r.enable && (chSt held r.ch).placed) = true ∧
    (let s := chState [] [] { engine := 3 } { engine := 2 }
     s.lp.engBad.contains 3 = false ∧ (chanRec s 0).isSome ∧ (chSt s 0).engine = 3 ∧ (chSt s 1).engine ≠ 3 ∧
     (match exec (.engineQuarantined 3 []) s with | .next t => unplacedChans t == [] | _ => false) = true) ∧
    (let s := { chState [] [] { engine := 3 } {} with lp.engBad := [0, 1, 2, 4, 5, 6, 7] }
     (match exec (.engineQuarantined 3 []) s with | .next t => unplacedChans t != [] | _ => false) = true ∧ s.glb.role = .active ∧ s.red.ho = none) := by decide +kernel

def swState (r : Role) (x : SwSt) : State :=
  { inRole r with lp := { inputs := [(0, { conv := true, code := 100 })] }, swt := { sw := [(0, x)] } }

/-- Registers of an injecting slot on channel 0: MODE 1, signal 1, five samples, one capture signal, trigger source 3. -/
def injRegs (mode : Nat) : List Nat := [0x100 + mode, 0, 5, 0, 0, 0x7FFF0000, 0x7FFF8000, 0x00000131, 0, 0, 0, 0, 0]

/-- Registers of a slot that only captures: MODE 0, signal 1, five samples, one capture signal. -/
def capRegs0 : List Nat := [0x100, 0, 5, 0, 0, 0x7FFF0000, 0x7FFF8000, 0x00000101, 0, 0, 0, 0, 0]

/-- swatch_slots_arm_and_start: a slot that arms, one that only captures, and the two refusals; its SWATCH_START clause has its witness with the CRITICAL commands. -/
theorem witness_swatch_arm :
    (let s := swState .active { regs := injRegs 1 }
     running s = true ∧ (swSt s 0).st = 0 ∧ swRefuse s 0 = none ∧ (swSt s 0).injects = true) ∧
    (let s := swState .held { regs := capRegs0 }
     running s = true ∧ (swSt s 0).st = 0 ∧ swRefuse s 0 = none ∧ (swSt s 0).injects = false) ∧
    (let s := swState .held { regs := injRegs 4, st := 4 }
     running s = true ∧ (swSt s 0).injects = true ∧ drives s = false ∧ swRefuse s 0 = some 1) ∧
    ((swRefuse (swState .held {}) 3).isSome ∧ (swSt (swState .held {}) 3).st = 0) := by decide +kernel

/-- swatch_runs_and_traces_end: ABORT in each state, the host trigger, the last sample with and without samples before the trigger and in MODE 2, and both ends of a trace. -/
theorem witness_swatch_runs :
    (let s := swState .active { regs := injRegs 2, st := 2, samples := 5, injecting := true, capOpen := true }
     running s = true ∧ (swSt s 0).st = 2 ∧ (swSt s 0).injects = true ∧ (swSt s 0).dur = (swSt s 0).samples ∧ (swSt s 0).capOpen = true ∧ (swSt s 0).capv.pre = 0 ∧
     (swSt s 0).mode = 2 ∧ (swSt s 0).injecting = true ∧ (chSt s (swSt s 0).chan).tripped = false) ∧
    (let s := swState .active { capRegs := injRegs 2, st := 2, capOpen := true }
     (swSt s 0).capv.trig = 3 ∧ (swSt s 0).capOpen = true ∧ (swSt s 0).trigged = false) ∧
    (let s := swState .active { regs := [0x101, 0, 5, 0, 0, 0, 0, 0x00020101, 0, 0, 0, 0, 0], capRegs := [0x101, 0, 5, 0, 0, 0, 0, 0x00020101, 0, 0, 0, 0, 0], st := 2, samples := 6, capOpen := true }
     (swSt s 0).injects = true ∧ (swSt s 0).capv.pre = 2 ∧ (swSt s 0).capOpen = true ∧ (swSt s 0).mode ≠ 2 ∧ (swSt s 0).dur ≤ (swSt s 0).samples) ∧
    (let s := swState .held { st := 2 }
     running s = true ∧ (swSt s 0).st = 2 ∧ (swSt s 0).injects = false) ∧
    (let s := swState .held { st := 1, regs := injRegs 0 }
     (swSt s 0).st = 1 ∧ running s = true) ∧
    (let s := { act with swt := { tr := [(7, { trigBit := some 3 })] } }
     running s = true ∧ (trSt s 7).trigBit = some 3 ∧ (trSt s 7).postLeft = 0 ∧ (trSt s 7).stopped = false) := by decide +kernel

/-! ### Witnesses: the round, the allocator, the array -/

/-- A module in round 4, whose first boundary has come. -/
def inRound (r : Role) : State := { inRole r with began := true, round := 4, t0At := 4000000, clock := 4000000 }

/-- round_boundary_begins_the_round: the first boundary, a later one, a driving module with a channel's set-point sources, and memory outside the entries that the round opens. -/
theorem witness_round_boundary :
    (running held = true ∧ held.glb.role ≠ .none ∧ held.began = false) ∧
    (let s := { inRound .active with lp := { sps := [(0, { trimsNext := [1] })] } }
     running s = true ∧ s.glb.role ≠ .none ∧ s.began = true ∧ drives s = true ∧ s.fc.reform = false ∧ s.fc.adLost = [] ∧ s.fc.mdl.st ≠ 2 ∧ s.fc.mdl.st ≠ 6 ∧ (tget s.lp.sps 0).isSome) ∧
    (∀ m ∈ msOfRound (inRound .active) 5, ∀ p ∈ allPlates (inRound .active), areaBase (inRound .active) 3 < ringAddr (inRound .active) p m ∨ ringAddr (inRound .active) p m + 512 ≤ areaBase (inRound .active) 3) := by
  decide +kernel

/-- A state with region 0 in SERVICE, plate 0 placed there with an origin. -/
def fcState (r : Role) (x : ArrSt) : State := { inRound r with fc := x }

/-- The pattern with a measured die temperature on the self-plate and a low guard band for it. -/
def patDie : Pattern := { pat0 with plates := [{ plate := 0, selfPlate := true, fcEnable := true, nHot := 1, chans := [{ kind := 1, index := 0, num := 0 }], band := 100 }, { plate := 1, rack := 3, fcEnable := true }] }

/-- The guard's witness: plate 0 with a forecast of round 3 that holds `y` (die 0 over the whole horizon), a sample at its origin and one later of 20 °C. -/
def guardState (y : F16) (x : PlateRun) : State :=
  { inRound .active with pf := { st := 1, force := patDie }, fc := { plates := [(0, { x with fcs := [{ origin := 5, round := 3, steps := List.replicate 24 (List.replicate 82 y) }], hist := [(256, [(1005, 0x4D00#16), (5, 0x4D00#16)])] })] } }

/-- What the guard clause asks for of plate 0, with its excursion result. -/
def guardCond (s : State) (exc : Bool) : Bool :=
  match (pat s).plates.head? with
  | some r =>
    let x := plateRun s r.plate
    match (x.fcs.filter (fun g => decide (g.round < s.round))).getLast? with
    | some f =>
      let l := (measuredOuts s r).filterMap (evalOut s x f)
      x.run.isNone && (maxN (l.map (·.1))).isSome && isExcursion s r f (maxResid (l.map (·.2))) == exc && !x.forced && !s.fc.warmHold && s.fc.mdl.st != 3
    | none => false
  | none => false

/-- The self-plate's sensors: die 0 at 20 °C, inlet and outlet. -/
def sens0 : SelfSens := { die := [0x4D00#16], inlet := 0x4C00#16, outlet := 0x4C00#16 }

def fcServing : ArrSt := { regions := [(0, { st := 2, modelKb := 1 })], plates := [(0, { st := 1, tau0 := some 5, place := some (0, 0) })] }

/-- ingest_forecast_and_guard_milestones: valid temperatures; a rack with a plate, with and without a bundle, and one whose first bundle has come; the self-plate's channel with a valid value; a gated array, a round that is no multiple of k, the self-plate's forecast and the plates without one; the guard's evaluation with and without an excursion, below and at the counts that demote and promote; the warm hold and a trial. -/
theorem witness_milestones :
    (running (inRound .held) = true ∧ (inRound .held).began = true ∧ (inRound .held).glb.role ≠ .safe ∧ f16Valid sens0.inlet = true ∧ f16Valid sens0.outlet = true) ∧
    ((accelPlates (inRound .held)).map (·.rack) = [3] ∧ (rackRun (inRound .held) 3).ready = [] ∧ (allPlates (inRound .held)).Nodup) ∧
    (let s := fcState .held { racks := [(3, { ready := [{ tag := 9 }] })] }
     (rackRun s 3).ready ≠ [] ∧ (rackRun s 3).lastTag = none ∧
     (match exec (.ingestClose sens0) s with | .next t => (rackRun t 3).lastTag != (rackRun s 3).lastTag | _ => false) = true) ∧
    (match exec (.ingestClose sens0) (inRound .held) with | .next t => (rackRun t 3).lastTag == (rackRun (inRound .held) 3).lastTag | _ => false) = true ∧
    ((patDie.plates.filter (·.selfPlate)).map (fun r => r.chans.map (fun c => (c.kind, f16Valid (selfVal sens0 c)))) = [[(1, true)]] ∧ (patDie.plates.map (·.plate)).Nodup) ∧
    (arrayGated { fcState .active {} with pwr := { shed := 2 } } = true) ∧
    (let s := fcState .active { mdl := { k := 3 } }
     s.round % rateK s ≠ 0) ∧
    (let s := fcState .active fcServing
     arrayGated s = false ∧ s.round % rateK s = 0 ∧ modelRuns s = false ∧ (pat s).plates.map (forecasts s) = [true, false] ∧ (pat s).plates.map (·.selfPlate) = [true, false]) ∧
    (guardCond (guardState 0x4D00#16 { st := 2 }) false = true ∧ guardCond (guardState 0x4D00#16 { st := 1, inband := 198 }) false = true ∧ guardCond (guardState 0x4D00#16 { st := 1, inband := 199 }) false = true ∧
     guardCond (guardState 0x5000#16 { st := 2, exc := 1 }) true = true ∧ guardCond (guardState 0x5000#16 { st := 2, exc := 2 }) true = true ∧ guardCond (guardState 0x5000#16 { st := 1 }) true = true ∧
     (pat (guardState 0 {})).bind.demote = 3 ∧ (pat (guardState 0 {})).bind.promote = 200) ∧
    (fcState .active { warmHold := true }).fc.warmHold = true ∧ (fcState .active { mdl := { st := 3 } }).fc.mdl.st = 3 ∧
    (∀ r ∈ pat0.plates, (plateRun (inRound .active) r.plate).run = none) := by decide +kernel

/-- allocation_and_lease_out: a module that waits and one that drives, with the allocator present and quarantined, in the round of a supervisor restart, with its protocol engine silent, the run time at its limit of 0.06P, a driving module before and after its first allocation, and one whose allocation of the round has not run. -/
theorem witness_allocation :
    (let s := inRound .held
     running s = true ∧ s.began = true ∧ s.glb.role ≠ .safe ∧ allocRuns s = false ∧ issues s = false) ∧
    (let s := inRound .active
     allocRuns s = true ∧ s.al.allocQuar = false ∧ s.al.leaseQuar = false ∧ issues s = true ∧ s.al.first = true ∧ periodNs s * 6 / 100 = 60000) ∧
    { inRound .active with al := { allocQuar := true } }.al.allocQuar = true ∧ { inRound .active with al := { restarted := some 4 } }.al.restarted = some (inRound .active).round ∧ (inRound .active).al.restarted ≠ some (inRound .active).round ∧
    (let s := inRound .active
     let w := { s with pf := { s.pf with parts := [(3, { st := 2, restartAt := 4000000 })] } }
     engineSilent (clockTo (w.t0At + periodNs w * 98 / 100) w) = true ∧ engineSilent (clockTo (s.t0At + periodNs s * 98 / 100) s) = false ∧ allocLate (clockTo (s.t0At + periodNs s * 98 / 100) s) = false) ∧
    (let s := { inRound .alone with al := { first := false } }
     allocLate (clockTo (s.t0At + periodNs s * 98 / 100) s) = true ∧ allocLate (clockTo 0 { s with al := { first := false, leaseQuar := true } }) = true) ∧
    (let s := { inRound .alone with al := { first := false } }
     issues s = true ∧ s.al.first = false ∧ s.al.leaseQuar = false ∧ s.al.allocQuar = false ∧ (allPlates s).Nodup ∧ accelPlates s ≠ []) := by decide +kernel

/-- lease_keeper_and_shortage_records: an armed keeper whose engine is behind, in its first round and in a later one; the limit of an ACTIVE module and of an ALONE one; a constraint still short and one no longer; a disagreement that stands and one that has ended. -/
theorem witness_lease_keeper :
    (let s := { inRound .active with al := { armed := true, done := some 3 } }
     running s = true ∧ issues s = true ∧ s.al.armed = true ∧ s.al.keepStop = false ∧ s.al.done ≠ some s.round ∧ s.al.keepOn = false ∧ (allPlates s).Nodup ∧ accelPlates s ≠ []) ∧
    (let s := { inRound .active with al := { armed := true, keepOn := true } }
     issues s = true ∧ s.al.armed = true ∧ s.al.keepStop = false ∧ s.al.done ≠ some s.round ∧ s.al.keepOn = true) ∧
    (let s := { inRound .active with al := { keepOn := true, keepRounds := 2000 } }
     s.al.keepOn = true ∧ keepLimit s = s.al.keepRounds ∧ s.glb.role = .active ∧ s.red.ho = none) ∧
    (let s := { inRound .alone with al := { keepOn := true, keepRounds := 2000 } }
     keepLimit s ≤ s.al.keepRounds ∧ s.glb.role ≠ .active) ∧
    (let s := { act with al := { short := [(inKey 1 3, 5)], shortKeys := [inKey 1 3] } }
     running s = true ∧ tget s.al.short (inKey 1 3) = some 5 ∧ s.al.shortKeys.contains (inKey 1 3) = true) ∧
    (let s := { act with al := { short := [(inKey 1 3, 5)] } }
     tget s.al.short (inKey 1 3) = some 5 ∧ s.al.shortKeys.contains (inKey 1 3) = false) ∧
    (let s := { act with al := { rackBud := [(0, 1001)] } }
     policyDiffers s 1 0 = true ∧ s.al.conflicts.contains (1 * 65536 + 0) = false) ∧
    (let s := { act with al := { rackBud := [(0, 1000)], conflicts := [65536] } }
     policyDiffers s 1 0 = false ∧ s.al.conflicts.contains (1 * 65536 + 0) = true) := by decide +kernel

/-- A model without operators, with an adapter of 4 bytes, active in the array. -/
def mdl0 : ModelC := { adapterSize := 4 }

def adaptState (r : Role) : State :=
  fcState r { regions := [(0, { st := 2, modelKb := 1 })], plates := [(1, { st := 1, tau0 := some 5, place := some (0, 0) })], mdl := { st := 4, active := some mdl0, k := 1 } }

/-- adaptation_slices_and_mirror_sweep: a tile with a plate to adapt in a window of the round; the sweep of the ACTIVE module and of one that waits; the warm hold, over. -/
theorem witness_adaptation :
    (let s := adaptState .active
     running s = true ∧ s.fc.mdl.active = some mdl0 ∧ mdl0.adapterSize ≠ 0 ∧ adapts s = true ∧ tileUp s 0 0 = true ∧ locTakes s 0 0 = false ∧ sliceAt s = some (s.t0At + 20000) ∧ slicePlate s 0 0 = some (1, 0)) ∧
    (adaptState .standby).glb.role = .standby ∧ (adaptState .held).glb.role = .held ∧ running (adaptState .held) = true ∧
    (let s := { adaptState .active with round := 5000, fc := { warmHold := true, warmFrom := 200 } }
     running s = true ∧ s.fc.warmHold = true ∧ s.fc.warmFrom + (pat s).bind.warmHold = s.round) := by decide +kernel

/-- array_and_memory_errors_are_contained: a tile's physical number, the plates of a tile and of a region, a unit of each kind of area, a stack that is there with a HOT partner and without, and one that has lost 64 units within the second. -/
theorem witness_array_errors :
    (regionOfUnit 2 5 = some 5 ∧ regionOfUnit 3 0 = some 6 ∧ regionOfUnit 1 0 = none) ∧
    (let s := fcState .active { regions := [(5, { st := 2, tiles := [(23, { phys := 143, st := 1 })] })] }
     running s = true ∧ posOfPhys s 143 = some (5, 23) ∧ (tileSt s 5 23).fresh = false ∧ s.al.allocQuar = false) ∧
    (platesOn (fcState .active fcServing) 0 0 = [0] ∧ hosted (fcState .active fcServing) 0 = [0]) ∧
    (let s := inRound .active
     hbmBase < hbmTop s ∧ areaOf s hbmBase = 0 ∧ areaOf s (areaBase s 2) = 2 ∧ areaOf s (areaBase s 5) = 5 ∧ areaBase s 5 < hbmTop s ∧
     areaOf s (areaBase s 6) = 6 ∧ areaOf s (areaBase s 7) = 7 ∧ areaOf s (areaBase s 3) = 3 ∧
     (let u := { s with fc := { mdl := { active := some { mdl0 with raw := [0#8] } } } }
      areaOf u (copyBase u { mdl0 with raw := [0#8] } 0 0) = 8 ∧ inCopies u (copyBase u { mdl0 with raw := [0#8] } 0 0) = true ∧ copyBase u { mdl0 with raw := [0#8] } 0 0 < hbmTop u) ∧ areaOf s (areaBase s 8) = 8 ∧ areaBase s 8 < hbmTop s ∧ areaOf s (hbmTop s - 1) = 8) ∧
    (let s := { inRound .active with red := { partnerWord := 0x00800000#32 } }
     5 < regionCount s ∧ s.fc.lostStacks.contains 5 = false ∧ bitOf s.red.partnerWord.toNat 23 = true ∧ s.glb.role = .active ∧ s.red.ho = none) ∧
    unitsLostNow (fcState .active { unitsLost := (List.range 64).map (fun i => (5, i, 4000000)) }) 5 = 64 ∧
    bitOf (inRound .alone).red.partnerWord.toNat 23 = false := by decide +kernel

def regState (r : Role) (k : Nat) (x : RegionSt) : State := fcState r { regions := [(k, x)] }

/-- tiles_take_the_lowest_free_spare: a waiting tile, the first one, with a free spare; a waiting tile when no spare is free, which stays without a tile. -/
theorem witness_tiles :
    (let s := regState .active 5 { st := 2, tiles := [(23, { phys := 143, st := 5, fresh := true })] }
     running s = true ∧ 5 < regionCount s ∧ (tileSt s 5 23).fresh = true ∧ sparesFree s = [0, 1, 2, 3, 4, 5, 6, 7] ∧
     ((List.range 6).all fun k => (List.range 24).all fun p => !(tileSt s k p).fresh || (decide (5 < k) || (k == 5 && decide (23 ≤ p)))) = true) ∧
    (let s := fcState .active { regions := [(5, { st := 2, tiles := [(23, { phys := 143, st := 5, fresh := true })] })], spares := (List.range 8).map (fun i => (i, { quar := true })) }
     (tileSt s 5 23).fresh = true ∧ (match exec .tileRemap s with | .next t => (tileSt t 5 23).down | _ => false) = true) := by decide +kernel

/-- regions_go_offline_and_return: a region in SERVICE with a tile and a plate; the last one of a driving module, one of two, one of a module that waits; a region in RESETTING that still hosts a plate and is to get one back; the store's failed self-test. -/
theorem witness_regions :
    (let s := regState .active 0 { st := 2, tiles := [(0, { st := 1 })] }
     running s = true ∧ 0 < regionCount s ∧ (regSt s 0).st ≠ 3 ∧ (regSt s 0).st ≠ 4 ∧ tget (regSt s 0).tiles 0 = some { st := 1 } ∧ (regSt (regState .active 0 { st := 3, tiles := [(2, { st := 5, down := true })] }) 0).st = 3 ∧
     drives s = true ∧ (regSt s 0).st = 2 ∧ lastRegion s 0 = true) ∧
    (let s := fcState .active { regions := [(0, { st := 2 }), (1, { st := 2 })] }
     lastRegion s 0 = false ∧ (regSt s 0).st = 2) ∧
    drives (regState .held 5 { st := 2 }) = false ∧
    (let s := fcState .active { regions := [(1, { st := 4, out := [(1, 7)] })], plates := [(0, { place := some (1, 3) }), (1, { place := some (2, 0) })] }
     running s = true ∧ (regSt s 1).st = 4 ∧ ((regSt s 1).out.map (·.1)).Nodup ∧ (1, 7) ∈ (regSt s 1).out ∧ 1 ∈ allPlates s ∧ 1 ∉ hosted s 1 ∧ 0 ∈ hosted s 1) ∧
    [3, 152].contains 152 = true := by decide +kernel

/-- plates_forced_and_models_activated (the fit trial; its command has its witness with the CRITICAL commands): a promoted plate and one that is not, a forced one; the end of a fit trial at its sixteenth round, and a round of one that has not come to it; one that meets the pattern's rate with k 1 and with more, and of one that does not, with and without a model before. -/
theorem witness_plates_models :
    (let s := fcState .active { plates := [(1, { st := 2 })] }
     running s = true ∧ (plateRec s 1).isSome = true ∧ (plateRun s 1).forced = false ∧ (plateRun s 0).forced = false ∧ (plateRec s 0).isSome = true) ∧
    (plateRun (fcState .active { plates := [(1, { forced := true })] }) 1).forced = true ∧
    (let s := { fcState .active { mdl := { st := 3, active := some mdl0, startRound := 4 } } with round := 20 }
     running s = true ∧ s.fc.mdl.active = some mdl0 ∧ s.fc.mdl.st = 3 ∧ s.fc.mdl.startRound + 16 = s.round ∧ s.fc.mdl.prev = none ∧
     fitK (pat s).bind.period 100 = 1 ∧ (pat s).bind.minRate ≤ fitRate (pat s).bind.period 1 ∧
     1 < fitK (pat s).bind.period 500 ∧ fitK (pat s).bind.period 500 ≤ 16 ∧ (pat s).bind.minRate ≤ fitRate (pat s).bind.period (fitK (pat s).bind.period 500) ∧
     16 < fitK (pat s).bind.period 100000) ∧
    (fcState .active { mdl := { st := 3, active := some mdl0, prev := some mdl0 } }).fc.mdl.prev = some mdl0 ∧
    (fcState .active { mdl := { st := 3 } }).round < (fcState .active { mdl := { st := 3 } }).fc.mdl.startRound + 16 := by decide +kernel

/-! ### Witnesses: host commands and their keyed check -/

def peer0 : PeerRec := { index := 0, kind := 0, rack := 3, rights := 0xFFFF, keyRef := 0, addr := 0xA0 }

/-- What a module needs for the commissioning key's first CRITICAL message of a code to pass. -/
def critCond (s : State) (code nargs flags fl : Nat) (args : Bytes) : Bool :=
  !engineSilent s && senderOf s { src := 0xA0, dst := 0xAA, typ := 0x30, flags := 6, session := 1, xid := 5 } == some peer0 &&
    s.hl.sessions.isEmpty && s.hl.seen.isEmpty && s.glb.role != .safe && !s.ks.quar && !critDenied s code && peerKey s peer0 == some 0 &&
    s.hw.target == List.replicate 8 0#8 && keyOf s 0 == List.replicate 32 0#8 && (ctrSt s 0).floor == 0 && !s.pwr.dip && !critBlocked s &&
    args.length == nargs && decide (nargs ≤ 256) && fl / (flags + 1) == 0 && decide (code < 65536) && decide (fl < 65536) && !awaiting s

/-- The CRITICAL message of peer 0 with counter 1. -/
def msg (code fl : Nat) (args : Bytes) : Dgram := critMsg 0xA0 0xAA (List.replicate 32 0#8) code fl 1 (List.replicate 8 0#8) args

theorem msg_taken {s : State} {code nargs flags fl : Nat} {args : Bytes} (h : critCond s code nargs flags fl args = true) :
    CritTaken code nargs flags (msg code fl args) s peer0 0 (takenIn 0 (msg code fl args) s) ∧ critArgs (msg code fl args) = args ∧ critFlags (msg code fl args) = fl := by
  simp only [critCond, Bool.and_eq_true, Bool.not_eq_true', beq_iff_eq, bne_iff_ne, decide_eq_true_eq, List.isEmpty_iff] at h
  obtain ⟨⟨⟨⟨⟨⟨⟨⟨⟨⟨⟨⟨⟨⟨⟨⟨⟨⟨h1, h2⟩, h3⟩, h4⟩, h5⟩, h6⟩, h7⟩, h8⟩, h9⟩, h10⟩, h11⟩, h12⟩, hb⟩, h13⟩, h14⟩, h15⟩, h16⟩, h17⟩, h18⟩ := h
  have := critMsg_taken (code := code) (nargs := nargs) (flags := flags) (fl := fl) (ctr := 1) (src := 0xA0) (dst := 0xAA) (target := List.replicate 8 0#8) (args := args)
    (s := s) (p := peer0) (r := 0) h1 h2 (by rw [h3]; rfl) (by rw [h4]; rfl) (by rw [h4]; exact Nat.zero_lt_succ 63) h5 h6 h7 (by decide) h8 h9.symm h10 (by decide) (by rw [show peer0.index = 0 from rfl, h11]; decide) (by decide) h12 h13 h14 h15 h16 h17
    (by decide) h18 hb
  exact ⟨this.1, this.2.1, this.2.2.1⟩

theorem msg_ready {s : State} {code nargs flags fl : Nat} {args : Bytes} (h : critCond s code nargs flags fl args = true) :
    CritReady code nargs flags (msg code fl args) s ∧ critArgs (msg code fl args) = args ∧ critFlags (msg code fl args) = fl :=
  ⟨⟨_, _, _, (msg_taken h).1⟩, (msg_taken h).2⟩

/-- swatch_slots_arm_and_start: SWATCH_START of slots 0 and 3, slot 0 ARMED to inject. -/
theorem witness_swatch_start :
    let s := swState .active { regs := injRegs 1, st := 1 }
    let a := le 9 4 ++ le 0 4
    (CritReady 14 8 0 (msg 14 0 a) s ∧ critArgs (msg 14 0 a) = a ∧ critFlags (msg 14 0 a) = 0) ∧
      bitOf (fld a 0 4) 0 = true ∧ (swSt s 0).st = 1 ∧ (swSt s 0).injects = true ∧ bitOf (fld a 0 4) 3 = true ∧ (swSt s 3).st ≠ 1 ∧ bitOf (fld a 0 4) 1 = false :=
  ⟨msg_ready (by decide +kernel), by decide +kernel⟩

/-- selvedge_commands_and_relock: SELVEDGE_RESET of rows 0, 4 and 63, with row 0 LATCHED without its condition; ISOLATE and its release of set 0 and set 31; a relock of a lone module, and one of a pair at the first round it may ask for. -/
theorem witness_selvedge_commands :
    (let s := { act with sv := { rows := [(0, { st := 3, latch := 4 }), (4, { st := 3 }), (63, { st := 1 })] } }
     let a := le 0x8000000000000011 8
     (CritReady 10 8 0 (msg 10 0 a) s ∧ critArgs (msg 10 0 a) = a ∧ critFlags (msg 10 0 a) = 0) ∧
      bitOf (fld a 0 8) 0 = true ∧ (rowSt s 0).st = 3 ∧ rowCond s 0 = false ∧ bitOf (fld a 0 8) 63 = true ∧ (rowSt s 63).st ≠ 3 ∧ bitOf (fld a 0 8) 1 = false) ∧
    (let a := le 0x80000001 4
     (CritReady 11 4 0 (msg 11 0 a) act ∧ critArgs (msg 11 0 a) = a ∧ critFlags (msg 11 0 a) = 0) ∧ (CritReady 12 4 0 (msg 12 0 a) act ∧ critArgs (msg 12 0 a) = a ∧ critFlags (msg 12 0 a) = 0)) ∧
    (let a := List.replicate 64 0#8 ++ le 100 8
     (CritReady 13 72 0 (msg 13 0 a) held ∧ critArgs (msg 13 0 a) = a ∧ critFlags (msg 13 0 a) = 0) ∧ pairUp held = false) ∧
    (let a := shake256 (pat act).sv.raw ++ le 100 8
     (pairUp act = true ∧ act.round + 100 = 100) ∧ CritReady 13 72 0 (msg 13 0 a) act ∧ slice (critArgs (msg 13 0 a)) 0 64 = shake256 (pat act).sv.raw ∧ fld (critArgs (msg 13 0 a)) 64 8 = 100) := by
  refine ⟨⟨msg_ready (by decide +kernel), by decide +kernel⟩, ⟨msg_ready (by decide +kernel), msg_ready (by decide +kernel)⟩, ⟨msg_ready (by decide +kernel), by decide +kernel⟩, by decide +kernel, ?_⟩
  have hl : (shake256 (pat act).sv.raw).length = 64 := sponge_length _ _ 64 (by decide)
  generalize shake256 (pat act).sv.raw = l at hl ⊢
  have h : critCond act 13 72 0 0 (l ++ le 100 8) = true := by
    have e : (l ++ le 100 8).length = 72 := by simp [hl, le_length]
    unfold critCond
    rw [e]
    decide +kernel
  refine ⟨(msg_ready h).1, ?_, ?_⟩
  · rw [(msg_ready h).2.1]
    simpa using slice_mid [] l (le 100 8) 0 64 rfl hl
  · rw [(msg_ready h).2.1]
    have := slice_mid l (le 100 8) [] 64 8 hl (le_length _ _)
    rw [List.append_nil] at this
    unfold fld
    rw [this]
    decide

/-- What a module needs to accept the first datagram of peer 0, sealed. -/
def hxpCond (typ : Nat) (d : Dgram) (s : State) : Bool :=
  !engineSilent s && senderOf s (sealDgram d) == some peer0 && d.ver == 1 && decide (d.payload.length ≤ 8920) && d.typ == typ && frameOk s (sealDgram d) && d.trailer.isEmpty && knownTyp typ && !(bitOf d.flags 2 && typ != 0x30) && s.hl.sessions.isEmpty && s.hl.seen.isEmpty && s.glb.role != .safe

theorem sealed_accepted {typ : Nat} {d : Dgram} {s : State} (h : hxpCond typ d s = true) : ∃ u, accept typ (sealDgram d) s = (some peer0, u) ∧ u.hl.reqs = s.hl.reqs := by
  simp only [hxpCond, Bool.and_eq_true, Bool.not_eq_true', beq_iff_eq, bne_iff_ne, decide_eq_true_eq, List.isEmpty_iff] at h
  obtain ⟨⟨⟨⟨⟨⟨⟨⟨⟨⟨⟨h1, h2⟩, h3⟩, h4⟩, h5⟩, ha⟩, hb⟩, hc⟩, hd⟩, h6⟩, h7⟩, h8⟩ := h
  exact ⟨_, accept_fresh h1 h2 rfl h3 rfl h4 h5 (by rw [h6]; rfl) ha hb hc hd, rfl⟩

theorem sealed_taken {typ : Nat} {right : Option Nat} {d : Dgram} {s : State} (h : hxpCond typ d s = true) (hr : ∀ r, right = some r → hasRight peer0 r = true) :
    takeRequest typ right (sealDgram d) s = (some peer0, takenIn 0 (sealDgram d) s) := by
  simp only [hxpCond, Bool.and_eq_true, Bool.not_eq_true', beq_iff_eq, bne_iff_ne, decide_eq_true_eq, List.isEmpty_iff] at h
  obtain ⟨⟨⟨⟨⟨⟨⟨⟨⟨⟨⟨h1, h2⟩, h3⟩, h4⟩, h5⟩, ha⟩, hb⟩, hc⟩, hd⟩, h6⟩, h7⟩, h8⟩ := h
  exact takeRequest_fresh h1 h2 rfl h3 rfl h4 h5 (by rw [h6]; rfl) (by rw [h7]; rfl) (by rw [h7]; exact Nat.zero_lt_succ 63) h8 hr ha hb hc hd

/-- A datagram of peer 0 with a payload. -/
def dgram (typ : Nat) (payload : Bytes) : Dgram := { src := 0xA0, dst := 0xAA, typ := typ, session := 1, xid := 9, payload := payload }

/-- A telemetry fragment of rack 3 with tag 9. -/
def telMsg (frags : Nat) : Dgram := { dgram 1 ([3#8, 1#8] ++ le 0 6 ++ le 9 8 ++ List.replicate 16 0#8) with frags := frags, round := 2 }

/-- telemetry_bundles_are_assembled: the first of two fragments, a bundle of one, one that came before; a bundle at its fourth round and one overtaken. -/
theorem witness_telemetry :
    (∃ u, accept 1 (sealDgram (telMsg 2)) (inRound .active) = (some peer0, u) ∧ u.hl.reqs = []) ∧ (∃ u, accept 1 (sealDgram (telMsg 1)) (inRound .active) = (some peer0, u) ∧ u.hl.reqs = []) ∧
    (hasRight peer0 6 = true ∧ telLayout (sealDgram (telMsg 2)) = true ∧ telLayout (sealDgram (telMsg 1)) = true ∧ peer0.rack = byteAt (telMsg 1).payload 0 ∧
     tgetD (inRound .active).hl.telDone1 64 0 ≤ (telMsg 1).round ∧ (sealDgram (telMsg 2)).frags ≠ 1 ∧ (inRound .active).hl.bundles = []) ∧
    (let s := { inRound .active with hl := { bundles := [{ rack := 3, tag := 9, frags := 2, got := [(0, [])], firstRound := 0 }], telDone1 := [(3, 10)] } }
     hxpCond 1 (telMsg 2) s = true ∧ (s.hl.bundles.find? (fun y => y.rack == 3 && y.tag == 9)).map (fun b => b.got.any (fun g => g.1 == (telMsg 2).frag)) = some true ∧
     s.round = 0 + 4 ∧ 9 < tgetD s.hl.telDone1 3 0) := by
  refine ⟨sealed_accepted (by decide +kernel), sealed_accepted (by decide +kernel), by decide +kernel, by decide +kernel⟩

/-- A tagged request stands for the request without its trailer, which it keeps; an untagged one is itself. -/
theorem witness_tagged :
    (let m := { dgram 0x10 (List.replicate 16 1#8 ++ List.replicate 24 2#8) with flags := 4 }
     untag m = { m with payload := List.replicate 16 1#8, trailer := List.replicate 24 2#8 }) ∧
    (∀ d : Dgram, bitOf d.flags 2 = false → untag (sealDgram d) = sealDgram d) := by
  refine ⟨by decide +kernel, fun d h => ?_⟩
  unfold untag
  rw [if_neg]
  simp [show (sealDgram d).flags = d.flags from rfl, h]

/-- register_requests_are_answered: a read and a write of the error register at 8. -/
theorem witness_register_requests :
    (let d := sealDgram (dgram 0x10 (le 8 8 ++ [1#8] ++ List.replicate 7 0#8))
     takeRequest 0x10 none d act = (some peer0, takenIn 0 d act) ∧ d.payload.length = 16 ∧ fld d.payload 0 8 < 2 ^ 40 ∧ zeroAt d.payload 10 2 = true ∧ byteAt d.payload 8 = 1 ∧ hasRight peer0 0 = true) ∧
    (let d := sealDgram (dgram 0x10 (le 8 8 ++ [2#8] ++ List.replicate 7 0#8))
     takeRequest 0x10 none d act = (some peer0, takenIn 0 d act) ∧ d.payload.length = 16 ∧ zeroAt d.payload 10 2 = true ∧ byteAt d.payload 8 = 2 ∧ hasRight peer0 1 = true ∧ act.glb.role ≠ .safe ∧
     (regWrite 0 8 0 (freshWord (takenIn 0 d act)).2).2.hl.session = (takenIn 0 d act).hl.session) := by
  refine ⟨⟨sealed_taken (by decide +kernel) (by simp), by decide +kernel⟩, ⟨sealed_taken (by decide +kernel) (by simp), by decide +kernel⟩⟩

/-- A transfer of 16 bytes at address 0x07800000 plus an offset. -/
def bulkMsg (base off n : Nat) : Dgram := dgram 0x11 (le 7 4 ++ le 0 4 ++ le base 8 ++ le off 8 ++ List.replicate n 0x5A#8)

/-- bulk_transfers_commit_and_answer: the last word of the staging window, the first word of the HBM user space, an address outside both; a known transfer; a read of one word and one of 64 MiB. -/
theorem witness_bulk :
    (∀ a ∈ [0x07FFFFFC, areaBase act 8, 0x08000000], ∃ u, accept 0x11 (sealDgram (bulkMsg a 0 4)) act = (some peer0, u) ∧ u.hl.reqs = []) ∧
    (hasRight peer0 2 = true ∧ act.glb.role ≠ .safe ∧ bulkTarget act 0x07FFFFFC 4 = true ∧ bulkTarget act (areaBase act 8) 4 = true ∧ 0x08000000 ≤ areaBase act 8 ∧ bulkTarget act 0x08000000 4 = false ∧
     (bulkMsg 0 0 4).payload.length = 28 ∧ zeroAt (bulkMsg 0 0 4).payload 4 4 = true ∧ act.hl.xfers = []) ∧
    (let d := sealDgram (dgram 0x15 (le 7 4 ++ le 16 4))
     let s := { act with hl := { xfers := [(0, [{ id := 7, ranges := [(0, 8)] }])] } }
     takeRequest 0x15 (some 2) d s = (some peer0, takenIn 0 d s) ∧ d.payload.length = 8 ∧ (findXfer (takenIn 0 d s) 0 7).map (·.denied) = some false) ∧
    (let d := sealDgram (dgram 0x12 (le (2 ^ 40 - 4) 8 ++ le 4 8))
     takeRequest 0x12 (some 3) d act = (some peer0, takenIn 0 d act) ∧ d.payload.length = 16 ∧ fld d.payload 0 8 % 4 = 0 ∧ fld d.payload 8 8 = 4 ∧ fld d.payload 0 8 + fld d.payload 8 8 = 2 ^ 40) ∧
    (let d := sealDgram (dgram 0x12 (le 0 8 ++ le (64 * 2 ^ 20) 8))
     takeRequest 0x12 (some 3) d act = (some peer0, takenIn 0 d act) ∧ fld d.payload 8 8 = 64 * 2 ^ 20) := by
  have e : ∀ a ∈ [0x07FFFFFC, areaBase act 8, 0x08000000], hxpCond 0x11 (bulkMsg a 0 4) act = true := by decide +kernel
  exact ⟨fun a ha => sealed_accepted (e a ha), by decide +kernel, ⟨sealed_taken (by decide +kernel) (by simp; decide), by decide +kernel⟩,
    ⟨sealed_taken (by decide +kernel) (by simp; decide), by decide +kernel⟩, sealed_taken (by decide +kernel) (by simp; decide), by decide +kernel⟩

/-- data_bound_signals_complete_or_fail: a DOORBELL with its data and one without; a waiting DOORBELL with its data, and one without it two rounds later. -/
theorem witness_data_bound :
    (let d := sealDgram (dgram 0x14 (le 7 4 ++ le 8 4 ++ le 0 12))
     let s := { act with hl := { xfers := [(0, [{ id := 7, ranges := [(0, 8)] }])] } }
     takeRequest 0x14 (some 2) d s = (some peer0, takenIn 0 d s) ∧ doorbellBad d = false ∧ fld d.payload 8 4 = 0 ∧ (xferDenied 0 7 (takenIn 0 d s)).1 = false ∧ (takenIn 0 d s).sc.msgs = [] ∧
     xferMissing (takenIn 0 d s) 0 7 8 = 0) ∧
    (let d := sealDgram (dgram 0x14 (le 7 4 ++ le 9 4 ++ le 0 12))
     takeRequest 0x14 (some 2) d act = (some peer0, takenIn 0 d act) ∧ doorbellBad d = false ∧ (xferDenied 0 7 (takenIn 0 d act)).1 = false ∧ xferMissing (takenIn 0 d act) 0 7 9 ≠ 0) ∧
    (let w : WaitSig := { peer := 0, xfer := 7, len := 8, round := 2, d := sealDgram (dgram 0x14 (le 7 4 ++ le 8 4 ++ le 0 12)) }
     let s := { inRound .active with hl := { xfers := [(0, [{ id := 7, ranges := [(0, 8)] }])], waits := [w] } }
     let v := { inRound .active with hl := { waits := [w] } }
     readySignals s 0 7 = [w] ∧ w.sc = none ∧ w.d.typ = 0x14 ∧ fld w.d.payload 8 4 = 0 ∧ s.sc.msgs = [] ∧ v.hl.waits = [w] ∧ w.round + 2 ≤ v.round ∧ xferMissing v 0 7 8 ≠ 0 ∧ w.behind = false ∧ s.hl.waits.find? critWaits = none) := by
  refine ⟨⟨sealed_taken (by decide +kernel) (by simp; decide), by decide +kernel⟩, ⟨sealed_taken (by decide +kernel) (by simp; decide), by decide +kernel⟩, by decide +kernel⟩

/-- A state with one peer of index 0 and an error bit of register 0 that is new to it. -/
def errState : State :=
  { inRound .active with pf := { st := 1, force := { pat0 with peers := { pat0.peers with peers := [peer0] } } }, irqs := [(0, 1#32)], hl := { newErr := [(0, [0])] } }

def outReq (typ sends : Nat) : OutReq := { peer := 0, d := { dgram typ [] with xid := 9 }, sends := sends, sentAt := 5 }

/-- notifications_and_acknowledgements: no pending bit, and one for the only peer; a NOTIFY to send again and one to give up; the acknowledgement of a NOTIFY and of an EVENT. -/
theorem witness_notify :
    (let s := inRound .active
     running s = true ∧ s.began = true ∧ engineSilent s = false ∧ (∀ p ∈ (pat s).peers.peers, pendingErr s p.index = [])) ∧
    ((pat errState).peers.peers = [peer0] ∧ peer0.index = 0 ∧ hasRight peer0 9 = true ∧ pendingErr errState 0 ≠ []) ∧
    (∀ n ∈ [7, 8], ({ act with hl := { reqs := [outReq 0x22 n] } }.hl.reqs.find? (fun (q : OutReq) => q.peer == 0 && q.d.xid == 9)).map (fun (q : OutReq) => q.d.typ) = some 0x22) ∧
    (∀ t ∈ [0x22, 0x23], ∃ u, accept 0x24 (sealDgram (dgram 0x24 [])) { act with hl := { reqs := [outReq t 1] } } = (some peer0, u) ∧ u.hl.reqs = [outReq t 1] ∧
      ([outReq t 1].find? (fun (q : OutReq) => q.peer == peer0.index && q.d.xid == 9)).map (fun (q : OutReq) => q.d.typ) = some t) := by
  refine ⟨by decide +kernel, by decide +kernel, by decide +kernel, ?_⟩
  have e : ∀ t ∈ [0x22, 0x23], hxpCond 0x24 (dgram 0x24 []) { act with hl := { reqs := [outReq t 1] } } = true ∧
      ([outReq t 1].find? (fun (q : OutReq) => q.peer == peer0.index && q.d.xid == 9)).map (fun (q : OutReq) => q.d.typ) = some t := by decide +kernel
  intro t ht
  obtain ⟨u, h1, h2⟩ := sealed_accepted (e t ht).1
  exact ⟨u, h1, h2, (e t ht).2⟩

/-- attestation_reports_and_key_change: both kinds of request, KEY_SET of the peer's own reference and of another. -/
theorem witness_attestation :
    (∀ k ∈ [1, 2], let d := sealDgram (dgram 0x31 (le k 8 ++ List.replicate 32 0#8))
      takeRequest 0x31 none d act = (some peer0, takenIn 0 d act) ∧ d.payload.length = 40 ∧ zeroAt d.payload 1 7 = true ∧ byteAt d.payload 0 = k) ∧
    (∀ ref ∈ [0, 1], let a := le ref 2 ++ le 0 6 ++ List.replicate 32 0x11#8
      (∃ u, CritTaken 15 40 0 (msg 15 0 a) act peer0 0 u) ∧ critArgs (msg 15 0 a) = a ∧ zeroAt a 2 6 = true ∧ fld a 0 2 = ref) := by
  have e : ∀ k ∈ [1, 2], let d := dgram 0x31 (le k 8 ++ List.replicate 32 0#8)
      hxpCond 0x31 d act = true ∧ (sealDgram d).payload.length = 40 ∧ zeroAt (sealDgram d).payload 1 7 = true ∧ byteAt (sealDgram d).payload 0 = k := by decide +kernel
  have e' : ∀ ref ∈ [0, 1], let a := le ref 2 ++ le 0 6 ++ List.replicate 32 0x11#8
      critCond act 15 40 0 0 a = true ∧ zeroAt a 2 6 = true ∧ fld a 0 2 = ref := by decide +kernel
  exact ⟨fun k hk => ⟨sealed_taken (e k hk).1 (by simp), (e k hk).2⟩, fun k hk => ⟨⟨_, (msg_taken (e' k hk).1).1⟩, (msg_taken (e' k hk).1).2.1, (e' k hk).2⟩⟩

def mirState (r : Role) : State := { inRole r with pf := { st := 1, force := { pat0 with red := { pat0.red with partner := 0 } } } }

def mirMsg (sub n : Nat) : Dgram := { dgram 4 (le sub 4 ++ List.replicate n 0#8) with round := 9 }

/-- mirror_messages_are_taken: a round status and a lease record at a waiting module and at a driving one, not older than the newest and older; the mirror's loss at 100 rounds and its end. -/
theorem witness_mirror :
    (∀ r ∈ [Role.held, Role.active], ∀ m ∈ [(1, 144), (4, 48), (2, 24), (7, 80)],
      (∃ u, accept 4 (sealDgram (mirMsg m.1 m.2)) (mirState r) = (some peer0, u) ∧ u.hl.reqs = (mirState r).hl.reqs) ∧
        (mirState r).glb.role ≠ .safe ∧ hasRight peer0 8 = true ∧ peer0.index = (pat (mirState r)).red.partner ∧ 4 ≤ (mirMsg m.1 m.2).payload.length ∧ (mirMsg m.1 m.2).frag < (mirMsg m.1 m.2).frags ∧
        fld (mirMsg m.1 m.2).payload 0 4 = m.1 ∧ ((mirMsg m.1 m.2).payload.drop 4).length = m.2 ∧
        tgetD (mirState r).mir.lastRound m.1 0 ≤ (mirMsg m.1 m.2).round ∧ (mirMsg m.1 m.2).round < tgetD [(1, 10), (2, 10), (4, 10), (7, 10)] m.1 0 ∧
        (mirMsg m.1 m.2).frags = 1 ∧ (mirState r).mir.snapFrags.1 ≠ (mirMsg m.1 m.2).round ∧ (mirState r).mir.relock = none ∧ (mirState r).fc.adLost = []) ∧
    (let s := { held with link := { snapAge := 100, leaseAge := 0 } }
     100 ≤ s.link.snapAge ∧ s.glb.role = .held ∧ s.link.mirrorLost = false) ∧
    (let s := { held with link := { snapAge := 99, leaseAge := 99, mirrorLost := true } }
     s.link.snapAge < 100 ∧ s.link.leaseAge < 100 ∧ s.link.mirrorLost = true) := by
  have e : ∀ r ∈ [Role.held, Role.active], ∀ m ∈ [(1, 144), (4, 48), (2, 24), (7, 80)], hxpCond 4 (mirMsg m.1 m.2) (mirState r) = true ∧
        (mirState r).glb.role ≠ .safe ∧ hasRight peer0 8 = true ∧ peer0.index = (pat (mirState r)).red.partner ∧ 4 ≤ (mirMsg m.1 m.2).payload.length ∧ (mirMsg m.1 m.2).frag < (mirMsg m.1 m.2).frags ∧
        fld (mirMsg m.1 m.2).payload 0 4 = m.1 ∧ ((mirMsg m.1 m.2).payload.drop 4).length = m.2 ∧
        tgetD (mirState r).mir.lastRound m.1 0 ≤ (mirMsg m.1 m.2).round ∧ (mirMsg m.1 m.2).round < tgetD [(1, 10), (2, 10), (4, 10), (7, 10)] m.1 0 ∧
        (mirMsg m.1 m.2).frags = 1 ∧ (mirState r).mir.snapFrags.1 ≠ (mirMsg m.1 m.2).round ∧ (mirState r).mir.relock = none ∧ (mirState r).fc.adLost = [] := by decide +kernel
  exact ⟨fun r hr m hm => ⟨sealed_accepted (e r hr m hm).1, (e r hr m hm).2⟩, by decide +kernel⟩

/-! ### Witnesses: the selvedge and redundancy -/

def svState (sv : SvSt) : State := { act with clock := 50000000, sv := sv }

def comps (l : List CmpRec) : SvSection := { cmps := l, rows := List.replicate 64 { imm := 0x14, delayed := 8, delay := 5 }, ropes := List.replicate 16 { enable := true }, mb := [{ enable := true, gauge := 0 }, {}] }

/-- selvedge_comparators_trip_and_clear: an enabled known comparator whose row is IDLE and one whose row is ACTIVE, at the code nearest to the threshold that trips; a row whose advisory condition stands; a comparator that becomes UNKNOWN at a limit and one that is, back inside its limits; readings that clear and that do not, on either side; a pump comparator whose pin is known. -/
theorem witness_comparators :
    (let s := svState {}
     (cmpRec s 0).enable = true ∧ cmpArmed s 0 = true ∧ cmpUnknown s 0 = false ∧ (rowSt s 0).st = 0 ∧ (cmpRec s 15).enable = true ∧ cmpArmed s 15 = true ∧ (cmpSt s 15).unkOwn = false ∧
     cmpBeyond s 0 19206 = true ∧ cmpBeyond s 0 19205 = false ∧ cmpBeyond s 15 0xFFFF = true ∧ cmpOut s 15 52428 = true ∧ cmpOut s 15 2621 = true ∧ cmpOut s 15 52427 = false ∧
     cmpBack s 0 19222 = true ∧ cmpBack s 0 19223 = false ∧ cmpBack s 5 19608 = true ∧ cmpBack s 5 19607 = false ∧ svMaySend s = true ∧ s.svf.masks.length = 3 ∧
     rowsOfCmp 0 = [0] ∧ rowsOfCmp 15 = [4] ∧ (cmpRec s 13).enable = true ∧ nth s.sv.sec.pumpDio 7 0xFFFF ≠ 0xFFFF) ∧
    (let s := svState { cmps := [(13, { armed := true, tripLim := 14785 })], rows := [(15, { st := 1, latch := 4 })] }
     cmpArmed s 13 = true ∧ cmpUnknown s 13 = false ∧ cmpBeyond s 13 14785 = true ∧ rowsOfCmp 13 = [15] ∧ bitOf (rowSt s 15).latch 2 = true) ∧
    (let s := svState { rows := [(7, { adv := true }), (63, { adv := true })] }
     rowCond s 7 = true ∧ rowCond s 63 = true) ∧
    (let s := svState { cmps := [(0, { unkOwn := true, unkLim := some (9830, 65535) })] }
     running s = true ∧ (cmpSt s 0).unkOwn = true ∧ cmpOut s 0 9831 = false ∧ (cmpRec s 0).enable = true ∧ (cmpSt s 0).advUnk = false ∧ cmpUnknown s 0 = true) := by decide +kernel

/-- selvedge_rows_hold_latch_and_clear: a row whose condition has gone; one with its delay running, recovered and not; a HOLDING row with and without a latch; a rope at the edges of its bands and between them, where each of two bands may be found; each advisory latch; a D_ref. -/
theorem witness_rows :
    (let s := svState { rows := [(0, { st := 1, delayFrom := some 3 }), (7, { st := 2, adv := true, delayFrom := some 3 })], sec := comps [] }
     (rowSt s 0).st = 1 ∧ rowCond s 0 = false ∧ rowRecovered s 0 0 = true ∧ (rowSt s 0).delayFrom = some 3 ∧ (rowSt s 0).fired = false ∧ (rowRec s 0).delay ≠ 0 ∧
     (rowSt s 7).st = 2 ∧ rowRecovered s 7 0 = false ∧ (rowRec s 7).delay ≠ 0) ∧
    (let s := svState { rows := [(1, { st := 2 }), (2, { st := 2, latch := 8 })] }
     (rowSt s 1).st = 2 ∧ latching (rowForce s 1) = 0 ∧ (rowSt s 2).st = 2 ∧ latching (rowForce s 2) ≠ 0 ∧
     (let u := svState { rows := [(1, { st := 2 })] }
      (match exec (.rowClearHold 1) u with | .next t => ecapMask t == u.sv.ecapSeen | _ => false) = true)) ∧
    (ropeRec (svState { sec := comps [] }) 15).enable = true ∧ running (svState {}) = true ∧ (ropeSt (svState { ropes := [(15, { st := 1 })] }) 15).st = 1 ∧ (ropeSt (svState { ropes := [(15, { st := 4 })] }) 15).st = 4 ∧
    ([949, 950, 1900].map (fun z => ropeNext 4 z 4) = [4, 4, 4] ∧ [2101, 56999].map (fun z => ropeNext 1 z 1) = [2, 2] ∧ [73501, 284999].map (fun z => ropeNext 3 z 3) = [1, 1] ∧ ropeNext 1 420001 1 = 3 ∧
     ropeAt 19 1 57000 = 1 ∧ ropeAt 20 1 57000 = 2 ∧ ropeNext 1 57000 1 = 1 ∧ ropeNext 1 57000 2 = 2) ∧
    (let s := svState { cmps := [(0, { advTrip := true, advUnk := true })], rows := [(7, { adv := true })], drefAt := some 5 }
     (cmpSt s 0).advTrip = true ∧ (cmpSt s 0).advUnk = true ∧ (rowSt s 7).adv = true ∧ s.sv.drefAt = some 5) := by decide +kernel

def mbState (bins : List (F32 × Bool)) (sum : F32) : State := { svState { sec := comps [] } with svf := { mb := [(0, { bins := bins, n := 1, sum := sum })] } }

/-- selvedge_frames_and_leaks_located: masks that have not changed, none and one set, and a clear frame still to send; a second without 60 bins, and with them above the threshold and at zero; a drop of LOC_DROP and a smaller one, with no trigger before, one at 500 ms and one later; a waiting leak; a module without a forecast layer and one that waits. -/
theorem witness_frames_leaks :
    (running act = true ∧ act.glb.role ≠ .none ∧ act.glb.role ≠ .safe ∧ act.svf.masks = [svMask act 1, svMask act 2, svMask act 3] ∧ svMask act 1 = 0 ∧ act.svf.clears = [] ∧ { act with svf := { clears := [(1, 8, 2)] } }.svf.clears = [(1, 8, 2)]) ∧
    (let s := { svState { sec := { rows := [{ imm := 8, racks := 1 }] }, rows := [(0, { st := 1 })] } with svf := { masks := [0, 1, 0] } }
     s.svf.masks = [svMask s 1, svMask s 2, svMask s 3] ∧ svMask s 2 ≠ 0 ∧ s.svf.clears = []) ∧
    (let s := mbState [] 0#32
     s.sv.sec.mb[0]?.map (·.enable) = some true ∧ s.sv.sec.mb[1]?.map (·.enable) = some false ∧ mbValid (keepLast 60 ([] ++ [(0#32, true)])) = false) ∧
    (let s := mbState (List.replicate 60 (0x447A0000#32, true)) 0x447A0000#32
     flt (mbThresh s) (mean60 (List.replicate 60 (0x447A0000#32 : F32))) = true ∧ mbValid (List.replicate 60 ((0x447A0000#32 : F32), true)) = true ∧
     flt (mbThresh s) (mean60 (List.replicate 60 (0#32 : F32))) = false ∧ fle (mean60 (List.replicate 60 (0#32 : F32))) (fdiv (mbThresh s) (fofNat 2)) = true) ∧
    (let s := { fcState .active fcServing with svf := { locLast := some 0 }, clock := 500000000 }
     running s = true ∧ locRuns s = true ∧ s.svf.locLast = some 0 ∧ s.clock ≤ 0 + 500000000 ∧ 0 + 500000000 < { s with clock := 500000001 }.clock ∧ 0 < s.sv.sec.locDrop ∧ s.sv.sec.locDrop ≤ 0xFFFF ∧ locRuns (fcState .active fcServing) = true ∧ (fcState .active fcServing).svf.locLast = none) ∧
    ({ fcState .active fcServing with svf := { locQueue := [(3, 4, 5)] } }.svf.locQueue = (3, 4, 5) :: [] ∧ locRuns { fcState .active fcServing with svf := { locQueue := [(3, 4, 5)] } } = true ∧
     locRuns act = false ∧ locRuns (fcState .held fcServing) = false) := by decide +kernel

/-- selvedge_commands_and_relock: a relock that both modules have accepted, one that only this module has, and one that is ready. -/
theorem witness_relock :
    (let s := { act with sv := { relock := some { nt := 4, accepted := true } }, mir := { relock := some ([], 4, true) } }
     running s = true ∧ s.sv.relock.map (·.ready) = some false ∧ s.mir.relock = s.sv.relock.map (fun x => (x.digest, x.nt, true))) ∧
    (let s := { act with sv := { relock := some { nt := 4, accepted := true } } }
     s.mir.relock = none ∧ s.sv.relock.isSome) ∧
    (let s := { act with sv := { relock := some { nt := 4, ready := true } }, round := 4 }
     s.sv.relock.map (·.ready) = some true ∧ s.sv.relock.map (·.nt) = some s.round) := by decide +kernel

/-- A chain word with its CRC. -/
def word (w : Nat) : Nat := w + crc4 w

/-- The partner (slot B) as ACTIVE and driving, sequence 3. -/
def wB : Nat := word 0xB7030000

def redState (x : RedSt) : State := { held with clock := 8000001, red := x }

/-- heartbeats_and_partner_loss: a sender with a handover, of either slot; a bus whose slot is free; intact words of either slot, in sequence at 8 ms and late; both losses with the other path up and down; a path that has been valid. -/
theorem witness_heartbeats :
    (running act = true ∧ sendsHb act = true ∧ slotB act = false ∧ slotB { act with red := { straps := 1 } } = true ∧ { act with red := { act.red with ho := some { cause := 1 } } }.red.ho.isSome) ∧
    (let s := { act with fb := { bus := [(0, { st := bsNormal }), (8, { st := 0 })] } }
     (busSt s 0).st = bsNormal ∧ (busSt s 0).urg = none ∧ (busSt s 0).pend = [] ∧ (busSt s 8).st ≠ bsNormal ∧ (busSt s 8).st ≠ bsBusOff) ∧
    (let s := redState { seqChain := some 2, seqFb0 := some 1, chainT := 1, fb0T := 1 }
     wordIntact wB = true ∧ wordOk s wB = true ∧ bits wB 16 4 = 3 ∧ s.red.seqChain = some ((bits wB 16 4 + 15) % 16) ∧ s.red.seqFb0 = some ((bits wB 16 4 + 14) % 16) ∧ (redState { seqFb8 := some 1, fb8T := 1 }).red.seqFb8 = some ((bits wB 16 4 + 14) % 16) ∧ s.clock = s.red.chainT + 8000000 ∧
     wordIntact (word 0xB6030000) = true ∧ bitOf (word 0xB6030000) 24 = slotB s ∧ wordIntact (wB + 1) = false ∧ fld (le wB 4) 0 4 = wB ∧ (BitVec.ofNat 32 wB).toNat = wB) ∧
    (redState { seqChain := some 7, seqFb0 := some 2 }).red.seqChain ≠ some ((bits wB 16 4 + 15) % 16) ∧ (redState { seqFb0 := some 2 }).red.seqFb0 ≠ some ((bits wB 16 4 + 14) % 16) ∧
    (redState { seqChain := some 2 }).red.chainT + 8000000 < (redState { seqChain := some 2 }).clock ∧
    (let s := { act with red := { chainOk := true, fbOk := false } }
     s.red.chainOk = true ∧ s.red.fbOk = false ∧ s.red.lost = false ∧ s.glb.role = .active) ∧
    (let s := { act with red := { chainOk := true, fbOk := true } }
     s.red.chainOk = true ∧ s.red.fbOk = true) ∧
    (let s := { held with red := { chainLast := some 0 } }
     running s = true ∧ s.red.chainOk = false ∧ s.red.fbOk = false ∧ s.red.fbSince = none ∧ partnerHeard s = true) ∧
    (let s := { act with red := { fbOk := true } }
     s.red.fbOk = true ∧ s.red.chainOk = false ∧ s.red.lost = false) ∧
    (let s := { inRole .alone with red := { chainSince := some 1, fbSince := some 1, partnerWord := 0x04000000#32, chainLast := some 1, lost := true } }
     s.red.chainSince = some 1 ∧ s.red.chainOk = false ∧ s.red.fbSince = some 1 ∧ s.red.fbOk = false ∧ s.glb.role = .alone ∧
     partnerQualified { s with red := { s.red with chainOk := true, chainDown := false, lost := false } } = true) := by decide +kernel

/-- claims_are_issued_and_answered: each reason, without a claim of the partner; a pulse of each class at its edges, at a module that waits, at one that drives with a faulty line, with its partner lost and with a partner, and at one whose start-up claim waits; a claim that is watched, of each slot; the line low for 5 ms and faulty. -/
theorem witness_claims :
    (let s := redState { lost := true }
     mayClaim s = true ∧ claimReason s 1 = true ∧ s.link.fault = false ∧ partnerClaims s = false ∧ running s = true) ∧
    (let s := { redState { lost := true, lostAt := 5 } with link := { fault := true } }
     mayClaim s = true ∧ claimReason s 1 = true ∧ s.link.fault = true ∧ partnerClaims s = false) ∧
    (let s := { held with link := { claimDeferred := true, partnerTc := some 0 }, clock := 20000000 }
     mayClaim s = true ∧ claimReason s 2 = true ∧ partnerClaims s = false) ∧
    (let s := { inRole .standby with red := { chainLast := some 0, partnerWord := 0x06000080#32 } }
     mayClaim s = true ∧ claimReason s 3 = true ∧ partnerClaims s = false) ∧
    (let s := { held with link := { aborted := true, relSince := some 0 }, red := { lost := true }, pf := { st := 1 }, clock := 20000000 }
     mayClaim s = true ∧ claimReason s 4 = true ∧ partnerClaims s = false) ∧
    ([800, 1200, 2600, 3400].map pulseClass = [some 2, some 2, some 4, some 4] ∧ [300, 700].map pulseClass = [some 1, some 1] ∧ [1600, 2400].map pulseClass = [some 3, some 3]) ∧
    (drives held = false ∧ drives act = true ∧ { act with link := { fault := true } }.link.fault = true ∧ act.link.fault = false ∧ { act with red := { lost := true } }.red.lost = true ∧ act.red.lost = false ∧ act.red.ho = none ∧ act.red.hoNext = [] ∧ { held with link := { claimDeferred := true } }.link.claimDeferred = true) ∧
    (let s := { held with link := { claim := .watching 5 }, red := { straps := 1 } }
     s.link.claim = .watching 5 ∧ slotB s = true) ∧
    (running held = true ∧ held.link.fault = false ∧ { held with link := { fault := true } }.link.fault = true) := by decide +kernel

/-- takeover_watch_and_qualification: a drive time at HELD and STANDBY with a partner and without; a watch and a readback above the command; after the watch; every criterion of R238, and each that may fail. -/
theorem witness_takeover :
    (let s := { held with link := { driveAt := some 5 } }
     s.link.driveAt = some 5 ∧ s.glb.role = .held ∧ partnerQualified s = false ∧ { s with tickAt := 8000000 }.clock ≤ { s with tickAt := 8000000 }.tickAt) ∧
    (let s := { inRole .standby with link := { driveAt := some 5 }, red := { chainLast := some 0, partnerWord := 0x04000000#32 } }
     s.link.driveAt = some 5 ∧ s.glb.role = .standby ∧ partnerQualified s = true) ∧
    (let s := { act with red := { driving := true, watch := true }, lp := { maps := [(0, { fSince := some 5 })] } }
     s.red.watch = true ∧ s.glb.role ≠ .held ∧ (mapSt s 0).fSince = some 5) ∧
    (let s := { act with lp := { maps := [(0, { fSince := some 5 })] } }
     (mapRec s 0).isSome ∧ (mapSt s 0).fSince = some 5 ∧ drives s = true ∧ s.red.watch = false ∧ (mapSt s 0).fDone = false) ∧
    (let s := { held with
        clock := 1000000001, mir := { patDigest := dig64 [] }, link := { aligned := true, snapAge := 10, leaseAge := 10 }
        red := { chainOk := true, fbOk := true, chainSince := some 1, fbSince := some 1, chainLast := some 1, partnerWord := 0x06300000#32 } }
     s.glb.role = .held ∧ ([1, 2, 3, 4, 5, 6, 7].all (qualMet s)) = true ∧ idsBad s = false) ∧
    (let s := { inRole .standby with red := { strapFault := true } }
     s.glb.role = .standby ∧ qualMet { s with link := { snapAge := 11, staleRounds := 1000 } } 6 = false ∧ qualMet s 1 = false ∧ qualMet s 2 = false ∧ qualMet s 5 = false ∧
     qualMet { s with pf := { force := { bind := { plates := 4097 } } } } 3 = false) := by decide +kernel

/-- handover_and_round_alignment: ROLE_SWAP at an ACTIVE module and at another; a handover that has waited, for a command, for the keeper and for a fatal error, with none and with one behind it; the first listening and the second, without a pulse, with one before it and one after its beginning; a reference message beyond 50 µs, at it, and at an ACTIVE module. -/
theorem witness_handover :
    ((CritReady 6 0 0 (msg 6 0 []) act ∧ critArgs (msg 6 0 []) = [] ∧ critFlags (msg 6 0 []) = 0) ∧ act.glb.role = .active ∧ act.red.ho = none) ∧
    ((CritReady 6 0 0 (msg 6 0 []) held ∧ critArgs (msg 6 0 []) = [] ∧ critFlags (msg 6 0 []) = 0) ∧ held.glb.role ≠ .active) ∧
    (let s := { act with red := { ho := some { cause := 5, firstWord := some 3 } }, al := { keepOn := true } }
     s.red.ho.map (fun (h : HandoverSt) => (h.cause, h.firstWord)) = some (5, some 3) ∧ s.al.keepOn = true) ∧
    { act with red := { ho := some { cause := 1, firstWord := some 3 } } }.red.ho.map (fun (h : HandoverSt) => (h.cause, h.firstWord)) = some (1, some 3) ∧
    (let s := { act with red := { ho := some { cause := 6, firstWord := some 3 }, hoNext := [{ cause := 3 }] } }
     s.glb.role = .active ∧ s.red.ho.map (fun (h : HandoverSt) => (h.cause, h.firstWord)) = some (6, some 3) ∧ s.red.hoNext = { cause := 3 } :: [] ∧ act.red.hoNext = []) ∧
    (let s := { held with link := { listenSince := some 3 } }
     s.link.listenSince = some 3 ∧ s.glb.role = .held ∧ s.red.strapFault = false ∧ idsBad s = false ∧ partnerHeard s = false ∧ s.link.lastPulse = none ∧ { s with link := { s.link with lastPulse := some 3 } }.link.lastPulse = some 3 ∧ { s with link := { s.link with lastPulse := some 4 } }.link.lastPulse = some 4 ∧ s.link.listenSecond = false ∧
     { s with link := { s.link with listenSecond := true } }.link.listenSecond = true) ∧
    (let s := { held with fb := { bus := [(0, { st := bsNormal }), (8, { st := bsRestricted })] } }
     let f : BusFrame := { id := 0, data := List.replicate 8 0#8 }
     isReference s 0 f = true ∧ isReference s 8 f = true ∧ s.red.timeMaster = false ∧ s.glb.role = .held ∧ s.link.mustStep = false ∧ (busSt s 0).ttLost = false ∧
     (refOffset s 5000 0).natAbs = 5000 ∧ refOffset s (-4999) 0 = -4999 ∧ refOffset s 5001 1 = 4991 ∧
     (let u := { s with glb := { s.glb with role := .alone } }
      isReference u 0 f = true ∧ u.red.timeMaster = false ∧ u.glb.role ≠ .held ∧ u.glb.role ≠ .standby)) :=
  ⟨⟨msg_ready (by decide +kernel), by decide +kernel⟩, ⟨msg_ready (by decide +kernel), by decide +kernel⟩, by decide +kernel⟩

/-! ### Witnesses: the field buses -/

def busState (k : Nat) (b : BusSt) : State := { held with fb := { bus := [(k, b)] } }

def frame (id n : Nat) : BusFrame := { id := id, data := List.replicate n 0x11#8 }

/-- frames_are_filtered_and_stored: a frame that no entry routes, one of the entry's whole capacity, one that is too long for its entry, a buffer whose NEW bit stands, a priority buffer, unlocked and locked with and without a shadow; a frame in error on a NORMAL, an AUTO and a restricted controller. -/
theorem witness_frames :
    (let s := busState 1 { st := bsNormal, rxNew := 16 }
     running s = true ∧ (busSt s 1).st = bsNormal ∧ filterOf s 1 (frame 0x7FF 8) = none ∧ (frame 0x7FF 8).remote = false ∧
     (filterOf s 1 (frame 0x100 8)).map (fun e => (e.2.dest, e.2.index, decide ((frame 0x100 8).data.length ≤ e.2.cap * 8))) = some (1, 4, true) ∧
     (filterOf s 1 (frame 0x200 1)).map (fun e => (e.2.dest, decide (e.2.cap * 8 < (frame 0x200 1).data.length))) = some (1, true) ∧ bitOf (busSt s 1).rxNew 4 = true) ∧
    (let s := { held with pf := { st := 1, force := { pat0 with fb := { pat0.fb with buses := [{ enable := true, firstFilter := 0, filterCount := 1 }], filters := [{ id := 0x100, mask := 0x7FF, fmts := 1, dest := 2, index := 7 }] } } },
                          fb := { bus := [(0, { st := bsNormal })], buf := [(0, { pms := [(7, { locked := true, shadow := some {} })] })] } }
     (filterOf s 0 (frame 0x100 8)).map (fun e => (e.2.dest, e.2.index, decide ((frame 0x100 8).data.length ≤ 64))) = some (2, 7, true) ∧ (busSt s 0).st = bsNormal ∧
     (tgetD (busBuf s 0).pms 7 {}).locked = true ∧ (tgetD (busBuf s 0).pms 7 {}).shadow.isSome = true ∧
     (let u := { s with fb := { bus := [(0, { st := bsNormal })] } }
      (filterOf u 0 (frame 0x100 8)).isSome = true ∧ (tgetD (busBuf u 0).pms 7 {}).locked = false)) ∧
    (let s := busState 0 { st := bsAuto }
     (busSt s 0).st = bsAuto ∧ (busSt s 0).er.lockPend = false ∧ (busSt s 0).er.cand + 1 < (busRec s 0).cands.length ∧ (busSt (busState 0 { st := bsRestricted }) 0).st ≠ bsNormal ∧ bsRestricted ≠ bsAuto) := by decide +kernel

def txState (r : Role) (n : Nat) (b : BusSt) : State := { inRole r with round := 13, fb := { bus := [(0, { b with q := b.q ++ List.replicate n { f := frame 1 1 } })] } }

/-- transmit_messages_and_priority_buffers: an unlocked and a locked buffer; a message at its mark with room for one, with a full queue, with an entry of its own and not late within the last second, one whose class is not sent, and one whose bus is quarantined, off or in AUTO. -/
theorem witness_transmit_messages :
    (let s := { held with fb := { buf := [(15, { pms := [(7, { locked := true })] })] } }
     running s = true ∧ (tgetD (busBuf s 15).pms 7 {}).locked = true ∧ (tgetD (busBuf s 15).pms 0 {}).locked = false) ∧
    (let s := txState .held 31 { st := bsNormal }
     running s = true ∧ ((pat s).fb.txMsgs.find? (fun x => x.msg == 7)).map (fun (r : TxMsgRec) => (r.bus, decide (s.round % max 1 r.pr = r.ph), ownerSent s r.owner, (busSt s r.bus).er.quar.contains (msgKey s r))) = some (0, true, true, false) ∧
     (busSt s 0).st = bsNormal ∧ (busSt s 0).q.any (fun e => e.msg == some 7) = false ∧ (busSt s 0).q.length = 31) ∧
    (let s := txState .held 32 { st := bsNormal }
     (busSt s 0).q.any (fun e => e.msg == some 7) = false ∧ (busSt s 0).q.length = 32) ∧
    (busSt (txState .held 0 { st := bsNormal, q := [{ msg := some 7 }] }) 0).q.any (fun e => e.msg == some 7) = true ∧ tget (busBuf (txState .held 0 { st := bsNormal }) 0).lateAt 7 = none ∧
    ((pat (txState .safe 0 {})).fb.txMsgs.find? (fun x => x.msg == 7)).map (fun (r : TxMsgRec) => (decide ((txState .safe 0 {}).round % max 1 r.pr = r.ph), ownerSent (txState .safe 0 {}) r.owner)) = some (true, false) ∧
    (let s := txState .held 0 { st := bsQuar }
     (busSt s 0).st = bsQuar ∧ (busSt (txState .held 0 {}) 0).st = bsOff) ∧
    (let s := txState .held 0 { st := bsAuto }
     (busSt s 0).st ≠ bsOff ∧ (busSt s 0).st ≠ bsQuar) := by decide +kernel

/-- transmit_queue_attempts_and_commits: an entry on its last attempt but one and on its last, a cancelled one; an error count at its last value before bus-off and at it, an error-passive sender; an urgent frame and a reference message alone, and one that is not retried; a controller that is off; a staged frame that may go, one of an owner, one to a full queue. -/
theorem witness_transmit_queue :
    (∀ e ∈ [({ tag := 3, attempts := 6 } : TxEnt), { tag := 3, attempts := 7 }, { tag := 3, noRetry := true }],
      (busSt (busState 0 { st := bsNormal, q := [e] }) 0).st = bsNormal ∧ (busSt (busState 0 { st := bsNormal, q := [e] }) 0).q = e :: [] ∧
      (busSt (busState 0 { st := bsNormal, q := [e] }) 0).urg = none ∧ (busSt (busState 0 { st := bsNormal, q := [e] }) 0).ref = none ∧ (busState 0 {}).glb.role ≠ .none ∧ running (busState 0 {}) = true ∧ (busSt (busState 0 { st := bsNormal, q := [e] }) 0).er.tec < 256) ∧
    ((busSt (busState 0 { st := bsNormal, er := { tec := 255 } }) 0).er.tec < 256 ∧ 256 ≤ (busSt (busState 0 { st := bsNormal, er := { tec := 256 } }) 0).er.tec ∧ (busSt (busState 0 { er := { epass := true } }) 0).er.epass = true) ∧
    (let s := busState 8 { st := bsNormal, urg := some {}, ref := some (frame 0 8) }
     (busSt s 8).urg = some {} ∧ (busSt s 8).pend = [] ∧ (busSt s 8).st = bsNormal) ∧
    (let s := busState 8 { st := bsNormal, ref := some (frame 0 8) }
     (busSt s 8).ref = some (frame 0 8) ∧ (frame 0 8).fmt = 0 ∧ (busSt s 8).urg = none ∧ (busSt (busState 8 {}) 8).st ≠ bsNormal ∧ (busSt s 8).refLast = false ∧ (busSt (busState 8 { st := bsNormal, ref := some (frame 0 8), refLast := true }) 8).refLast = true) ∧
    (6 + 1 < (busRec held 0).maxAttempts ∧ (busRec held 0).maxAttempts ≤ 7 + 1) ∧
    (let s := { busState 0 { st := bsNormal } with fb.buf := [(0, { stageS := [(0, 0x555)] })] }
     let f := stagedFrame (busBuf s 0).stageS
     ownerClass s 0 (frameKey f) = none ∧ (busSt s 0).er.quar.contains (frameKey f) = false ∧ frameAllowed (busRec s 0) f = true ∧ (busSt s 0).q.length < 32) ∧
    (let s := { busState 0 { st := bsNormal, q := List.replicate 32 {} } with fb.buf := [(0, { stageH := [(0, 0x300)] })] }
     (ownerClass s 0 (frameKey (stagedFrame (busBuf s 0).stageH))).isSome = true ∧ 32 ≤ (busSt s 0).q.length ∧ (busSt s 0).st = bsNormal) := by decide +kernel

/-- bus_errors_and_quarantine: the third conflict of a SLOT identifier with an empty queue and with a frame of it and another waiting, a quarantined identifier, a bus that runs, with an error count below 256 and at it, one that is off in each role, a controller in service. -/
theorem witness_bus_errors :
    (let s := busState 0 { st := bsNormal, er := { conflicts := [(0x300, 2)] } }
     running s = true ∧ ownerClass s 0 (idKey 0x300 false) = some 3 ∧ tgetD (busSt s 0).er.conflicts (idKey 0x300 false) 0 = 2 ∧ (busSt s 0).st = bsNormal ∧ (busSt s 15).st ≠ bsQuar ∧ (busSt s 0).er.tec < 256) ∧
    (let s := busState 0 { st := bsNormal, er := { conflicts := [(0x300, 2)], tec := 256 }, q := [{ f := frame 0x300 1 }, { f := frame 1 1 }] }
     ownerClass s 0 (idKey 0x300 false) = some 3 ∧ (busSt s 0).q.map (fun e => frameKey e.f != idKey 0x300 false) = [false, true] ∧ (busSt s 0).st = bsNormal ∧ 256 ≤ (busSt s 0).er.tec) ∧
    (busSt (busState 0 { er := { quar := [0x300] } }) 0).er.quar.contains (idKey 0x300 false) = true ∧
    (let s := busState 0 { st := bsBusOff, er := { recovering := true } }
     (busSt s 0).st = bsBusOff ∧ (busSt s 0).er.recovering = true ∧ running { s with glb := { life := .up, role := .safe } } = true) := by decide +kernel

/-- bus_modes_sleep_and_wake: an AUTO bus with its last candidate but one and its last, at the tenth pass; a TTCAN receiver two rounds behind; a bus that may sleep, idle and with a frame to send, at its 10 ms and past them, and in a state that does not sleep; a sleeping bus, small and large. -/
theorem witness_bus_modes :
    (let s := busState 0 { st := bsAuto, er := { passes := 9 } }
     running s = true ∧ startState s (busRec s 0) = bsAuto ∧ (busSt s 0).st = bsAuto ∧ (busSt s 0).er.lockPend = false ∧ (busSt s 0).er.cand + 1 < (busRec s 0).cands.length ∧ (busSt s 0).er.passes = 9) ∧
    (let s := busState 0 { st := bsAuto, er := { passes := 9, cand := 1 } }
     (busRec s 0).cands.length ≤ (busSt s 0).er.cand + 1) ∧
    (let s := busState 1 { st := bsNormal, ttRound := 2 }
     isTt s 1 = true ∧ s.red.timeMaster = false ∧ 2 = (busSt s 1).ttRound ∧ (busSt s 1).ttLost = false) ∧
    (let s := busState 0 { st := bsNormal }
     (busRec s 0).sleepOk = true ∧ (busSt s 0).st = bsNormal ∧ (busBuf s 0).sleepReq = none ∧ (busRec s 0).idleSleep ≠ 0) ∧
    (let s := { busState 0 { st := bsNormal } with fb.buf := [(0, { sleepReq := some (2, 5) })] }
     (busBuf s 0).sleepReq = some (2, 5) ∧ (busSt s 0).q = [] ∧ (busSt s 0).urg = none ∧ (busSt s 0).st = bsNormal ∧ s.clock ≤ 5 + 10000000 ∧ 5 + 10000000 < { s with clock := 10000006 }.clock ∧
     (∀ st ∈ [bsRestricted, bsAuto], (busSt { s with fb.bus := [(0, { st := st, q := [{}] })] } 0).q ≠ [] ∧ (busSt { s with fb.bus := [(0, { st := st, q := [{}] })] } 0).st = st) ∧
     (∀ st ∈ [bsBusOff, bsQuar], st ≠ bsNormal ∧ st ≠ bsRestricted ∧ st ≠ bsAuto)) ∧
    (let s := { busState 0 { st := bsSleep } with fb.buf := [(0, { waking := true })] }
     (busSt s 0).st = bsSleep ∧ (busRec s 0).large = false ∧ (busBuf s 0).waking = true) ∧
    (let s := busState 1 { st := bsSleep }
     (busSt s 1).st = bsSleep ∧ (busRec s 1).large = true ∧ (busBuf s 1).waking = false) := by decide +kernel

/-- link_port_comes_up_and_down: a port that is down, with an optic of both rates, of 400 Gbit/s alone and of one left unpowered, at either attempt, and one that is up. -/
theorem witness_link_port : running held = true ∧ held.hl.linkUp = false ∧ { held with hl := { linkUp := true } }.hl.linkUp = true ∧
    bitOf 3 1 = true ∧ bitOf 1 1 = false ∧ held.hl.opticBad = false ∧ { held with hl := { opticBad := true } }.hl.opticBad = true ∧ held.hl.tryRate = 2 ∧ { held with hl := { tryRate := 1 } }.hl.tryRate = 1 := by decide +kernel

/-! ### Witnesses: stitch counters, patterns, firmware, the recorder -/

def ctrState (c : Nat) (x : ScCtr) : State := { act with clock := 7, sc := { ctrs := [(c, x)] } }

def call (p : Party) (c n : Nat) : ScCall := { party := p, counter := c, n := n }

/-- stitch_counter_operations_and_faults: the supervisor on the last counter: LIVE with the value that just suffices or just fits, with one that does not, with a waiter, its own and another's; FREE; DROPPED; a lone waiter, the supervisor and a tile at forecast work and at a slice, in either half of the round; with the block's record free; no LIVE counter; the block in service and not. -/
theorem witness_stitch :
    (let s := ctrState 4095 { st := 1, val := 5 }
     let k := call .supervisor 4095 5
     running s = true ∧ isPeer k.party = false ∧ isEngine k.party = false ∧ s.sc.quar = false ∧ s.sc.msgs = [] ∧ k.counter < 4096 ∧ k.flags = 0 ∧ 0 < k.n ∧ s.sc.watches.all (fun e => e.2.counter != k.counter) = true ∧
     (ctr s 4095).st = 1 ∧ (ctr s 4095).val + k.n ≤ 0xFFFFFFFF ∧ k.n = (ctr s 4095).val ∧ (ctr s 4095).queue = [] ∧ (ctr s 4095).owner = k.party ∧ (ctr s 4095).val < (call .supervisor 4095 6).n ∧ slotsUsed s < 512 ∧
     (ctr s 4095).val + (call .supervisor 4095 0xFFFFFFFA).n = 0xFFFFFFFF ∧ 0xFFFFFFFF < (ctr s 4095).val + (call .supervisor 4095 0xFFFFFFFB).n ∧ (ctr s 0).st = 0 ∧ (ctr s 0).queue = []) ∧
    (let s := ctrState 3 { st := 1, val := 5, owner := .engine 1, queue := [{ call := call .supervisor 3 9 }] }
     (ctr s 3).queue ≠ [] ∧ (ctr s 3).owner ≠ Party.supervisor ∧ (ctr s 3).queue = [{ call := call .supervisor 3 9 }] ∧ isPeer (call .supervisor 3 9).party = false ∧ s.sc.msgs = [] ∧ s.sc.full = false) ∧
    (let w : ScWaiter := { call := call (.tile 5) 3 9 }
     (ctr (ctrState 3 { st := 1, queue := [w] }) 3).queue = [w] ∧ isPeer w.call.party = false ∧ w.call.forecast = true ∧ isEngine w.call.party = false ∧ { w.call with forecast := false }.forecast = false ∧
     act.clock < act.t0At + periodNs act / 2 ∧ ¬ { act with clock := 500000 }.clock < act.t0At + periodNs act / 2) ∧ liveCount act = 0 ∧ act.sc.msgs = [] ∧
    (ctr (ctrState 3 { st := 2 }) 3).st = 2 ∧
    { act with sc := { quar := true } }.sc.quar = true := by decide +kernel

/-- A driving module that holds 16 bytes of transfer 7. -/
def xferAct : State := { act with hl := { xfers := [(0, [{ id := 7, ranges := [(0, 16)] }])] } }

/-- A REKNIT payload: 16 bytes at the staging window under transfer 7. -/
def rkArgs (len : Nat) : Bytes := le 7 4 ++ le 0 4 ++ le 0x07800000 8 ++ le len 8

/-- pattern commands whose data is there (`u` is the state once the command has been taken): reknit_commands_are_checked with and without the FULL flag and with an empty container; the clauses for a container that passes need a signature that `Config.falconVerify` accepts. -/
theorem witness_reknit :
    (∀ fl ∈ [0, 2], ∀ n ∈ [0, 16],
      let s := xferAct
      ∃ u, CritTaken 2 24 3 (msg 2 fl (rkArgs n)) s peer0 0 u ∧ critArgs (msg 2 fl (rkArgs n)) = rkArgs n ∧ critFlags (msg 2 fl (rkArgs n)) = fl ∧ zeroAt (rkArgs n) 4 4 = true ∧
        (xferDenied 0 7 u).1 = false ∧ xferMissing u 0 7 n = 0 ∧ s.pf.st ≠ 0 ∧ s.pwr.dip = false ∧ (patCheck u .reknit (blobAt u 0x07800000 n) n).1 ≠ 0 ∧ (patCheck u .staged (blobAt u 0x07800000 n) n).1 ≠ 0) := by
  have e : ∀ fl ∈ [0, 2], ∀ n ∈ [0, 16], critCond xferAct 2 24 3 fl (rkArgs n) = true ∧ zeroAt (rkArgs n) 4 4 = true := by decide +kernel
  have e' : ∀ (d : Dgram), ∀ n ∈ [0, 16], let s := xferAct
      (xferDenied 0 7 (takenIn 0 d s)).1 = false ∧ xferMissing (takenIn 0 d s) 0 7 n = 0 ∧ blobAt (takenIn 0 d s) 0x07800000 n = List.replicate n 0#8 := by
    intro d n hn
    have : ∀ n ∈ [0, 16], let s := xferAct
      (xferDenied 0 7 s).1 = false ∧ xferMissing s 0 7 n = 0 ∧ blobAt s 0x07800000 n = List.replicate n 0#8 := by decide +kernel
    exact this n hn
  have e'' : ∀ u p, ∀ n ∈ [0, 16], (patCheck u p (List.replicate n 0#8) n).1 = 1 := by
    intro u p n hn
    have : ∀ n ∈ [0, 16], patCheck1 (List.replicate n 0#8) n = false := by decide +kernel
    unfold patCheck
    simp [this n hn]
  intro fl hf n hn
  refine ⟨_, (msg_taken (e fl hf n hn).1).1, (msg_taken (e fl hf n hn).1).2.1, (msg_taken (e fl hf n hn).1).2.2, (e fl hf n hn).2, (e' _ n hn).1, (e' _ n hn).2.1, by decide, by decide, ?_, ?_⟩ <;>
    rw [(e' _ n hn).2.2, e'' _ _ n hn] <;> decide

/-- plates_forced_and_models_activated: MODEL_ACTIVATE with its data, none of it a container; no model loads or is on trial. -/
theorem witness_model_activate :
    let s := xferAct
    ∃ u, CritTaken 1 24 0 (msg 1 0 (rkArgs 16)) s peer0 0 u ∧ critArgs (msg 1 0 (rkArgs 16)) = rkArgs 16 ∧ zeroAt (rkArgs 16) 4 4 = true ∧ (xferDenied 0 7 u).1 = false ∧ xferMissing u 0 7 16 = 0 ∧
      s.fc.mdl.st ≠ 2 ∧ s.fc.mdl.st ≠ 3 ∧ s.fc.mdl.st ≠ 6 ∧ mdlCheck s (memRdN s.mem 0x07800000 (min 16 (hbmTop s - 0x07800000))) 16 ≠ 0 := by
  have h : critCond xferAct 1 24 0 0 (rkArgs 16) = true := by decide +kernel
  exact ⟨_, (msg_taken h).1, (msg_taken h).2.1, by decide +kernel, by rfl, by rfl, by decide +kernel⟩

def schedState (na : Nat) (dip trial : Bool) : State :=
  { act with round := 4, pwr := { dip := dip }, pf := { st := 2, force := pat0, current := some pat0, sched := some { pat := pat0, na := na, trial := trial } }, swt := { sw := [(0, { st := 2, regs := injRegs 1 })] } }

/-- pattern_changes_keep_equal_channels: a scheduled pattern at its round, with and without a dip, with a trial; the same channel record in both; no running slot on channel 1; a frog back with a relock, whose lifeline passes its checks, and one whose lifeline's signer is not the anchor; no next anchor. -/
theorem witness_pattern_changes :
    (let s := schedState 4 false true
     running s = true ∧ s.pf.sched.map (·.na) = some s.round ∧ s.pf.st = 2 ∧ s.pwr.dip = false ∧ s.pf.sched.map (·.trial) = some true ∧
     s.pf.sched.map (fun x => decide ((pat s).chans.find? (fun r => r.ch == 1) = x.pat.chans.find? (fun r => r.ch == 1))) = some true ∧ (swSt s 0).chan ≠ 1 ∧ s.swt.sw.all (fun e => e.1 == 0) = true) ∧
    (schedState 3 true false).pwr.dip = true ∧
    (let s := { act with pf := { st := 3, force := pat0, lifeline := some pat0, frog := some (4, 0), anchor := some pat0.signerDigest }, sv := { relock := some {} } }
     s.pf.frog = some (4, 0) ∧ s.pf.lifeline = some pat0 ∧ s.pf.anchor = some pat0.signerDigest ∧ patCheck8 s pat0 = true ∧ s.sv.relock.isSome = true ∧
     loadCheck { s with pf := { s.pf with anchor := none } } pat0 ≠ 0 ∧ pat0.nextAnchor = []) := by decide +kernel

/-- trials_and_the_identity_store: TRIAL_ACCEPT and the window's end in a trial; TRIAL_ACCEPT of a trial that has failed and without one; FROG_BACK of a scheduled pattern, without and with a lifeline; a driving module's readable store with each block valid alone and with none, and one that cannot be read; a module that does not drive. -/
theorem witness_trials :
    (let s := { act with pf := { st := 3, force := pat0, current := some pat0 } }
     CritReady 4 0 0 (msg 4 0 []) s ∧ running s = true ∧ s.pf.st = 3 ∧ s.pf.frog = none) ∧
    (let s := { act with pf := { st := 3, force := pat0, current := some pat0, frog := some (1, 0) } }
     CritReady 4 0 0 (msg 4 0 []) s ∧ s.pf.frog ≠ none) ∧
    (let s := schedState 4 false false
     CritReady 3 0 0 (msg 3 0 []) s ∧ s.pf.st = 2) ∧
    (CritReady 3 0 0 (msg 3 0 []) act ∧ act.pf.st ≠ 2 ∧ act.pf.lifeline = none) ∧
    (let s := { act with pf := { st := 1, force := pat0, lifeline := some pat0 } }
     CritReady 3 0 0 (msg 3 0 []) s ∧ s.pf.lifeline ≠ none ∧ s.pf.frog = none) ∧
    (let b := List.replicate 508 0#8 ++ le (crc32c (List.replicate 508 0#8)) 4
     let s := { act with hw := { idsAnswers := true, idsHeader := [0x43#8, 0x44#8, 0x55#8, 0x49#8, 1#8, 0#8] ++ List.replicate 58 0#8, idsBlk0 := some b }, pf := { st := 1, idsWrite := true } }
     let v := { s with hw := { s.hw with idsBlk0 := none, idsBlk1 := some b } }
     s.pf.idsWrite = true ∧ drives s = true ∧ idsReadable s = true ∧ (idsBlock s).map (·.1) = some 0 ∧ (idsBlock v).map (·.1) = some 1 ∧ idsBlock { s with hw := { s.hw with idsBlk0 := none } } = none ∧ idsReadable { s with hw := { s.hw with idsHeader := [] } } = false ∧ s.pf.idsFaults = []) ∧ drives held = false ∧ pat0.nextAnchor = [] :=
  ⟨⟨(msg_ready (by decide +kernel)).1, by decide +kernel⟩, ⟨(msg_ready (by decide +kernel)).1, by decide +kernel⟩, ⟨(msg_ready (by decide +kernel)).1, by decide +kernel⟩, ⟨(msg_ready (by decide +kernel)).1, by decide +kernel⟩,
    ⟨(msg_ready (by decide +kernel)).1, by decide +kernel⟩, by decide +kernel⟩

def partState (k : Nat) (x : PartSt) : State := { act with clock := 1000000001, pf := { st := 1, force := pat0, parts := [(k, x)] } }

/-- firmware_parts_commit_and_revert: FIRMWARE_COMMIT with its data, not an image; a written bank of a part, of the cast-on image, during a dip; a part that does not come up; an image due to raise its floor, also one that a revert brought back; a first filtered access, one after 1 s, one within it. -/
theorem witness_firmware :
    (let s := xferAct
     let a := le 4 4 ++ le 7 4 ++ le 0x07800000 8 ++ le 16 8
     ∃ u, CritTaken 5 24 1 (msg 5 0 a) s peer0 0 u ∧ critArgs (msg 5 0 a) = a ∧ zeroAt a 1 3 = true ∧ (xferDenied 0 7 u).1 = false ∧ xferMissing u 0 7 16 = 0 ∧ fwCheck s 4 false (blobAt s 0x07800000 16) 16 ≠ 0) ∧
    (∀ k ∈ [1, 5], let s := { partState k {} with pf.commit := some (k, {}, none) }
      running s = true ∧ s.pf.commit = some (k, {}, none) ∧ (partSt s k).bank < 2 ∧ s.pwr.dip = false) ∧
    (let s := partState 4 { st := 2 }
     running s = true ∧ (partSt s 4).st = 2) ∧
    (let s := partState 2 { banks := [some { rollback := 3 }, none] }
     (partImage s 2).isSome ∧ (partSt s 2).raised = false ∧ (partSt (partState 2 { st := 3, banks := [some { rollback := 3 }, none] }) 2).raised = false ∧ (partSt s 2).lastBlock = none) ∧
    (let s := partState 1 { lastBlock := some 0 }
     (partSt s 1).lastBlock = some 0 ∧ 0 + 1000000000 < s.clock) ∧
    (let s := partState 1 { lastBlock := some 1 }
     (partSt s 1).lastBlock = some 1 ∧ s.clock ≤ 1 + 1000000000) := by
  have h : critCond xferAct 5 24 1 0 (le 4 4 ++ le 7 4 ++ le 0x07800000 8 ++ le 16 8) = true := by decide +kernel
  exact ⟨⟨_, (msg_taken h).1, (msg_taken h).2.1, by decide +kernel, by rfl, by rfl, by decide +kernel⟩, by decide +kernel⟩

/-- recorder_commands_and_wall_clock: no drops, drops of one tier that are due; staged records with and without a dip; an export with a record; a step below 1 µs and one of it; a slew of 1 s and one above; a slew that runs. -/
theorem witness_recorder :
    ((∀ k, k < 3 → dropsPend act k = false) ∧ running act = true) ∧
    (let s := { act with ev := { dropsNew := [(16, 4)], dropAt := [(2, 0)] }, clock := 1000000000 }
     dropsPend s 2 = true ∧ (∀ j, j < 3 → j ≠ 2 → dropsPend s j = false) ∧ dropDue s 2 ≤ uptime s) ∧
    ({ act with pwr := { dip := true } }.pwr.dip = true ∧ act.pwr.dip = false) ∧
    (let s := { act with ev := { ring := [(0, { gen := 1, r := { seq := 5, sev := 2 } })] } }
     (peerRec s 0).map (fun x => hasRight x 10) = some true ∧ evtOpen s 0 = false ∧ s.ev.quar = false ∧ tgetD s.ev.resumeAt 0 0 ≤ s.clock ∧ tget s.ev.expRound 0 ≠ some s.round ∧
     (5, { gen := 1, r := { seq := 5, sev := 2 } }) ∈ heldSlots s ∧ expCursor s 0 (heldSlots s) ≤ 5 ∧ s.ev.expMin ≤ 2) ∧
    (let d (n : Nat) := (wallStaged { act with wall := { stageLo := BitVec.ofNat 32 n } } : Int) - ((uptime act : Int) + wallOff act)
     (d 999).natAbs < 1000 ∧ ¬(d 1000).natAbs < 1000 ∧ (d 1000000000).natAbs ≤ 1000000000 ∧ 1000000000 < (d 1000000001).natAbs) ∧
    { act with wall := { slew := some (-5, 3) } }.wall.slew = some (-5, 3) := by decide +kernel

/-! ### Witnesses: supplies, resets, freeze, registers -/

/-- supplies_dip_and_recover: no dip and a dip of shed stage 1; VSAFE above and below its limit in each role, and while a fatal condition hands over; VFIELD in the ROM; VFIELD low and not, overload and not, VMAIN high and not; the levels at their thresholds. -/
theorem witness_supplies :
    running act = true ∧ act.pwr.dip = false ∧ act.pwr.vsafeLow = none ∧ act.glb.role = .active ∧ held.glb.role ≠ .active ∧ act.red.ho.any (fun (h : HandoverSt) => h.cause == 6) = false ∧ { act with red := { ho := some { cause := 6 } } }.red.ho.any (fun (h : HandoverSt) => h.cause == 6) = true ∧ running State.reset = false ∧ act.pwr.vfieldLow = false ∧ act.pwr.vfieldOver = false ∧ act.pwr.vmainHigh = false ∧
    (let s := { act with pwr := { dip := true, shed := 1, vsafeLow := some 3, vfieldLow := true, vfieldOver := true, vmainHigh := true } }
     s.pwr.dip = true ∧ s.pwr.shed ≤ 1 ∧ s.pwr.thermStage = 0 ∧ s.pwr.vsafeLow = some 3 ∧ s.pwr.vfieldLow = true ∧ s.pwr.vfieldOver = true ∧ s.pwr.vmainHigh = true) ∧
    (let s := { act with pwr := { dip := true, shed := 1, thermStage := 1, vmainOk := false } }
     s.pwr.shed = 1 ∧ 1 ≤ s.pwr.thermStage) ∧ act.pwr.shed = 0 ∧ { act with pwr := { vmainOk := false } }.pwr.vmainOk = false ∧
    ((4530 : Nat) ≤ 4530 ∧ 4530 < 4531 ∧ 4569 < 4570 ∧ 4570 ≤ 4570 ∧ 830 ≤ 1060 ∧ 1060 ≤ 1060 ∧ 1059 < 1060) := by decide +kernel

/-- fatal_and_thermal_conditions: an ACTIVE module without a handover, with one of another cause and with one of cause 6, one that waits, one in SAFE; the edges of the thermal stages and of their exit, of the coolant's record and of the oscillator's. -/
theorem witness_fatal :
    running act = true ∧ act.glb.role = .active ∧ held.glb.role ≠ .active ∧ held.glb.role ≠ .safe ∧ (inRole .safe).glb.role = .safe ∧ running (inRole .safe) = true ∧
    [({ act with red := { ho := some { cause := 1 } } } : State), { act with red := { ho := some { cause := 6 } } }].map (fun s => s.red.ho.any (fun (h : HandoverSt) => h.cause == 6)) = [false, true] ∧ held.red.ho.any (fun (h : HandoverSt) => h.cause == 6) = false ∧
    (let s := { act with pwr := { thermStage := 1, shed := 1 } }
     s.pwr.thermStage < 2 ∧ (2 : Nat) ≤ 2 ∧ (if (2 : Nat) = 2 then 1000 else 950) ≤ 1000 ∧ (if (1 : Nat) = 2 then 1000 else 950) ≤ 950 ∧ ¬ s.pwr.thermStage < 1 ∧ act.pwr.thermStage < 1 ∧ s.pwr.thermStage = 1 ∧ (920 : Nat) ≤ 920 ∧ ¬ (921 : Nat) ≤ 920 ∧ (400 : Nat) ≤ 400 ∧ (390 : Nat) ≤ 390 ∧ s.pwr.dipStage = 0 ∧ s.pwr.shed = 1 ∧ s.glb.oscBad = false ∧ s.pwr.coolantHigh = false ∧ decide ((499 : Int).natAbs < 500) = true ∧ decide ((-500 : Int).natAbs < 500) = false) ∧ act.pwr.shed = 0 ∧
    { act with pwr := { thermStage := 2 } }.pwr.thermStage = 2 := by decide +kernel

/-- chip_resets_keep_and_clear: each reset and its cause, at a module without a running swatch and without a quarantined identifier, a pulse of 10 µs and one below, a frozen module at the watchdog; the flash of a dip, a slot whose write has ended and one whose write has not, a bank that is being written. -/
theorem witness_chip_resets :
    ((∃ n, Instr.resetN 10 = .resetN n ∧ 10 ≤ n ∧ 3 = 3) ∧ (Instr.referenceLoss = .referenceLoss ∧ 6 = 6) ∧ (act.glb.life = .up ∧ State.reset.glb.life = .rom) ∧ (∃ p, Instr.powerOnReset {} = .powerOnReset p ∧ 1 = 1)) ∧
    (9 : Nat) < 10 ∧ { held with glb := { life := .frozen } }.glb.life = .frozen ∧
    (let s := { held with clock := 7, pf := { flashAt := some {}, slotEnd := [(1, 7), (2, 8)], commit := some (2, {}, none) } }
     s.pf.flashAt = some {} ∧ held.pf.flashAt = none ∧ tget s.pf.slotEnd 1 = some s.clock ∧ tget s.pf.slotEnd 2 = some (s.clock + 1) ∧ held.pf.slotEnd = [] ∧ s.pf.commit = some (2, {}, none) ∧ held.pf.commit = none) ∧ (∃ a, areaBase act 3 ≤ a) ∧ (∀ k, (swSt act k).st ≠ 2) ∧ (∀ k, (busSt act k).er.quar = []) :=
  ⟨⟨⟨10, rfl, by decide, rfl⟩, ⟨rfl, rfl⟩, by decide +kernel, ⟨{}, rfl, rfl⟩⟩, by decide, rfl, by decide +kernel, ⟨_, Nat.le_refl _⟩, fun _ => by simp [swSt, act, inRole, held, tgetD, tget], fun _ => by simp [busSt, act, inRole, held, tgetD, tget]⟩

/-- cast_on_runs_from_the_rom: a running module; the ROM with no lock in three attempts; with a pattern in CURRENT of the anchor's signer and of another; with none. -/
theorem witness_cast_on :
    held.glb.life ≠ .rom ∧
    (let s := State.reset
     s.glb.life = .rom ∧ s.glb.phase = 0 ∧ 3 < ({ pllAttempts := 4 } : CastInfo).pllAttempts ∧ ({ pllAttempts := 3 } : CastInfo).pllAttempts ≤ 3 ∧ ({} : CastInfo).reach = 6 ∧ s.pf.nextP = none ∧ s.pf.current = none ∧ s.pf.lifeline = none) ∧
    (let s := { State.reset with pf := { current := some pat0, anchor := some pat0.signerDigest } }
     s.glb.life = .rom ∧ s.pf.nextP = none ∧ s.pf.changeTrial = false ∧ s.pf.current = some pat0 ∧ s.pf.lifeline = none ∧ s.pf.anchor = some pat0.signerDigest ∧ patCheck8 s pat0 = true ∧ [1#8] ≠ pat0.signerDigest) := by decide +kernel

/-- region_block_and_commanded_resets: RESET of both kinds ALONE with and without the plant-held flag; a CTL region reset in each role; an HST region reset of a module that drives and of one that waits; a block that has a reset and one that has none, with no block reset in progress and with one; no override in force; a CTL region reset that waits behind a handover, and one of a module whose counter block is quarantined. -/
theorem witness_region_resets :
    (∀ fl ∈ [0, 1], ∀ k ∈ [1, 2], let a := le k 8
      CritReady 9 8 1 (msg 9 fl a) (inRole .alone) ∧ critArgs (msg 9 fl a) = a ∧ critFlags (msg 9 fl a) = fl ∧ byteAt a 0 = k ∧ zeroAt a 1 7 = true) ∧
    (inRole .alone).glb.role = .alone ∧ bitOf 0 0 = false ∧ bitOf 1 0 = true ∧ act.glb.role = .active ∧ act.red.ho = none ∧ held.glb.role ≠ .active ∧ (let s := { act with red := { ho := some { cause := 5 } } }; s.red.ho ≠ none ∧ handoverAsked 3 0 s = false ∧ handoverAsked 7 0 s = false) ∧
    held.sc.quar = false ∧ { held with sc := { quar := true } }.sc.quar = true ∧ act.pf.flashAt = none ∧ drives act = true ∧ drives held = false ∧
    blkEligible 6 0 = true ∧ blkEligible 8 1 = true ∧ blkEligible 8 0 = false ∧ act.glb.blkBusy = none ∧ { act with glb := { blkBusy := some (6, 0, true) } }.glb.blkBusy ≠ none ∧ held.glb.ovr = [] ∧ held.sv.svLog = [] ∧ (inRole .safe).glb.role = .safe := by
  have e : ∀ fl ∈ [0, 1], ∀ k ∈ [1, 2], critCond (inRole .alone) 9 8 1 fl (le k 8) = true ∧ byteAt (le k 8) 0 = k ∧ zeroAt (le k 8) 1 7 = true := by decide +kernel
  exact ⟨fun fl hf k hk => ⟨(msg_ready (e fl hf k hk).1).1, (msg_ready (e fl hf k hk).1).2.1, (msg_ready (e fl hf k hk).1).2.2, (e fl hf k hk).2⟩, by decide +kernel⟩

/-- freeze_requests_by_role: FREEZE ALONE with and without the plant-held flag, at a STANDBY, at an ACTIVE module, and while one is pending; FREEZE_N high for 1 ms and not; THAW with none pending, and with one that waits for a handover of its own, with others behind it and with none, and of another. -/
theorem witness_freeze_requests :
    (∀ r ∈ [Role.alone, .standby, .active], ∀ fl ∈ [0, 1], CritReady 7 0 1 (msg 7 fl []) (inRole r) ∧ critFlags (msg 7 fl []) = fl ∧ (inRole r).dg.pend = 0 ∧ (inRole r).red.ho = none) ∧
    (CritReady 7 0 1 (msg 7 0 []) { held with dg := { pend := 1 } }) ∧
    (let s := { act with clock := 1000000 }
     freezeArmed s = true ∧ s.dg.freezeN = true ∧ running s = true ∧ s.dg.pend = 0 ∧ s.red.ho = none ∧ freezeArmed { act with clock := 999999 } = false ∧ freezeArmed { inRole .alone with clock := 1000000 } = true ∧ (let v := { State.reset with clock := 1000000 }; freezeArmed v = true ∧ v.glb.life = .rom ∧ v.dg.pend = 0 ∧ v.glb.role ≠ .alone ∧ v.glb.role ≠ .active)) ∧
    (CritReady 8 0 0 (msg 8 0 []) held ∧ held.dg.pend = 0) ∧
    ({ act with red := { ho := some { cause := 7 }, hoNext := [{ cause := 3 }, { cause := 7 }] } }.red.hoNext.filter (fun (h : HandoverSt) => h.cause != 7) = [{ cause := 3 }]) ∧
    (∀ c ∈ [7, 6], let s := { act with dg := { pend := 2 }, red := { ho := some { cause := c } } }
      CritReady 8 0 0 (msg 8 0 []) s ∧ s.dg.pend ≠ 0 ∧ s.red.ho = some { cause := c }) := by
  have e : ∀ r ∈ [Role.alone, .standby, .active], ∀ fl ∈ [0, 1], critCond (inRole r) 7 0 1 fl [] = true ∧ (inRole r).dg.pend = 0 ∧ (inRole r).red.ho = none := by decide +kernel
  have e' : ∀ c ∈ [7, 6], critCond { act with dg := { pend := 2 }, red := { ho := some { cause := c } } } 8 0 0 0 [] = true := by decide +kernel
  exact ⟨fun r hr fl hf => ⟨(msg_ready (e r hr fl hf).1).1, (msg_ready (e r hr fl hf).1).2.2, (e r hr fl hf).2⟩, (msg_ready (by decide +kernel)).1, by decide +kernel,
    ⟨(msg_ready (by decide +kernel)).1, by decide +kernel⟩, by decide +kernel, fun c hc => ⟨(msg_ready (e' c hc)).1, Nat.succ_ne_zero 1, rfl⟩⟩

/-- freeze_point_and_thaw and freeze_point_ends_swatches_and_schedules: a STANDBY whose freeze waits, with a running swatch, a scheduled pattern and a trial, and one in the ROM; a STANDBY frozen for 10 s, and for longer; an ALONE module frozen. -/
theorem witness_freeze_point :
    (∀ st ∈ [2, 3], let s := { inRole .standby with dg := { pend := 1 }, pf := { (inRole .standby).pf with st := st }, swt := { sw := [(0, { st := 2 })] } }
      running s = true ∧ s.dg.pend = 1 ∧ safePending s = false ∧ s.glb.role ≠ .active ∧ (swSt s 0).st = 2 ∧ (swSt s 3).st ≠ 2 ∧ s.pf.st = st ∧ critBlocked s = false ∧ (s.glb.life = .up)) ∧
    (let s := { State.reset with dg := { pend := 1 } }
     s.glb.life = .rom ∧ s.dg.pend = 1 ∧ safePending s = false ∧ s.glb.role ≠ .active ∧ s.began = false) ∧ (inRound .standby).began = true ∧
    (let s := { held with glb := { life := .frozen }, dg := { frozenRole := .standby, frozenAt := 7 }, clock := 10000000007 }
     s.glb.life = .frozen ∧ s.dg.frozenRole = .standby ∧ s.clock = s.dg.frozenAt + 10000000000 ∧ thawOk s = true ∧ critBlocked s = false ∧ s.sv.svLog = [] ∧ thawOk { s with clock := 10000000008 } = false) ∧
    (let s := { held with glb := { life := .frozen }, dg := { frozenRole := .alone } }
     s.dg.frozenRole ≠ .standby ∧ thawOk s = false) ∧ held.glb.life ≠ .frozen ∧
    (let s := { act with pf := { st := 3 } }
     running s = true ∧ s.pf.st = 3 ∧ s.pf.frog = none) := by decide +kernel

/-- test_access_port_shifts_registers: a running and a frozen module, the last word of a segment and the one past it. -/
theorem witness_tap :
    (let s := { held with glb := { life := .frozen }, dg := { scanKind := 1, scanIdx := 8, scanOff := 0x3FFFFF } }
     s.glb.life = .frozen ∧ s.dg.scanOff < segWords s s.dg.scanKind s.dg.scanIdx ∧ segWords s s.dg.scanKind s.dg.scanIdx ≤ 0x400000) ∧ held.glb.life ≠ .frozen := by decide +kernel

/-- register_writes_by_address: an unmapped and a misaligned address, an error register and its enables, the first and the last word of the user space, an override at a module that waits beside a driving partner, a part's register that it may touch and one it may not. -/
theorem witness_register_writes :
    mapped act 0x09000000 = false ∧ mapped act 0x9 = true ∧ 0x9 % 4 ≠ 0 ∧ errReg 0x8 = some (0x8, 0x3FF, false) ∧ mapped act 0x8 = true ∧ errReg 0xC = some (0x8, 0x3FF, true) ∧ mapped act 0xC = true ∧
    (mapped act (areaBase act 8) = true ∧ areaBase act 8 % 4 = 0 ∧ mapped act (hbmTop act - 4) = true ∧ areaBase act 8 ≤ hbmTop act - 4 ∧ (hbmTop act - 4) % 4 = 0) ∧
    (let s := { inRole .standby with red := { chainLast := some 0, partnerWord := 0x06000000#32 } }
     isOverride 0x1008000C = true ∧ s.glb.role = .standby ∧ partnerDrives s = true) ∧
    partMay 2 0x1000000 = true ∧ partMay 2 0x8 = false := by decide +kernel

/-- every_step_keeps_the_memories_canonical, every_step_goes_on and step_runs_the_front_command: a state in canonical form with a command in front; a module at rest and a command that does not act there. -/
theorem witness_machine :
    (let s := { State.reset with pending := [.roundBoundary, .idcode] }
     Memory.wf s.mem = true ∧ Memory.wf s.stage = true ∧ s.pending = .roundBoundary :: [.idcode] ∧ running s = false ∧ actsAtRest .roundBoundary = false) ∧ State.reset.pending = [] := by decide +kernel

/-- unauthenticated_commands_do_nothing: a CRITICAL message with a valid tag whose counter is not above the floor, and one of a peer whose key is absent. -/
theorem witness_unauthenticated :
    ∀ ks ∈ [({ ctrs := [(0, { floor := 1 })] } : KeyStore), { keys := [] }],
      let s := { act with ks := ks }
      critOf (.roleSwap (msg 6 0 [])) = some (6, msg 6 0 []) ∧ running s = true ∧ takeRequest 0x30 none (msg 6 0 []) s = (some peer0, takenIn 0 (msg 6 0 []) s) ∧ peerKey (takenIn 0 (msg 6 0 []) s) peer0 = some 0 ∧
        (keyOf (takenIn 0 (msg 6 0 []) s) 0 = [] ∨ unLe (tagCounter (msg 6 0 [])) ≤ (ctrSt (takenIn 0 (msg 6 0 []) s) 0).floor) := by
  intro ks hks
  have e : ∀ ks ∈ [({ ctrs := [(0, { floor := 1 })] } : KeyStore), { keys := [] }], let s := { act with ks := ks }
      engineSilent s = false ∧ senderOf s (msg 6 0 []) = some peer0 := by decide +kernel
  refine ⟨rfl, rfl, takeRequest_fresh (e ks hks).1 (e ks hks).2 (critMsg_crc _ _ _ _ _ _ _ _) rfl ?_ ?_ rfl rfl rfl ?_ (by simp [act, inRole]) (by simp) rfl rfl (by decide) (by decide), rfl, ?_⟩
  · exact (critMsg_length _ _ _ _ _ _ _ _).symm
  · show (critBody 6 0 (List.replicate 8 0#8) []).length + 24 ≤ 8920
    decide
  · exact Nat.zero_lt_succ 63
  · rw [show tagCounter (msg 6 0 []) = le 1 8 from critMsg_counter _ _ _ _ _ _ _ _]
    rcases List.mem_cons.mp hks with rfl | h
    · exact Or.inr (by decide)
    · rw [List.mem_singleton.mp h]
      exact Or.inl rfl

/-- advisory_condition_lapses and brown_out_restarts_uptime_and_wall: an advisory row, the first and the last of the manifold rows. -/
theorem witness_advisory : (∀ r ∈ [7, 32, 63], r = 7 ∨ (32 ≤ r ∧ r < 64)) ∧ rowCond (advRow 7 true State.reset) 7 = true := by decide +kernel

/-! ### Ill-formed commands: one for each check of WellFormed -/

/-- Each command breaks one check: a bus, a buffer, a message, a channel, a slot, a trace buffer, an engine, a unit, an address, a region, a plate, a comparator, a row, a rope, a pump, a frame kind, a pin, a path, a reason, a trigger, a criterion, a rate, a cause, a peer, a part, a restart cause, a rack, a clock, a stage, a page, a register address, an input, a group, a map. -/
theorem test_ill_formed :
    [Instr.txCommit 16 false, .pmLock 0 8, .txMessageMark 256, .tripReset 256, .swatchArm 4, .traceEnable 8, .engineQuarantined 8 [], .blockReset 15 0 true, .hbmUe (2 ^ 40), .regionReset 6, .forceDemoted 4096,
     .comparatorClears 16 0, .rowClearHold 64, .ropeStateChange 16 (0, 1), .dpArmed 8, .selvedgeFrameRepeat 4, .localiserTrigger (16, 0), .hbPathLost 3, .claimIssued 0, .dualActiveAbort 3 0, .qualificationLost 8,
     .linkUp 3 0, .linkDown 4 0 0, .dataLate 64 0, .eventExport 64, .firmwareReverted 0, .loopRestart 0, .bundleIncomplete 32 0, .clockFault 3, .thermalShed 3 0, .pstPageLoad 1024, .registerWrite (.peer 0) 2 0#32,
     .inputStale 65536, .sensorDisagree 65536, .outputFault 65536, .conditionPresent (.cmp 16 0), .conditionPresent (.row 64)].all (fun c => !c.wf) = true := by decide +kernel

/-- A datagram whose payload is too long or whose XID does not fit, a frame of 9 bytes in the classical format or with a 12-bit identifier, operations on a counter and of parties that do not exist. -/
theorem test_ill_formed_operands :
    [Instr.reg { xid := 2 ^ 32 }, .freeze { status := 2 ^ 32 }, .frameReceive 0 ({ data := List.replicate 9 0#8 }, 0), .frameReceive 0 ({ id := 2048 }, 0), .frameReceive 0 ({ fmt := 3 }, 0), .frameReceive 0 ({}, 7), .post { counter := 65536 },
     .take { party := .tile 144 }, .take { party := .engine 8 }, .take { limitUs := 0 }, .take { party := .peer 64 }].all (fun c => !c.wf) = true ∧
    (Instr.reg {}).wf = true ∧ (Instr.frameReceive 15 ({ xtd := true, id := 2 ^ 29 - 1, data := List.replicate 8 0#8 }, 0)).wf = true := by decide +kernel

/-- No row of the opcode table has bits, so no word spells a command. -/
theorem test_no_word_spells_a_command : decodeTableWord 32 0 = none ∧ State.reset.withFetchWord 32 0 = State.reset := ⟨rfl, rfl⟩

/-! ### Numbers, from the examples of chapters 02, 03, 05 and 15 -/

/-- Chapter 02, FP32 to FP8-E4M3: 0.3, 0.296875 (a tie), 500 (saturates) and NaN. -/
theorem test_fp8_example :
    encF fmtE4M3 (f32v 0x3E99999A#32) = (0x2A, false) ∧ encF fmtE4M3 (f32v 0x3E980000#32) = (0x2A, false) ∧ encF fmtE4M3 (f32v 0x43FA0000#32) = (0x7E, true) ∧
      encF fmtE4M3 (f32v 0x7FC00000#32) = (0x7F, false) := by decide +kernel

/-- Chapter 02, one MXFP4 block. -/
theorem test_mxfp4_example :
    (mxBlock 2 ([f32v 0x41700000#32, f32v 0x40A00000#32, f32v 0xC0266666#32, f32v 0x3E99999A#32] ++ List.replicate 28 (f32v 0#32))).1 = 0x80 ∧
      (mxBlock 2 ([f32v 0x41700000#32, f32v 0x40A00000#32, f32v 0xC0266666#32, f32v 0x3E99999A#32] ++ List.replicate 28 (f32v 0#32))).2.1.take 4 = [7, 4, 0xB, 0] := by decide +kernel

/-- Chapter 02, Q8.31 write-back. -/
theorem test_write_back_example : wb 0x92000000 = 0x7FFF ∧ wb 0x18000 = 2 ∧ wb 0x28000 = 2 ∧ (0x6000 * 0x4000 + 0x7000 * 0x7000) * 2 = (0x92000000 : Int) := by decide +kernel

/-- Chapter 03, fit of an oversized model. -/
theorem test_fit_example : fitK 1000 520 = 2 ∧ fitRate 1000 2 = 500 ∧ fitShort 1000 1000 520 240 1572864 = (220, 1441792) := by decide +kernel

/-- The words of a bank: B1_ON 77, B1_OFF 26, B2_ON 384, B2_OFF 256, STEP1 164, STEP2 1311, DWELL1 300, DWELL2 50, U_LO 0, U_HI 0x7FFF, DUAL. -/
def bank12 : List Nat := [77 + 26 * 65536, 384 + 256 * 65536, 164 + 1311 * 65536, 300 + 50 * 65536, 0x7FFF0000, 0, 0, 0x00010000]

/-- Chapter 05, tuning a supply-temperature channel: each row of the table, from the row before it. -/
theorem test_tuning_example :
    ([(0, 435, 13107), (2, 358, 14418), (2, 269, 15729), (2, 230, 17040), (1, 51, 17204), (1, 23, 17368)] : List (Nat × Int × Int)).map
      (fun r => let x := lawRun held bank12 { law := r.1, cnt := 0, e := r.2.1, acc := r.2.2 * 65536 } 12; (x.law, x.acc / 65536)) =
      [(2, 14418), (2, 15729), (2, 17040), (1, 17204), (1, 17368), (0, 17368)] ∧ bankCheck bank12 = none := by decide +kernel

/-- Chapter 05, one estimator round. -/
theorem test_estimator_example :
    (estRound { a := 16, kH := 12288, kS := 7680 } 5120 13107 { sacc := 805306368 }).sacc = 805332576 ∧ (estRound { a := 16, kH := 12288, kS := 7680 } 5120 13107 { sacc := 805306368 }).tH = 9728 ∧
      (estRound { a := 16, kH := 12288, kS := 7680 } 5120 13107 { sacc := 805306368 }).tS = 8000 := by decide +kernel

/-- Chapter 05: the output map of AOUT03 gives 4 + 16 × 0.530 mA at 17 368, and chapter 08: its readback of 12.4805 mA inverts to 17 368. -/
theorem test_map_example :
    mapInv { y := [0x40800000#32, 0x41A00000#32] } 0x4147B021#32 = 17368 ∧ milli (mapOut { y := [0x40800000#32, 0x41A00000#32] } 17368) = 12480 := by decide +kernel

/-! ### Single steps, from the spec's examples and tables -/

def after (c : Instr) (s : State) : Option State :=
  match step { s with pending := [c] } with
  | .next t => some t
  | _ => none

/-- Chapter 15, one 4–20 mA reading from pin to code. -/
def ain : State :=
  { held with pf := { st := 1, gaugeOk := true, gauge := [{ kind := 1, index := 2, gain := 0x3F801A37#32, offset := 0xBC449BA6#32 }]
                      force := { io := [{ kind := 1, index := 2, mode := 1, enable := true, b := 0x447A0000#32 }], inputs := [{ input := 2, invFs := 0x4203126F#32, rangeHi := 0x7FFF }] } }
              lp := { st := 2 } }

theorem test_ain_example : (after (.loopTick [{ input := 2, raw := 0x4159999A#32, code := 5 }]) ain).map (fun t => ((inSt t 2).code, (inSt t 2).unknown, t.tick)) = some (19659, false, 1) := by decide +kernel

/-- Chapter 12, a burst of one code: 20 records of 35, then one that carries 15 suppressed and leaves 2 tokens. -/
def burst : State := each (List.range 35) (fun _ s => emit 0x0201 0x3000 [] s) { held with clock := 1000000000, ev := { buckets := [(0x0201, { tokens := 20 * 65536, at_ := 1000000000 })] } }

theorem test_burst_example :
    burst.ev.ring.length = 20 ∧ tget burst.ev.supp 0x0201 = some 15 ∧
      (let t := emit 0x0201 0x3000 [] { burst with clock := 1030000000 }
       t.ev.ring.length = 21 ∧ t.ev.ring.getLast?.map (fun e => e.2.r.suppressed) = some 15 ∧ (tgetD t.ev.buckets 0x0201 {}).tokens = 2 * 65536) := by decide +kernel

/-- Chapter 08: slot B's claim after a lost partner is a pulse of 1 ms; a claim pulse of 1.0 ms is CLAIM_B. -/
theorem test_claim_example :
    (after (.claimIssued 1) { inRole .standby with clock := 10350000, red := { straps := 1, lost := true } }).map (·.link.pulses) = some [(2, 10350000, 11350000)] ∧ pulseClass 1000 = some 2 := by decide +kernel

/-- Chapter 08: the claim that found no answer ends after 20 ms, and B drives ALONE from the tick boundary that follows. -/
theorem test_takeover_example :
    (after .claimTimeout { inRole .standby with clock := 11350000, red := { straps := 1, lost := true }, link := { claim := .watching 10350000 } }).map (fun t => (t.clock, t.link.driveAt)) = some (30350000, some 30350000) ∧
    (after .takeover { inRole .standby with clock := 30350000, tickAt := 30400000, red := { straps := 1, lost := true }, link := { driveAt := some 30350000 } }).map (fun t => (t.clock, t.glb.role)) =
      some (30400000, .alone) := by decide +kernel

/-- Chapter 14, a 350 ms dip: the event gives 4120, 350 ms and stage 2. -/
theorem test_dip_example :
    (after (.supplyDipEnd 4600 4120) { act with clock := 350000000, pwr := { dip := true, dipMin := 4500, dipStage := 2, dipStageMax := 2 } }).map
      (fun t => (t.pwr.lastDipMin, t.pwr.lastDipDur, t.ev.ring.getLast?.map (fun e => e.2.r.args))) = some (4120, 350, some [4120#32, 350#32, 2#32]) := by decide +kernel

/-- Chapter 16: SCAN_SEL 0x0100_0100_0000_40C3, then two words of channel 12's accumulator at 17 368, VALID. -/
def scanState : State := { held with glb := { life := .frozen }, lp := { chans := [(12, { acc := 17368 * 65536 })] } }

theorem test_scan_example :
    (after (.scanSel 0x01000100000040C3#64) scanState).map (fun t => (t.dg.scanKind, t.dg.scanIdx, t.dg.scanOff)) = some (1, 1, 0x40C3) ∧
    (after .scanData { scanState with dg := { scanKind := 1, scanIdx := 1, scanOff := 0x40C3 } }).map (fun t => (t.dg.tdo, t.dg.scanOff)) = some (0x143D80000#64, 0x40C4) ∧
    (after .scanData { scanState with dg := { scanKind := 1, scanIdx := 1, scanOff := 0x40C4 } }).map (fun t => t.dg.tdo) = some 0x100000000#64 := by decide +kernel

/-- R461: IDCODE is 0x100287AF; after TRST_N the TAP holds IDCODE. -/
theorem test_idcode : (after .idcode State.reset).map (·.dg.tdo) = some 0x100287AF#64 ∧ (after .trstN scanState).map (·.dg.ir) = some 1 := by decide +kernel

/-- R25: CRC-32C (Castagnoli, reflected, inverted) of "123456789" is 0xE3069283. -/
theorem test_crc32c : crc32c [0x31#8, 0x32#8, 0x33#8, 0x34#8, 0x35#8, 0x36#8, 0x37#8, 0x38#8, 0x39#8] = 0xE3069283 := by decide +kernel

/-- The header and body of the ROLE_SWAP example of R326, the 56 bytes X. -/
theorem test_role_swap_bytes :
    hxpHeader { typ := 0x30, flags := 6, session := 3, length := 40, xid := 0xA5 } ++ critBody 6 0 [0x3A#8, 0x91#8, 0x0C#8, 0x57#8, 0xE2#8, 0x48#8, 0x1B#8, 0xD6#8] [] ++ le 4097 8 =
      [0x01#8, 0x30#8, 0x06#8, 0x00#8, 0x03#8, 0x00#8, 0x28#8, 0x00#8, 0xA5#8, 0x00#8, 0x00#8, 0x00#8, 0x00#8, 0x00#8, 0x01#8, 0x00#8] ++ List.replicate 16 0x00#8 ++
        [0x06#8, 0x00#8, 0x00#8, 0x00#8, 0x00#8, 0x00#8, 0x00#8, 0x00#8, 0x3A#8, 0x91#8, 0x0C#8, 0x57#8, 0xE2#8, 0x48#8, 0x1B#8, 0xD6#8, 0x01#8, 0x10#8] ++ List.replicate 6 0x00#8 ∧
      (bytepad (encodeString (List.replicate 32 0#8))).take 5 = [0x01#8, 0x88#8, 0x02#8, 0x01#8, 0x00#8] ∧ rightEncode 128 = [0x80#8, 0x01#8] := by decide +kernel

/-- A step runs the front command and leaves the rest; an empty queue idles. -/
theorem test_step : (match step { State.reset with pending := [.idcode, .scanCrc] } with | .next t => t.pending | _ => []) = [.scanCrc] ∧
    (match step State.reset with | .next t => t.clock | _ => 0) = 10 := by decide +kernel

/-- Chapter 11: a LIVE counter of 5 gives 3 to a TRY and has 2 left; a TRY of 6 would block. -/
theorem test_try :
    (after (.try_ { counter := 9, n := 3 }) { act with sc := { ctrs := [(9, { st := 1, val := 5 })] } }).map (fun t => ((ctr t 9).val, t.sc.localRes.map (·.2.1))) = some (2, [0]) ∧
    (after (.try_ { counter := 9, n := 6 }) { act with sc := { ctrs := [(9, { st := 1, val := 5 })] } }).map (fun t => ((ctr t 9).val, t.sc.localRes.map (·.2.1))) = some (5, [14]) := by decide +kernel

/-- R454: FREEZE_N low on a running ALONE module is refused (outcome 2); R418: a RESET_N reset leaves the module without a role, with reset cause 3. -/
theorem test_freeze_alone :
    (after (.freezeNFall 1000) { inRole .alone with clock := 1000000 }).map (fun t => (t.dg.pend, t.dg.outcome)) = some (0, 2) ∧ (after (.resetN 10) act).map (fun t => (t.glb.role, t.glb.rstCause)) = some (.none, 3) := by decide +kernel

/-- R434: an ALONE module shows ROLE green, a SAFE one amber at 4 Hz, none without VSAFE; a coil released with VSAFE present, although low, lights ALARM; a link at 400 Gbit/s flashes. -/
theorem test_lamps :
    ([Role.alone, .safe, .held].map (fun r => roleLamp { inRole r with pwr := { vsafeOk := true } })) = [.steady .green, .flashing .amber 4, .steady .amber] ∧ roleLamp held = .off ∧
      (alarmLamp { act with pwr := { vsafeOk := true }, sv := { rows := [(0, { st := 1 })] } }, alarmLamp { act with pwr := { vsafeOk := false, vsafe := 850 } }, alarmLamp { act with pwr := { vsafeOk := false } }) = (.steady .red, .steady .red, .off) ∧
      linkLamp { act with hl := { linkUp := true, rate := 1 } } = .flashing .green 1 := by decide +kernel

end Sys2Proof.Tests
end

section
/-! The statements of chapter 00: register requests (O33) and register writes by address (O52). -/

namespace Sys2Proof.Machine

/-! ### What a command of a running chip completes with -/

/-- A command that only a running chip takes completes there with its effect. -/
theorem does_of_live {c : Instr} {s : State} {f : State → State} {P : State → Prop} (hc : exec c s = live f s) (hr : running s = true)
    (h : P (f s)) : Does c s P :=
  ⟨f s, by rw [hc, live, if_pos hr], h⟩

/-! ### Byte memories in any form

The laws of the canonical form (`memRd_memWr` and its kin) without that form: a cell that stands twice is read at its first place, and it is there that a write puts it. -/

theorem memRd_memIns_ite (m : List Host.Cell) (a b : Nat) (v : BitVec 8) : memRd (memIns m a v) b = if b = a then v else memRd m b := by
  induction m with
  | nil => simp only [memIns, memRd, eq_comm]
  | cons c t ih =>
    obtain ⟨k, w⟩ := c
    by_cases hk : a = k
    · simp only [memIns, if_pos hk, memRd]
      grind
    · by_cases hlt : a < k
      · simp only [memIns, if_neg hk, if_pos hlt, memRd, eq_comm]
      · simp only [memIns, if_neg hk, if_neg hlt, memRd, ih]
        grind

/-- A byte read after a byte is written: the written one at its address, the old one elsewhere. -/
theorem memRd_memWr_ite (m : List Host.Cell) (a b : Nat) (v : BitVec 8) : memRd (memWr m a v) b = if b = a then v else memRd m b := by
  unfold memWr
  split
  · next hv =>
    split
    · next e => rw [e, memRd_filter_eq, hv]
    · next e => exact memRd_filter_ne m a b e
  · exact memRd_memIns_ite m a b v

/-- A byte outside a written string reads as before. -/
theorem memRd_memWrN_outside (m : List Host.Cell) (a b : Nat) (bs : Bytes) (hb : b < a ∨ a + bs.length ≤ b) : memRd (memWrN m a bs) b = memRd m b := by
  induction bs generalizing m a with
  | nil => rfl
  | cons v t ih =>
    rw [List.length_cons] at hb
    rw [memWrN, ih _ _ (by omega), memRd_memWr_ite, if_neg (by omega)]

/-- A byte inside a written string reads as written. -/
theorem memRd_memWrN_inside (m : List Host.Cell) (a i : Nat) (bs : Bytes) (hi : i < bs.length) : memRd (memWrN m a bs) (a + i) = bs[i] := by
  induction bs generalizing m a i with
  | nil => exact absurd hi (Nat.not_lt_zero _)
  | cons v t ih =>
    rw [memWrN]
    cases i with
    | zero => rw [memRd_memWrN_outside _ _ _ _ (by omega), memRd_memWr_ite, if_pos (by omega), List.getElem_cons_zero]
    | succ i => rw [List.getElem_cons_succ, ← ih (memWr m a v) (a + 1) i (by simpa using hi), Nat.add_assoc, Nat.add_comm 1 i]

/-- Byte `i` of a little-endian number (R11). -/
theorem le_getElem (n k i : Nat) (h : i < (le n k).length) : (le n k)[i] = BitVec.ofNat 8 (n / 256 ^ i) := by
  induction k generalizing n i with
  | zero => exact absurd h (Nat.not_lt_zero _)
  | succ k ih =>
    cases i with
    | zero => simp [le]
    | succ i => simp only [le, List.getElem_cons_succ, ih, Nat.div_div_eq_div_mul, Nat.pow_succ, Nat.mul_comm]

/-! ### The user and model space of the HBM (R58, R101) -/

theorem areaBase_succ (s : State) (i : Nat) : areaBase s (i + 1) = areaBase s i + areaMb s i * 0x100000 := by
  simp only [areaBase, List.range_succ, List.map_append, List.foldl_append, List.map_cons, List.map_nil, List.foldl_cons, List.foldl_nil, Nat.add_mul]
  omega

theorem areaBase_mono (s : State) {i j : Nat} (h : i ≤ j) : areaBase s i ≤ areaBase s j := by
  induction h with
  | refl => exact Nat.le_refl _
  | step _ ih => rw [areaBase_succ]; omega

theorem hbmBase_le_areaBase (s : State) (i : Nat) : hbmBase ≤ areaBase s i := Nat.le_add_right _ _

/-- The user and model space is area 8, the last one. -/
theorem areaOf_user {s : State} {a : Nat} (h : areaBase s 8 ≤ a) : areaOf s a = 8 := by
  have e : (List.range 9).filter (fun i => areaBase s i ≤ a) = List.range 9 := by
    rw [List.filter_eq_self]
    intro i hi
    have hi : i ≤ 8 := by simpa [Nat.lt_succ_iff] using hi
    exact decide_eq_true (Nat.le_trans (areaBase_mono s hi) h)
  unfold areaOf
  rw [e]
  rfl

/-- Above the areas of samples the memory keeps the bytes as they are. -/
theorem hbmFold_above {s : State} {a : Nat} (h : areaBase s 3 ≤ a) (bs : Bytes) : hbmFold s a bs = bs := by
  induction bs generalizing a with
  | nil => rfl
  | cons b t ih =>
    have e : ringMask s a = 0#8 := if_neg (by simp [h])
    rw [hbmFold, ih (by omega), e, BitVec.xor_zero]

/-- A word written into the user and model space enters the memory little-endian. -/
theorem hbmWrite_user {s : State} {a : Nat} (h : areaBase s 8 ≤ a) (v : Nat) : hbmWrite a v s = wok { s with mem := memWrN s.mem a (le v 4) } := by
  have h3 : areaBase s 3 ≤ a := Nat.le_trans (areaBase_mono s (by decide)) h
  unfold hbmWrite hbmPut
  rw [areaOf_user h, hbmFold_above h3]
  rfl

/-! ### The register space by address (R13, R35, R36) -/

/-- The ERR registers of the blocks that have one each. -/
def blockErrRegs : List Nat := [0x8, 0x1010, 0x100000C, 0x3000008, 0x4000008, 0x5000008, 0x6000008, 0x7000008, 0x8000008, 0x8100000, 0x16001008]

/-- An address outside the bus and region windows that is neither a block's ERR register nor the enable register beside it. -/
theorem errReg_eq_none {a : Nat} (h2 : windowOf a ≠ 2) (hfc : windowOf a < 0x10 ∨ 0x15 < windowOf a) (hl : ∀ r ∈ blockErrRegs, a ≠ r ∧ a ≠ r + 4) :
    errReg a = none := by
  unfold errReg
  dsimp only
  rw [if_neg h2, if_neg (by simp only [Bool.and_eq_true, decide_eq_true_eq]; omega)]
  have e : ∀ r ∈ blockErrRegs, (r == a || r + 4 == a) = false := fun r hr => by
    have := hl r hr
    simp only [Bool.or_eq_false_iff, beq_eq_false_iff_ne, ne_eq]
    omega
  simp only [blockErrRegs, List.forall_mem_cons] at e
  simp [e]

/-- No override register is an ERR register or an enable register. -/
theorem errReg_of_isOverride {a : Nat} (h : isOverride a = true) : errReg a = none := by
  unfold isOverride at h
  simp only [Bool.or_eq_true, Bool.and_eq_true, beq_iff_eq, decide_eq_true_eq] at h
  by_cases hfc : windowOf a = 0x10
  · obtain rfl | rfl | rfl : a = 0x1008000C ∨ a = 0x1010005C ∨ a = 0x1010006C := by
      unfold windowOf at *
      omega
    all_goals decide
  · unfold windowOf at *
    exact errReg_eq_none (by unfold windowOf; omega) (by unfold windowOf; omega) (by simp only [blockErrRegs, List.mem_cons, List.not_mem_nil, or_false, forall_eq_or_imp, forall_eq]; omega)

theorem errReg_hbm {a : Nat} (h : hbmBase ≤ a) : errReg a = none := by
  unfold hbmBase at h
  exact errReg_eq_none (by unfold windowOf; omega) (by unfold windowOf; omega) (by simp only [blockErrRegs, List.mem_cons, List.not_mem_nil, or_false, forall_eq_or_imp, forall_eq]; omega)

theorem isOverride_hbm {a : Nat} (h : hbmBase ≤ a) : isOverride a = false := by
  refine Bool.eq_false_iff.mpr fun ho => ?_
  unfold isOverride windowOf at ho
  simp only [Bool.or_eq_true, Bool.and_eq_true, beq_iff_eq, decide_eq_true_eq] at ho
  unfold hbmBase at h
  omega

theorem wrWindow_hbm {a : Nat} (h : hbmBase ≤ a) (p v : Nat) (s : State) : wrWindow p a v s = hbmWrite a v s := by
  have hw : 0x1000 ≤ windowOf a := by unfold windowOf; unfold hbmBase at h; omega
  unfold wrWindow
  dsimp only
  generalize windowOf a = w at hw
  iterate 8 rw [if_neg (by omega)]
  rw [if_neg (by simp only [Bool.and_eq_true, decide_eq_true_eq]; omega), if_neg (by omega)]

/-! ### A write by a host peer (R12 to R14, R36, R318) -/

theorem regWrite_unmapped {s : State} {a : Nat} (h : mapped s a = false) (p v : Nat) : regWrite p a v s = (stUnmapped, s) := by
  unfold regWrite
  rw [if_pos (by simp [h])]

/-- A misaligned address is answered by its status alone, whether it is mapped or not. -/
theorem regWrite_misaligned {a : Nat} (h : a % 4 ≠ 0) (p v : Nat) (s : State) : (regWrite p a v s).2 = s := by
  unfold regWrite
  split
  · rfl
  · rw [if_pos (by simp [h])]

/-- An override is denied to a module that waits beside a driving partner. -/
theorem regWrite_denied {s : State} {a : Nat} (h : isOverride a = true) (hr : s.glb.role = .held ∨ s.glb.role = .standby) (hp : partnerDrives s = true) (p v : Nat) :
    (regWrite p a v s).2 = s := by
  have e : (isOverride a && (s.glb.role == .held || s.glb.role == .standby) && partnerDrives s) = true := by simp [h, hr, hp]
  unfold regWrite
  rw [if_pos e]
  split
  · rfl
  split <;> rfl

/-- A word written at a mapped, aligned address that holds no override is put there, and nothing follows from it. -/
theorem regWrite_plain {s : State} {a : Nat} (hm : mapped s a = true) (ha : a % 4 = 0) (ho : isOverride a = false) (p : Nat) (v : Word) :
    regWrite p a v.toNat s = regPut p a v.toNat s := by
  unfold regWrite
  rw [if_neg (by simp [hm]), if_neg (by simp [ha]), if_neg (by simp [ho]), Nat.mod_eq_of_lt v.isLt, ho]
  rfl

/-- A written ERR or enable register is changed by `errWrite` alone. -/
theorem regWrite_errReg {s : State} {a r m : Nat} {irq : Bool} (he : errReg a = some (r, m, irq)) (hm : mapped s a = true) (ha : a % 4 = 0) (p : Nat) (v : Word) :
    (regWrite p a v.toNat s).2 = errWrite r m irq v.toNat s := by
  have ho : isOverride a = false := by
    cases h : isOverride a with
    | false => rfl
    | true => rw [errReg_of_isOverride h] at he; cases he
  rw [regWrite_plain hm ha ho, regPut, he]
  rfl

/-- A word written into the user and model space enters the memory little-endian, and nothing else changes. -/
theorem regWrite_user {s : State} {a : Nat} (h : areaBase s 8 ≤ a) (hm : mapped s a = true) (ha : a % 4 = 0) (p : Nat) (v : Word) :
    (regWrite p a v.toNat s).2 = { s with mem := memWrN s.mem a (le v.toNat 4) } := by
  have hb : hbmBase ≤ a := Nat.le_trans (hbmBase_le_areaBase s 8) h
  rw [regWrite_plain hm ha (isOverride_hbm hb), regPut, errReg_hbm hb]
  dsimp only
  rw [wrWindow_hbm hb, hbmWrite_user h]
  rfl

/-- A 1 written to a bit of an ERR register clears it. -/
theorem errVal_errWrite (r m v : Nat) (s : State) : errVal (errWrite r m false v s) r = errVal s r - Nat.land (errVal s r) (Nat.land v m) := by
  have h : errVal s r < 2 ^ 32 := (tgetD s.errs r 0#32).isLt
  simp only [errWrite, Bool.false_eq_true, if_false]
  conv => lhs; unfold errVal
  rw [tgetD_tset_eq, BitVec.toNat_ofNat, w1c, Nat.mod_eq_of_lt (by omega)]
  rfl

theorem errVal_errWrite_ne {r q : Nat} (h : q ≠ r) (m v : Nat) (s : State) : errVal (errWrite r m false v s) q = errVal s q := by
  simp [errWrite, errVal, tgetD_tset_ne _ _ _ _ _ h]

/-- An enable register takes of a word the bits that it has. -/
theorem irqEn_errWrite (r m : Nat) (v : Word) (s : State) : irqEn (errWrite r m true v.toNat s) r = Nat.land v.toNat m := by
  have h : Nat.land v.toNat m < 2 ^ 32 := Nat.lt_of_le_of_lt Nat.and_le_left v.isLt
  simp only [errWrite, irqEn, if_true, tget_tset_eq, BitVec.toNat_ofNat]
  exact Nat.mod_eq_of_lt h

theorem irqEn_errWrite_ne {r q : Nat} (h : q ≠ r) (m v : Nat) (s : State) : irqEn (errWrite r m true v s) q = irqEn s q := by
  simp only [errWrite, irqEn, if_true, tget_tset_ne _ _ _ _ h]

/-! ### O52 -/

/-- Settles O52: the write comes to one of `regWrite_unmapped`, `regWrite_misaligned`, `regWrite_denied`, `regWrite_errReg` and `regWrite_user`; a part's write is the access filter's choice between a peer's write and the block. -/
theorem registerWritesByAddress : Obligations.register_writes_by_address := by
  unfold Obligations.register_writes_by_address
  refine ⟨fun p a v s hr => does_of_live (f := fun s => (regWrite p a v.toNat s).2) rfl hr ⟨?unmapped, ?err, ?irq, ?user, ?denied⟩, ?blocked, ?allowed⟩
  case unmapped =>
    rintro (h | h)
    · rw [regWrite_unmapped h]
    · exact regWrite_misaligned h p _ s
  case err =>
    intro r m he hm ha
    rw [regWrite_errReg he hm ha]
    exact ⟨errVal_errWrite .., fun q hq => errVal_errWrite_ne hq .., rfl⟩
  case irq =>
    intro r m he hm ha
    rw [regWrite_errReg he hm ha]
    exact ⟨irqEn_errWrite .., fun q hq => irqEn_errWrite_ne hq .., rfl⟩
  case user =>
    intro h hm ha
    rw [regWrite_user h hm ha]
    refine ⟨fun i hi => ?_, fun b hb => ?_, rfl⟩
    · exact (memRd_memWrN_inside _ _ _ _ (by rw [le_length]; exact hi)).trans (le_getElem ..)
    · exact memRd_memWrN_outside _ _ _ _ (by rw [le_length]; exact hb)
  case denied =>
    intro h hrole hp
    exact regWrite_denied h hrole hp p _
  case blocked =>
    intro k a v s hk _ _
    show execRegisterWrite (.part k) a v s = execFirewallBlocked k a s
    unfold execRegisterWrite execFirewallBlocked
    simp [hk]
  case allowed =>
    intro k a v s hk
    show execRegisterWrite (.part k) a v s = execRegisterWrite (.peer 0xFFFF) a v s
    unfold execRegisterWrite
    simp [hk]

/-! ### Requests that have been taken in (R305, R324) -/

/-- The peer that a taken request is served for is the one its datagram was accepted from. -/
theorem accept_of_takeRequest {typ : Nat} {right : Option Nat} {d : Dgram} {s u : State} {p : PeerRec} (h : takeRequest typ right d s = (some p, u)) :
    ∃ v, accept typ d s = (some p, v) := by
  unfold takeRequest at h
  split at h
  · simp at h
  next q v e =>
  suffices hq : q = p from ⟨v, e.trans (by rw [hq])⟩
  split at h
  · simp at h
  split at h
  · simp at h
  split at h
  · split at h
    · exact Option.some.inj (congrArg Prod.fst h)
    · simp at h
  · exact Option.some.inj (congrArg Prod.fst h)

/-- An accepted datagram has no trailer or one whose TAG verifies (R324). -/
theorem tagGood_of_accept {typ : Nat} {d : Dgram} {s u : State} {p : PeerRec} (h : accept typ d s = (some p, u)) : tagGood s p d = true := by
  unfold accept at h
  split at h
  · simp at h
  split at h
  · simp at h
  split at h
  · simp at h
  split at h
  · simp at h
  split at h
  · simp at h
  next hg =>
  obtain ⟨rfl⟩ := Option.some.inj (congrArg Prod.fst h)
  simpa using hg

/-- A trailer whose TAG verifies is 24 bytes long (R306). -/
theorem trailer_length_of_tagGood {s : State} {p : PeerRec} {d : Dgram} (h : tagGood s p d = true) (ht : d.trailer ≠ []) : d.trailer.length = 24 := by
  unfold tagGood at h
  simp only [Bool.or_eq_true, Bool.and_eq_true, List.isEmpty_iff, beq_iff_eq, ht, false_or] at h
  have e := congrArg List.length h.2
  rw [tagOf_length, List.length_drop] at e
  omega

/-- A taken request has no trailer or one of 24 bytes. -/
theorem trailer_length_of_takeRequest {typ : Nat} {right : Option Nat} {d : Dgram} {s u : State} {p : PeerRec}
    (h : takeRequest typ right d s = (some p, u)) (ht : d.trailer ≠ []) : d.trailer.length = 24 :=
  have ⟨_, ha⟩ := accept_of_takeRequest h
  trailer_length_of_tagGood (tagGood_of_accept ha) ht

/-- Taking a request in leaves the module's life and role. -/
theorem takeRequest_glb {typ : Nat} {right : Option Nat} {d : Dgram} {s u : State} {p : Option PeerRec} (h : takeRequest typ right d s = (p, u)) :
    u.glb = s.glb := by
  have e := eq_glb (takeRequest_but' typ right d s)
  rwa [h] at e

/-! ### Answers (R305, R306, R324) -/

/-- The message that `answer` sends. -/
def answerMsg (peer : Nat) (d : Dgram) (status detail : Nat) (body : Bytes) (s : State) : Dgram :=
  tagResp s peer (d.trailer.take 8) (mkResp s d status detail body 0 0 1)

theorem answer_outbox (peer : Nat) (d : Dgram) (status detail : Nat) (body : Bytes) (s : State) :
    (answer peer d status detail body s).outbox = s.outbox ++ [answerMsg peer d status detail body s] := rfl

theorem answerMsg_status (peer : Nat) (d : Dgram) (status detail : Nat) (body : Bytes) (s : State) :
    (answerMsg peer d status detail body s).status = status % 256 + detail % 2 ^ 24 * 256 := by
  unfold answerMsg tagResp
  split <;> rfl

/-- The tag of a response is taken over the header as it is sent: the LENGTH that it covers counts the trailer. -/
theorem hxpHeader_retag (k ctr : Bytes) (r : Dgram) (hc : ctr.length = 8) :
    hxpHeader (retag k ctr r) = hxpHeader { r with flags := r.flags + 4, length := r.payload.length + 24 } := by
  have hl : (retag k ctr r).length = r.payload.length + 24 := by
    simp [retag, sealDgram, tagOf_length, hc]
  unfold hxpHeader
  rw [hl]
  rfl

/-- What `answer` sends answers the request, whose trailer holds a whole COUNTER where it has one. -/
theorem answerMsg_answers (peer : Nat) (d : Dgram) (status detail : Nat) (body : Bytes) (s : State) (hd : d.trailer ≠ [] → d.trailer.length = 24) :
    Answers s peer d body (answerMsg peer d status detail body s) := by
  unfold answerMsg tagResp
  split
  · next h =>
    refine ⟨rfl, rfl, rfl, fun _ => rfl, fun ht hk => ?_⟩
    simp [ht, hk] at h
  · next h =>
    simp only [Bool.or_eq_true, List.isEmpty_iff, List.take_eq_nil_iff, not_or] at h
    obtain ⟨⟨-, ht⟩, hk⟩ := h
    have hc : (d.trailer.take 8).length = 8 := by simp [hd ht]
    refine ⟨rfl, rfl, rfl, fun hn => absurd hn (by simp [ht, hk]), fun _ _ => ⟨?_, ?_⟩⟩
    · show bitOf 5 2 = true
      decide
    · unfold tagOf
      rw [hxpHeader_retag _ _ _ hc]
      rfl

/-! ### A read keeps the module's session -/

/-- Two host links that differ in the bits to be notified alone are in one session. -/
theorem HlKept.session {a b : HlSt} (h : HlKept a b) : b.session = a.session := by rw [h]

@[simp] theorem glbReadEff_session (off : Nat) (s : State) : (glbReadEff off s).hl.session = s.hl.session := congrArg _ (eq_hl (glbReadEff_but' off s))

@[simp] theorem lpReadEff_session (off : Nat) (s : State) : (lpReadEff off s).hl.session = s.hl.session := congrArg _ (eq_hl (lpReadEff_but' off s))

@[simp] theorem svReadEff_session (off : Nat) (s : State) : (svReadEff off s).hl.session = s.hl.session := congrArg _ (eq_hl (svReadEff_but' off s))

@[simp] theorem scReadEff_session (off : Nat) (s : State) : (scReadEff off s).hl.session = s.hl.session := congrArg _ (eq_hl (scReadEff_but' off s))

@[simp] theorem alReadEff_session (off : Nat) (s : State) : (alReadEff off s).hl.session = s.hl.session := congrArg _ (eq_hl (alReadEff_but' off s))

@[simp] theorem fcReadEff_session (k off : Nat) (s : State) : (fcReadEff k off s).hl.session = s.hl.session := congrArg _ (eq_hl (fcReadEff_but' k off s))

@[simp] theorem hlReadEff_session (off : Nat) (s : State) : (hlReadEff off s).hl.session = s.hl.session := by
  have hf : (fecRead s).hl = s.hl := eq_hl (fecRead_but' s)
  unfold hlReadEff
  dsimp only
  repeat' split
  all_goals simp only [hf]

@[simp] theorem pmLockOp_session (k i : Nat) (s : State) : (pmLockOp k i s).hl.session = s.hl.session := by
  unfold pmLockOp
  dsimp only
  split <;> rfl

@[simp] theorem pmUnlock_session (k i : Nat) (stale : Bool) (s : State) : (pmUnlock k i stale s).hl.session = s.hl.session := by
  unfold pmUnlock
  dsimp only
  split
  · exact (setErr_hlKept _ _ _).session
  · rfl

@[simp] theorem pmReleaseOp_session (k i : Nat) (s : State) : (pmReleaseOp k i s).hl.session = s.hl.session := by
  unfold pmReleaseOp
  dsimp only
  split
  · exact pmUnlock_session _ _ _ _
  · rfl

@[simp] theorem fbReadEff_session (k off : Nat) (s : State) : (fbReadEff k off s).hl.session = s.hl.session := by
  unfold fbReadEff
  dsimp only
  repeat' split
  all_goals simp only [setBus, pmLockOp_session, pmReleaseOp_session]

/-- The HI latch that a read may set lies outside the host link, and so does what a window clears, but for the link's own counters and the bits to be notified. -/
theorem regReadEff_session (a : Nat) (s : State) : (regReadEff a s).hl.session = s.hl.session := by
  unfold regReadEff
  dsimp only
  split
  all_goals
    repeat' split
    all_goals simp only [glbReadEff_session, lpReadEff_session, fbReadEff_session, svReadEff_session, scReadEff_session, hlReadEff_session, alReadEff_session,
      fcReadEff_session]

theorem regRead_session (a : Nat) (s : State) : (regRead a s).2.2.hl.session = s.hl.session := by
  unfold regRead
  split
  · rfl
  split
  · rfl
  · exact regReadEff_session a s

/-! ### REG (R318) -/

/-- A record that asks for a read by a peer with right 0 is answered with the read's status and value. -/
theorem regOne_read {p : PeerRec} {r : Bytes} (s : State) (ha : fld r 0 8 < 2 ^ 40) (hz : zeroAt r 10 2 = true) (hop : byteAt r 8 = 1) (hp : hasRight p 0 = true) :
    regOne p r s = (regEcho r (regRead (fld r 0 8) s).1 (regRead (fld r 0 8) s).2.1, (regRead (fld r 0 8) s).2.2) := by
  unfold regOne
  dsimp only
  rw [if_neg (by simp only [hz, hop, decide_eq_false (Nat.not_le.mpr ha)]; decide), if_pos hop, if_neg (by simp [hp])]

/-- A record that asks for a write by a peer with right 1 is answered with the write's status, unless the module is in SAFE. -/
theorem regOne_write {p : PeerRec} {r : Bytes} {s : State} (ha : fld r 0 8 < 2 ^ 40) (hz : zeroAt r 10 2 = true) (hop : byteAt r 8 = 2) (hp : hasRight p 1 = true)
    (hs : s.glb.role ≠ .safe) :
    regOne p r s = (regEcho r (regWrite p.index (fld r 0 8) (fld r 12 4) s).1 (fld r 12 4), (regWrite p.index (fld r 0 8) (fld r 12 4) s).2) := by
  unfold regOne
  dsimp only
  rw [if_neg (by simp only [hz, hop, decide_eq_false (Nat.not_le.mpr ha)]; decide), if_neg (by simp [hop]), if_neg (by simp [hp]), if_neg (by simp [hs])]

/-- A payload of one record is that record. -/
theorem recordsOf_single {n : Nat} {bs : Bytes} (hn : 0 < n) (h : bs.length = n) : recordsOf n bs = [bs] := by
  have e : bs.length / max 1 n = 1 := by rw [h, Nat.max_eq_right (by omega), Nat.div_self hn]
  unfold recordsOf
  rw [e]
  simp [← h]

theorem regAll_single (p : PeerRec) (r : Bytes) (s : State) : regAll p [r] s = regOne p r s := by simp [regAll]

/-- A REG of one record that leaves the session standing is answered OK with that record, on the state that the record's operation leaves, its service time noted. -/
theorem regCmd_single {d : Dgram} {s u : State} {p : PeerRec} (ht : takeRequest 0x10 none d s = (some p, u)) (hl : d.payload.length = 16)
    (hs : (regOne p d.payload (freshWord u).2).2.hl.session = u.hl.session) :
    ∃ h : HlSt, regCmd d s = answer p.index d stOk 0 (regOne p d.payload (freshWord u).2).1 { (regOne p d.payload (freshWord u).2).2 with hl := h } := by
  unfold regCmd withRequest
  rw [ht]
  dsimp only
  rw [if_neg (by simp [hl]), recordsOf_single (by decide) hl, regAll_single, if_neg (by simp [hs])]
  exact ⟨_, rfl⟩

/-- A REG of one record is answered once with OK and that record; the answer changes nothing but the link. -/
theorem reg_single_answered {raw d : Dgram} {s u : State} {p : PeerRec} (hr : running s = true) (hu : untag raw = d)
    (ht : takeRequest 0x10 none d s = (some p, u)) (hl : d.payload.length = 16) {b : Bytes} {v : State}
    (hv : regOne p d.payload (freshWord u).2 = (b, v)) (hs : v.hl.session = u.hl.session) :
    Does (.reg raw) s (fun t => ∃ m, t.outbox = v.outbox ++ [m] ∧ m.status = 0 ∧ Answers v p.index d b m ∧ SameBut [.hl, .outbox] v t) := by
  obtain ⟨h, e⟩ := regCmd_single ht hl (by rw [hv]; exact hs)
  rw [hv] at e
  refine does_of_live (f := fun s => regCmd (untag raw) s) rfl hr ?_
  rw [hu, e]
  refine ⟨answerMsg p.index d stOk 0 b { v with hl := h }, answer_outbox .., answerMsg_status .., ?_, ?_⟩
  · exact answerMsg_answers _ _ _ _ _ { v with hl := h } (trailer_length_of_takeRequest ht)
  · exact (answer_but' ..).trans rfl

/-! ### O33 -/

/-- Settles O33: one record runs one operation (`regOne`), which leaves the session of a read standing, and its answer carries the request's tag (`answerMsg_answers`). -/
theorem registerRequestsAreAnswered : Obligations.register_requests_are_answered := by
  unfold Obligations.register_requests_are_answered
  constructor
  · intro raw d s u p hr hu ht hl ha hz hop hp
    dsimp only
    obtain ⟨t, hx, m, ho, hm, hans, hbut⟩ := reg_single_answered hr hu ht hl (regOne_read _ ha hz hop hp) (regRead_session _ _)
    exact ⟨t, hx, m, ho.trans (by rw [eq_outbox (regRead_but' _ _)]; rfl), hm, hans, hbut⟩
  · intro raw d s u p hr hu ht hl ha hz hop hp hrole
    dsimp only
    intro hs
    have hsafe : (freshWord u).2.glb.role ≠ .safe := by rw [freshWord_glb, takeRequest_glb ht]; exact hrole
    exact reg_single_answered hr hu ht hl (regOne_write ha hz hop hp hsafe) hs

end Sys2Proof.Machine
end

section
/-! The statement of chapter 02 on tiles and spares: the placements of a t0 (O14). -/

namespace Sys2Proof.Machine

/-! ### Regions, tiles and plates as reads of the array's tables -/

theorem regSt_congr {s t : State} (h : t.fc.regions = s.fc.regions) (k : Nat) : regSt t k = regSt s k := by simp only [regSt, h]

theorem tileSt_congr {s t : State} (h : t.fc.regions = s.fc.regions) (k p : Nat) : tileSt t k p = tileSt s k p := by
  simp only [tileSt, regSt_congr h]

theorem tileUp_congr {s t : State} (h : t.fc.regions = s.fc.regions) (k p : Nat) : tileUp t k p = tileUp s k p := by
  simp only [tileUp, regSt_congr h, tileSt_congr h]

theorem plateRun_congr {s t : State} (h : t.fc.plates = s.fc.plates) (q : Nat) : plateRun t q = plateRun s q := by simp only [plateRun, h]

theorem allPlates_congr {s t : State} (h : t.pf = s.pf) : allPlates t = allPlates s := by simp only [allPlates, pat, h]

@[simp] theorem setTile_plates (k p : Nat) (x : TileSt) (s : State) : (setTile k p x s).fc.plates = s.fc.plates := rfl

@[simp] theorem setReg_plates (k : Nat) (x : RegionSt) (s : State) : (setReg k x s).fc.plates = s.fc.plates := rfl

theorem regSt_setTile_eq (k p : Nat) (x : TileSt) (s : State) :
    regSt (setTile k p x s) k = { regSt s k with tiles := tset (regSt s k).tiles p x } := regSt_setReg_eq _ _ _

theorem regSt_setTile_ne {j k : Nat} (p : Nat) (x : TileSt) (s : State) (h : j ≠ k) : regSt (setTile k p x s) j = regSt s j :=
  regSt_setReg_ne _ _ _ _ h

@[simp] theorem tileSt_setTile_eq (k p : Nat) (x : TileSt) (s : State) : tileSt (setTile k p x s) k p = x := by
  simp [tileSt, regSt_setTile_eq]

theorem tileSt_setTile_ne {j k p r : Nat} (x : TileSt) (s : State) (h : (j, r) ≠ (k, p)) : tileSt (setTile k p x s) j r = tileSt s j r := by
  by_cases e : j = k
  · subst e
    have hr : r ≠ p := fun e => h (by rw [e])
    simp only [tileSt, regSt_setTile_eq, tgetD_tset_ne _ _ _ _ _ hr]
  · simp only [tileSt, regSt_setTile_ne _ _ _ e]

/-- A region written with its own tiles leaves every tile. -/
theorem tileSt_setReg_tiles {k : Nat} {x : RegionSt} {s : State} (h : x.tiles = (regSt s k).tiles) (j p : Nat) :
    tileSt (setReg k x s) j p = tileSt s j p := by
  by_cases e : j = k
  · subst e
    simp only [tileSt, regSt_setReg_eq, h]
  · simp only [tileSt, regSt_setReg_ne _ _ _ _ e]

theorem sparesFree_congr {s t : State} (h : t.fc.spares = s.fc.spares) : sparesFree t = sparesFree s := by
  have e : spareFree t = spareFree s := funext fun i => by simp only [spareFree, h]
  rw [sparesFree, e, sparesFree]

theorem platesOn_eq_nil_iff (s : State) (k p : Nat) : platesOn s k p = [] ↔ ∀ q ∈ allPlates s, (plateRun s q).place ≠ some (k, p) := by
  simp [platesOn, List.filter_eq_nil_iff]

theorem mem_hosted {s : State} {k q : Nat} : q ∈ hosted s k ↔ q ∈ allPlates s ∧ ∃ p, (plateRun s q).place = some (k, p) := by
  simp only [hosted, List.mem_filter, and_congr_right_iff]
  intro _
  split
  · next j p e => simp [e]
  · next e => simp [e]

/-! ### Folds over positions and plates -/

/-- What a transformer brings about for its own element, and all of them keep for every element, holds of each element of the list. -/
theorem each_establishes {α : Type} {P : α → State → Prop} {f : α → State → State} (own : ∀ a s, P a (f a s))
    (kept : ∀ a b s, P b s → P b (f a s)) {l : List α} {a : α} (ha : a ∈ l) (s : State) : P a (each l f s) := by
  induction l generalizing s with
  | nil => cases ha
  | cons b l ih =>
    rw [each_cons]
    rcases List.mem_cons.mp ha with rfl | ha
    · exact each_keeps (P a) f (fun c t => kept c a t) l _ (own a s)
    · exact ih ha _

/-- A property that every element of the list keeps, the fold over the list keeps. -/
theorem each_keeps_mem {α : Type} {P : State → Prop} {f : α → State → State} {l : List α} (h : ∀ a ∈ l, ∀ s, P s → P (f a s)) {s : State} (hs : P s) :
    P (each l f s) := by
  induction l generalizing s with
  | nil => exact hs
  | cons a l ih =>
    rw [each_cons]
    exact ih (fun b hb => h b (List.mem_cons_of_mem a hb)) (h a List.mem_cons_self s hs)

theorem each_append {α : Type} (l r : List α) (f : α → State → State) (s : State) : each (l ++ r) f s = each r f (each l f s) := List.foldl_append

/-! ### A plate is demoted and moved (R64, R93, R94) -/

@[simp] theorem demoteZero_regions (c p : Nat) (s : State) : (demoteZero c p s).fc.regions = s.fc.regions := by
  unfold demoteZero demote zeroPlate
  dsimp only
  split
  · rw [emit_fc]; rfl
  · rfl

@[simp] theorem demoteZero_place (c p : Nat) (s : State) (q : Nat) : (plateRun (demoteZero c p s) q).place = (plateRun s q).place := by
  have hset : ∀ u : State, ∀ x : PlateRun, x.place = (plateRun u p).place → (plateRun (setPlate p x u) q).place = (plateRun u q).place := by
    intro u x hx
    by_cases e : q = p
    · rw [e, plateRun_setPlate_eq, hx]
    · rw [plateRun_setPlate_ne _ _ _ _ e]
  have hzero : (plateRun (zeroPlate p s) q).place = (plateRun s q).place := hset s _ rfl
  rw [← hzero]
  unfold demoteZero demote
  dsimp only
  split
  · rw [plateRun_congr (congrArg ArrSt.plates (emit_fc ..))]
    exact hset _ _ rfl
  · exact hset _ _ rfl

/-- Setting a plate's place after it was demoted: the plate stands there, every other plate where it stood. -/
theorem place_setPlate {p q : Nat} {x : PlateRun} {s : State} : (plateRun (setPlate p x s) q).place = if q = p then x.place else (plateRun s q).place := by
  split
  · next e => rw [e, plateRun_setPlate_eq]
  · next e => rw [plateRun_setPlate_ne _ _ _ _ e]

@[simp] theorem movePlate_regions (k p q : Nat) (s : State) : (movePlate k p q s).fc.regions = s.fc.regions := demoteZero_regions 3 q s

theorem movePlate_place (k t p q : Nat) (s : State) : (plateRun (movePlate k t p s) q).place = if q = p then some (k, t) else (plateRun s q).place := by
  simp only [movePlate, place_setPlate, demoteZero_place]

theorem tileFor_up {s : State} {k t : Nat} (h : tileFor s k = some t) : tileUp s k t = true := by
  unfold tileFor at h
  split at h
  · cases h
  · exact (List.mem_filter.mp (List.mem_of_find?_eq_some h)).2

@[simp] theorem moveInto_regions (k : Nat) (l : List Nat) (s : State) : (moveInto k l s).2.fc.regions = s.fc.regions := by
  induction l generalizing s with
  | nil => rfl
  | cons p l ih =>
    rw [moveInto]
    split
    · rw [ih, movePlate_regions]
    · rfl

@[simp] theorem tileUp_moveInto (k : Nat) (l : List Nat) (s : State) (j p : Nat) : tileUp (moveInto k l s).2 j p = tileUp s j p :=
  tileUp_congr (moveInto_regions k l s) j p

@[simp] theorem remapped_fc (k t rule target n : Nat) (s : State) : (remapped k t rule target n s).fc = s.fc := eq_fc (remapped_but' ..)

@[simp] theorem tileUp_remapped (k t rule target n : Nat) (s : State) (j p : Nat) : tileUp (remapped k t rule target n s) j p = tileUp s j p :=
  tileUp_congr (congrArg ArrSt.regions (remapped_fc ..)) j p

@[simp] theorem spread_regions (k t n : Nat) (l : List Nat) (s : State) : (spread k t n l s).2.fc.regions = s.fc.regions := by
  induction n generalizing l s with
  | zero => rfl
  | succ n ih =>
    rw [spread]
    split
    · rfl
    · split
      · rfl
      · dsimp only
        rw [ih, remapped_fc, moveInto_regions]

/-- A plate without a place: what `unplace` does to each of its plates. -/
def unplaceOne (k q : Nat) (s : State) : State :=
  setPlate q { plateRun (demoteZero 3 q s) q with place := none, fromReg := k } (demoteZero 3 q s)

theorem unplaceOne_place (k a q : Nat) (s : State) : (plateRun (unplaceOne k a s) q).place = if q = a then none else (plateRun s q).place := by
  simp only [unplaceOne, place_setPlate, demoteZero_place]

/-- The array after `unplace`: its plates one after another, and the note that a plate has no place. -/
theorem unplace_cons_fc (k p : Nat) (l : List Nat) (s : State) :
    (unplace k (p :: l) s).fc = { (each (p :: l) (unplaceOne k) s).fc with unplaced := true } := by
  rw [unplace, setErr_fc, emit_fc]
  rfl

@[simp] theorem unplace_regions (k : Nat) (l : List Nat) (s : State) : (unplace k l s).fc.regions = s.fc.regions := by
  cases l with
  | nil => rfl
  | cons p l =>
    rw [unplace_cons_fc]
    exact each_keeps (fun t => t.fc.regions = s.fc.regions) (unplaceOne k) (fun q u h => (demoteZero_regions 3 q u).trans h) _ _ rfl

/-! ### Plates leave a position without a tile (R64 rules 2 to 4) -/

/-- From `s` to `t`, where the plates `l` were to be moved and the plates `r` are left, no plate came to position `p` of region `j`; of `l`, only plates that are left still stand there. -/
def NoneCame (j p : Nat) (l r : List Nat) (s t : State) : Prop :=
  ∀ q, (plateRun t q).place = some (j, p) → (plateRun s q).place = some (j, p) ∧ (q ∈ l → q ∈ r)

theorem NoneCame.of_plates {j p : Nat} (l : List Nat) {s t : State} (h : t.fc.plates = s.fc.plates) : NoneCame j p l l s t :=
  fun q hq => ⟨by rwa [plateRun_congr h] at hq, id⟩

theorem NoneCame.trans {j p : Nat} {l r v : List Nat} {s t u : State} (h : NoneCame j p l r s t) (k : NoneCame j p r v t u) : NoneCame j p l v s u :=
  fun q hq => ⟨(h q (k q hq).1).1, fun hl => (k q hq).2 ((h q (k q hq).1).2 hl)⟩

/-- A plate that moves to another position. -/
theorem movePlate_noneCame {j p k t : Nat} (h : (k, t) ≠ (j, p)) (a : Nat) (l : List Nat) (s : State) : NoneCame j p (a :: l) l s (movePlate k t a s) := by
  intro q hq
  rw [movePlate_place] at hq
  split at hq
  · exact absurd (Option.some.inj hq) h
  · next e => exact ⟨hq, fun hl => (List.mem_cons.mp hl).resolve_left e⟩

theorem ne_of_tileUp {s : State} {j p k t : Nat} (hd : tileUp s j p = false) (hu : tileUp s k t = true) : (k, t) ≠ (j, p) := by
  rintro ⟨⟩
  rw [hd] at hu
  cases hu

theorem moveInto_noneCame {j p : Nat} (k : Nat) (l : List Nat) (s : State) (hd : tileUp s j p = false) :
    NoneCame j p l (moveInto k l s).1 s (moveInto k l s).2 := by
  induction l generalizing s with
  | nil => exact .of_plates [] rfl
  | cons a l ih =>
    rw [moveInto]
    split
    · next t ht =>
      refine (movePlate_noneCame (ne_of_tileUp hd (tileFor_up ht)) a l s).trans (ih _ ?_)
      rw [tileUp_congr (movePlate_regions ..), hd]
    · exact .of_plates _ rfl

theorem spread_noneCame {j p : Nat} (k t n : Nat) (l : List Nat) (s : State) (hd : tileUp s j p = false) :
    NoneCame j p l (spread k t n l s).1 s (spread k t n l s).2 := by
  induction n generalizing l s with
  | zero => exact .of_plates l rfl
  | succ n ih =>
    rw [spread]
    split
    · exact .of_plates l rfl
    · split
      · exact .of_plates l rfl
      · next i _ =>
        dsimp only
        refine (moveInto_noneCame i l s hd).trans (.trans (.of_plates _ (by rw [remapped_fc])) (ih _ _ ?_))
        rw [tileUp_remapped, tileUp_moveInto, hd]

theorem each_unplaceOne_noneCame {j p : Nat} (k : Nat) (l : List Nat) (s : State) : NoneCame j p l [] s (each l (unplaceOne k) s) := by
  induction l generalizing s with
  | nil => exact .of_plates [] rfl
  | cons a l ih =>
    rw [each_cons]
    refine .trans (r := l) ?_ (ih _)
    intro q hq
    rw [unplaceOne_place] at hq
    split at hq
    · cases hq
    · next e => exact ⟨hq, fun hl => (List.mem_cons.mp hl).resolve_left e⟩

theorem unplace_noneCame {j p : Nat} (k : Nat) (l : List Nat) (s : State) : NoneCame j p l [] s (unplace k l s) := by
  cases l with
  | nil => exact .of_plates [] rfl
  | cons a l => exact (each_unplaceOne_noneCame k (a :: l) s).trans (.of_plates [] (by rw [unplace_cons_fc]))

/-- Rules 3 and 4 in turn leave none of the plates at a position without a tile. -/
theorem spread_unplace_noneCame {j p : Nat} (k t n : Nat) (l : List Nat) (s : State) (hd : tileUp s j p = false) :
    NoneCame j p l [] s (unplace k (spread k t n l s).1 (spread k t n l s).2) :=
  (spread_noneCame k t n l s hd).trans (unplace_noneCame k _ _)

/-! ### One quarantined tile (R64) -/

/-- With a free spare: the lowest one serves the position, and no plate moves. -/
theorem remapTile_of_spare {s : State} {i : Nat} {rest : List Nat} (k t : Nat) (h : sparesFree s = i :: rest) :
    (remapTile k t s).fc = (setTile k t { tileSt s k t with phys := 144 + i, fresh := false, down := false, st := 1 }
      { s with fc.spares := tset s.fc.spares i { bound := some (k, t) } }).fc := by
  unfold remapTile
  rw [h]
  dsimp only
  split
  · rw [emit_fc, remapped_fc]
  · rw [remapped_fc]

/-- With no free spare: the position is left without a tile. -/
theorem remapTile_regions_of_none {s : State} (k t : Nat) (h : sparesFree s = []) :
    (remapTile k t s).fc.regions = (setTile k t { tileSt s k t with fresh := false, down := true } s).fc.regions := by
  unfold remapTile
  rw [h]
  dsimp only
  rw [unplace_regions, spread_regions]
  split
  · rw [remapped_fc, moveInto_regions]
  · rw [moveInto_regions]

/-- With no free spare the plates of the position leave it, and none comes to a position without a tile. -/
theorem remapTile_noneCame_of_none {s : State} {j p : Nat} (k t : Nat) (h : sparesFree s = [])
    (hd : tileUp (setTile k t { tileSt s k t with fresh := false, down := true } s) j p = false) :
    NoneCame j p (platesOn (setTile k t { tileSt s k t with fresh := false, down := true } s) k t) [] s (remapTile k t s) := by
  unfold remapTile
  rw [h]
  dsimp only
  generalize hu : setTile k t { tileSt s k t with fresh := false, down := true } s = u at hd ⊢
  have hp : u.fc.plates = s.fc.plates := by rw [← hu, setTile_plates]
  refine .trans (.of_plates _ hp) (.trans (moveInto_noneCame k _ u hd) ?_)
  split
  · refine .trans (.of_plates _ (by rw [remapped_fc])) (spread_unplace_noneCame k t _ _ _ ?_)
    rw [tileUp_remapped, tileUp_moveInto, hd]
  · refine spread_unplace_noneCame k t _ _ _ ?_
    rw [tileUp_moveInto, hd]

theorem tileSt_remapTile_ne {j k p t : Nat} (s : State) (h : (j, p) ≠ (k, t)) : tileSt (remapTile k t s) j p = tileSt s j p := by
  cases hs : sparesFree s with
  | cons i rest =>
    rw [tileSt_congr (congrArg ArrSt.regions (remapTile_of_spare k t hs)), tileSt_setTile_ne _ _ h]
    rfl
  | nil => rw [tileSt_congr (remapTile_regions_of_none k t hs), tileSt_setTile_ne _ _ h]

theorem tileSt_remapTile_of_spare {s : State} {i : Nat} {rest : List Nat} (k t : Nat) (h : sparesFree s = i :: rest) :
    tileSt (remapTile k t s) k t = { tileSt s k t with phys := 144 + i, fresh := false, down := false, st := 1 } := by
  rw [tileSt_congr (congrArg ArrSt.regions (remapTile_of_spare k t h)), tileSt_setTile_eq]

theorem tileSt_remapTile_of_none {s : State} (k t : Nat) (h : sparesFree s = []) :
    tileSt (remapTile k t s) k t = { tileSt s k t with fresh := false, down := true } := by
  rw [tileSt_congr (remapTile_regions_of_none k t h), tileSt_setTile_eq]

theorem remapTile_fresh (k t : Nat) (s : State) : (tileSt (remapTile k t s) k t).fresh = false := by
  cases hs : sparesFree s with
  | cons i rest => rw [tileSt_remapTile_of_spare k t hs]
  | nil => rw [tileSt_remapTile_of_none k t hs]

/-! ### Positions without a tile host no plate -/

/-- A position that has no tile hosts no plate. -/
def VacantIfDown (e : Nat × Nat) (s : State) : Prop := (tileSt s e.1 e.2).down = true → platesOn s e.1 e.2 = []

theorem tileUp_of_down {s : State} {k p : Nat} (h : (tileSt s k p).down = true) : tileUp s k p = false := by simp [tileUp, h]

/-- A position stays vacant where no plate comes to it. -/
theorem platesOn_nil_of_noneCame {s t : State} {j p : Nat} {l r : List Nat} (hpf : t.pf = s.pf) (hc : NoneCame j p l r s t) (h : platesOn s j p = []) :
    platesOn t j p = [] := by
  rw [platesOn_eq_nil_iff] at h ⊢
  rw [allPlates_congr hpf]
  exact fun q hq hp => h q hq (hc q hp).1

theorem remapTile_vacant (e : Nat × Nat) (s : State) : VacantIfDown e (remapTile e.1 e.2 s) := by
  intro hd
  cases hs : sparesFree s with
  | cons i rest =>
    rw [tileSt_remapTile_of_spare _ _ hs] at hd
    cases hd
  | nil =>
    have hpf : (remapTile e.1 e.2 s).pf = s.pf := eq_pf (remapTile_but' ..)
    have hc := remapTile_noneCame_of_none e.1 e.2 hs (tileUp_of_down (congrArg TileSt.down (tileSt_setTile_eq e.1 e.2 _ s)))
    rw [platesOn_eq_nil_iff, allPlates_congr hpf]
    intro q hq hp
    obtain ⟨hold, hleft⟩ := hc q hp
    exact List.not_mem_nil (hleft (List.mem_filter.mpr ⟨hq, by simpa [plateRun_congr (setTile_plates ..)] using hold⟩))

theorem remapTile_keeps_vacant (a e : Nat × Nat) (s : State) (h : VacantIfDown e s) : VacantIfDown e (remapTile a.1 a.2 s) := by
  by_cases he : e = a
  · rw [he]
    exact remapTile_vacant a s
  · intro hd
    have hpf : (remapTile a.1 a.2 s).pf = s.pf := eq_pf (remapTile_but' ..)
    rw [tileSt_remapTile_ne s he] at hd
    cases hs : sparesFree s with
    | cons i rest =>
      have hp : (remapTile a.1 a.2 s).fc.plates = s.fc.plates := by rw [remapTile_of_spare a.1 a.2 hs]; rfl
      exact platesOn_nil_of_noneCame hpf (.of_plates [] hp) (h hd)
    | nil =>
      refine platesOn_nil_of_noneCame hpf (remapTile_noneCame_of_none a.1 a.2 hs (tileUp_of_down ?_)) (h hd)
      rw [tileSt_setTile_ne _ _ he, hd]

/-! ### The plates of an offline region (R69) -/

/-- A region whose plates are placed elsewhere: it notes which plates left, and from where. -/
def movedOut (k : Nat) (s : State) : RegionSt :=
  { regSt s k with move := false, out := (hosted s k).map (fun p => (p, ((plateRun s p).place.getD (k, 0)).2)) }

theorem displace_of_move {k : Nat} {s : State} (h : (regSt s k).move = true) :
    ∃ n, displace k s = unplace k (spread k 0 n (hosted s k) (setReg k (movedOut k s) s)).1 (spread k 0 n (hosted s k) (setReg k (movedOut k s) s)).2 := by
  unfold displace
  rw [if_pos h]
  exact ⟨_, rfl⟩

theorem displace_of_not_move {k : Nat} {s : State} (h : (regSt s k).move = false) : displace k s = s := by
  rw [displace, h]
  rfl

theorem displace_regions_of_move {k : Nat} {s : State} (h : (regSt s k).move = true) :
    (displace k s).fc.regions = (setReg k (movedOut k s) s).fc.regions := by
  obtain ⟨n, e⟩ := displace_of_move h
  rw [e, unplace_regions, spread_regions]

theorem tileSt_displace (k j p : Nat) (s : State) : tileSt (displace k s) j p = tileSt s j p := by
  cases h : (regSt s k).move with
  | true => rw [tileSt_congr (displace_regions_of_move h), tileSt_setReg_tiles (x := movedOut k s) rfl]
  | false => rw [displace_of_not_move h]

theorem displace_move (k : Nat) (s : State) : (regSt (displace k s) k).move = false := by
  cases h : (regSt s k).move with
  | true =>
    rw [regSt_congr (displace_regions_of_move h), regSt_setReg_eq]
    rfl
  | false => rw [displace_of_not_move h, h]

theorem displace_keeps_move (k j : Nat) (s : State) (hj : (regSt s j).move = false) : (regSt (displace k s) j).move = false := by
  cases h : (regSt s k).move with
  | true =>
    have e : j ≠ k := fun e => by rw [e, h] at hj; cases hj
    rw [regSt_congr (displace_regions_of_move h), regSt_setReg_ne _ _ _ _ e, hj]
  | false => rw [displace_of_not_move h, hj]

theorem displace_keeps_vacant (k : Nat) (e : Nat × Nat) (s : State) (hv : VacantIfDown e s) : VacantIfDown e (displace k s) := by
  intro hd
  rw [tileSt_displace] at hd
  have hpf : (displace k s).pf = s.pf := eq_pf (displace_but' ..)
  refine platesOn_nil_of_noneCame (l := hosted s k) (r := hosted s k) hpf ?_ (hv hd)
  cases h : (regSt s k).move with
  | true =>
    have hdown : tileUp (setReg k (movedOut k s) s) e.1 e.2 = false := tileUp_of_down (by rw [tileSt_setReg_tiles (x := movedOut k s) rfl, hd])
    obtain ⟨n, eq⟩ := displace_of_move h
    rw [eq]
    exact fun q hq => ⟨(spread_unplace_noneCame k 0 n _ _ hdown q hq).1, id⟩
  | false => exact .of_plates _ (by rw [displace_of_not_move h])

/-! ### All positions in turn (R65) -/

/-- The positions that wait for their remap, in order of region and tile. -/
def waiting (s : State) : List (Nat × Nat) :=
  (List.range (regionCount s)).flatMap (fun k => ((List.range 24).filter (fun t => (tileSt s k t).fresh)).map (fun t => (k, t)))

/-- A quarantine no longer counts as waiting: the first pass of `remapAll`. -/
def clearFresh (e : Nat × Nat) (s : State) : State := setTile e.1 e.2 { tileSt s e.1 e.2 with fresh := false } s

theorem remapAll_eq (s : State) : remapAll s = each (waiting s) (fun e => remapTile e.1 e.2) (each (waiting s) clearFresh s) := rfl

theorem mem_waiting {s : State} {k p : Nat} : (k, p) ∈ waiting s ↔ k < regionCount s ∧ p < 24 ∧ (tileSt s k p).fresh = true := by
  simp [waiting]

/-- Position `a` comes before `b` in order of region and tile. -/
def Before (a b : Nat × Nat) : Prop := a.1 < b.1 ∨ (a.1 = b.1 ∧ a.2 < b.2)

theorem waiting_pairwise (s : State) : (waiting s).Pairwise Before := by
  unfold waiting
  rw [List.pairwise_flatMap]
  constructor
  · intro k _
    rw [List.pairwise_map]
    exact (List.pairwise_lt_range.filter _).imp (fun h => Or.inr ⟨rfl, h⟩)
  · refine List.pairwise_lt_range.imp fun {a b} h => ?_
    simp only [List.mem_map]
    rintro _ ⟨x, _, rfl⟩ _ ⟨y, _, rfl⟩
    exact Or.inl h

/-- The first waiting position heads the list, and no other entry is that position. -/
theorem waiting_head {s : State} {k p : Nat} (hm : (k, p) ∈ waiting s)
    (hmin : ∀ k' p', k' < regionCount s → p' < 24 → (tileSt s k' p').fresh = true → k < k' ∨ (k = k' ∧ p ≤ p')) :
    ∃ l, waiting s = (k, p) :: l ∧ (k, p) ∉ l := by
  have hord := waiting_pairwise s
  cases hw : waiting s with
  | nil => rw [hw] at hm; cases hm
  | cons a l =>
    rw [hw, List.pairwise_cons] at hord
    obtain ⟨hk, hp, hf⟩ := mem_waiting.mp (show (a.1, a.2) ∈ waiting s by rw [hw]; exact List.mem_cons_self)
    have hle := hmin a.1 a.2 hk hp hf
    rw [hw] at hm
    rcases List.mem_cons.mp hm with e | hl
    · subst e
      refine ⟨l, rfl, fun hl => ?_⟩
      have := hord.1 _ hl
      simp [Before] at this
    · have := hord.1 _ hl
      simp only [Before] at this
      omega

theorem clearFresh_fresh (e : Nat × Nat) (s : State) : (tileSt (clearFresh e s) e.1 e.2).fresh = false := by
  rw [clearFresh, tileSt_setTile_eq]

/-- A position that does not wait does not come to wait in either pass. -/
theorem clearFresh_keeps (a e : Nat × Nat) (s : State) (h : (tileSt s e.1 e.2).fresh = false) : (tileSt (clearFresh a s) e.1 e.2).fresh = false := by
  by_cases he : e = a
  · rw [he, clearFresh_fresh]
  · rw [clearFresh, tileSt_setTile_ne _ _ he, h]

theorem remapTile_keeps_fresh (a e : Nat × Nat) (s : State) (h : (tileSt s e.1 e.2).fresh = false) : (tileSt (remapTile a.1 a.2 s) e.1 e.2).fresh = false := by
  by_cases he : e = a
  · rw [he, remapTile_fresh]
  · rw [tileSt_remapTile_ne s he, h]

theorem remapAll_fresh {s : State} {k p : Nat} (hk : k < regionCount s) (hp : p < 24) : (tileSt (remapAll s) k p).fresh = false := by
  rw [remapAll_eq]
  have kept := each_keeps (fun u => (tileSt u k p).fresh = false) _ (fun a u => remapTile_keeps_fresh a (k, p) u) (waiting s)
  refine kept _ ?_
  cases hf : (tileSt s k p).fresh with
  | false => exact each_keeps (fun u => (tileSt u k p).fresh = false) _ (fun a u => clearFresh_keeps a (k, p) u) _ _ hf
  | true =>
    exact each_establishes (P := fun e u => (tileSt u e.1 e.2).fresh = false) clearFresh_fresh clearFresh_keeps (mem_waiting.mpr ⟨hk, hp, hf⟩) s

/-- The first waiting position takes the lowest free spare. -/
theorem remapAll_first {s : State} {k p i : Nat} {rest : List Nat} (hm : (k, p) ∈ waiting s)
    (hmin : ∀ k' p', k' < regionCount s → p' < 24 → (tileSt s k' p').fresh = true → k < k' ∨ (k = k' ∧ p ≤ p')) (hs : sparesFree s = i :: rest) :
    (tileSt (remapAll s) k p).phys = 144 + i ∧ (tileSt (remapAll s) k p).st = 1 ∧ (tileSt (remapAll s) k p).down = false := by
  obtain ⟨l, hw, hl⟩ := waiting_head hm hmin
  rw [remapAll_eq]
  have hsame : (each (waiting s) clearFresh s).fc.spares = s.fc.spares := each_keeps (fun u => u.fc.spares = s.fc.spares) clearFresh (fun _ _ h => h) _ _ rfl
  have hspare : sparesFree (each (waiting s) clearFresh s) = i :: rest := by rw [sparesFree_congr hsame, hs]
  generalize each (waiting s) clearFresh s = u at hspare ⊢
  rw [hw, each_cons]
  have kept : tileSt (each l (fun e => remapTile e.1 e.2) (remapTile k p u)) k p = tileSt (remapTile k p u) k p :=
    each_keeps_mem (P := fun v => tileSt v k p = tileSt (remapTile k p u) k p)
      (fun a ha v h => (tileSt_remapTile_ne v (fun e => hl (by rw [e]; exact ha))).trans h) rfl
  rw [kept, tileSt_remapTile_of_spare k p hspare]
  exact ⟨rfl, rfl, rfl⟩

theorem remapAll_vacant {s : State} {k p : Nat} (hm : (k, p) ∈ waiting s) : VacantIfDown (k, p) (remapAll s) := by
  rw [remapAll_eq]
  exact each_establishes (P := VacantIfDown) (f := fun e => remapTile e.1 e.2) remapTile_vacant remapTile_keeps_vacant hm _

/-! ### FC_DEGRADED (R105) -/

/-- FC_DEGRADED brought up to date: its value alone changes in the array. -/
theorem updateDegraded_fc (s : State) : (updateDegraded s).fc = { s.fc with degraded := degradedBits s } := by
  unfold updateDegraded
  dsimp only
  split
  · rw [emit_fc]
  · split
    · rw [emit_fc]
    · rfl

theorem updateDegraded_regions (s : State) : (updateDegraded s).fc.regions = s.fc.regions := by rw [updateDegraded_fc]

theorem updateDegraded_plates (s : State) : (updateDegraded s).fc.plates = s.fc.plates := by rw [updateDegraded_fc]

theorem updateDegraded_degraded (s : State) : (updateDegraded s).fc.degraded = degradedBits (updateDegraded s) := by
  simp only [degradedBits, updateDegraded_fc]

/-! ### O14 -/

/-- Every tile stands after TILE_REMAP as the remaps left it. -/
theorem tileSt_placements (s : State) (k p n : Nat) :
    tileSt (updateDegraded (each (List.range n) displace (remapAll s))) k p = tileSt (remapAll s) k p := by
  rw [tileSt_congr (updateDegraded_regions _)]
  exact each_keeps (fun u => tileSt u k p = tileSt (remapAll s) k p) _ (fun j u h => (tileSt_displace j k p u).trans h) _ _ rfl

/-- Settles O14: a remap changes the tile of its own position alone (`tileSt_remapTile_ne`) and `displace` no tile; plates move to positions in service only (`NoneCame`), so that a position without a tile stays vacant once its own remap has emptied it. -/
theorem tilesTakeTheLowestFreeSpare : Obligations.tiles_take_the_lowest_free_spare := by
  unfold Obligations.tiles_take_the_lowest_free_spare
  intro s hr
  have hexec : exec .tileRemap s = live (fun s => updateDegraded (each (List.range (regionCount s)) displace (remapAll s))) s := rfl
  refine does_of_live hexec hr ⟨?_, ?_, ?_, ?_, updateDegraded_degraded _, ?_⟩
  · intro k p hk hp
    rw [tileSt_placements, remapAll_fresh hk hp]
  · intro k hk
    rw [regSt_congr (updateDegraded_regions _)]
    exact each_establishes (P := fun j u => (regSt u j).move = false) displace_move displace_keeps_move (List.mem_range.mpr hk) _
  · intro k p i rest hk hp hf hmin hs
    rw [tileSt_placements]
    exact remapAll_first (mem_waiting.mpr ⟨hk, hp, hf⟩) hmin hs
  · intro k p hk hp hf hd
    have hv := each_keeps (VacantIfDown (k, p)) displace (fun j u h => displace_keeps_vacant j (k, p) u h) (List.range (regionCount s)) _
      (remapAll_vacant (mem_waiting.mpr ⟨hk, hp, hf⟩))
    rw [tileSt_congr (updateDegraded_regions _)] at hd
    exact platesOn_nil_of_noneCame (eq_pf (updateDegraded_but' _)) (.of_plates [] (updateDegraded_plates _)) (hv hd)
  · exact (updateDegraded_but (by decide) _).trans ((each_but (fun k u => displace_but (by decide) k u) _ _).trans (remapAll_but (by decide) s))

end Sys2Proof.Machine
end

section
/-! The statement of chapter 02 on regions: a region's loss, its reset and its return (O15). -/

namespace Sys2Proof.Machine

/-! ### Plates on the fallback estimator (R26, R69) -/

/-- A plate on the fallback estimator: what `toFallback` makes of each of its plates. -/
def onFallback (x : PlateRun) : PlateRun := { x with run := none, fallback := true }

theorem plateRun_toFallback (l : List Nat) (s : State) (q : Nat) :
    plateRun (toFallback l s) q = if q ∈ l then onFallback (plateRun s q) else plateRun s q := by
  induction l generalizing s with
  | nil => rfl
  | cons p l ih =>
    have step : toFallback (p :: l) s = toFallback l (setPlate p (onFallback (plateRun s p)) s) := rfl
    rw [step, ih]
    by_cases e : q = p
    · subst e
      rw [plateRun_setPlate_eq, if_pos List.mem_cons_self]
      exact ite_id _
    · rw [plateRun_setPlate_ne _ _ _ _ e]
      simp only [List.mem_cons, e, false_or]

@[simp] theorem toFallback_regions (l : List Nat) (s : State) : (toFallback l s).fc.regions = s.fc.regions :=
  each_keeps (fun t => t.fc.regions = s.fc.regions) (fun p t => setPlate p (onFallback (plateRun t p)) t) (fun _ _ h => h) l s rfl

/-! ### A region goes offline (R69) -/

/-- A tile of a region that goes offline: a serving one is off, a quarantine that waits is left without a tile. -/
def tileOff (x : TileSt) : TileSt := if x.down || x.fresh then { x with down := true, fresh := false } else { x with st := 0 }

/-- A region that is offline. -/
def regionOff (x : RegionSt) : RegionSt := { x with st := 3, move := true, tiles := tmap x.tiles tileOff }

theorem regionOffline_fc (cause : Nat) {k : Nat} {s : State} (hk : k < regionCount s) (h3 : (regSt s k).st ≠ 3) (h4 : (regSt s k).st ≠ 4) :
    (regionOffline k cause s).fc = (setReg k (regionOff (regSt s k)) (toFallback (hosted s k) s)).fc := by
  unfold regionOffline
  dsimp only
  rw [if_neg (by simp [h3, h4, hk]), eq_fc (settleMsgs_but' _), eq_fc (dropOwners_but' ..), setErr_fc, emit_fc]
  rfl

theorem regionOffline_of_offline (k cause : Nat) {s : State} (h : (regSt s k).st = 3) : regionOffline k cause s = s := by
  simp [regionOffline, h]

theorem regSt_regionOffline_eq (cause : Nat) {k : Nat} {s : State} (hk : k < regionCount s) (h3 : (regSt s k).st ≠ 3) (h4 : (regSt s k).st ≠ 4) :
    regSt (regionOffline k cause s) k = regionOff (regSt s k) := by
  rw [regSt_congr (congrArg ArrSt.regions (regionOffline_fc cause hk h3 h4)), regSt_setReg_eq]

theorem regSt_regionOffline_ne (cause : Nat) {j k : Nat} (s : State) (h : j ≠ k) : regSt (regionOffline k cause s) j = regSt s j := by
  by_cases hc : (regSt s k).st ≠ 3 ∧ (regSt s k).st ≠ 4 ∧ k < regionCount s
  · obtain ⟨h3, h4, hk⟩ := hc
    rw [regSt_congr (congrArg ArrSt.regions (regionOffline_fc cause hk h3 h4)), regSt_setReg_ne _ _ _ _ h, regSt_congr (toFallback_regions ..)]
  · rw [regionOffline, if_pos]
    simp only [Bool.or_eq_true, decide_eq_true_eq]
    omega

theorem plateRun_regionOffline (cause : Nat) {k : Nat} {s : State} (hk : k < regionCount s) (h3 : (regSt s k).st ≠ 3) (h4 : (regSt s k).st ≠ 4) (q : Nat) :
    plateRun (regionOffline k cause s) q = if q ∈ hosted s k then onFallback (plateRun s q) else plateRun s q := by
  rw [plateRun_congr (congrArg ArrSt.plates (regionOffline_fc cause hk h3 h4)), plateRun_congr (setReg_plates ..), plateRun_toFallback]

/-- A tile that the region lists, once its region's tiles have been mapped. -/
theorem tgetD_tmap_of_some {t : Tab TileSt} {p : Nat} {x : TileSt} (f : TileSt → TileSt) (h : tget t p = some x) : tgetD (tmap t f) p {} = f x := by
  rw [tgetD, tget_tmap, h]
  rfl

/-! ### A region reset begins (R70) -/

/-- A tile of a region that resets. -/
def tileReset (x : TileSt) : TileSt := { x with st := 6, err := 0, cell := 0, resend := 0 }

/-- A region that resets. -/
def regionCleared (x : RegionSt) : RegionSt := { x with st := 4, ce := 0, ue := 0, cell := 0, resend := 0, tiles := tmap x.tiles tileReset }

theorem regionResetOp_fc {k : Nat} {s : State} (hk : k < regionCount s) (h4 : (regSt s k).st ≠ 4)
    (h : drives s = false ∨ (regSt s k).st ≠ 2 ∨ lastRegion s k = false) :
    (regionResetOp k s).fc = (setReg k (regionCleared (regSt (regionOffline k 3 s) k)) (regionOffline k 3 s)).fc := by
  unfold regionResetOp
  dsimp only
  rw [if_neg, emit_fc]
  · rfl
  · simp only [Bool.or_eq_true, Bool.and_eq_true, decide_eq_true_eq]
    rintro ((h' | hk') | ⟨⟨hd, h2⟩, hl⟩)
    · exact h4 h'
    · exact absurd hk (Nat.not_lt.mpr hk')
    · simp [hd, h2, hl] at h

theorem regionResetOp_last {k : Nat} {s : State} (hd : drives s = true) (h2 : (regSt s k).st = 2) (hl : lastRegion s k = true) : regionResetOp k s = s := by
  simp [regionResetOp, hd, h2, hl]

theorem tileOff_phys (x : TileSt) : (tileOff x).phys = x.phys := by
  unfold tileOff
  split <;> rfl

/-- A tile that is off has a position without a tile exactly where it had none before, or waited for one. -/
theorem tileOff_waits (x : TileSt) : (tileOff x).down = (x.down || x.fresh) ∧ (tileOff x).fresh = false := by
  unfold tileOff
  split
  · next h => exact ⟨h.symm, rfl⟩
  · next h =>
    simp only [Bool.or_eq_true, not_or, Bool.not_eq_true] at h
    simp [h]

theorem plateRun_regionOffline_of_notHosted (cause : Nat) {k : Nat} {s : State} {q : Nat} (hk : k < regionCount s) (h4 : (regSt s k).st ≠ 4) (hq : q ∉ hosted s k) :
    plateRun (regionOffline k cause s) q = plateRun s q := by
  by_cases h3 : (regSt s k).st = 3
  · rw [regionOffline_of_offline k cause h3]
  · rw [plateRun_regionOffline cause hk h3 h4, if_neg hq]

section
variable {k : Nat} {s : State} (hk : k < regionCount s) (h4 : (regSt s k).st ≠ 4) (h : drives s = false ∨ (regSt s k).st ≠ 2 ∨ lastRegion s k = false)
include hk h4 h

theorem regSt_regionResetOp_eq : regSt (regionResetOp k s) k = regionCleared (regSt (regionOffline k 3 s) k) := by
  rw [regSt_congr (congrArg ArrSt.regions (regionResetOp_fc hk h4 h)), regSt_setReg_eq]

theorem regSt_regionResetOp_ne {j : Nat} (hj : j ≠ k) : regSt (regionResetOp k s) j = regSt s j := by
  rw [regSt_congr (congrArg ArrSt.regions (regionResetOp_fc hk h4 h)), regSt_setReg_ne _ _ _ _ hj, regSt_regionOffline_ne 3 s hj]

theorem plateRun_regionResetOp (q : Nat) : plateRun (regionResetOp k s) q = plateRun (regionOffline k 3 s) q := by
  rw [plateRun_congr (congrArg ArrSt.plates (regionResetOp_fc hk h4 h)), plateRun_congr (setReg_plates ..)]

/-- A tile under a region reset: it resets as it stands in a region that is offline already, and as the region's loss leaves it elsewhere. -/
theorem tileSt_regionResetOp {p : Nat} {x : TileSt} (hx : tget (regSt s k).tiles p = some x) :
    tileSt (regionResetOp k s) k p = tileReset (if (regSt s k).st = 3 then x else tileOff x) := by
  rw [tileSt, regSt_regionResetOp_eq hk h4 h]
  refine tgetD_tmap_of_some tileReset ?_
  split
  · next h3 => rw [regionOffline_of_offline k 3 h3, hx]
  · next h3 => rw [regSt_regionOffline_eq 3 hk h3 h4, regionOff, tget_tmap, hx, Option.map_some]

end

/-! ### The self-test of a returning region (R66, R70) -/

/-- A tile that passes its self-test is back at its own position. -/
def tileBack (k p : Nat) (x : TileSt) : TileSt := { x with phys := 24 * k + p, st := 1, quar := false, fresh := false, down := false }

@[simp] theorem spareLeaves_regions (k t : Nat) (failed : List Nat) (phys : Nat) (s : State) : (spareLeaves k t failed phys s).fc.regions = s.fc.regions := by
  unfold spareLeaves
  split
  · rfl
  · split <;> rfl

theorem selftestTile_regions_of_pass (k p : Nat) (s : State) :
    (selftestTile k [] p s).fc.regions = (setTile k p (tileBack k p (tileSt s k p)) s).fc.regions := by
  show tset (spareLeaves k p [] _ s).fc.regions k { regSt (spareLeaves k p [] _ s) k with tiles := _ } = _
  rw [regSt_congr (spareLeaves_regions ..), spareLeaves_regions]
  rfl

theorem selftestSpare_regions (k : Nat) (failed : List Nat) (i : Nat) (s : State) : (selftestSpare k failed i s).fc.regions = s.fc.regions := by
  unfold selftestSpare
  dsimp only
  split <;> rfl

/-! ### Plates that return (R70) -/

/-- A region but for the plates that it is still to get back. -/
def SameButOut (x y : RegionSt) : Prop := y = { x with out := y.out }

theorem SameButOut.refl (x : RegionSt) : SameButOut x x := rfl

theorem SameButOut.trans {x y z : RegionSt} (h : SameButOut x y) (k : SameButOut y z) : SameButOut x z := by
  unfold SameButOut at *
  rw [k, h]

theorem SameButOut.tiles {x y : RegionSt} (h : SameButOut x y) : y.tiles = x.tiles := by rw [h]

/-- No region asks for a plate any more that returns. -/
def stopAwaiting (p : Nat) (s : State) : State :=
  { s with fc.regions := tmap s.fc.regions (fun r => { r with out := r.out.filter (fun o => o.1 != p) }) }

theorem plateBack_of_mem (k : Nat) {e : Nat × Nat} {s : State} (he : e.1 ∈ allPlates s) :
    plateBack k e s = setPlate e.1 { plateRun (demoteZero 3 e.1 (stopAwaiting e.1 s)) e.1 with place := some (k, e.2) }
      (demoteZero 3 e.1 (stopAwaiting e.1 s)) := by
  rw [plateBack, if_pos (List.contains_iff_mem.mpr he)]
  rfl

theorem plateBack_of_notMem (k : Nat) {e : Nat × Nat} {s : State} (he : e.1 ∉ allPlates s) : plateBack k e s = s := by
  rw [plateBack, if_neg (fun h => he (List.contains_iff_mem.mp h))]

theorem regSt_stopAwaiting (p j : Nat) (s : State) : SameButOut (regSt s j) (regSt (stopAwaiting p s) j) := by
  rw [regSt, stopAwaiting, regSt, tgetD_tmap _ _ _ _ rfl]
  rfl

theorem regSt_plateBack (k : Nat) (e : Nat × Nat) (s : State) (j : Nat) : SameButOut (regSt s j) (regSt (plateBack k e s) j) := by
  by_cases he : e.1 ∈ allPlates s
  · have hfc : (plateBack k e s).fc.regions = (stopAwaiting e.1 s).fc.regions := by
      rw [plateBack_of_mem k he]
      exact demoteZero_regions ..
    rw [regSt_congr hfc]
    exact regSt_stopAwaiting ..
  · rw [plateBack_of_notMem k he]
    exact .refl _

theorem plateBack_place (k : Nat) {e : Nat × Nat} {s : State} (he : e.1 ∈ allPlates s) (q : Nat) :
    (plateRun (plateBack k e s) q).place = if q = e.1 then some (k, e.2) else (plateRun s q).place := by
  rw [plateBack_of_mem k he, place_setPlate, demoteZero_place]
  rfl

theorem plateBack_place_ne (k : Nat) {e : Nat × Nat} (s : State) {q : Nat} (h : q ≠ e.1) :
    (plateRun (plateBack k e s) q).place = (plateRun s q).place := by
  by_cases he : e.1 ∈ allPlates s
  · rw [plateBack_place k he, if_neg h]
  · rw [plateBack_of_notMem k he]

theorem allPlates_plateBack (k : Nat) (e : Nat × Nat) (s : State) : allPlates (plateBack k e s) = allPlates s :=
  allPlates_congr (eq_pf (plateBack_but' ..))

/-- A plate that no entry names keeps its place. -/
theorem each_plateBack_place_of_notMem (k : Nat) {l : List (Nat × Nat)} {q : Nat} (hq : q ∉ l.map (·.1)) (s : State) :
    (plateRun (each l (plateBack k) s) q).place = (plateRun s q).place :=
  each_keeps_mem (P := fun u => (plateRun u q).place = (plateRun s q).place)
    (fun e he u h => (plateBack_place_ne k u fun eq => hq (List.mem_map.mpr ⟨e, he, eq.symm⟩)).trans h) rfl

/-- A plate of the table goes to the one position that the entries give it. -/
theorem each_plateBack_place (k : Nat) {l : List (Nat × Nat)} {q t : Nat} {s : State} (hp : q ∈ allPlates s) (hq : q ∈ l.map (·.1))
    (ht : ∀ e ∈ l, e.1 = q → e.2 = t) : (plateRun (each l (plateBack k) s) q).place = some (k, t) := by
  induction l generalizing s with
  | nil => cases hq
  | cons e l ih =>
    rw [each_cons]
    by_cases hl : q ∈ l.map (·.1)
    · exact ih (by rwa [allPlates_plateBack]) hl fun a ha => ht a (List.mem_cons_of_mem e ha)
    · have he : e.1 = q := by
        rw [List.map_cons, List.mem_cons] at hq
        exact (hq.resolve_right hl).symm
      rw [each_plateBack_place_of_notMem k hl, plateBack_place k (he ▸ hp), if_pos he.symm, ht e List.mem_cons_self he]

/-! ### A region returns (R70) -/

/-- The region as it enters SERVICE again, before its tiles are tested. -/
def inService (k : Nat) (s : State) : RegionSt := { regSt s k with st := 2, move := false, modelKb := modelKbOf s.fc.mdl.active }

/-- The region in SERVICE with its tiles, and the spares quarantined in it, tested: all pass. -/
def selftested (k : Nat) (s : State) : State :=
  each (List.range 8) (selftestSpare k []) (each (List.range 24) (selftestTile k []) (setReg k (inService k s) s))

/-- The plates it still hosts, with the positions they have there. -/
def staying (k : Nat) (s : State) : List (Nat × Nat) := (hosted s k).map (fun p => (p, ((plateRun s p).place.getD (k, 0)).2))

/-- The module once the region's plates are back. -/
def platesBack (k : Nat) (s : State) : State := each ((regSt s k).out ++ staying k s) (plateBack k) (selftested k s)

theorem regionBack_tables (k : Nat) (s : State) :
    (regionBack k [] s).fc.regions = (platesBack k s).fc.regions ∧ (regionBack k [] s).fc.plates = (platesBack k s).fc.plates := by
  unfold regionBack
  rw [if_neg (by simp)]
  dsimp only
  rw [emit_fc]
  exact ⟨rfl, rfl⟩

theorem regionBack_fc_of_badStore (k : Nat) {failed : List Nat} (s : State) (h : failed.contains 152 = true) :
    (regionBack k failed s).fc = (setReg k { regSt s k with st := 3 } s).fc := by
  rw [regionBack, if_pos h, setErr_fc, emit_fc]

/-- The tests of the tiles are what decides the regions: a spare's test changes none. -/
theorem regSt_selftested (k : Nat) (s : State) (j : Nat) :
    regSt (selftested k s) j = regSt (each (List.range 24) (selftestTile k []) (setReg k (inService k s) s)) j :=
  each_keeps (fun u => regSt u j = regSt (each (List.range 24) (selftestTile k []) (setReg k (inService k s) s)) j) (selftestSpare k [])
    (fun i u h => (regSt_congr (selftestSpare_regions k [] i u) j).trans h) _ _ rfl

theorem regSt_selftested_ne {j k : Nat} (s : State) (h : j ≠ k) : regSt (selftested k s) j = regSt s j := by
  rw [regSt_selftested]
  refine each_keeps (fun u => regSt u j = regSt s j) (selftestTile k []) (fun p u hu => ?_) _ _ (regSt_setReg_ne _ _ _ _ h)
  rw [regSt_congr (selftestTile_regions_of_pass k p u), regSt_setTile_ne _ _ _ h, hu]

theorem regSt_selftested_service (k : Nat) (s : State) : (regSt (selftested k s) k).st = 2 ∧ (regSt (selftested k s) k).move = false := by
  rw [regSt_selftested]
  refine each_keeps (fun u => (regSt u k).st = 2 ∧ (regSt u k).move = false) (selftestTile k []) (fun p u hu => ?_) _ _ ?_
  · rw [regSt_congr (selftestTile_regions_of_pass k p u), regSt_setTile_eq]
    exact hu
  · rw [regSt_setReg_eq]
    exact ⟨rfl, rfl⟩

theorem tileSt_selftested (k : Nat) {p : Nat} (hp : p < 24) (s : State) : ∃ x, tileSt (selftested k s) k p = tileBack k p x := by
  have own : ∀ a u, ∃ x, tileSt (selftestTile k [] a u) k a = tileBack k a x := fun a u =>
    ⟨_, (tileSt_congr (selftestTile_regions_of_pass k a u) k a).trans (tileSt_setTile_eq ..)⟩
  have kept : ∀ a b u, (∃ x, tileSt u k b = tileBack k b x) → ∃ x, tileSt (selftestTile k [] a u) k b = tileBack k b x := by
    intro a b u hu
    by_cases e : b = a
    · exact e ▸ own a u
    · rw [tileSt_congr (selftestTile_regions_of_pass k a u), tileSt_setTile_ne _ _ (fun eq => e (congrArg Prod.snd eq))]
      exact hu
  rw [tileSt, regSt_selftested]
  exact each_establishes (P := fun b u => ∃ x, tileSt u k b = tileBack k b x) own kept (List.mem_range.mpr hp) _

theorem allPlates_selftested (k : Nat) (s : State) : allPlates (selftested k s) = allPlates s := by
  refine allPlates_congr (eq_pf (m := 9704128) ?_)
  exact (each_but (fun i u => selftestSpare_but (by decide) k [] i u) _ _).trans
    ((each_but (fun p u => selftestTile_but (by decide) k [] p u) _ _).trans (setReg_but (by decide) ..))

/-- The regions of a module to which one has come back with all its tiles. -/
theorem regSt_regionBack (k : Nat) (s : State) (j : Nat) : SameButOut (regSt (selftested k s) j) (regSt (updateDegraded (regionBack k [] s)) j) := by
  rw [regSt_congr (updateDegraded_regions _), regSt_congr (regionBack_tables k s).1]
  exact each_keeps (fun u => SameButOut (regSt (selftested k s) j) (regSt u j)) (plateBack k) (fun e u h => h.trans (regSt_plateBack k e u j)) _ _ (.refl _)

theorem plateRun_regionBack (k : Nat) (s : State) (q : Nat) :
    plateRun (updateDegraded (regionBack k [] s)) q = plateRun (each (staying k s) (plateBack k) (each (regSt s k).out (plateBack k) (selftested k s))) q := by
  rw [plateRun_congr (updateDegraded_plates _), plateRun_congr (regionBack_tables k s).2, platesBack, each_append]

theorem mem_staying_map {s : State} {k q : Nat} : q ∈ (staying k s).map (·.1) ↔ q ∈ hosted s k := by
  simp [staying]

theorem place_of_mem_staying {s : State} {k q t : Nat} (h : (plateRun s q).place = some (k, t)) : ∀ e ∈ staying k s, e.1 = q → e.2 = t := by
  intro e he eq
  obtain ⟨p, _, rfl⟩ := List.mem_map.mp he
  obtain rfl : p = q := eq
  simp only [h, Option.getD_some]

/-- A plate that the region still hosts stays where it is. -/
theorem regionBack_hosted {s : State} {k q : Nat} (hq : q ∈ hosted s k) : (plateRun (updateDegraded (regionBack k [] s)) q).place = (plateRun s q).place := by
  obtain ⟨hp, t, ht⟩ := mem_hosted.mp hq
  have hall : q ∈ allPlates (each (regSt s k).out (plateBack k) (selftested k s)) :=
    each_keeps (fun u => q ∈ allPlates u) _ (fun e u h => by rwa [allPlates_plateBack]) _ _ (by rwa [allPlates_selftested])
  rw [plateRun_regionBack, ht]
  exact each_plateBack_place k hall (mem_staying_map.mpr hq) (place_of_mem_staying ht)

/-- A plate of which a list without repeats has an entry has no other entry there. -/
theorem entry_eq_of_nodup {l : List (Nat × Nat)} (hn : (l.map (·.1)).Nodup) {a e : Nat × Nat} (ha : a ∈ l) (he : e ∈ l) (eq : a.1 = e.1) : a = e := by
  induction l with
  | nil => cases ha
  | cons b l ih =>
    rw [List.map_cons, List.nodup_cons] at hn
    obtain ⟨hb, hn⟩ := hn
    rcases List.mem_cons.mp ha with ea | hal
    · rcases List.mem_cons.mp he with ee | hel
      · rw [ea, ee]
      · exact absurd (List.mem_map.mpr ⟨e, hel, by rw [← eq, ea]⟩) hb
    · rcases List.mem_cons.mp he with ee | hel
      · exact absurd (List.mem_map.mpr ⟨a, hal, by rw [eq, ee]⟩) hb
      · exact ih hn hal hel

/-- A plate that had been placed elsewhere returns to the position that the region noted. -/
theorem regionBack_out {s : State} {k : Nat} {e : Nat × Nat} (hn : ((regSt s k).out.map (·.1)).Nodup) (he : e ∈ (regSt s k).out) (hp : e.1 ∈ allPlates s)
    (hq : e.1 ∉ hosted s k) : (plateRun (updateDegraded (regionBack k [] s)) e.1).place = some (k, e.2) := by
  rw [plateRun_regionBack, each_plateBack_place_of_notMem k (fun h => hq (mem_staying_map.mp h))]
  refine each_plateBack_place k (by rwa [allPlates_selftested]) (List.mem_map_of_mem he) fun a ha eq => ?_
  rw [entry_eq_of_nodup hn ha he eq]

/-! ### O15 -/

/-- Settles O15: a region's loss and its reset write the region once (`regionOffline_fc`, `regionResetOp_fc`); at its return each tile's own test puts it back (`tileSt_selftested`), and a plate's last entry among those that return is its place (`each_plateBack_place`). -/
theorem regionsGoOfflineAndReturn : Obligations.regions_go_offline_and_return := by
  unfold Obligations.regions_go_offline_and_return
  refine ⟨?offline, ?reset, ?back, ?badStore⟩
  case offline =>
    intro k cause s hr hk h3 h4
    have hreg := regSt_regionOffline_eq cause hk h3 h4
    have hplate := plateRun_regionOffline cause hk h3 h4
    refine does_of_live (f := regionOffline k cause) rfl hr
      ⟨?_, ?_, ?_, fun j => regSt_regionOffline_ne cause s, ?_, fun q => plateRun_regionOffline_of_notHosted cause hk h4, regionOffline_but (by decide) k cause s⟩
    · rw [hreg, regionOff]
    · rw [hreg, regionOff]
    · intro p x hx hd hf
      rw [tileSt, hreg, regionOff, tgetD_tmap_of_some tileOff hx, tileOff, if_neg (by simp [hd, hf])]
    · intro q hq
      rw [hplate, if_pos hq]
      exact ⟨rfl, rfl⟩
  case reset =>
    intro k s hr hk h4
    refine ⟨fun hd h2 hl => does_of_live (f := regionResetOp k) rfl hr (regionResetOp_last hd h2 hl), fun h => ?_⟩
    have hreg := regSt_regionResetOp_eq hk h4 h
    have hplate := plateRun_regionResetOp hk h4 h
    refine does_of_live (f := regionResetOp k) rfl hr
      ⟨?_, ?_, ?_, ?_, ?_, ?_, ?_, fun j => regSt_regionResetOp_ne hk h4 h, ?_, regionResetOp_but (by decide) k s⟩
    · rw [hreg, regionCleared]
    · intro h3
      refine ⟨by rw [hreg, regSt_regionOffline_eq 3 hk h3 h4, regionCleared, regionOff], fun q hq => ?_⟩
      rw [hplate, plateRun_regionOffline 3 hk h3 h4, if_pos hq]
      exact ⟨rfl, rfl⟩
    · intro p x hx
      rw [tileSt_regionResetOp hk h4 h hx]
      refine ⟨rfl, rfl, rfl, ?_, fun h3 => ?_⟩
      · split
        · rfl
        · exact tileOff_phys x
      · rw [if_neg h3]
        exact tileOff_waits x
    · rw [hreg, regionCleared]
    · rw [hreg, regionCleared]
    · rw [hreg, regionCleared]
    · rw [hreg, regionCleared]
    · intro q hq
      rw [hplate, plateRun_regionOffline_of_notHosted 3 hk h4 hq]
  case back =>
    intro k s hr h4
    have hexec : exec (.regionRestored k []) s = live (fun s => if (regSt s k).st = 4 then updateDegraded (regionBack k [] s) else s) s := rfl
    refine does_of_live hexec hr ?_
    rw [if_pos h4]
    have hown : SameButOut _ _ := regSt_regionBack k s k
    obtain ⟨hst, hmove⟩ := regSt_selftested_service k s
    refine ⟨?_, ?_, ?_, fun q => regionBack_hosted, fun hn e => regionBack_out hn, ?_, updateDegraded_degraded _, ?_⟩
    · rw [hown, hst]
    · rw [hown, hmove]
    · intro p hp
      obtain ⟨x, hx⟩ := tileSt_selftested k hp s
      rw [tileSt, hown.tiles, ← tileSt, hx]
      exact ⟨rfl, rfl, rfl, rfl, rfl⟩
    · intro j hj
      rw [← regSt_selftested_ne s hj]
      exact regSt_regionBack k s j
    · exact (updateDegraded_but (by decide) _).trans (regionBack_but (by decide) k [] s)
  case badStore =>
    intro k failed s hr h4 hf
    have hexec : exec (.regionRestored k failed) s = live (fun s => if (regSt s k).st = 4 then updateDegraded (regionBack k failed s) else s) s := rfl
    refine does_of_live hexec hr ?_
    rw [if_pos h4]
    have hfc := regionBack_fc_of_badStore k s hf
    have hreg (j : Nat) : regSt (updateDegraded (regionBack k failed s)) j = regSt (setReg k { regSt s k with st := 3 } s) j :=
      (regSt_congr (updateDegraded_regions _) j).trans (regSt_congr (congrArg ArrSt.regions hfc) j)
    refine ⟨?_, ?_, fun j hj => ?_⟩
    · rw [hreg, regSt_setReg_eq]
    · rw [updateDegraded_plates, hfc, setReg_plates]
    · rw [hreg, regSt_setReg_ne _ _ _ _ hj]

end Sys2Proof.Machine
end

section
/-! The statement of chapter 03 on adaptation and the mirror sweep (O12). -/

namespace Sys2Proof.Machine

/-! ### A silent protocol engine sends no mirror message (R317, R394) -/

/-- A protocol engine that restarts sends no mirror message but those of subtype 4. -/
theorem mirrorSend_of_silent {sub : Nat} {s : State} (h : engineSilent s = true) (hs : sub ≠ 4) (size : Nat) (recs : List Bytes) :
    mirrorSend sub size recs s = s := by
  unfold mirrorSend
  split
  · rfl
  · rw [if_pos (by simp [h, hs])]

/-- What the sweep sends for the plates `ps` (R100): the records of each adapter, one after another. -/
def sendAdapters (m : ModelC) (ps : List Nat) (s : State) : State :=
  each ps (fun p s => each (adapterRecs s m p) (fun r s => mirrorSend 6 r.length [r] s) s) s

theorem sendAdapters_of_silent {s : State} (h : engineSilent s = true) (m : ModelC) (ps : List Nat) : sendAdapters m ps s = s := by
  have one (p : Nat) : each (adapterRecs s m p) (fun r s => mirrorSend 6 r.length [r] s) s = s :=
    each_keeps (· = s) _ (fun r u hu => by rw [hu, mirrorSend_of_silent h (by decide)]) _ _ rfl
  exact each_keeps (· = s) _ (fun p u hu => by rw [hu, one p]) ps s rfl

/-! ### O12 -/

/-- A model with an adapter of 4 bytes. -/
def adapterModel : ModelC := { adapterSize := 4 }

/-- An ACTIVE module at 9.8 s, with one plate and a partner. Its protocol engine restarted at 9.7 s and is silent until 9.9 s; its next mirror sweep is due at 10 s. -/
def sweepAfterRestart : State :=
  { glb := { life := .up, role := .active }
    clock := 9800000000
    pf := { force := { bind := { mirrorS := 10 }, plates := [{ plate := 1 }], red := { partner := 2 }, peers := { peers := [{ index := 2, kind := 1, rack := 255, rights := 0, keyRef := 0, addr := 0xA2 }] } }
            parts := [(3, { st := 2, restartAt := 9700000000 })] }
    fc := { mdl := { st := 4, active := some adapterModel }, lastSweep := 0 } }

/-- Refutes O12: its sweep clause takes the messages that the module would send at the instant before the command, but the sweep runs at its due time. A protocol engine that is silent at the one and back at the other sends the adapters all the same. -/
theorem not_adaptationSlicesAndMirrorSweep : ¬ Obligations.adaptation_slices_and_mirror_sweep := by
  unfold Obligations.adaptation_slices_and_mirror_sweep
  rintro ⟨-, hsweep, -⟩
  obtain ⟨t, hexec, hactive, -⟩ := hsweep adapterModel sweepAfterRestart rfl rfl (by decide)
  obtain ⟨-, -, hout, -⟩ := hactive rfl
  have hsilent : engineSilent sweepAfterRestart = true := by decide
  have hnone : t.outbox = [] := hout.trans (congrArg State.outbox (sendAdapters_of_silent hsilent adapterModel _))
  have hsent : (outOf (exec .mirrorSweep sweepAfterRestart) sweepAfterRestart).outbox.length = 1 := by decide +kernel
  rw [of_outOf hexec, hnone] at hsent
  exact absurd hsent (by decide)

end Sys2Proof.Machine
end

section
/-! The statement of chapter 03 on forced plates and model activation (O16). -/

namespace Sys2Proof.Machine

/-! ### The recorder does not read the array

A record written once the array has changed is the record written before the change. -/

/-- The state with another array. -/
def State.withFc (s : State) (f : ArrSt) : State := { s with fc := f }

@[simp] theorem withFc_ev (s : State) (f : ArrSt) : (s.withFc f).ev = s.ev := rfl

@[simp] theorem withFc_pat (s : State) (f : ArrSt) : pat (s.withFc f) = pat s := rfl

@[simp] theorem withFc_uptime (s : State) (f : ArrSt) : uptime (s.withFc f) = uptime s := rfl

@[simp] theorem withFc_rateOf (s : State) (f : ArrSt) (code : Nat) : rateOf (s.withFc f) code = rateOf s code := rfl

@[simp] theorem withFc_errVal (s : State) (f : ArrSt) (a : Nat) : errVal (s.withFc f) a = errVal s a := rfl

@[simp] theorem withFc_stampWall (s : State) (f : ArrSt) (r : EvRec) : stampWall r (s.withFc f) = stampWall r s := rfl

theorem setErr_withFc (a b : Nat) (s : State) (f : ArrSt) : setErr a b (s.withFc f) = (setErr a b s).withFc f := by
  unfold setErr
  rw [withFc_errVal]
  split <;> rfl

theorem setErrOf_withFc (code : Nat) (s : State) (f : ArrSt) : setErrOf code (s.withFc f) = (setErrOf code s).withFc f := by
  unfold setErrOf
  split
  · exact setErr_withFc ..
  · rfl

theorem whenS_withFc {g : State → State} (f : ArrSt) (hg : ∀ s : State, g (s.withFc f) = (g s).withFc f) (c : Bool) (s : State) :
    whenS c g (s.withFc f) = (whenS c g s).withFc f := by
  cases c
  · rfl
  · exact hg s

theorem putRing_withFc (r : EvRec) (s : State) (f : ArrSt) : putRing r (s.withFc f) = (putRing r s).withFc f := by
  unfold putRing
  rw [withFc_ev]
  cases tierPut s.ev.ring 65536 r <;> rfl

theorem putHbm_withFc (r : EvRec) (s : State) (f : ArrSt) : putHbm r (s.withFc f) = (putHbm r s).withFc f := by
  unfold putHbm
  rw [withFc_ev]
  split
  · cases tierPut s.ev.hbm s.ev.hbmCap r <;> rfl
  · rfl

/-- The staging buffer takes a record, in the place of a lower one where it is full. -/
def enterStaging (r : EvRec) (s : State) : State :=
  if s.ev.staging.length < 256 then { s with ev.staging := s.ev.staging ++ [r] }
  else
    match s.ev.staging.find? (fun q => q.sev ≤ r.sev) with
    | some q => { (countDrop 2 q.sev s) with ev.staging := s.ev.staging.filter (fun x => x.seq != q.seq) ++ [r] }
    | none => countDrop 2 r.sev s

theorem putStaging_eq (r : EvRec) (s : State) :
    putStaging r s = if r.sev < 4 then s else enterStaging r (whenS s.pwr.dip (fun s => setErr 0x04000008 3 { s with ev.pstDefer := true }) s) := rfl

theorem enterStaging_withFc (r : EvRec) (s : State) (f : ArrSt) : enterStaging r (s.withFc f) = (enterStaging r s).withFc f := by
  unfold enterStaging
  rw [withFc_ev]
  split
  · rfl
  · cases s.ev.staging.find? (fun q => q.sev ≤ r.sev) <;> rfl

theorem putStaging_withFc (r : EvRec) (s : State) (f : ArrSt) : putStaging r (s.withFc f) = (putStaging r s).withFc f := by
  rw [putStaging_eq, putStaging_eq]
  split
  · rfl
  · rw [← enterStaging_withFc, ← whenS_withFc f fun s => setErr_withFc _ _ { s with ev.pstDefer := true } f]
    rfl

theorem storeRec_withFc (r : EvRec) (s : State) (f : ArrSt) : storeRec r (s.withFc f) = (storeRec r s).withFc f := by
  unfold storeRec
  dsimp only
  rw [← putStaging_withFc, ← putHbm_withFc, ← putRing_withFc, ← whenS_withFc f fun s => setErrOf_withFc _ s f]
  rfl

theorem takeToken_withFc (code : Nat) (s : State) (f : ArrSt) : takeToken code (s.withFc f) = ((takeToken code s).1, (takeToken code s).2.withFc f) := by
  unfold takeToken
  rw [withFc_rateOf, withFc_uptime, withFc_ev]
  dsimp only
  split
  · rfl
  · split <;> rfl

theorem passRec_withFc (r : EvRec) (s : State) (f : ArrSt) : passRec r (s.withFc f) = (passRec r s).withFc f := by
  unfold passRec
  rw [withFc_pat, takeToken_withFc, storeRec_withFc]
  split
  · rfl
  split
  · rfl
  · rcases takeToken r.code s with ⟨_ | _, u⟩
    · rfl
    · exact storeRec_withFc ..

theorem emitRec_withFc (r : EvRec) (s : State) (f : ArrSt) : emitRec r (s.withFc f) = (emitRec r s).withFc f := by
  unfold emitRec
  dsimp only
  rw [withFc_stampWall, whenS_withFc f fun s => setErrOf_withFc _ s f, passRec_withFc, withFc_ev]
  split
  · split <;> rfl
  · rfl

theorem emit_withFc (code source : Nat) (args : List Word) (s : State) (clear : Bool) (f : ArrSt) :
    emit code source args (s.withFc f) clear = (emit code source args s clear).withFc f := emitRec_withFc ..

/-- A plate's write and a record's do not meet. -/
theorem emit_setPlate (code source : Nat) (args : List Word) (p : Nat) (x : PlateRun) (s : State) :
    emit code source args (setPlate p x s) = setPlate p x (emit code source args s) := by
  have h := emit_withFc code source args s false { s.fc with plates := tset s.fc.plates p x }
  refine h.trans ?_
  simp only [State.withFc, setPlate, emit_fc]

/-! ### A plate is forced, and released (R95) -/

/-- A DEMOTED plate: its counts are zero (R93). -/
def demoted (x : PlateRun) : PlateRun := { x with st := if x.st = 2 then 1 else x.st, exc := 0, inband := 0 }

theorem plateRegion_setPlate {p : Nat} {x : PlateRun} {s : State} (h : x.place = (plateRun s p).place) :
    plateRegion (setPlate p x s) p = plateRegion s p := by
  rw [plateRegion, plateRun_setPlate_eq, h]
  rfl

/-- The record of a plate that the host demotes. -/
def forcedRecord (p : Nat) (s : State) : State := emit 0x0A44 (src 2 (plateRegion s p)) (aw p ++ aw (plateRun s p).resid.toNat ++ aw 2) s

theorem demote_host (p : Nat) (s : State) : demote 2 p s = setPlate p (demoted (plateRun s p)) (forcedRecord p s) := by
  rw [forcedRecord, ← emit_setPlate, ← plateRegion_setPlate (x := demoted (plateRun s p)) rfl]
  exact if_pos (by simp)

/-- A plate that the host forces is written twice, the record between the writes. -/
theorem forceOp_eq {p : Nat} {s : State} (hp : (plateRec s p).isSome = true) (hf : (plateRun s p).forced = false) :
    forceOp p s = setPlate p { demoted (plateRun s p) with forced := true } (setPlate p (demoted (plateRun s p)) (forcedRecord p s)) := by
  unfold forceOp
  rw [if_neg (by simp [Option.isSome_iff_ne_none.mp hp, hf]), demote_host]
  dsimp only
  rw [plateRun_setPlate_eq]

theorem forcedRecord_plates (p : Nat) (s : State) : (forcedRecord p s).fc.plates = s.fc.plates := by
  rw [forcedRecord, emit_fc]

theorem releaseOp_eq {p : Nat} {s : State} (hf : (plateRun s p).forced = true) :
    releaseOp p s = setPlate p { plateRun s p with forced := false, exc := 0, inband := 0 } s := by
  rw [releaseOp, if_pos hf]

/-! ### The loader's checks read the pattern, the parts and the container (R76) -/

theorem mdlCheck_congr {s t : State} (h : t.pf = s.pf) (raw : Bytes) (len : Nat) : mdlCheck t raw len = mdlCheck s raw len := by
  cases s
  cases t
  cases h
  rfl

theorem hbmTop_congr {s t : State} (hhw : t.hw = s.hw) (hfc : t.fc = s.fc) : hbmTop t = hbmTop s := by
  simp only [hbmTop, laidStacks, regionCount, hhw, hfc]

/-! ### MODEL_ACTIVATE (R83, R321) -/

/-- A transfer is denied by its own entry in the host link. -/
theorem xferDenied_fst (p xfer : Nat) (s : State) : (xferDenied p xfer s).1 = (findXfer s p xfer).any (·.denied) := by
  unfold xferDenied
  cases findXfer s p xfer with
  | none => rfl
  | some x => cases hd : x.denied <;> simp [hd]

theorem xferDenied_of_not {p xfer : Nat} {s : State} (h : (xferDenied p xfer s).1 = false) : xferDenied p xfer s = (false, s) := by
  rw [xferDenied_fst] at h
  unfold xferDenied
  cases hx : findXfer s p xfer with
  | none => rfl
  | some x =>
    rw [hx] at h
    exact if_neg (by simp [show x.denied = false from h])

/-- A command whose transfer is whole runs at once. -/
theorem signalGate_of_whole {p xfer len : Nat} {s : State} (hd : (xferDenied p xfer s).1 = false) (hm : xferMissing s p xfer len = 0) (d : Dgram)
    (k : State → CmdRes × State) : signalGate p xfer len d s k = ((k s).1, whenS (cmdTook (k s).1) (forgetXfer p xfer) (k s).2) := by
  unfold signalGate
  rw [xferDenied_of_not hd]
  exact if_pos hm

theorem whenS_forgetXfer_fc (c : Bool) (p xfer : Nat) (s : State) : (whenS c (forgetXfer p xfer) s).fc = s.fc := by
  cases c <;> rfl

/-- Once MODEL_ACTIVATE has been taken and its data is there, the loader's work on the container is all that the array sees. -/
theorem execModelActivate_fc_eq_activateRun {d : Dgram} {s u : State} {p : PeerRec} {r : Nat} (hr : running s = true) (h : CritTaken 1 24 0 d s p r u) (hz : zeroAt (critArgs d) 4 4 = true)
    (hd : (xferDenied p.index (fld (critArgs d) 0 4) u).1 = false) (hm : xferMissing u p.index (fld (critArgs d) 0 4) (fld (critArgs d) 16 8) = 0) :
    (outOf (execModelActivate d s) s).fc = (activateRun d (fld (critArgs d) 8 8) (fld (critArgs d) 16 8) (critRuns d p u)).2.fc := by
  have hlink : findXfer (critRuns d p u) p.index (fld (critArgs d) 0 4) = findXfer u p.index (fld (critArgs d) 0 4) := rfl
  have hgate : (xferDenied p.index (fld (critArgs d) 0 4) (critRuns d p u)).1 = false := by rw [xferDenied_fst, hlink, ← xferDenied_fst, hd]
  have hkern : (activateKern d p (critFlags d) (critArgs d) (critRuns d p u)).2.fc =
      (activateRun d (fld (critArgs d) 8 8) (fld (critArgs d) 16 8) (critRuns d p u)).2.fc := by
    unfold activateKern
    rw [if_neg (by simp [hz]), signalGate_of_whole hgate hm]
    exact whenS_forgetXfer_fc ..
  rw [execModelActivate, outOf_live, if_pos hr, critical_taken h, eq_fc (critClose_but' ..), hkern]

theorem modelRefused_fc (c us bytes : Nat) (s : State) : (modelRefused c us bytes s).fc = { s.fc with mdl := { s.fc.mdl with lastCheck := c } } :=
  emit_fc ..

/-- The bytes at an address that the loader takes for a container. -/
def containerAt (s : State) (addr len : Nat) : Bytes := memRdN s.mem addr (min len (hbmTop s - addr))

/-- The array with a container taken for the next t0. -/
def containerTaken (d : Dgram) (raw : Bytes) (a : ArrSt) : ArrSt :=
  { a with mdl := { a.mdl with st := 2, next := some (parseModel raw), begun := false, prevFit := (a.mdl.k, a.mdl.rate, a.mdl.fitDegraded), cmd := some d } }

/-- The array once a loader at rest has seen a container: taken where it passes the checks, else the first check that it fails is noted. -/
def loaderResult (d : Dgram) (raw : Bytes) (len : Nat) (s : State) : ArrSt :=
  if mdlCheck s raw len = 0 then containerTaken d raw s.fc else { s.fc with mdl := { s.fc.mdl with lastCheck := mdlCheck s raw len } }

/-- A loader at rest takes a container that passes its checks, and notes the first check that refuses another. -/
theorem activateRun_fc {s : State} (h2 : s.fc.mdl.st ≠ 2) (h3 : s.fc.mdl.st ≠ 3) (h6 : s.fc.mdl.st ≠ 6) (d : Dgram) (addr len : Nat) :
    (activateRun d addr len s).2.fc = loaderResult d (containerAt s addr len) len s := by
  unfold activateRun loaderResult
  rw [if_neg (by simp [h2, h3, h6])]
  dsimp only
  rw [← containerAt]
  by_cases hpassed : mdlCheck s (containerAt s addr len) len = 0
  · rw [if_neg (by rw [hpassed]; decide), if_pos hpassed]
    exact rfl
  · rw [if_pos (bne_iff_ne.mpr hpassed), if_neg hpassed]
    exact modelRefused_fc ..

/-- MODEL_ACTIVATE with its data there, on a loader at rest: what the loader makes of the container in the array. -/
theorem execModelActivate_fc {d : Dgram} {s u : State} {p : PeerRec} {r : Nat} (hr : running s = true) (h : CritTaken 1 24 0 d s p r u)
    (hz : zeroAt (critArgs d) 4 4 = true) (hd : (xferDenied p.index (fld (critArgs d) 0 4) u).1 = false)
    (hm : xferMissing u p.index (fld (critArgs d) 0 4) (fld (critArgs d) 16 8) = 0)
    (h2 : s.fc.mdl.st ≠ 2) (h3 : s.fc.mdl.st ≠ 3) (h6 : s.fc.mdl.st ≠ 6) :
    (outOf (execModelActivate d s) s).fc = loaderResult d (containerAt s (fld (critArgs d) 8 8) (fld (critArgs d) 16 8)) (fld (critArgs d) 16 8) s := by
  have hbut := critRuns_but h
  have hfc : (critRuns d p u).fc = s.fc := eq_fc hbut
  have hcheck (raw : Bytes) (len : Nat) : mdlCheck (critRuns d p u) raw len = mdlCheck s raw len := mdlCheck_congr (eq_pf hbut) raw len
  have hbytes (addr len : Nat) : containerAt (critRuns d p u) addr len = containerAt s addr len := by
    rw [containerAt, eq_mem hbut, hbmTop_congr (eq_hw hbut) hfc, ← containerAt]
  rw [execModelActivate_fc_eq_activateRun hr h hz hd hm, activateRun_fc (by rwa [hfc]) (by rwa [hfc]) (by rwa [hfc]), hbytes, loaderResult, hcheck, hfc, ← loaderResult]

theorem exec_modelActivate (d : Dgram) (s : State) : exec (.modelActivate d) s = .next (outOf (execModelActivate d s) s) := rfl

/-! ### The fit trial (R82, R83) -/

theorem updateDegraded_mdl (s : State) : (updateDegraded s).fc.mdl = s.fc.mdl := by rw [updateDegraded_fc]

theorem demoteZero_mdl (c p : Nat) (s : State) : (demoteZero c p s).fc.mdl = s.fc.mdl := by
  unfold demoteZero demote zeroPlate
  dsimp only
  split
  · rw [emit_fc]; rfl
  · rfl

/-- The activating command is answered: the loader owes no answer any more, and nothing else changes in the array. -/
theorem mdlAnswer_mdl (st det : Nat) (s : State) : (mdlAnswer st det s).fc.mdl = { s.fc.mdl with cmd := none } := by
  unfold mdlAnswer
  split
  · rw [eq_fc (finishCmd_but' ..)]
  · next h => rw [← h]

/-- Nothing ends before the trial's sixteen rounds are over. -/
theorem execModelFitTrialEnd_early (tRoll tStall : Nat) {s : State} (h : s.round < s.fc.mdl.startRound + 16) :
    outOf (execModelFitTrialEnd tRoll tStall s) s = s := by
  unfold execModelFitTrialEnd
  rw [outOf_live]
  split
  · split
    · rfl
    · exact if_pos (by simp [h])
  · rfl

/-- The state of an accepted model: ACTIVE where every round forecasts and nothing is streamed, else DEGRADED (R82). -/
theorem acceptedState_eq (k e : Nat) : (if (k != 1 || e != 0) = true then 5 else 4) = if k = 1 ∧ e = 0 then 4 else 5 := by
  by_cases h : k = 1 ∧ e = 0
  · rw [if_pos h, if_neg (by rw [h.1, h.2]; decide)]
  · rw [if_neg h, if_pos]
    simp only [Bool.or_eq_true, bne_iff_ne]
    omega

/-- The loader once check 11 has refused the model, before it turns to the model before. -/
def trialRefused (m : ModelC) (tRoll tStall : Nat) (s : State) : State :=
  let short := fitShort (pat s).bind.period (pat s).bind.minRate tRoll tStall (streamedBytes m)
  modelRefused 11 short.1 short.2 { s with fc.mdl.shortUs := short.1, fc.mdl.shortB := short.2 }

theorem trialRefused_mdl (m : ModelC) (tRoll tStall : Nat) (s : State) :
    ∃ us b, (trialRefused m tRoll tStall s).fc.mdl = { s.fc.mdl with shortUs := us, shortB := b, lastCheck := 11 } :=
  ⟨_, _, by rw [trialRefused, modelRefused_fc]⟩

/-- The loader turns to the model before: it is loaded again, or none is active. -/
def modelBefore (s : State) : State :=
  match s.fc.mdl.prev with
  | some o => { s with fc.mdl.st := 6, fc.mdl.next := some o, fc.mdl.begun := false }
  | none =>
    { (each (allPlates s) (demoteZero 4) s) with
      fc.mdl.st := 0, fc.mdl.active := none, fc.mdl.k := 0, fc.mdl.rate := 0, fc.mdl.fitDegraded := false }

theorem modelBefore_mdl_of_some {s : State} {o : ModelC} (h : s.fc.mdl.prev = some o) :
    (modelBefore s).fc.mdl = { s.fc.mdl with st := 6, next := some o, begun := false } := by
  rw [modelBefore, h]

theorem modelBefore_mdl_of_none {s : State} (h : s.fc.mdl.prev = none) :
    (modelBefore s).fc.mdl = { s.fc.mdl with st := 0, active := none, k := 0, rate := 0, fitDegraded := false } := by
  have hkept : (each (allPlates s) (demoteZero 4) s).fc.mdl = s.fc.mdl :=
    each_keeps (fun u => u.fc.mdl = s.fc.mdl) (demoteZero 4) (fun p u hu => (demoteZero_mdl 4 p u).trans hu) _ _ rfl
  rw [modelBefore, h]
  dsimp only
  rw [hkept]

section
variable {tRoll tStall : Nat} {m : ModelC} {s : State} (hr : running s = true) (hm : s.fc.mdl.active = some m) (h3 : s.fc.mdl.st = 3)
  (h16 : s.fc.mdl.startRound + 16 ≤ s.round)
include hr hm h3 h16

/-- A trial that meets the pattern's rate: the loader is at rest with the model, its figures and no model before it. -/
theorem execModelFitTrialEnd_met {k rate : Nat} (ek : fitK (pat s).bind.period tRoll = k) (er : fitRate (pat s).bind.period k = rate)
    (hrate : (pat s).bind.minRate ≤ rate) (hk : k ≤ 16) :
    (outOf (execModelFitTrialEnd tRoll tStall s) s).fc.mdl = { s.fc.mdl with
      st := if k != 1 || streamedBytes m != 0 then 5 else 4, k := k, rate := rate, fitDegraded := k != 1 || streamedBytes m != 0,
      streamed := streamedBytes m, shortUs := 0, shortB := 0, prev := none, cmd := none } := by
  unfold execModelFitTrialEnd
  rw [outOf_live, if_pos hr, hm]
  dsimp only
  rw [if_neg (by simp [h3, h16]), ek, er, if_pos (by simp [hrate, hk]), mdlAnswer_mdl, updateDegraded_mdl, emit_fc]

/-- How a trial ends that misses the rate. -/
theorem execModelFitTrialEnd_missed {k : Nat} (ek : fitK (pat s).bind.period tRoll = k)
    (hmiss : fitRate (pat s).bind.period k < (pat s).bind.minRate ∨ 16 < k) :
    outOf (execModelFitTrialEnd tRoll tStall s) s = mdlAnswer stRefused 11 (updateDegraded (modelBefore (trialRefused m tRoll tStall s))) := by
  unfold execModelFitTrialEnd
  rw [outOf_live, if_pos hr, hm]
  dsimp only
  rw [if_neg (by simp [h3, h16]), ek, if_neg]
  · rfl
  · simp only [Bool.and_eq_true, decide_eq_true_eq]
    omega

end

/-! ### O16 -/

/-- Settles O16: a forced plate is written twice around one record (`forceOp_eq`), which does not read the array (`emit_withFc`); of a taken MODEL_ACTIVATE the array sees the loader's work alone (`execModelActivate_fc`), and of a fit trial its end in one of three ways. -/
theorem platesForcedAndModelsActivated : Obligations.plates_forced_and_models_activated := by
  unfold Obligations.plates_forced_and_models_activated
  refine ⟨⟨?force, ?release⟩, ?activate, ?trial, ?early⟩
  case force =>
    intro p s hr hp hf
    refine does_of_live (f := forceOp p) rfl hr ?_
    refine ⟨?_, ?_, ?_, forceOp_but (by decide) p s⟩
    · rw [forceOp_eq hp hf, plateRun_setPlate_eq]
      rfl
    · rw [forceOp_eq hp hf]
      rfl
    · intro q hq
      rw [forceOp_eq hp hf, plateRun_setPlate_ne _ _ _ _ hq, plateRun_setPlate_ne _ _ _ _ hq, plateRun_congr (forcedRecord_plates p s)]
  case release =>
    intro p s hr hf
    refine does_of_live (f := releaseOp p) rfl hr ?_
    refine ⟨?_, ?_, releaseOp_but (by decide) p s⟩
    · rw [releaseOp_eq hf, plateRun_setPlate_eq]
    · intro q hq
      rw [releaseOp_eq hf, plateRun_setPlate_ne _ _ _ _ hq]
  case activate =>
    intro d s u p r hr h
    dsimp only
    intro hz hd hm h2 h3 h6
    have hfc := execModelActivate_fc hr h hz hd hm h2 h3 h6
    rw [loaderResult, containerAt] at hfc
    refine ⟨outOf (execModelActivate d s) s, exec_modelActivate d s, fun hc => ?_, fun hc => ?_, ?_, execModelActivate_but (by decide) d s⟩
    · rw [hfc, if_pos hc]
      exact ⟨rfl, rfl, rfl, rfl⟩
    · rw [hfc, if_neg hc]
    · rw [hfc]
      split <;> rfl
  case trial =>
    intro tRoll tStall m s hr hm h3 h16
    dsimp only
    refine ⟨outOf (execModelFitTrialEnd tRoll tStall s) s, rfl, fun hrate hk => ?_, fun hmiss => ?_, execModelFitTrialEnd_but (by decide) tRoll tStall s⟩
    · rw [execModelFitTrialEnd_met hr hm h3 h16 rfl rfl hrate hk]
      refine ⟨rfl, rfl, hm, rfl, ?_⟩
      exact acceptedState_eq ..
    · rw [execModelFitTrialEnd_missed hr hm h3 h16 rfl hmiss, mdlAnswer_mdl, updateDegraded_mdl]
      obtain ⟨us, b, href⟩ := trialRefused_mdl m tRoll tStall s
      have hprev : (trialRefused m tRoll tStall s).fc.mdl.prev = s.fc.mdl.prev := by rw [href]
      cases hp : s.fc.mdl.prev with
      | some o =>
        rw [modelBefore_mdl_of_some (hprev.trans hp), href]
        exact ⟨rfl, fun _ e => ⟨rfl, e⟩, nofun⟩
      | none =>
        rw [modelBefore_mdl_of_none (hprev.trans hp), href]
        exact ⟨rfl, nofun, fun _ => ⟨rfl, rfl, rfl, rfl⟩⟩
  case early =>
    intro tRoll tStall s hr h
    exact ⟨outOf (execModelFitTrialEnd tRoll tStall s) s, rfl, execModelFitTrialEnd_early tRoll tStall h⟩

end Sys2Proof.Machine
end

section
/-! What a record depends on (R350 to R365): written in states that agree in what the recorder reads, a record leaves the recorder the same. -/

-- The whole text is compiled in one process, where every waiting thread reserves its stack: one declaration at a time.
set_option Elab.async false

namespace Sys2Proof.Machine

/-! ### What a record depends on (R350 to R365) -/

/-- The parts of State that the recorder does not read: all but itself, the clocks, the pattern and the supplies. -/
def unrecorded : Nat :=
  partMask [.hw, .glb, .red, .link, .mir, .dg, .hl, .ks, .sc, .lp, .swt, .sv, .svf, .fb, .fc, .al, .errs, .irqs, .latches, .outbox, .mem, .stage, .tick, .tickAt,
    .round, .began, .t0At, .freeCtr]

/-- Two states in which the recorder does the same with a record. -/
def RecordAlike (s t : State) : Prop := s.but unrecorded = t.but unrecorded

theorem RecordAlike.withEv {s t : State} (h : RecordAlike s t) (e : EvSt) : RecordAlike { s with ev := e } { t with ev := e } :=
  congrArg (fun u : State => ({ u with ev := e } : State)) h

theorem RecordAlike.whenErr {s t : State} (h : RecordAlike s t) (c : Bool) (code : Nat) : RecordAlike (whenS c (setErrOf code) s) (whenS c (setErrOf code) t) :=
  (whenS_but (setErrOf_but (by decide) code) c s).trans (h.trans (whenS_but (setErrOf_but (by decide) code) c t).symm)

theorem RecordAlike.uptime {s t : State} (h : RecordAlike s t) : uptime t = uptime s := by
  simp only [Machine.uptime, ← eq_clock h, ← eq_upBase h]

theorem RecordAlike.stampWall {s t : State} (h : RecordAlike s t) (r : EvRec) : stampWall r t = stampWall r s := by
  simp only [Machine.stampWall, wallOff, h.uptime, ← eq_wall h]

theorem RecordAlike.countDrop {s t : State} (h : RecordAlike s t) (k sev : Nat) : RecordAlike (countDrop k sev s) (countDrop k sev t) := by
  unfold Machine.countDrop
  rw [← eq_ev h]
  exact h.withEv _

theorem RecordAlike.putRing {s t : State} (h : RecordAlike s t) (r : EvRec) : RecordAlike (putRing r s) (putRing r t) := by
  unfold Machine.putRing
  rw [← eq_ev h]
  split
  · exact h.withEv _
  · exact h.countDrop ..

theorem RecordAlike.putHbm {s t : State} (h : RecordAlike s t) (r : EvRec) : RecordAlike (putHbm r s) (putHbm r t) := by
  unfold Machine.putHbm
  rw [← eq_ev h]
  split
  · split
    · exact h.withEv _
    · exact h.countDrop ..
  · exact h

theorem RecordAlike.enterStaging {s t : State} (h : RecordAlike s t) (r : EvRec) : RecordAlike (enterStaging r s) (enterStaging r t) := by
  unfold Machine.enterStaging
  rw [← eq_ev h]
  split
  · exact h.withEv _
  · split
    · unfold Machine.countDrop
      rw [← eq_ev h]
      exact h.withEv _
    · exact h.countDrop ..

theorem RecordAlike.putStaging {s t : State} (h : RecordAlike s t) (r : EvRec) : RecordAlike (putStaging r s) (putStaging r t) := by
  rw [putStaging_eq, putStaging_eq, ← eq_pwr h]
  split
  · exact h
  · refine RecordAlike.enterStaging ?_ r
    cases s.pwr.dip
    · exact h
    · have hdefer := h.withEv { s.ev with pstDefer := true }
      rw (occs := [2]) [eq_ev h] at hdefer
      exact (setErr_but (by decide) ..).trans (hdefer.trans (setErr_but (by decide) ..).symm)

theorem RecordAlike.storeRec {s t : State} (h : RecordAlike s t) (r : EvRec) : RecordAlike (storeRec r s) (storeRec r t) := by
  unfold Machine.storeRec
  dsimp only
  rw [← eq_ev h]
  exact ((((h.withEv _).whenErr ..).putRing _).putHbm _).putStaging _

theorem RecordAlike.takeToken {s t : State} (h : RecordAlike s t) (code : Nat) :
    (takeToken code t).1 = (takeToken code s).1 ∧ RecordAlike (takeToken code s).2 (takeToken code t).2 := by
  have hrate : rateOf t code = rateOf s code := by simp only [rateOf, pat, ← eq_pf h]
  unfold Machine.takeToken
  rw [hrate, h.uptime, ← eq_ev h]
  dsimp only
  split
  · exact ⟨rfl, h⟩
  · split
    · exact ⟨rfl, h.withEv _⟩
    · exact ⟨rfl, h.withEv _⟩

theorem RecordAlike.passRec {s t : State} (h : RecordAlike s t) (r : EvRec) : RecordAlike (passRec r s) (passRec r t) := by
  obtain ⟨hfst, htoken⟩ := h.takeToken r.code
  unfold Machine.passRec
  simp only [pat, ← eq_pf h]
  split
  · exact h
  split
  · exact h.storeRec r
  generalize Machine.takeToken r.code s = a at hfst htoken ⊢
  generalize Machine.takeToken r.code t = b at hfst htoken ⊢
  obtain ⟨x, u⟩ := a
  obtain ⟨y, v⟩ := b
  obtain rfl : y = x := hfst
  cases y
  · dsimp only at htoken ⊢
    rw [← eq_ev htoken]
    exact htoken.withEv _
  · exact htoken.storeRec r

theorem RecordAlike.emitRec {s t : State} (h : RecordAlike s t) (r : EvRec) : RecordAlike (emitRec r s) (emitRec r t) := by
  unfold Machine.emitRec
  rw [h.stampWall]
  have herr := h.whenErr (errAtEvent.contains (Machine.stampWall r s).code && !bitOf (Machine.stampWall r s).flags 2) (Machine.stampWall r s).code
  dsimp only
  rw [← eq_ev herr]
  split
  · split
    · exact herr.withEv _
    · exact herr.countDrop ..
  · exact herr.passRec _

/-- A record's fate is the same in states that agree in what the recorder reads. -/
theorem RecordAlike.emit {s t : State} (h : RecordAlike s t) (code source : Nat) (args : List Word) (clear : Bool) :
    RecordAlike (emit code source args s clear) (emit code source args t clear) := by
  unfold Machine.emit
  rw [h.uptime]
  exact h.emitRec _

/-- A record written in a state that agrees with `u` in what the recorder reads. -/
theorem wrote_of_alike {code source : Nat} {args : List Word} {u v t : State} {clear : Bool} (h : RecordAlike u v)
    (ht : t.ev = (emit code source args v clear).ev) : Wrote code source args u t clear :=
  ht.trans (eq_ev (h.emit code source args clear)).symm

end Sys2Proof.Machine
end

section
/-! The statement of chapter 04 on the allocator and the lease engine (O10). -/

-- The whole text is compiled in one process, where every waiting thread reserves its stack: one declaration at a time.
set_option Elab.async false

namespace Sys2Proof.Machine

/-! ### Plates, ceilings and marks as reads of the state -/

theorem plateLs_congr {s t : State} (h : t.al.plates = s.al.plates) (p : Nat) : plateLs t p = plateLs s p := by simp only [plateLs, h]

theorem accelPlates_congr {s t : State} (h : t.pf = s.pf) : accelPlates t = accelPlates s := by simp only [accelPlates, pat, h]

/-- The emergency ceiling rests on the selvedge and the pattern (R108). -/
theorem ecapOf_congr {s t : State} (hsv : t.sv = s.sv) (hpf : t.pf = s.pf) (r : PlateRec) : ecapOf t r = ecapOf s r :=
  calc
    ecapOf t r = ecapOf { s with sv := t.sv, pf := t.pf } r := rfl
    _ = ecapOf s r := by rw [hsv, hpf]

theorem accelPlates_nodup {s : State} (h : (allPlates s).Nodup) : ((accelPlates s).map (·.plate)).Nodup :=
  (List.filter_sublist.map PlateRec.plate).nodup h

/-- The allocator and the lease engine but for their working values: inputs, capacities, shortages, plates, statistics and counts of records. -/
def AlSt.marks (a : AlSt) : AlSt :=
  { a with plates := [], racks := [], row := {}, late := false, rowCap := 0, allow := 0, shortW := 0, shortNow := false, shortKeys := [], rowMod := 0, allowV := none,
           rowSrc := 0, unk := [], lastGood := [], short := [], cntProv := 0, cntRetract := 0 }

/-- Allocators with the same marks have the same of each of them. -/
theorem eq_of_marks {α : Type} {a b : AlSt} (f : AlSt → α) (hf : ∀ c, f c.marks = f c) (h : a.marks = b.marks) : f a = f b := by
  rw [← hf a, h, hf]

@[simp] theorem setLs_marks (p : Nat) (x : PlateLs) (s : State) : (setLs p x s).al.marks = s.al.marks := rfl

theorem each_marks {α : Type} {f : α → State → State} (h : ∀ a u, (f a u).al.marks = u.al.marks) (l : List α) (s : State) :
    (each l f s).al.marks = s.al.marks :=
  each_keeps (fun u => u.al.marks = s.al.marks) f (fun a u hu => (h a u).trans hu) l s rfl

/-! ### Capacity inputs (R110, R111) -/

@[simp] theorem inputLost_marks (kind index : Nat) (w : Word) (s : State) : (inputLost kind index w s).al.marks = s.al.marks := by
  unfold inputLost
  split
  · rfl
  · rw [emit_al]; rfl

@[simp] theorem capInput_marks (kind index ch : Nat) (s : State) : (capInput kind index ch s).2.al.marks = s.al.marks := by
  unfold capInput
  split
  · rfl
  · exact inputLost_marks ..

@[simp] theorem tfwInput_marks (ch : Nat) (s : State) : (tfwInput ch s).2.al.marks = s.al.marks := by
  unfold tfwInput
  split
  · rfl
  · exact inputLost_marks ..
  · split
    · exact inputLost_marks ..
    · exact inputLost_marks ..
    · exact (inputLost_marks ..).trans (congrArg AlSt.marks (freshWord_al s))

@[simp] theorem cPump_marks (s : State) : (cPump s).2.al.marks = s.al.marks := by
  unfold cPump
  dsimp only
  split
  · exact (capInput_marks ..).trans (capInput_marks ..)
  · rfl

@[simp] theorem allowance_marks (s : State) : (allowance s).2.al.marks = s.al.marks := by
  unfold allowance
  dsimp only
  split
  · exact capInput_marks ..
  · rfl

@[simp] theorem rowCapacity_marks (s : State) : (rowCapacity s).2.al.marks = s.al.marks := by
  have htfw (ch : Nat) (u : State) : (if named ch then tfwInput ch u else (none, u)).2.al.marks = u.al.marks := by
    split
    · exact tfwInput_marks ..
    · rfl
  unfold rowCapacity
  dsimp only
  rw [← cPump_marks s]
  generalize cPump s = p
  rw [← htfw (pat s).alloc.tfwCh p.2]
  generalize (if named (pat s).alloc.tfwCh then tfwInput (pat s).alloc.tfwCh p.2 else (none, p.2)) = t
  rw [← allowance_marks t.2]
  rfl

@[simp] theorem manCapacity_marks (m : Nat) (s : State) : (manCapacity m s).2.al.marks = s.al.marks := by
  unfold manCapacity
  dsimp only
  split
  · exact (capInput_marks ..).trans (capInput_marks ..)
  · rfl

@[simp] theorem capacities_marks (s : State) : (capacities s).2.al.marks = s.al.marks := by
  unfold capacities
  generalize List.range 32 = l
  refine List.foldlRecOn (motive := fun a : Tab F32 × State => a.2.al.marks = s.al.marks) l _ (rowCapacity_marks s) (fun a ha m _ => ?_)
  have hm := (manCapacity_marks m a.2).trans ha
  split <;> next e => rw [e] at hm; exact hm

/-! ### The allocation of a round (R107, R112 to R114) -/

@[simp] theorem noteShort_marks (short : List (Nat × F32)) (s : State) : (noteShort short s).al.marks = s.al.marks := by
  refine each_marks (fun k u => ?_) _ s
  dsimp only
  split
  · rfl
  · change (emit ..).al.marks = u.al.marks
    rw [emit_al]

/-- The caps of the round before, noted at the start of an allocation (R107). -/
def notePrev (s : State) : State := each (accelPlates s) (fun r s => setLs r.plate { plateLs s r.plate with prev := prevCap s r, provCap := none } s) s

@[simp] theorem notePrev_marks (s : State) : (notePrev s).al.marks = s.al.marks := by
  refine each_marks (fun r u => ?_) _ s
  rfl

/-- A plate's results enter its own record: its lower bound and the cap found for it. -/
theorem storePlate_al (lam : Tab F32) (r : PlateRec) (x : PlateAl) (s : State) :
    ∃ l, (storePlate lam r x s).al = (setLs r.plate l s).al ∧ l.lo = x.lo10 ∧ l.firm = firmOf lam x := by
  unfold storePlate
  dsimp only
  split
  · exact ⟨_, emit_al .., rfl, rfl⟩
  · exact ⟨_, rfl, rfl, rfl⟩

@[simp] theorem storePlate_marks (lam : Tab F32) (r : PlateRec) (x : PlateAl) (s : State) : (storePlate lam r x s).al.marks = s.al.marks := by
  obtain ⟨l, h, -⟩ := storePlate_al lam r x s
  rw [h, setLs_marks]

theorem plateLs_storePlate_ne (lam : Tab F32) {r : PlateRec} (x : PlateAl) (s : State) {p : Nat} (h : p ≠ r.plate) :
    plateLs (storePlate lam r x s) p = plateLs s p := by
  obtain ⟨l, hl, -⟩ := storePlate_al lam r x s
  rw [plateLs_congr (congrArg AlSt.plates hl), plateLs_setLs_ne _ _ _ _ h]

/-- A stored cap is no lower than the plate's lower bound (R112). -/
theorem plateLs_storePlate_lo (lam : Tab F32) (r : PlateRec) (x : PlateAl) (s : State) :
    (plateLs (storePlate lam r x s) r.plate).lo ≤ (plateLs (storePlate lam r x s) r.plate).firm := by
  obtain ⟨l, hl, hlo, hfirm⟩ := storePlate_al lam r x s
  rw [plateLs_congr (congrArg AlSt.plates hl), plateLs_setLs_eq, hlo, hfirm]
  exact Nat.le_max_left ..

theorem each_storePlate_lo (lam : Tab F32) {l : List (PlateRec × PlateAl)} {a : PlateRec × PlateAl} (ha : a ∈ l) (s : State) :
    let t := each l (fun b u => storePlate lam b.1 b.2 u) s
    (plateLs t a.1.plate).lo ≤ (plateLs t a.1.plate).firm := by
  refine each_establishes (P := fun b u => (plateLs u b.1.plate).lo ≤ (plateLs u b.1.plate).firm) (fun b u => plateLs_storePlate_lo lam b.1 b.2 u) (fun b c u h => ?_) ha s
  by_cases e : c.1.plate = b.1.plate
  · rw [e]
    exact plateLs_storePlate_lo lam b.1 b.2 u
  · rw [plateLs_storePlate_ne lam b.2 u e]
    exact h

/-- Shortfalls noted and every plate's cap stored, for the bounds and the levels of an allocation. -/
def storeCaps (bounds : PlateRec → PlateAl) (lam : Tab F32) (short : List (Nat × F32)) (s : State) : State :=
  each ((accelPlates s).map (fun r => (r, bounds r))) (fun a u => storePlate lam a.1 a.2 u) (noteShort short (capacities (notePrev s)).2)

theorem storeCaps_marks (bounds : PlateRec → PlateAl) (lam : Tab F32) (short : List (Nat × F32)) (s : State) :
    (storeCaps bounds lam short s).al.marks = s.al.marks := by
  rw [storeCaps, each_marks (fun _ _ => storePlate_marks ..), noteShort_marks, capacities_marks, notePrev_marks]

theorem allocOp_false_al (s : State) : ∃ bounds lam short lims,
    (allocOp false s).al = { (storeCaps bounds lam short s).al with lims := lims, first := false, late := false, ran := some (allocOp false s).round } := by
  unfold allocOp storeCaps notePrev
  dsimp only
  generalize capacities _ = c
  obtain ⟨caps, u⟩ := c
  dsimp only
  rw [if_neg Bool.false_ne_true]
  generalize waterFill _ _ _ _ = w
  obtain ⟨lam, short⟩ := w
  exact ⟨fun r => plateAl u caps r, lam, short, _, rfl⟩

/-- An allocation in time marks its round. -/
theorem allocOp_false_marks (s : State) :
    ∃ lims, (allocOp false s).al.marks = { s.al with lims := lims, first := false, ran := some s.round }.marks ∧ (allocOp false s).al.late = false := by
  have hround : (allocOp false s).round = s.round := eq_round (allocOp_but' false s)
  obtain ⟨bounds, lam, short, lims, h⟩ := allocOp_false_al s
  refine ⟨lims, ?_, by rw [h]⟩
  have hstore := storeCaps_marks bounds lam short s
  rw [h, hround]
  generalize (storeCaps bounds lam short s).al = a at hstore ⊢
  exact congrArg (fun m : AlSt => { m with lims := lims, first := false, ran := some s.round }) hstore

theorem allocOp_false_lo {s : State} {r : PlateRec} (hr : r ∈ accelPlates s) :
    (plateLs (allocOp false s) r.plate).lo ≤ (plateLs (allocOp false s) r.plate).firm := by
  obtain ⟨bounds, lam, short, lims, h⟩ := allocOp_false_al s
  have hplates : (allocOp false s).al.plates = (storeCaps bounds lam short s).al.plates := by rw [h]
  rw [plateLs_congr hplates]
  exact each_storePlate_lo lam (List.mem_map_of_mem hr) _

theorem lateMark_marks (s : State) : ({ s with al.first := false, al.late := true } : State).al.marks = { s.al.marks with first := false } := rfl

/-- An allocation that is late marks no round (R114). -/
theorem allocOp_true_marks (s : State) : (allocOp true s).al.marks = { s.al with first := false }.marks ∧ (allocOp true s).al.late = true := by
  have hcap : (capacities (notePrev s)).2.al.marks = s.al.marks := by rw [capacities_marks, notePrev_marks]
  unfold notePrev at hcap
  unfold allocOp
  dsimp only
  generalize capacities _ = c at hcap ⊢
  obtain ⟨caps, u⟩ := c
  rw [if_pos rfl]
  refine ⟨(lateMark_marks _).trans ?_, rfl⟩
  rw [each_marks]
  · exact congrArg (fun m : AlSt => { m with first := false }) hcap
  · intro r v
    rfl

/-- An allocation, late or not, keeps the times of its run. -/
theorem allocOp_times (late : Bool) (s : State) :
    (allocOp late s).al.first = false ∧ (allocOp late s).al.timeLast = s.al.timeLast ∧ (allocOp late s).al.timeMax = s.al.timeMax := by
  cases late
  · obtain ⟨lims, h, -⟩ := allocOp_false_marks s
    exact ⟨(eq_of_marks AlSt.first (fun _ => rfl) h).trans rfl, (eq_of_marks AlSt.timeLast (fun _ => rfl) h).trans rfl, (eq_of_marks AlSt.timeMax (fun _ => rfl) h).trans rfl⟩
  · obtain ⟨h, -⟩ := allocOp_true_marks s
    exact ⟨(eq_of_marks AlSt.first (fun _ => rfl) h).trans rfl, (eq_of_marks AlSt.timeLast (fun _ => rfl) h).trans rfl, (eq_of_marks AlSt.timeMax (fun _ => rfl) h).trans rfl⟩

/-! ### Where the allocator does not run (R111) -/

/-- The allocator with other notes of its inputs. -/
def AlSt.Noted (a b : AlSt) : Prop := b = { a with unk := b.unk, lastGood := b.lastGood }

theorem AlSt.Noted.trans {a b c : AlSt} (h : a.Noted b) (k : b.Noted c) : a.Noted c := by
  unfold AlSt.Noted at *
  rw [k, h]

theorem noteInput_noted (kind index ch : Nat) (s : State) : s.al.Noted (noteInput kind index ch s).al := by
  unfold noteInput
  split
  · split <;> rfl
  · rfl

theorem noteInputs_noted (s : State) : s.al.Noted (noteInputs s).al := by
  unfold noteInputs
  dsimp only
  generalize List.range 32 = l
  iterate 4 refine .trans ?_ (noteInput_noted ..)
  exact each_keeps (fun u => s.al.Noted u.al) _ (fun m u hu => .trans (.trans hu (noteInput_noted ..)) (noteInput_noted ..)) l s rfl

/-- The frame of a command that completes with `t`. -/
theorem sameBut_of_exec {c : Instr} {s t : State} {l : List Part} (hexec : exec c s = .next t) (h : (outOf (exec c s) s).but (partMask l) = s.but (partMask l)) :
    SameBut l s t := by
  rwa [of_outOf hexec] at h

/-! ### ALLOCATOR (R106) -/

/-- The allocator's milestone: 0.92P, with the ECAP_N line as the command gives it. -/
def allocMilestone (low : Bool) (s : State) : State := clockTo (s.t0At + periodNs s * 92 / 100) { s with sv.ecapLine := low }

/-- The allocator starts in this round. -/
def allocStarts (s : State) : Bool := allocRuns s && !s.al.allocQuar && s.al.restarted != some s.round

theorem allocStarts_eq_true {s : State} : allocStarts s = true ↔ allocRuns s = true ∧ s.al.allocQuar = false ∧ s.al.restarted ≠ some s.round := by
  simp [allocStarts, and_assoc]

/-- The milestone with the time that the run took. -/
def allocTimed (ns : Nat) (low : Bool) (s : State) : State :=
  { allocMilestone low s with al.timeLast := ns, al.timeMax := max s.al.timeMax (min 0xFFFF ns) }

theorem exec_allocator {s : State} (hr : running s = true) (hb : s.began = true) (hs : s.glb.role ≠ .safe) (ns : Nat) (low : Bool) :
    exec (.allocator ns low) s =
      .next (if allocStarts s then allocOp (decide (periodNs s * 6 / 100 < ns)) (allocTimed ns low s) else noteInputs (allocMilestone low s)) := by
  have hc : (!allocRuns (allocMilestone low s) || (allocMilestone low s).al.allocQuar || (allocMilestone low s).al.restarted == some (allocMilestone low s).round)
      = !allocStarts s := by
    change (!allocRuns s || s.al.allocQuar || s.al.restarted == some s.round) = _
    simp [allocStarts, bne]
  change execAllocator ns low s = _
  rw [execAllocator, live, if_pos hr, if_neg (by simp [hb, hs])]
  dsimp only
  rw [← allocMilestone, hc]
  cases allocStarts s <;> rfl

/-! ### An allocation that has not completed (R114) -/

/-- Firm caps of an allocation that was not started in its round. -/
def lateFirm (s : State) : State :=
  if s.al.late then s
  else each (accelPlates s) (fun r s => let l := plateLs s r.plate; setLs r.plate { l with firm := minOpt l.firm [ecapOf s r, policyCap s r.plate], ecap := ecapOf s r, provCap := none } s) s

theorem lateFirm_marks (s : State) : (lateFirm s).al.marks = s.al.marks := by
  unfold lateFirm
  split
  · rfl
  · rw [each_marks]
    intro r u
    rfl

theorem lateFirm_but {m : Nat} (hm : sub 524288 m = true) (s : State) : (lateFirm s).but m = s.but m := by
  unfold lateFirm
  split
  · rfl
  · exact each_but (fun r u => setLs_but hm ..) _ s

theorem plateLs_lateFirm_seq (s : State) (p : Nat) : (plateLs (lateFirm s) p).seq = (plateLs s p).seq := by
  unfold lateFirm
  split
  · rfl
  · refine each_keeps (fun u => (plateLs u p).seq = (plateLs s p).seq) _ (fun r u hu => ?_) _ _ rfl
    dsimp only
    by_cases e : p = r.plate
    · rw [← hu, e, plateLs_setLs_eq]
    · rw [plateLs_setLs_ne _ _ _ _ e, hu]

theorem lateCaps_eq (s : State) :
    lateCaps s = emit 0x0B0A srcAlloc (aq (lateFirm s).round ++ aw (lateFirm s).al.timeLast) { lateFirm s with al.late := false } := rfl

theorem lateCaps_al (s : State) : (lateCaps s).al = { (lateFirm s).al with late := false } := by
  rw [lateCaps_eq, emit_al]

@[simp] theorem lateCaps_marks (s : State) : (lateCaps s).al.marks = s.al.marks := by
  rw [lateCaps_al, ← lateFirm_marks]
  rfl

theorem plateLs_lateCaps_seq (s : State) (p : Nat) : (plateLs (lateCaps s) p).seq = (plateLs s p).seq := by
  have h : (lateCaps s).al.plates = (lateFirm s).al.plates := by rw [lateCaps_al]
  rw [plateLs_congr h, plateLs_lateFirm_seq]

theorem lateFirm_alike (s : State) : RecordAlike s { lateFirm s with al.late := false } := (lateFirm_but (m := unrecorded) (by decide) s).symm

theorem lateCaps_ev {e s : State} (h : RecordAlike e s) :
    Wrote 0x0B0A srcAlloc (aq s.round ++ aw s.al.timeLast) e (lateCaps s) := by
  refine wrote_of_alike (h.trans (lateFirm_alike s)) ?_
  have hround : (lateFirm s).round = s.round := eq_round (lateFirm_but (m := 524288) (by decide) s)
  have htime : (lateFirm s).al.timeLast = s.al.timeLast := eq_of_marks AlSt.timeLast (fun _ => rfl) (lateFirm_marks s)
  rw [lateCaps_eq, hround, htime]

/-! ### Records of plates (R116) -/

/-- A property of the state that every plate's record keeps. -/
theorem recordsOfPlates_keeps {P : State → Prop} {f : PlateRec → State → Bytes × State} (kept : ∀ r u, P u → P (f r u).2) (l : List PlateRec) {s : State}
    (hs : P s) : P (recordsOfPlates f l s).2 := by
  induction l generalizing s with
  | nil => exact hs
  | cons r l ih => exact ih (kept r s hs)

/-- A plate that is not among those recorded stays as it is. -/
theorem plateLs_recordsOfPlates_of_notMem {f : PlateRec → State → Bytes × State} (other : ∀ r u p, p ≠ r.plate → plateLs (f r u).2 p = plateLs u p)
    {l : List PlateRec} {p : Nat} (hp : p ∉ l.map (·.plate)) (s : State) : plateLs (recordsOfPlates f l s).2 p = plateLs s p := by
  induction l generalizing s with
  | nil => rfl
  | cons q l ih =>
    rw [List.map_cons, List.mem_cons, not_or] at hp
    exact (ih hp.2 _).trans (other q s p hp.1)

/-- Where plates are named once, each one's record is written from what the plate was before. -/
theorem recordsOfPlates_of_mem {P : State → Prop} {R : PlateRec → PlateLs → PlateLs → Prop} {f : PlateRec → State → Bytes × State}
    (kept : ∀ r u, P u → P (f r u).2) (own : ∀ r u, P u → R r (plateLs u r.plate) (plateLs (f r u).2 r.plate))
    (other : ∀ r u p, p ≠ r.plate → plateLs (f r u).2 p = plateLs u p) {l : List PlateRec} (hn : (l.map (·.plate)).Nodup) {r : PlateRec} (hr : r ∈ l)
    {s : State} (hs : P s) : R r (plateLs s r.plate) (plateLs (recordsOfPlates f l s).2 r.plate) := by
  induction l generalizing s with
  | nil => cases hr
  | cons q l ih =>
    obtain ⟨hq, hn⟩ := List.nodup_cons.mp hn
    change R r (plateLs s r.plate) (plateLs (recordsOfPlates f l (f q s).2).2 r.plate)
    rcases List.mem_cons.mp hr with rfl | hr
    · rw [plateLs_recordsOfPlates_of_notMem other hq]
      exact own r s hs
    · have hne : r.plate ≠ q.plate := fun e => hq (List.mem_map.mpr ⟨r, hr, e⟩)
      rw [← other q s _ hne]
      exact ih hn hr (kept q s hs)

theorem sendAllLeases_al (keeper : Bool) (recs : List (PlateRec × Bytes)) (s : State) : (sendAllLeases keeper recs s).al = s.al :=
  eq_al (sendAllLeases_but' keeper recs s)

/-! ### The lease engine (R117) -/

/-- The record of a provisional cap that is taken back (R94). -/
def retraction (r : PlateRec) (s : State) : State :=
  emit 0x0B08 (src 11 0) (aw r.plate ++ aw (plateLs s r.plate).cap ++ aw (plateLs s r.plate).firm) { s with al.cntRetract := satAdd 0xFFFFFFFF s.al.cntRetract 1 }

theorem retraction_al (r : PlateRec) (s : State) : (retraction r s).al = { s.al with cntRetract := satAdd 0xFFFFFFFF s.al.cntRetract 1 } := emit_al ..

theorem plateLs_retraction (r : PlateRec) (s : State) (p : Nat) : plateLs (retraction r s) p = plateLs s p :=
  plateLs_congr (by rw [retraction_al]) p

/-- A plate's record of the round is one record issued, on a state with the plate's sequence number and every other plate as they were. -/
theorem engineRec_issues (r : PlateRec) (s : State) : ∃ kind flags cap ref u, engineRec r s = issueRec r kind flags cap (rampOf s r) ref false u ∧
    u.al.marks = s.al.marks ∧ (plateLs u r.plate).seq = (plateLs s r.plate).seq ∧ ∀ p, p ≠ r.plate → plateLs u p = plateLs s p := by
  unfold engineRec
  dsimp only
  split
  · refine ⟨_, _, _, _, _, rfl, rfl, ?_, fun p hp => ?_⟩
    · change (plateLs (setLs r.plate _ s) r.plate).seq = _
      rw [plateLs_setLs_eq]
    · change plateLs (setLs r.plate _ s) p = _
      rw [plateLs_setLs_ne _ _ _ _ hp]
  · split
    · exact ⟨_, _, _, _, _, rfl, rfl, rfl, fun _ _ => rfl⟩
    split
    · refine ⟨_, _, _, _, retraction r s, rfl, ?_, ?_, fun p _ => ?_⟩
      · rw [retraction_al]
        rfl
      · rw [plateLs_retraction]
      · rw [plateLs_retraction]
    split
    · exact ⟨_, _, _, _, _, rfl, rfl, rfl, fun _ _ => rfl⟩
    · exact ⟨_, _, _, _, _, rfl, rfl, rfl, fun _ _ => rfl⟩

theorem engineRec_marks (r : PlateRec) (s : State) : (engineRec r s).2.al.marks = s.al.marks := by
  obtain ⟨kind, flags, cap, ref, u, h, hm, -⟩ := engineRec_issues r s
  rw [h, ← hm]
  rfl

theorem plateLs_engineRec_ne {r : PlateRec} (s : State) {p : Nat} (hp : p ≠ r.plate) : plateLs (engineRec r s).2 p = plateLs s p := by
  obtain ⟨kind, flags, cap, ref, u, h, -, -, hother⟩ := engineRec_issues r s
  rw [h, ← hother p hp]
  exact plateLs_setLs_ne _ _ _ _ hp

/-- What a record of the engine makes of a plate: the next sequence number, and no keeper's record. -/
def EngineIssued (a b : PlateLs) : Prop := b.seq = (a.seq + 1) % 2 ^ 32 ∧ b.keeper = false

theorem plateLs_engineRec (r : PlateRec) (s : State) : EngineIssued (plateLs s r.plate) (plateLs (engineRec r s).2 r.plate) := by
  obtain ⟨kind, flags, cap, ref, u, h, -, hseq, -⟩ := engineRec_issues r s
  have hp : plateLs (engineRec r s).2 r.plate =
      { plateLs u r.plate with kind := kind, keeper := false, cap := cap, seq := ((plateLs u r.plate).seq + 1) % 2 ^ 32, flags := flags } := by
    rw [h]
    exact plateLs_setLs_eq ..
  rw [hp, EngineIssued, ← hseq]
  exact ⟨rfl, rfl⟩

/-- The keeper's copy is of the cap and the sequence number that the plate shows. -/
def Copied (l : PlateLs) : Prop := l.kSeq = l.seq ∧ l.kCap = l.firm

theorem keeperCopy_marks (r : PlateRec) (s : State) : (keeperCopy r s).al.marks = s.al.marks := rfl

theorem each_keeperCopy {l : List PlateRec} {r : PlateRec} (hr : r ∈ l) (s : State) : Copied (plateLs (each l keeperCopy s) r.plate) := by
  refine each_establishes (P := fun (r : PlateRec) u => Copied (plateLs u r.plate)) (f := keeperCopy) (fun r u => ?_) (fun q r u h => ?_) hr s
  · rw [keeperCopy, plateLs_setLs_eq]
    exact ⟨rfl, rfl⟩
  · by_cases e : r.plate = q.plate
    · rw [keeperCopy, e, plateLs_setLs_eq]
      exact ⟨rfl, rfl⟩
    · rw [keeperCopy, plateLs_setLs_ne _ _ _ _ e]
      exact h

theorem keeperCopy_issued {a : PlateLs} {p : Nat} (r : PlateRec) {s : State} (h : EngineIssued a (plateLs s p)) : EngineIssued a (plateLs (keeperCopy r s) p) := by
  by_cases e : p = r.plate
  · rw [keeperCopy, e, plateLs_setLs_eq]
    rw [e] at h
    exact h
  · rw [keeperCopy, plateLs_setLs_ne _ _ _ _ e]
    exact h

/-! ### The keeper goes off (R123) -/

theorem keeperOff_of_off {s : State} (h : s.al.keepOn = false) (cause : Nat) : keeperOff cause s = s := by
  rw [keeperOff, if_neg (by simp [h])]

/-- The allocator once the keeper is off. -/
def AlSt.keeperOff (cause : Nat) (a : AlSt) : AlSt := { a with keepOn := false, keepAsked := false, keepStop := cause == 3 }

/-- The record of the keeper's end. -/
def keeperEnd (cause : Nat) (s : State) : State := emit 0x0B02 (src 11 1) (aw s.al.keepRounds ++ aw cause) { s with al := s.al.keeperOff cause }

theorem keeperOff_of_on {s : State} (h : s.al.keepOn = true) (cause : Nat) :
    keeperOff cause s = if cause = 3 then emit 0x0B0B (src 11 1) (aq (keeperEnd cause s).round) (keeperEnd cause s) else keeperEnd cause s := by
  rw [Machine.keeperOff, if_pos h]
  rfl

theorem keeperOff_al_of_on {s : State} (h : s.al.keepOn = true) (cause : Nat) : (keeperOff cause s).al = s.al.keeperOff cause := by
  have hend : (keeperEnd cause s).al = s.al.keeperOff cause := emit_al ..
  rw [keeperOff_of_on h]
  split
  · rw [emit_al, hend]
  · exact hend

theorem keeperOff_keepOn (cause : Nat) (s : State) : (keeperOff cause s).al.keepOn = false := by
  by_cases h : s.al.keepOn = true
  · rw [keeperOff_al_of_on h]
    rfl
  · rw [keeperOff_of_off (by simpa using h)]
    simpa using h

theorem keeperOff_plates (cause : Nat) (s : State) : (keeperOff cause s).al.plates = s.al.plates := by
  by_cases h : s.al.keepOn = true
  · rw [keeperOff_al_of_on h]
    rfl
  · rw [keeperOff_of_off (by simpa using h)]

/-! ### The bundles of a round (R117) -/

/-- Every plate's record, before its copy. -/
def bundled (s : State) : State :=
  sendAllLeases false (recordsOfPlates engineRec (accelPlates (keeperOff 1 s)) (keeperOff 1 s)).1 (recordsOfPlates engineRec (accelPlates (keeperOff 1 s)) (keeperOff 1 s)).2

/-- The records issued and copied. -/
def copied (s : State) : State := each (accelPlates (bundled s)) keeperCopy (bundled s)

theorem engineOp_al (s : State) : (engineOp s).al =
    { (copied s).al with armed := true, done := some (engineOp s).round, lastFirm := (engineOp s).round, keepStop := false } := by
  unfold engineOp copied bundled
  dsimp only

theorem bundled_pf (s : State) : (bundled s).pf = s.pf := by
  rw [bundled, eq_pf (sendAllLeases_but' ..), eq_pf (recordsOfPlates_but (m := 1573504) (engineRec_but (by decide)) ..), eq_pf (keeperOff_but' ..)]

theorem copied_keepOn (s : State) : (copied s).al.keepOn = false := by
  have hcopy : (copied s).al.marks = (bundled s).al.marks := each_marks keeperCopy_marks _ _
  have hrec : (bundled s).al.marks = (keeperOff 1 s).al.marks := by
    rw [bundled, sendAllLeases_al]
    exact recordsOfPlates_keeps (P := fun u => u.al.marks = (keeperOff 1 s).al.marks) (fun r u hu => (engineRec_marks r u).trans hu) _ rfl
  rw [eq_of_marks AlSt.keepOn (fun _ => rfl) (hcopy.trans hrec), keeperOff_keepOn]

/-- The bundles done: the engine's marks of the round. -/
theorem engineOp_marks (s : State) : (engineOp s).al.done = some s.round ∧ (engineOp s).al.lastFirm = s.round ∧ (engineOp s).al.armed = true ∧
    (engineOp s).al.keepOn = false ∧ (engineOp s).al.keepStop = false := by
  have hround : (engineOp s).round = s.round := eq_round (engineOp_but' s)
  rw [engineOp_al, hround]
  exact ⟨rfl, rfl, rfl, copied_keepOn s, rfl⟩

/-- The bundles done: each plate's record issued and copied. -/
theorem engineOp_plate {s : State} (hn : (allPlates s).Nodup) {r : PlateRec} (hr : r ∈ accelPlates s) :
    EngineIssued (plateLs s r.plate) (plateLs (engineOp s) r.plate) ∧ Copied (plateLs (engineOp s) r.plate) := by
  have hoff : accelPlates (keeperOff 1 s) = accelPlates s := accelPlates_congr (eq_pf (keeperOff_but' 1 s))
  have hissued : EngineIssued (plateLs s r.plate) (plateLs (bundled s) r.plate) := by
    rw [← plateLs_congr (keeperOff_plates 1 s), bundled, plateLs_congr (congrArg AlSt.plates (sendAllLeases_al ..)), hoff]
    exact recordsOfPlates_of_mem (P := fun _ => True) (R := fun _ => EngineIssued) (fun _ _ _ => trivial) (fun r u _ => plateLs_engineRec r u)
      (fun _ u _ hp => plateLs_engineRec_ne u hp) (accelPlates_nodup hn) hr trivial
  have hplates : (engineOp s).al.plates = (copied s).al.plates := by rw [engineOp_al]
  rw [plateLs_congr hplates]
  constructor
  · exact each_keeps (fun u => EngineIssued (plateLs s r.plate) (plateLs u r.plate)) keeperCopy (fun _ _ h => keeperCopy_issued _ h) _ _ hissued
  · exact each_keeperCopy (by rwa [accelPlates_congr (bundled_pf s)]) _

/-! ### Statistics (R127 to R129) -/

/-- Statistics alone changed: a plate's own block, and of the allocator nothing but the blocks. -/
def StatsOnly (s t : State) : Prop := t.al.marks = s.al.marks ∧ ∀ p, ∃ b, plateLs t p = { plateLs s p with stat := b }

theorem StatsOnly.setStat {s t : State} (h : StatsOnly s t) (p : Nat) (b : StatBlk) : StatsOnly s (setLs p { plateLs t p with stat := b } t) := by
  obtain ⟨hm, hp⟩ := h
  refine ⟨hm, fun q => ?_⟩
  obtain ⟨c, hc⟩ := hp q
  by_cases e : q = p
  · subst e
    exact ⟨b, by rw [plateLs_setLs_eq, hc]⟩
  · exact ⟨c, by rw [plateLs_setLs_ne _ _ _ _ e, hc]⟩

theorem statsOp_statsOnly (s : State) : StatsOnly s (statsOp s) := by
  unfold statsOp
  dsimp only
  generalize List.range 32 = l
  refine each_keeps (StatsOnly s) _ (fun k u hu => ?_) l _ ?_
  · split
    · exact hu
    · exact hu
  · exact each_keeps (StatsOnly s) _ (fun r u hu => hu.setStat r.plate _) _ s ⟨rfl, fun p => ⟨_, rfl⟩⟩

/-! ### LEASE_OUT (R114, R117) -/

/-- The lease-out milestone: 0.98P. -/
def leaseMilestone (s : State) : State := clockTo (s.t0At + periodNs s * 98 / 100) s

/-- The milestone once trims are written and a late allocation is recorded. -/
def leaseReady (s : State) : State :=
  if allocLate (writeTrims (leaseMilestone s)) then lateCaps (writeTrims (leaseMilestone s)) else writeTrims (leaseMilestone s)

theorem exec_leaseOut {s : State} (hr : running s = true) (hb : s.began = true) (hs : s.glb.role ≠ .safe) :
    exec .leaseOut s = .next (statsOp (if engineUp (leaseReady s) then engineOp (leaseReady s) else leaseReady s)) := by
  change execLeaseOut s = _
  rw [execLeaseOut, live, if_pos hr, if_neg (by simp [hb, hs])]
  rfl

theorem writeTrims_eq (s : State) : writeTrims s = { s with lp := (writeTrims s).lp } := by
  unfold writeTrims
  split
  · exact each_keeps (fun u => u = { s with lp := u.lp }) _ (fun r u hu => by rw [hu]; rfl) _ _ rfl
  · rfl

theorem allocLate_writeTrims (s : State) : allocLate (writeTrims s) = allocLate s := by
  rw [writeTrims_eq]
  rfl

theorem writeTrims_al (s : State) : (writeTrims s).al = s.al := eq_al (writeTrims_but' s)

theorem writeTrims_alike (s : State) : RecordAlike s (writeTrims s) := (writeTrims_but (m := unrecorded) (by decide) s).symm

theorem leaseReady_but (s : State) : (leaseReady s).but 68690560 = s.but 68690560 := by
  have htrims : (writeTrims (leaseMilestone s)).but 68690560 = s.but 68690560 := (writeTrims_but (by decide) _).trans (clockTo_but (by decide) _ s)
  unfold leaseReady
  split
  · exact (lateCaps_but (by decide) _).trans htrims
  · exact htrims

theorem leaseReady_marks (s : State) : (leaseReady s).al.marks = s.al.marks := by
  have htrims : (writeTrims (leaseMilestone s)).al.marks = s.al.marks := congrArg AlSt.marks (writeTrims_al _)
  unfold leaseReady
  split
  · exact (lateCaps_marks _).trans htrims
  · exact htrims

theorem leaseReady_seq (s : State) (p : Nat) : (plateLs (leaseReady s) p).seq = (plateLs s p).seq := by
  have htrims : (plateLs (writeTrims (leaseMilestone s)) p).seq = (plateLs s p).seq :=
    congrArg PlateLs.seq (plateLs_congr (congrArg AlSt.plates (writeTrims_al (leaseMilestone s))) p)
  unfold leaseReady
  split
  · exact (plateLs_lateCaps_seq ..).trans htrims
  · exact htrims

theorem leaseReady_clock (s : State) : (leaseReady s).clock = (leaseMilestone s).clock := by
  unfold leaseReady
  split
  · rw [eq_clock (lateCaps_but' _), eq_clock (writeTrims_but' _)]
  · rw [eq_clock (writeTrims_but' _)]

theorem leaseReady_ev (s : State) :
    (allocLate (leaseMilestone s) = false → (leaseReady s).ev = s.ev) ∧
      (allocLate (leaseMilestone s) = true → Wrote 0x0B0A srcAlloc (aq s.round ++ aw s.al.timeLast) (leaseMilestone s) (leaseReady s)) := by
  have hround : (writeTrims (leaseMilestone s)).round = s.round := (eq_round (writeTrims_but' (leaseMilestone s))).trans (clockTo_round ..)
  have htime : (writeTrims (leaseMilestone s)).al.timeLast = s.al.timeLast := congrArg AlSt.timeLast (writeTrims_al _)
  unfold leaseReady
  rw [allocLate_writeTrims]
  constructor <;> intro h
  · rw [h, if_neg Bool.false_ne_true]
    exact (eq_ev (writeTrims_but' (leaseMilestone s))).trans (clockTo_ev ..)
  · rw [h, if_pos rfl, ← hround, ← htime]
    exact lateCaps_ev (writeTrims_alike _)

/-- What the lease engine asks for (R23, R107, R117, R394, R419). -/
theorem engineUp_eq_true {s : State} : engineUp s = true ↔
    issues s = true ∧ s.al.first = false ∧ s.al.leaseQuar = false ∧ s.al.allocQuar = false ∧ s.al.restarted ≠ some s.round ∧ engineSilent s = false := by
  simp [engineUp, and_assoc]

theorem engineUp_leaseReady {s : State} : engineUp (leaseReady s) = true ↔
    issues s = true ∧ s.al.first = false ∧ s.al.leaseQuar = false ∧ s.al.allocQuar = false ∧ s.al.restarted ≠ some s.round ∧
      engineSilent (leaseMilestone s) = false := by
  have hm := leaseReady_marks s
  have hissues : issues (leaseReady s) = issues s := by simp only [issues, drives, eq_glb (leaseReady_but s)]
  have hsilent : engineSilent (leaseReady s) = engineSilent (leaseMilestone s) := by
    simp only [engineSilent, eq_pf (leaseReady_but s), leaseReady_clock s]
    rfl
  rw [engineUp_eq_true, hissues, hsilent, eq_of_marks AlSt.first (fun _ => rfl) hm, eq_of_marks AlSt.leaseQuar (fun _ => rfl) hm,
    eq_of_marks AlSt.allocQuar (fun _ => rfl) hm, eq_of_marks AlSt.restarted (fun _ => rfl) hm, eq_round (leaseReady_but s)]
theorem engineUp_leaseReady_false {s : State} : engineUp (leaseReady s) = false ↔
    issues s = false ∨ s.al.first = true ∨ s.al.leaseQuar = true ∨ s.al.allocQuar = true ∨ s.al.restarted = some s.round ∨
      engineSilent (leaseMilestone s) = true := by
  rw [← Bool.not_eq_true, engineUp_leaseReady]
  grind

/-- A round's bundles done, by the engine's marks and each plate's record. -/
theorem leaseOut_issued (s : State) : let t := statsOp (engineOp (leaseReady s))
    t.clock = (leaseMilestone s).clock ∧ t.al.done = some s.round ∧ t.al.lastFirm = s.round ∧ t.al.armed = true ∧ t.al.keepOn = false ∧ t.al.keepStop = false ∧
      ((allPlates s).Nodup → ∀ r ∈ accelPlates s,
        (plateLs t r.plate).seq = ((plateLs s r.plate).seq + 1) % 2 ^ 32 ∧ (plateLs t r.plate).keeper = false ∧
        (plateLs t r.plate).kSeq = (plateLs t r.plate).seq ∧ (plateLs t r.plate).kCap = (plateLs t r.plate).firm) := by
  have hpf : (leaseReady s).pf = s.pf := eq_pf (leaseReady_but s)
  have hround : (leaseReady s).round = s.round := eq_round (leaseReady_but s)
  obtain ⟨hmarks, hplates⟩ := statsOp_statsOnly (engineOp (leaseReady s))
  obtain ⟨hdone, hlast, harmed, hon, hstop⟩ := engineOp_marks (leaseReady s)
  rw [hround] at hdone hlast
  refine ⟨?_, ?_, ?_, ?_, ?_, ?_, fun hn r hm => ?_⟩
  · rw [eq_clock (statsOp_but' _), eq_clock (engineOp_but' _), leaseReady_clock]
  · exact (eq_of_marks AlSt.done (fun _ => rfl) hmarks).trans hdone
  · exact (eq_of_marks AlSt.lastFirm (fun _ => rfl) hmarks).trans hlast
  · exact (eq_of_marks AlSt.armed (fun _ => rfl) hmarks).trans harmed
  · exact (eq_of_marks AlSt.keepOn (fun _ => rfl) hmarks).trans hon
  · exact (eq_of_marks AlSt.keepStop (fun _ => rfl) hmarks).trans hstop
  · rw [← allPlates_congr hpf] at hn
    rw [← accelPlates_congr hpf] at hm
    obtain ⟨⟨hseq, hkeeper⟩, hkSeq, hkCap⟩ := engineOp_plate hn hm
    obtain ⟨b, hstat⟩ := hplates r.plate
    rw [hstat, ← leaseReady_seq s]
    generalize plateLs (engineOp (leaseReady s)) r.plate = l at hseq hkeeper hkSeq hkCap ⊢
    exact ⟨hseq, hkeeper, hkSeq, hkCap⟩

/-- A round without bundles: of the lease engine and the keeper nothing changes, and nothing goes out. -/
theorem leaseOut_silent (s : State) : let t := statsOp (leaseReady s)
    t.clock = (leaseMilestone s).clock ∧ t.al.done = s.al.done ∧ t.al.armed = s.al.armed ∧ t.al.keepOn = s.al.keepOn ∧ t.outbox = s.outbox ∧ t.ev = (leaseReady s).ev := by
  obtain ⟨hstats, -⟩ := statsOp_statsOnly (leaseReady s)
  have hmarks := hstats.trans (leaseReady_marks s)
  have hkept := statsOp_but' (leaseReady s)
  exact ⟨(eq_clock hkept).trans (leaseReady_clock s), eq_of_marks AlSt.done (fun _ => rfl) hmarks, eq_of_marks AlSt.armed (fun _ => rfl) hmarks,
    eq_of_marks AlSt.keepOn (fun _ => rfl) hmarks, (eq_outbox hkept).trans (eq_outbox (leaseReady_but s)), eq_ev hkept⟩

/-! ### O10 -/

/-- Settles O10: a milestone's command comes to one equation (`exec_allocator`, `exec_leaseOut`). An allocation stores every plate's cap from its lower bound up (`allocOp_false_lo`); of a round's bundles each plate's record is issued once (`engineOp_plate`), and neither the trims nor a late allocation before them touch what the engine asks for (`engineUp_leaseReady`). -/
theorem allocationAndLeaseOut : Obligations.allocation_and_lease_out := by
  unfold Obligations.allocation_and_lease_out
  refine ⟨?allocator, ?leaseOut⟩
  case allocator =>
    intro ns low s hr hb hs
    have hexec := exec_allocator hr hb hs ns low
    have hframe := sameBut_of_exec (l := [.ev, .hl, .sv, .al, .errs, .clock, .freeCtr]) hexec (execAllocator_but (by decide) ns low s)
    refine ⟨_, hexec, ?_⟩
    cases hstart : allocStarts s
    case false =>
      rw [hstart, if_neg Bool.false_ne_true] at hframe
      rw [if_neg Bool.false_ne_true]
      have hkept := noteInputs_but' (allocMilestone low s)
      have hno : ¬ (allocRuns s = true ∧ s.al.allocQuar = false ∧ s.al.restarted ≠ some s.round) := by simp [← allocStarts_eq_true, hstart]
      exact ⟨eq_clock hkept, eq_sv hkept, fun _ => ⟨noteInputs_noted _, (eq_ev hkept).trans rfl⟩, fun hruns hquar hrestart => absurd ⟨hruns, hquar, hrestart⟩ hno, hframe⟩
    case true =>
      rw [hstart, if_pos rfl] at hframe
      rw [if_pos rfl]
      have hkept := allocOp_but' (decide (periodNs s * 6 / 100 < ns)) (allocTimed ns low s)
      obtain ⟨hruns, hquar, hrestart⟩ := allocStarts_eq_true.mp hstart
      obtain ⟨hfirst, hlast, hmax⟩ := allocOp_times (decide (periodNs s * 6 / 100 < ns)) (allocTimed ns low s)
      refine ⟨eq_clock hkept, eq_sv hkept, by simp [hruns, hquar, hrestart], fun _ _ _ => ⟨hfirst, hlast, hmax, fun h => ?_, fun h => ?_⟩, hframe⟩
      · rw [decide_eq_true h]
        obtain ⟨hmarks, hlate⟩ := allocOp_true_marks (allocTimed ns low s)
        exact ⟨hlate, (eq_of_marks AlSt.ran (fun _ => rfl) hmarks).trans rfl⟩
      · rw [decide_eq_false (Nat.not_lt.mpr h)]
        obtain ⟨lims, hmarks, hlate⟩ := allocOp_false_marks (allocTimed ns low s)
        exact ⟨hlate, (eq_of_marks AlSt.ran (fun _ => rfl) hmarks).trans rfl, fun r hm => allocOp_false_lo hm⟩
  case leaseOut =>
    intro s hr hb hs
    dsimp only
    have hexec := exec_leaseOut hr hb hs
    have hframe := sameBut_of_exec (l := [.ev, .hl, .lp, .al, .errs, .outbox, .clock]) hexec (execLeaseOut_but (by decide) s)
    refine ⟨_, hexec, ?_⟩
    cases hup : engineUp (leaseReady s)
    case true =>
      rw [hup, if_pos rfl] at hframe
      rw [if_pos rfl]
      obtain ⟨hclock, hissued⟩ := leaseOut_issued s
      refine ⟨hclock, fun _ _ _ _ _ _ => hissued, fun h => ?_, hframe⟩
      rw [engineUp_leaseReady_false.mpr h] at hup
      cases hup
    case false =>
      rw [hup, if_neg Bool.false_ne_true] at hframe
      rw [if_neg Bool.false_ne_true]
      obtain ⟨hclock, hdone, harmed, hon, hout, hev⟩ := leaseOut_silent s
      obtain ⟨hquiet, hlate⟩ := leaseReady_ev s
      have hdown := mt engineUp_leaseReady.mpr (Bool.eq_false_iff.mp hup)
      exact ⟨hclock, fun h1 h2 h3 h4 h5 h6 => absurd ⟨h1, h2, h3, h4, h5, h6⟩ hdown,
        fun _ => ⟨hdone, harmed, hon, hout, fun h => hev.trans (hquiet h), fun h => hev.trans (hlate h)⟩, hframe⟩

end Sys2Proof.Machine
end

section
/-! The statement of chapter 04 on the lease keeper, shortages and disagreements with the host (O11). -/

-- The whole text is compiled in one process, where every waiting thread reserves its stack: one declaration at a time.
set_option Elab.async false

namespace Sys2Proof.Machine

/-! ### The keeper's records (R123) -/

/-- What a record of the keeper makes of a plate under its emergency ceiling. -/
def KeeperIssued (ecap : Option Nat) (a b : PlateLs) : Prop :=
  b.kind = 1 ∧ b.keeper = true ∧ b.cap = minOpt a.kCap [ecap] ∧ b.seq = (a.kSeq + 1) % 2 ^ 32

theorem plateLs_keeperRec (r : PlateRec) (s : State) : KeeperIssued (ecapOf s r) (plateLs s r.plate) (plateLs (keeperRec r s).2 r.plate) := by
  unfold keeperRec
  dsimp only
  rw [plateLs_setLs_eq]
  exact ⟨rfl, rfl, rfl, rfl⟩

theorem plateLs_keeperRec_ne {r : PlateRec} (s : State) {p : Nat} (hp : p ≠ r.plate) : plateLs (keeperRec r s).2 p = plateLs s p :=
  plateLs_setLs_ne _ _ _ _ hp

/-- The keeper's milestone: 0.99P, with the ECAP_N line read as it issues. -/
def keeperMilestone (s : State) : State :=
  let e := clockTo (s.t0At + periodNs s * 99 / 100) s
  { e with sv.ecapLine := Config.ecapLine e.clock }

/-- The keeper at its milestone, its first round recorded. -/
def keeperBegun (s : State) : State :=
  if s.al.keepOn then s else emit 0x0B01 (src 11 1) (aq s.round ++ aq s.al.lastFirm) { s with al.keepOn := true, al.keepRounds := 0 }

/-- The keeper's round counted. -/
def keeperRound (s : State) : State := { keeperBegun s with al.keepRounds := satAdd 0xFFFF (keeperBegun s).al.keepRounds 1 }

/-- The keeper's records out. -/
def keeperOut (s : State) : State :=
  sendAllLeases true (recordsOfPlates keeperRec (accelPlates s) s).1 (recordsOfPlates keeperRec (accelPlates s) s).2

theorem exec_leaseKeeperIssue {s : State} (hr : running s = true) (hi : issues s = true) (ha : s.al.armed = true) (hk : s.al.keepStop = false)
    (hd : s.al.done ≠ some s.round) : exec .leaseKeeperIssue s = .next (keeperOut (keeperRound (keeperMilestone s))) := by
  change execLeaseKeeperIssue s = _
  rw [execLeaseKeeperIssue, live, if_pos hr, if_neg (by simp [hi, ha, hk, hd])]
  rfl

theorem keeperBegun_al (s : State) : (keeperBegun s).al = { s.al with keepOn := true, keepRounds := if s.al.keepOn then s.al.keepRounds else 0 } := by
  unfold keeperBegun
  split
  · next h => rw [← h]
  · exact emit_al ..

theorem keeperRound_al (s : State) : (keeperRound s).al =
    { s.al with keepOn := true, keepRounds := satAdd 0xFFFF (if s.al.keepOn then s.al.keepRounds else 0) 1 } := by
  change { (keeperBegun s).al with keepRounds := satAdd 0xFFFF (keeperBegun s).al.keepRounds 1 } = _
  rw [keeperBegun_al]

theorem keeperBegun_but {m : Nat} (hm : sub 1573504 m = true) (s : State) : (keeperBegun s).but m = s.but m := by
  refine but_mono hm ?_
  unfold keeperBegun
  split
  · rfl
  · exact (emit_but (by decide) ..).trans rfl

theorem keeperRound_but (s : State) : (keeperRound s).but 1573504 = s.but 1573504 :=
  calc (keeperRound s).but 1573504 = (keeperBegun s).but 1573504 := rfl
    _ = s.but 1573504 := keeperBegun_but (by decide) s

theorem keeperOut_but (s : State) : (keeperOut s).but 8912896 = s.but 8912896 :=
  (sendAllLeases_but (by decide) ..).trans (recordsOfPlates_but (keeperRec_but (by decide)) ..)

theorem keeperOut_marks (s : State) : (keeperOut s).al.marks = s.al.marks := by
  rw [keeperOut, sendAllLeases_al]
  exact recordsOfPlates_keeps (P := fun u => u.al.marks = s.al.marks) (fun r u hu => hu) _ rfl

theorem keeperOut_plate {s : State} (hn : (allPlates s).Nodup) {r : PlateRec} (hr : r ∈ accelPlates s) :
    KeeperIssued (ecapOf s r) (plateLs s r.plate) (plateLs (keeperOut s) r.plate) := by
  rw [keeperOut, plateLs_congr (congrArg AlSt.plates (sendAllLeases_al ..))]
  refine recordsOfPlates_of_mem (P := fun u => u.sv = s.sv ∧ u.pf = s.pf) (R := fun r => KeeperIssued (ecapOf s r)) (fun r u hu => hu) (fun r u hu => ?_)
    (fun r u p hp => plateLs_keeperRec_ne u hp) (accelPlates_nodup hn) hr ⟨rfl, rfl⟩
  rw [← ecapOf_congr hu.1 hu.2]
  exact plateLs_keeperRec r u

/-- A keeper's first round is recorded, a later one writes nothing. -/
theorem keeperOut_ev (s : State) : let t := keeperOut (keeperRound (keeperMilestone s))
    (s.al.keepOn = false → Wrote 0x0B01 (src 11 1) (aq s.round ++ aq s.al.lastFirm) { s with clock := t.clock } t) ∧ (s.al.keepOn = true → t.ev = s.ev) := by
  have hclock : (keeperOut (keeperRound (keeperMilestone s))).clock = (keeperMilestone s).clock := (eq_clock (keeperOut_but _)).trans (eq_clock (keeperRound_but _))
  have hev : (keeperOut (keeperRound (keeperMilestone s))).ev = (keeperBegun (keeperMilestone s)).ev := eq_ev (keeperOut_but _)
  have hon : (keeperMilestone s).al.keepOn = s.al.keepOn := rfl
  dsimp only
  rw [hclock]
  constructor <;> intro h
  · refine wrote_of_alike (v := { keeperMilestone s with al.keepOn := true, al.keepRounds := 0 }) rfl (hev.trans ?_)
    rw [keeperBegun, if_neg (by rw [hon, h]; exact Bool.false_ne_true)]
    rfl
  · rw [hev, keeperBegun, if_pos (hon.trans h)]
    rfl

/-! ### The keeper's limit (R124) -/

theorem exec_leaseKeeperLimit {s : State} (hr : running s = true) (hon : s.al.keepOn = true) (hl : keepLimit s ≤ s.al.keepRounds) :
    exec .leaseKeeperLimit s = .next (if s.glb.role == .active then requestHandover 5 none 0 { s with al.keepAsked := true } else keeperOff 3 s) := by
  change execLeaseKeeperLimit s = _
  rw [execLeaseKeeperLimit, live, if_pos hr, if_pos (by simp [hon, hl])]

/-- The handover that the keeper asks for. -/
def keeperHandover (s : State) : HandoverSt := { cause := 5, cmd := none, arg := 0, since := s.clock, firstWord := none }

theorem requestHandover_keeper {s : State} (ha : s.glb.role = .active) (hho : s.red.ho = none) :
    requestHandover 5 none 0 { s with al.keepAsked := true } =
      emit 0x0129 srcChip (aw 5) { s with al.keepAsked := true, red.ho := some (keeperHandover s) } := by
  unfold requestHandover
  dsimp only
  rw [if_neg (by simp [ha]), if_pos (by simp [hho])]
  rfl

/-- The handover's record: the keeper's own mark is nothing to the recorder. -/
theorem requestHandover_wrote {s : State} (ha : s.glb.role = .active) (hho : s.red.ho = none) :
    Wrote 0x0129 srcChip (aw 5) s (requestHandover 5 none 0 { s with al.keepAsked := true }) := by
  have halike : RecordAlike s { s with al.keepAsked := true, red.ho := some (keeperHandover s) } := rfl
  exact wrote_of_alike halike (congrArg State.ev (requestHandover_keeper ha hho))

/-- A keeper that stops writes its end and then the lapse of the leases. -/
theorem keeperOff_stops {s : State} (hon : s.al.keepOn = true) :
    Wrote 0x0B0B (src 11 1) (aq s.round) (emit 0x0B02 (src 11 1) (aw s.al.keepRounds ++ aw 3) s) (keeperOff 3 s) := by
  have hround : (keeperEnd 3 s).round = s.round := emit_round ..
  have halike : RecordAlike s { s with al := s.al.keeperOff 3 } := rfl
  refine wrote_of_alike (halike.emit ..) ?_
  rw [keeperOff_of_on hon, if_pos rfl, hround]
  rfl

/-! ### Shortages and disagreements with the host (R22, R113, R126) -/

/-- A constraint off the list of shortages, 1 s after the last allocation that found it short. -/
def shortageOff (kind index since : Nat) (s : State) : State :=
  { clockTo (since + 1000000000) s with al.short := tdel s.al.short (inKey kind index) }

theorem exec_capacityShortClear {kind index since : Nat} {s : State} (hr : running s = true) (h : tget s.al.short (inKey kind index) = some since) :
    exec (.capacityShortClear kind index) s = .next (if s.al.shortKeys.contains (inKey kind index) then s
      else emit 0x0B03 srcAlloc (aw kind ++ aw index ++ aw 0) (shortageOff kind index since s) true) := by
  change execCapacityShortClear kind index s = _
  rw [execCapacityShortClear, live, if_pos hr]
  dsimp only
  rw [h]
  rfl

/-- The arguments of a disagreement's record: the host's value and the one applied. -/
def conflictArgs (kind object : Nat) (s : State) : List Word :=
  aw kind ++ aw object ++ aw (hostValue s kind object) ++ aw (min (hostValue s kind object) (moduleValue s kind object))

theorem exec_policyConflict_begins {kind object : Nat} {s : State} (hr : running s = true) (hdiff : policyDiffers s kind object = true)
    (hnew : s.al.conflicts.contains (kind * 65536 + object) = false) : exec (.policyConflict kind object false) s =
      .next (emit 0x0110 srcAlloc (conflictArgs kind object s) { s with al.conflicts := s.al.conflicts ++ [kind * 65536 + object] }) := by
  change execPolicyConflict kind object false s = _
  rw [execPolicyConflict, live, if_pos hr]
  dsimp only
  rw [hdiff, hnew]
  rfl

theorem exec_policyConflict_ends {kind object : Nat} {s : State} (hr : running s = true) (hdiff : policyDiffers s kind object = false)
    (hold : s.al.conflicts.contains (kind * 65536 + object) = true) : exec (.policyConflict kind object true) s =
      .next (emit 0x0110 srcAlloc (conflictArgs kind object s) { s with al.conflicts := s.al.conflicts.filter (· != kind * 65536 + object) } true) := by
  change execPolicyConflict kind object true s = _
  rw [execPolicyConflict, live, if_pos hr]
  dsimp only
  rw [hdiff, hold]
  rfl

/-- A record after the allocator's own change alone: it is written as on the state before. -/
theorem wrote_withAl (code source : Nat) (args : List Word) (s : State) (a : AlSt) (clear : Bool) :
    Wrote code source args s (emit code source args { s with al := a } clear) clear :=
  wrote_of_alike (v := { s with al := a }) rfl rfl

/-! ### O11 -/

/-- Settles O11: the keeper's round is `keeperOut` of its counted milestone, each plate recorded once under the ceiling that stands (`keeperOut_plate`); at its limit it asks for the handover that `requestHandover_keeper` gives or stops with two records (`keeperOff_stops`). The lists of shortages and disagreements change at one entry, by one record. -/
theorem leaseKeeperAndShortageRecords : Obligations.lease_keeper_and_shortage_records := by
  unfold Obligations.lease_keeper_and_shortage_records
  refine ⟨⟨?issue, ?limit⟩, ?short, ?differs, ?agrees⟩
  case issue =>
    intro s hr hi ha hk hd
    have hexec := exec_leaseKeeperIssue hr hi ha hk hd
    have hframe := sameBut_of_exec (l := [.ev, .hl, .sv, .al, .errs, .outbox, .clock]) hexec (execLeaseKeeperIssue_but (by decide) s)
    have hround := keeperRound_but (keeperMilestone s)
    have hout := keeperOut_but (keeperRound (keeperMilestone s))
    have hal := keeperRound_al (keeperMilestone s)
    have hmarks := (keeperOut_marks (keeperRound (keeperMilestone s))).trans (congrArg AlSt.marks hal)
    have hclock := (eq_clock hout).trans (eq_clock hround)
    have hsv := (eq_sv hout).trans (eq_sv hround)
    obtain ⟨hfirst, hlater⟩ := keeperOut_ev s
    refine ⟨_, hexec, hclock, (eq_of_marks AlSt.keepOn (fun _ => rfl) hmarks).trans rfl, (eq_of_marks AlSt.keepRounds (fun _ => rfl) hmarks).trans rfl,
      (eq_of_marks AlSt.done (fun _ => rfl) hmarks).trans rfl, ?_, hfirst, hlater, fun hn r hm => ?_, hframe⟩
    · rw [hsv, hclock]
      rfl
    · have hpf : (keeperRound (keeperMilestone s)).pf = s.pf := (eq_pf hround).trans rfl
      rw [← allPlates_congr hpf] at hn
      rw [← accelPlates_congr hpf] at hm
      have hplate : plateLs (keeperRound (keeperMilestone s)) r.plate = plateLs s r.plate := plateLs_congr (by rw [hal]; rfl) _
      obtain ⟨hkind, hkeeper, hcap, hseq⟩ := keeperOut_plate hn hm
      rw [hplate] at hcap hseq
      rw [ecapOf_congr (eq_sv hout) (eq_pf hout)]
      exact ⟨hkind, hkeeper, hcap, hseq⟩
  case limit =>
    intro s hr hon hl
    have hexec := exec_leaseKeeperLimit hr hon hl
    have hframe := sameBut_of_exec (l := [.red, .ev, .hl, .al, .errs]) hexec (execLeaseKeeperLimit_but (by decide) s)
    refine ⟨_, hexec, fun hrole hho => ?_, fun hrole => ?_, hframe⟩
    · rw [if_pos (by simp [hrole])]
      refine ⟨?_, keeperHandover s, ?_, rfl, rfl, requestHandover_wrote hrole hho⟩
      · rw [requestHandover_keeper hrole hho, emit_al]
        exact hon
      · rw [requestHandover_keeper hrole hho, emit_red]
    · rw [if_neg (by simp [hrole]), keeperOff_al_of_on hon, eq_red (keeperOff_but' 3 s)]
      exact ⟨rfl, rfl, rfl, keeperOff_stops hon⟩
  case short =>
    intro kind index since s hr hsince
    have hexec := exec_capacityShortClear hr hsince
    constructor <;> intro h <;> rw [h] at hexec
    · exact ⟨s, hexec, rfl⟩
    · rw [if_neg Bool.false_ne_true] at hexec
      have hframe := sameBut_of_exec (l := [.ev, .hl, .al, .errs, .clock]) hexec (execCapacityShortClear_but (by decide) kind index s)
      have hclock := emit_clock 0x0B03 srcAlloc (aw kind ++ aw index ++ aw 0) (shortageOff kind index since s) true
      refine ⟨_, hexec, ?_⟩
      dsimp only
      rw [emit_al, hclock]
      exact ⟨rfl, tget_tdel_eq .., fun k hk => tget_tdel_ne _ _ _ hk, rfl, wrote_of_alike (v := shortageOff kind index since s) rfl rfl, hframe⟩
  case differs =>
    intro kind object s hr hdiff hnew
    have hexec := exec_policyConflict_begins hr hdiff hnew
    have hframe := sameBut_of_exec (l := [.ev, .hl, .al, .errs]) hexec (execPolicyConflict_but (by decide) kind object false s)
    exact ⟨_, hexec, emit_al .., wrote_withAl .., hframe⟩
  case agrees =>
    intro kind object s hr hdiff hold
    have hexec := exec_policyConflict_ends hr hdiff hold
    have hframe := sameBut_of_exec (l := [.ev, .hl, .al, .errs]) hexec (execPolicyConflict_but (by decide) kind object true s)
    exact ⟨_, hexec, emit_al .., wrote_withAl .., hframe⟩

end Sys2Proof.Machine
end

section
/-! The slots of the swatch block, and the statement of chapter 06 that they arm and start (O6). -/

-- The whole text is compiled in one process, where every waiting thread reserves its stack: one declaration at a time.
set_option Elab.async false

namespace Sys2Proof.Machine

/-! ### One slot written

What an operation on a slot leaves of the swatch block: the slot has a new value, every other slot and the trace buffers are as they were. -/

/-- From `s` to `t` slot `k` has become `y`, and nothing else of the swatch block has changed. -/
structure SlotWritten (k : Nat) (y : SwSt) (s t : State) : Prop where
  slot : swSt t k = y
  others : ∀ j, j ≠ k → swSt t j = swSt s j
  traces : t.swt.tr = s.swt.tr

theorem swSt_congr {s t : State} (h : t.swt = s.swt) (k : Nat) : swSt t k = swSt s k := by rw [swSt, h, swSt]

theorem slotWritten_setSw (k : Nat) (y : SwSt) (s : State) : SlotWritten k y s (setSw k y s) :=
  ⟨swSt_setSw_eq .., fun j hj => swSt_setSw_ne k j y s hj, rfl⟩

theorem slotWritten_self (k : Nat) (s : State) : SlotWritten k (swSt s k) s s := ⟨rfl, fun _ _ => rfl, rfl⟩

/-- What follows outside the swatch block is nothing to its slots. -/
theorem SlotWritten.congr {k : Nat} {y : SwSt} {s t u : State} (h : SlotWritten k y s t) (hu : u.swt = t.swt) : SlotWritten k y s u :=
  ⟨(swSt_congr hu k).trans h.slot, fun j hj => (swSt_congr hu j).trans (h.others j hj), (congrArg SwtSt.tr hu).trans h.traces⟩

theorem SlotWritten.trans {k : Nat} {x y : SwSt} {s t u : State} (h : SlotWritten k x s t) (hu : SlotWritten k y t u) : SlotWritten k y s u :=
  ⟨hu.slot, fun j hj => (hu.others j hj).trans (h.others j hj), hu.traces.trans h.traces⟩

/-! ### The operations that slots share (R181, R182, R186) -/

@[simp] theorem swErr_swt (base k : Nat) (s : State) : (swErr base k s).swt = s.swt := eq_swt (swErr_but' base k s)

@[simp] theorem swErr_ev (base k : Nat) (s : State) : (swErr base k s).ev = s.ev := eq_ev (swErr_but' base k s)

@[simp] theorem swErr_lp (base k : Nat) (s : State) : (swErr base k s).lp = s.lp := eq_lp (swErr_but' base k s)

/-- A record after a change of one slot alone is written as on the state before. -/
theorem wrote_setSw (code source : Nat) (args : List Word) (k : Nat) (y : SwSt) (s : State) :
    Wrote code source args s (emit code source args (setSw k y s)) :=
  wrote_of_alike (v := setSw k y s) rfl rfl

/-- A slot whose capture has stopped with END code `e`; one that only captures is DONE with it (R175). -/
def SwSt.closed (e : Nat) (x : SwSt) : SwSt :=
  { x with capOpen := false, endCode := e, tail := none, st := if x.st = 2 && !x.injects then 3 else x.st }

theorem swClose_eq (k e : Nat) (s : State) : swClose k e s = swErr 0 k (setSw k ((swSt s k).closed e) s) := rfl

theorem swClose_written (k e : Nat) (s : State) : SlotWritten k ((swSt s k).closed e) s (swClose k e s) :=
  (slotWritten_setSw ..).congr (swErr_swt ..)

/-- A slot whose run has ended, with the rest of its capture before it (R186). -/
def SwSt.tailed (x : SwSt) : SwSt :=
  if x.capOpen then
    if x.capv.pre = 0 then x.closed (swEndOf x) else { x with tail := some x.capv.pre, tailEnd := swEndOf x }
  else x

theorem swTail_written (k : Nat) (s : State) : SlotWritten k (swSt s k).tailed s (swTail k s) := by
  unfold swTail SwSt.tailed
  dsimp only
  split
  · split
    · exact swClose_written ..
    · exact slotWritten_setSw ..
  · exact slotWritten_self k s

@[simp] theorem swTail_ev (k : Nat) (s : State) : (swTail k s).ev = s.ev := eq_ev (swTail_but' k s)

@[simp] theorem swTail_lp (k : Nat) (s : State) : (swTail k s).lp = s.lp := eq_lp (swTail_but' k s)

@[simp] theorem swResume_swt (x : SwSt) (s : State) : (swResume x s).swt = s.swt := eq_swt (swResume_but' x s)

theorem chSt_congr {s t : State} (h : t.lp = s.lp) (c : Nat) : chSt t c = chSt s c := by rw [chSt, h, chSt]

theorem swResume_of_held {x : SwSt} {s : State} (hm : x.mode = 2) (hi : x.injecting = true) (ht : (chSt s x.chan).tripped = false) :
    swResume x s = setCh x.chan { chSt s x.chan with law := 0, cnt := 0, acc := x.startAcc } s :=
  if_pos (by simp [hm, hi, ht])

theorem swResume_of_not {x : SwSt} {s : State} (h : x.mode ≠ 2 ∨ x.injecting = false ∨ (chSt s x.chan).tripped = true) : swResume x s = s := by
  refine if_neg ?_
  rcases h with h | h | h <;> simp [h]

theorem chSt_swResume_ne (x : SwSt) (s : State) {c : Nat} (hc : c ≠ x.chan) : chSt (swResume x s) c = chSt s c := by
  unfold swResume
  split
  · exact chSt_setCh_ne _ _ _ _ hc
  · rfl

/-! ### ARM (R179, R180) -/

/-- A slot that has been armed: its run and its capture are new, its registers are those of the capture. -/
def armedSlot (k : Nat) (s : State) : SwSt :=
  let x := swSt s k
  { regs := x.regs, st := if !x.injects then 2 else 1, capOpen := true, trigged := !x.injects && x.trig = 0, capRegs := x.regs,
    capN := (match chanRec s x.chan with | some r => r.period | none => 0), words := x.words }

theorem armedSlot_st (k : Nat) (s : State) : (armedSlot k s).st = if (swSt s k).injects then 1 else 2 := by
  change (if !(swSt s k).injects then 2 else 1) = _
  cases (swSt s k).injects <;> rfl

/-- A module that does not drive refuses a slot that would inject, before it looks for any other cause. -/
theorem swRefuse_of_not_drives {k : Nat} {s : State} (hi : (swSt s k).injects = true) (hd : drives s = false) : swRefuse s k = some 1 :=
  if_pos (by simp [hi, hd])

section
variable {k : Nat} {s : State} (hk : k < 4) (h1 : (swSt s k).st ≠ 1) (h2 : (swSt s k).st ≠ 2)
include hk h1 h2

theorem swArmOp_of_none (h : swRefuse s k = none) : swArmOp k s = setSw k (armedSlot k s) s := by
  unfold swArmOp
  dsimp only
  rw [if_neg (by simp [h1, h2, hk]), h]
  rfl

theorem swArmOp_of_some {cause : Nat} (h : swRefuse s k = some cause) :
    swArmOp k s = swErr 8 k (emit 0x0984 srcCtl (aw k ++ aw cause) (setSw k { swSt s k with st := 0, cause := cause } s)) := by
  unfold swArmOp
  dsimp only
  rw [if_neg (by simp [h1, h2, hk]), h]

/-- A refused slot: what becomes of the block, and the record. -/
theorem swArmOp_refused {cause : Nat} (h : swRefuse s k = some cause) :
    SlotWritten k { swSt s k with st := 0, cause := cause } s (swArmOp k s) ∧ Wrote 0x0984 srcCtl (aw k ++ aw cause) s (swArmOp k s) := by
  rw [swArmOp_of_some hk h1 h2 h]
  exact ⟨(slotWritten_setSw ..).congr (by rw [swErr_swt, emit_swt]), (swErr_ev ..).trans (wrote_setSw ..)⟩

end

/-! ### SWATCH_START (R180, R328) -/

/-- A slot that START names: where it waits to inject, its run starts at the t0 after round `n`. -/
def SwSt.started (n : Nat) (x : SwSt) : SwSt := if x.st = 1 && x.injects then { x with goAt := some (n + 1) } else x

theorem SwSt.started_of_armed {x : SwSt} (h1 : x.st = 1) (hi : x.injects = true) (n : Nat) : x.started n = { x with goAt := some (n + 1) } :=
  if_pos (by simp [h1, hi])

theorem SwSt.started_of_not_armed {x : SwSt} (h1 : x.st ≠ 1) (n : Nat) : x.started n = x := if_neg (by simp [h1])

/-- A slot started once more is started as before. -/
theorem SwSt.started_started (n : Nat) (x : SwSt) : (x.started n).started n = x.started n := by
  by_cases h : (x.st = 1 && x.injects) = true
  · obtain ⟨h1, hi⟩ : x.st = 1 ∧ x.injects = true := by simpa using h
    rw [started_of_armed h1 hi]
    exact started_of_armed (x := { x with goAt := some (n + 1) }) h1 hi n
  · have hx : x.started n = x := if_neg h
    rw [hx, hx]

/-- One slot of START's mask. -/
def startSlot (k : Nat) (s : State) : State :=
  let x := swSt s k
  if x.st = 1 && x.injects then setSw k { x with goAt := some (s.round + 1) } s else s

theorem startSlot_written (k : Nat) (s : State) : SlotWritten k ((swSt s k).started s.round) s (startSlot k s) := by
  unfold startSlot SwSt.started
  dsimp only
  split
  · exact slotWritten_setSw ..
  · exact slotWritten_self k s

theorem startSlot_round (k : Nat) (s : State) : (startSlot k s).round = s.round := by
  unfold startSlot
  dsimp only
  split <;> rfl

/-- START of a list of slots starts those of the list and no other one. -/
theorem swSt_each_startSlot (l : List Nat) (k : Nat) (s : State) :
    swSt (each l startSlot s) k = if k ∈ l then (swSt s k).started s.round else swSt s k := by
  induction l generalizing s with
  | nil => rfl
  | cons b l ih =>
    rw [each_cons, ih, startSlot_round]
    by_cases hb : k = b
    · subst hb
      rw [(startSlot_written k s).slot, SwSt.started_started, ite_self, if_pos List.mem_cons_self]
    · rw [(startSlot_written b s).others k hb]
      simp [hb]

theorem each_startSlot_traces (l : List Nat) (s : State) : (each l startSlot s).swt.tr = s.swt.tr :=
  each_keeps (fun u => u.swt.tr = s.swt.tr) startSlot (fun k u hu => (startSlot_written k u).traces.trans hu) l s rfl

/-- Of the swatch block a taken SWATCH_START leaves what starting the slots of its mask leaves. -/
theorem execSwatchStart_swt {d : Dgram} {s u : State} {p : PeerRec} {r : Nat} (hr : running s = true) (h : CritTaken 14 8 0 d s p r u) :
    (outOf (execSwatchStart d s) s).swt = (each ((List.range 4).filter (bitOf (fld (critArgs d) 0 4))) startSlot (critRuns d p u)).swt := by
  rw [execSwatchStart, outOf_live, if_pos hr, critical_taken h, eq_swt (critClose_but' ..)]
  rfl

/-- The slots after a taken SWATCH_START. -/
theorem swSt_execSwatchStart {d : Dgram} {s u : State} {p : PeerRec} {r : Nat} (hr : running s = true) (h : CritTaken 14 8 0 d s p r u) (k : Nat) :
    swSt (outOf (execSwatchStart d s) s) k =
      if k < 4 ∧ bitOf (fld (critArgs d) 0 4) k = true then (swSt s k).started s.round else swSt s k := by
  have hbut := critRuns_but h
  rw [swSt_congr (execSwatchStart_swt hr h), swSt_each_startSlot, swSt_congr (eq_swt hbut), eq_round hbut]
  simp only [List.mem_filter, List.mem_range]

/-! ### O6 -/

/-- Settles O6: an ARM writes its own slot alone, as armed (`swArmOp_of_none`) or with the cause that refuses it (`swArmOp_refused`); START works on the slots that its mask names, one after another (`swSt_execSwatchStart`). -/
theorem swatchSlotsArmAndStart : Obligations.swatch_slots_arm_and_start := by
  unfold Obligations.swatch_slots_arm_and_start
  refine ⟨?arm, ?start⟩
  case arm =>
    intro k s hr hk h1 h2
    refine does_of_live (f := swArmOp k) rfl hr ?_
    have hframe : SameBut [.ev, .hl, .swt, .errs] s (swArmOp k s) := swArmOp_but (by decide) k s
    cases hc : swRefuse s k with
    | none =>
      have hop := swArmOp_of_none hk h1 h2 hc
      obtain ⟨hslot, hothers, htraces⟩ : SlotWritten k (armedSlot k s) s (swArmOp k s) := hop ▸ slotWritten_setSw ..
      refine ⟨by rw [hslot]; rfl, fun _ => ?_, nofun, fun hi hd => ?_, hothers, htraces, hframe⟩
      · rw [hslot]
        exact ⟨armedSlot_st k s, rfl, rfl, rfl, rfl, by rw [hop, setSw_ev]⟩
      · rw [swRefuse_of_not_drives hi hd] at hc
        cases hc
    | some cause =>
      obtain ⟨⟨hslot, hothers, htraces⟩, hwrote⟩ := swArmOp_refused hk h1 h2 hc
      refine ⟨by rw [hslot], nofun, ?_, fun hi hd => ?_, hothers, htraces, hframe⟩
      · rintro _ ⟨rfl⟩
        exact ⟨hslot, hwrote⟩
      · rw [swRefuse_of_not_drives hi hd] at hc
        obtain ⟨rfl⟩ := hc
        rw [hslot]
        exact ⟨rfl, rfl⟩
  case start =>
    rintro d s hr ⟨p, r, u, h⟩
    have hslots := swSt_execSwatchStart hr h
    refine ⟨outOf (execSwatchStart d s) s, rfl, fun k hk hb h1 hi => ?_, fun k hno => ?_, ?_, execSwatchStart_but (by decide) d s⟩
    · rw [hslots, if_pos ⟨hk, hb⟩, SwSt.started_of_armed h1 hi]
    · rw [hslots]
      split
      · next hnamed =>
        obtain ⟨hk, hb⟩ := hnamed
        rcases hno with hno | hno | hno
        · exact absurd hk (by omega)
        · exact absurd hb (by simp [hno])
        · exact SwSt.started_of_not_armed hno _
      · rfl
    · rw [execSwatchStart_swt hr h, each_startSlot_traces, eq_swt (critRuns_but h)]

end Sys2Proof.Machine
end

section
/-! The statement of chapter 06 on the end of swatch runs and traces (O7). -/

-- The whole text is compiled in one process, where every waiting thread reserves its stack: one declaration at a time.
set_option Elab.async false

namespace Sys2Proof.Machine

/-! ### ABORT (R181, R186) -/

section
variable {k : Nat} {s : State}

theorem swHostAbort_of_armed (h1 : (swSt s k).st = 1) : swHostAbort k s = setSw k { swSt s k with st := 0, capOpen := false, goAt := none } s :=
  if_pos h1

theorem swHostAbort_of_injecting (h2 : (swSt s k).st = 2) (hi : (swSt s k).injects = true) :
    swHostAbort k s = setSw k { swSt s k with hostAbort := true } s := by
  unfold swHostAbort
  dsimp only
  rw [if_neg (by simp [h2]), if_pos (by simp [h2, hi])]

theorem swHostAbort_of_idle (h1 : (swSt s k).st ≠ 1) (h2 : (swSt s k).st ≠ 2) : swHostAbort k s = s := by
  unfold swHostAbort
  dsimp only
  rw [if_neg h1, if_neg (by simp [h2]), if_neg h2]

/-- A slot that only captures, aborted by the host. -/
def SwSt.hostAborted (x : SwSt) : SwSt := { x with st := 4, cause := 1, capCause := 1 }

/-- An aborted capture with its record and its error bit, not yet closed. -/
def captureAborted (k : Nat) (s : State) : State :=
  swErr 4 k (emit 0x0983 srcCtl (aw k ++ aw 1 ++ aw (swSt s k).samples) (setSw k (swSt s k).hostAborted s))

theorem captureAborted_written (k : Nat) (s : State) : SlotWritten k (swSt s k).hostAborted s (captureAborted k s) :=
  (slotWritten_setSw ..).congr (by rw [captureAborted, swErr_swt, emit_swt])

theorem swHostAbort_of_capturing (h2 : (swSt s k).st = 2) (hi : (swSt s k).injects = false) : swHostAbort k s = swClose k 2 (captureAborted k s) := by
  unfold swHostAbort
  dsimp only
  rw [if_neg (by simp [h2]), if_neg (by simp [hi]), if_pos h2]
  rfl

/-- A running capture that the host aborts is closed with END code 2, and recorded. -/
theorem swHostAbort_capture (h2 : (swSt s k).st = 2) (hi : (swSt s k).injects = false) :
    SlotWritten k ((swSt s k).hostAborted.closed 2) s (swHostAbort k s) ∧
      Wrote 0x0983 srcCtl (aw k ++ aw 1 ++ aw (swSt s k).samples) s (swHostAbort k s) := by
  have haborted := captureAborted_written k s
  have hclosed := swClose_written k 2 (captureAborted k s)
  rw [haborted.slot] at hclosed
  rw [swHostAbort_of_capturing h2 hi]
  refine ⟨haborted.trans hclosed, ?_⟩
  rw [swClose_eq, captureAborted]
  simp only [Wrote, swErr_ev, setSw_ev]
  exact wrote_setSw ..

end

/-- ABORT writes its own slot alone. -/
theorem swHostAbort_written (k : Nat) (s : State) : ∃ y, SlotWritten k y s (swHostAbort k s) := by
  by_cases h1 : (swSt s k).st = 1
  · exact ⟨_, swHostAbort_of_armed h1 ▸ slotWritten_setSw ..⟩
  by_cases h2 : (swSt s k).st = 2
  · cases hi : (swSt s k).injects
    · exact ⟨_, (swHostAbort_capture h2 hi).1⟩
    · exact ⟨_, swHostAbort_of_injecting h2 hi ▸ slotWritten_setSw ..⟩
  · rw [swHostAbort_of_idle h1 h2]
    exact ⟨_, slotWritten_self k s⟩

/-! ### TRIGGER (R186) -/

theorem swHostTrigger_of_waiting {k : Nat} {s : State} (ht : (swSt s k).capv.trig = 3) (ho : (swSt s k).capOpen = true) (hn : (swSt s k).trigged = false) :
    swHostTrigger k s = setSw k { swSt s k with hostTrig := true } s :=
  if_pos (by simp [ht, ho, hn])

/-! ### The last sample of a run (R181, R182) -/

/-- A slot whose run has injected all its samples. -/
def SwSt.finished (x : SwSt) : SwSt := { x with st := 3, injecting := false, d := 0 }

/-- A finished run: its channel resumed, its record and its error bit, the capture not yet ended. -/
def runFinished (k : Nat) (s : State) : State :=
  swErr 0 k (emit 0x0982 srcCtl (aw k ++ aw (swSt s k).samples ++ aw (swCount (swSt s k))) (setSw k (swSt s k).finished (swResume (swSt s k) s)))

theorem exec_swatchDone {k : Nat} {s : State} (hr : running s = true) (h2 : (swSt s k).st = 2) (hi : (swSt s k).injects = true)
    (hd : (swSt s k).dur ≤ (swSt s k).samples) : exec (.swatchDone k) s = .next (swTail k (runFinished k s)) := by
  change execSwatchDone k s = _
  rw [execSwatchDone, live, if_pos hr]
  dsimp only
  rw [if_pos (by simp [h2, hi, hd])]
  rfl

theorem runFinished_written (k : Nat) (s : State) : SlotWritten k (swSt s k).finished s (runFinished k s) := by
  have hresume : SlotWritten k (swSt s k) s (swResume (swSt s k) s) := (slotWritten_self k s).congr (swResume_swt ..)
  exact (hresume.trans (slotWritten_setSw ..)).congr (by rw [runFinished, swErr_swt, emit_swt])

theorem runFinished_wrote (k : Nat) (s : State) :
    Wrote 0x0982 srcCtl (aw k ++ aw (swSt s k).samples ++ aw (swCount (swSt s k))) s (runFinished k s) := by
  have halike : RecordAlike s (setSw k (swSt s k).finished (swResume (swSt s k) s)) :=
    ((setSw_but (by decide) ..).trans (swResume_but (by decide) ..)).symm
  exact wrote_of_alike halike (swErr_ev ..)

/-- Of the loops a finished run leaves what the end of its injection leaves. -/
theorem runFinished_lp (k : Nat) (s : State) : (runFinished k s).lp = (swResume (swSt s k) s).lp := by
  rw [runFinished, swErr_lp, emit_lp, setSw_lp]

/-- The end of the capture leaves how the run ended. -/
theorem SwSt.tailed_finished (x : SwSt) :
    x.finished.tailed.st = 3 ∧ x.finished.tailed.injecting = false ∧ x.finished.tailed.d = 0 ∧ x.finished.tailed.samples = x.samples := by
  unfold tailed
  split
  · split <;> exact ⟨rfl, rfl, rfl, rfl⟩
  · exact ⟨rfl, rfl, rfl, rfl⟩

theorem SwSt.tailed_of_no_pre {x : SwSt} (ho : x.capOpen = true) (hp : x.capv.pre = 0) : x.tailed = x.closed (swEndOf x) := by
  rw [tailed, if_pos ho, if_pos hp]

theorem SwSt.tailed_of_pre {x : SwSt} (ho : x.capOpen = true) (hp : x.capv.pre ≠ 0) : x.tailed = { x with tail := some x.capv.pre, tailEnd := swEndOf x } := by
  rw [tailed, if_pos ho, if_neg hp]

/-! ### Trace buffers (R190) -/

theorem trEnable_eq (b : Nat) (s : State) :
    trEnable b s = setTr b { cfg := (trSt s b).cfg % 2 ^ 31 + 2 ^ 31, trig := (trSt s b).trig, entries := (trSt s b).entries } s := rfl

/-- A trace that has stopped, with its record. -/
def traceEnded (b i : Nat) (s : State) : State :=
  emit 0x0985 srcCtl (aw b ++ aw i ++ aw (trSt s b).wr) (setTr b { trSt s b with stopped := true } s)

theorem exec_traceStopped {b i : Nat} {s : State} (hr : running s = true) (hi : (trSt s b).trigBit = some i) (hp : (trSt s b).postLeft = 0)
    (hn : (trSt s b).stopped = false) : exec (.traceStopped b) s = .next (traceEnded b i s) := by
  change execTraceStopped b s = _
  rw [execTraceStopped, live, if_pos hr]
  dsimp only
  split
  · next j hj =>
    obtain rfl : i = j := Option.some.inj (hi.symm.trans hj)
    rw [if_pos (by simp [hp, hn])]
    rfl
  · next hj => exact nomatch hi.symm.trans hj

theorem trSt_congr {s t : State} (h : t.swt = s.swt) (b : Nat) : trSt t b = trSt s b := by rw [trSt, h, trSt]

/-! ### O7 -/

/-- Settles O7: ABORT by the slot's state (`swHostAbort_of_armed`, `swHostAbort_of_injecting`, `swHostAbort_capture`, `swHostAbort_of_idle`); a finished run is `swTail` of `runFinished`, whose channel is that of `swResume`; a trace buffer is written once, on its start and on its end. -/
theorem swatchRunsAndTracesEnd : Obligations.swatch_runs_and_traces_end := by
  unfold Obligations.swatch_runs_and_traces_end
  refine ⟨⟨?abort, ?trigger, ?done⟩, ?enable, ?stopped⟩
  case abort =>
    intro k s hr
    refine does_of_live (f := swHostAbort k) rfl hr ?_
    obtain ⟨y, -, hothers, htraces⟩ := swHostAbort_written k s
    refine ⟨fun h1 => ?_, fun h2 hi => ?_, fun h2 hi => ?_, swHostAbort_of_idle, hothers, htraces, swHostAbort_but (by decide) k s⟩
    · rw [swHostAbort_of_armed h1, swSt_setSw_eq]
      exact ⟨rfl, rfl⟩
    · rw [swHostAbort_of_injecting h2 hi, swSt_setSw_eq]
    · obtain ⟨⟨hslot, -, -⟩, hwrote⟩ := swHostAbort_capture h2 hi
      rw [hslot]
      exact ⟨rfl, rfl, rfl, rfl, hwrote⟩
  case trigger =>
    intro k s hr ht ho hn
    refine does_of_live (f := swHostTrigger k) rfl hr ?_
    have hop := swHostTrigger_of_waiting ht ho hn
    obtain ⟨hslot, hothers, htraces⟩ : SlotWritten k { swSt s k with hostTrig := true } s (swHostTrigger k s) := hop ▸ slotWritten_setSw ..
    exact ⟨hslot, hothers, htraces, swHostTrigger_but (by decide) k s⟩
  case done =>
    intro k s hr h2 hi hd
    have hexec := exec_swatchDone hr h2 hi hd
    have hframe := sameBut_of_exec (l := [.ev, .hl, .lp, .swt, .errs]) hexec (execSwatchDone_but (by decide) k s)
    have hlp : (swTail k (runFinished k s)).lp = (swResume (swSt s k) s).lp := (swTail_lp ..).trans (runFinished_lp k s)
    have htail := swTail_written k (runFinished k s)
    rw [(runFinished_written k s).slot] at htail
    obtain ⟨hslot, hothers, htraces⟩ := (runFinished_written k s).trans htail
    obtain ⟨hst, hinj, hzero, hsamples⟩ := (swSt s k).tailed_finished
    refine ⟨_, hexec, by rw [hslot, hst], by rw [hslot, hinj], by rw [hslot, hzero], by rw [hslot, hsamples], (swTail_ev ..).trans (runFinished_wrote k s),
      fun ho hp => ?_, fun ho hp => ?_, fun hm hrun ht => ?_, fun hno => ?_, fun c hc => ?_, hothers, htraces, hframe⟩
    · rw [hslot, SwSt.tailed_of_no_pre (x := (swSt s k).finished) ho hp]
      exact ⟨rfl, rfl⟩
    · rw [hslot, SwSt.tailed_of_pre (x := (swSt s k).finished) ho hp]
      exact ⟨ho, rfl⟩
    · rw [chSt_congr hlp, swResume_of_held hm hrun ht, chSt_setCh_eq]
    · rw [hlp, swResume_of_not hno]
    · rw [chSt_congr hlp, chSt_swResume_ne _ _ hc]
  case enable =>
    intro b s hr hb
    have hexec : exec (.traceEnable b) s = .next (trEnable b s) := by
      change execTraceEnable b s = _
      rw [execTraceEnable, live, if_pos hr, if_pos hb]
    refine ⟨_, hexec, ?_⟩
    dsimp only
    rw [trEnable_eq, trSt_setTr_eq]
    exact ⟨rfl, rfl, rfl, rfl, rfl, fun j hj => trSt_setTr_ne _ _ _ _ hj, rfl, setTr_but (by decide) ..⟩
  case stopped =>
    intro b i s hr hi hp hn
    have hexec := exec_traceStopped hr hi hp hn
    have hframe := sameBut_of_exec (l := [.ev, .hl, .swt, .errs]) hexec (execTraceStopped_but (by decide) b s)
    have hswt : (traceEnded b i s).swt = (setTr b { trSt s b with stopped := true } s).swt := emit_swt ..
    refine ⟨_, hexec, ?_, wrote_of_alike (v := setTr b { trSt s b with stopped := true } s) rfl rfl, fun j hj => ?_, (congrArg SwtSt.sw hswt).trans rfl, hframe⟩
    · rw [trSt_congr hswt, trSt_setTr_eq]
    · rw [trSt_congr hswt, trSt_setTr_ne _ _ _ _ hj]

end Sys2Proof.Machine
end
